-- ==== Sys2Proof/Word.lean ====
section
/-! DEFINITION. The word types of the model: bytes, 16-bit fields, station numbers, instants. -/

namespace Sys2Proof

/-- One byte, as frames, requests, responses and the image hold it (Wire Formats). -/
abbrev Byte := BitVec 8

/-- A two-byte field: mark number, signature, join token, frame check (section 13.1). -/
abbrev Half := BitVec 16

/-- A station number as it stands on the straps and in a frame's six source bits: 0 to 63, of which
1 to 62 name a station (R98, R155). -/
abbrev Station := Fin 64

/-- A timer: stopped, or running to an instant in µs on the model's clock (`State.now`).
An expiry is a command; it acts on a running timer, whatever the clock shows (log entry 3). -/
abbrev Timer := Option Nat

end Sys2Proof
end

