-- ==== Sys2Proof/Syntax.lean ====
section
/-! DEFINITION. The commands: one constructor of `Instr` for each row of spec/opcode_table.json, with
the operands that the row's event or request brings from outside the node. -/

namespace Sys2Proof

/-- What the environment shows at the end of a node reset (R155, R157): the six station straps, the
CFGSEL strap, and whether the memory acknowledges its address at the first attempt, should the node
address it. -/
structure ResetSample where
  station : Station
  cfgselHigh : Bool
  memoryAcknowledges : Bool
  deriving DecidableEq, Repr

/-- How a taken frame comes about (R97): the node's own attempt completed on the line, or a frame read
from another sender, with its source field and its payload bytes. -/
inductive Arrival where
  | own
  | heard (source : Station) (payload : List Byte)
  deriving DecidableEq, Repr

/-- An arbitration key: the kind code and then the source station, most significant bit first
(section 6.1). A bit of 0 is dominant. -/
abbrev Key := BitVec 10

/-- A frame as the receiver reads it (section 13.2). `check` is absent when the line goes idle before
the sixteenth check bit (R169). -/
structure FrameRead where
  kind : BitVec 4
  source : Station
  length : BitVec 5
  payload : List Byte
  check : Option Half
  deriving DecidableEq, Repr

/-- The electrical situation of one output on the power die: output voltage in mV, the forward current in
µA that the load would draw through a conducting switch without a limit (R135), junction temperature
in °C, the current in µA that an inductive load's energy drives on once the switch does not conduct, 0 where
there is none left (R133), and VBB in mV. The voltage is that without a turn-off clamp at work
(DESIGN CHOICE: log entry 43). -/
structure Electrical where
  voltage : Int
  draw : Int
  junction : Int
  stored : Int
  supply : Int
  deriving DecidableEq, Repr

/-- The kinds whose reports are blanked after an edge (section 9.5). -/
inductive BlankedKind where
  | openOff | shortSupply | openOn
  deriving DecidableEq, Repr

/-- The ON-state kinds whose reports follow the condition through the 40 µs filter (R140). -/
inductive UnblankedKind where
  | overload | overtemp
  deriving DecidableEq, Repr

/-- The commands of the block: the rows of spec/opcode_table.json, in the table's order. -/
inductive Instr where
  -- host requests, each taken at the rise of SCS (R162)
  | nop
  | readNode
  | readChannel (c : Byte)
  | readSubscription (i : Byte)
  | readPublication (i : Byte)
  | readGroup (i : Byte)
  | readZones
  | readPeer (station : Byte)
  | popFaultList
  | readEvents
  | setHostPoint (n v : Byte)
  | ackFaults (station channels kinds nodeFlags : Byte)
  | tripZones (mask : Byte)
  | clearZones (mask : Byte)
  /-- The straps are sampled in the event of the request itself (R155). -/
  | resetNode (sample : ResetSample)
  | writeConfigBlock (offset : Half) (data : List Byte)
  | commitConfig
  /-- A transaction's bytes as shifted in, judged by R162 and by steps 1 and 2 of R163. The sample is
  what a node reset would find, should the bytes be a RESET NODE request. -/
  | checkError (bytes : List Byte) (sample : ResetSample)
  | emptyTransaction
  -- resets and loading
  | logicSupplyPowerOn
  | resetPinAsserted
  | nodeResetEnd (sample : ResetSample)
  | memoryAddressRetry (acknowledged : Bool)
  /-- The bytes of the memory from offset 6 to the end of the image. -/
  | memoryReadComplete (bytes : List Byte)
  /-- The bytes read in the present phase (header, or body) before the failure. -/
  | memoryReadFailure (bytes : List Byte)
  -- pins
  | shutdownAsserted
  | shutdownReleased
  | sensePinChange (n : Fin 8)
  | debounceExpiry (n : Fin 8)
  -- channel timers
  | confirmTimerExpiryEnergizing (c : Fin 8)
  | confirmTimerExpiryReleasing (c : Fin 8)
  | offCheckExpiry (c : Fin 8)
  | holdOverExpiry (c : Fin 8) (term : Fin 4)
  -- messages between a channel and its membership entry
  | request (c : Fin 8)
  | cancel (c : Fin 8)
  | grant (c : Fin 8)
  | revoke (c : Fin 8)
  | done (c : Fin 8)
  -- timers of a membership entry
  | holdTimerExpiry (e : Fin 8)
  | retryHoldOffExpiry (e : Fin 8)
  | lifetimeTimerExpiry (e : Fin 8)
  | claimWindowExpiry (e : Fin 8)
  | deadTimerExpiry (e : Fin 8)
  | lapseTimerExpiry (e : Fin 8)
  -- other timers
  | markTimerExpiry
  | ageTimerExpiry (i : Fin 48)
  | refreshTimerExpiry (i : Fin 16)
  -- the peer bus
  /-- The line has been idle for the gap. `rivals` are the keys of the frames that the other stations offer in
  this gap (R94). -/
  | frameOffer (rivals : List Key)
  | attemptCollision
  | attemptRejected
  | badFrameReceived (f : FrameRead)
  | frameRejectedByOther
  | markTaken (a : Arrival)
  | tripTaken (a : Arrival)
  | clearTaken (a : Arrival)
  | claimTaken (a : Arrival)
  | holdTaken (a : Arrival)
  | releaseTaken (a : Arrival)
  | pointsTaken (a : Arrival)
  | faultTaken (a : Arrival)
  | faultAckTaken (a : Arrival)
  | statusTaken (a : Arrival)
  | helloTaken (a : Arrival)
  | offLineTimerExpiry
  | joinWaitExpiry
  | helloHoldOffExpiry
  -- the Barrier Link and the power die
  | slotStart
  | driveWordReceived (w : BitVec 16)
  | watchdogExpiry
  | replyWordFormed
  | replyReceived (w : BitVec 18)
  /-- The reply as it arrived, if any arrived in the slot. -/
  | slotFailed (reply : Option (BitVec 18))
  | offGuaranteeExpiry
  | powerDieReset
  | powerDieResetEnd
  | supplyLow
  | supplyRecovered
  | thermalShutdown (c : Fin 8)
  | thermalRestart (c : Fin 8)
  | conditionChange (c : Fin 8) (load : Electrical)
  | reportFilterExpiry (c : Fin 8) (k : UnblankedKind)
  | blankedFilterExpiry (c : Fin 8) (k : BlankedKind)
  | blankingExpiry (c : Fin 8)
  -- rows the table lists last
  | undefinedKindTaken (kind : BitVec 4) (source : Station) (payload : List Byte)
  /-- The six header bytes. -/
  | memoryHeaderRead (bytes : List Byte)
  | transactionBegin
  deriving DecidableEq, Repr

end Sys2Proof
end

