-- ==== Sys2Proof/Decode.lean ====
section
/-! DEFINITION. The decoder over the rows of spec/opcode_table.json that give bits. No row gives any: a
command reaches the block as an event, and its operands stand in the command itself. -/

namespace Sys2Proof

/-- The command that a word spells by the table's bits: none, since no row of the table has bits
(DESIGN CHOICE: log entry 35). -/
def decodeTableWord (_nbits _w : Nat) : Option Instr := none

end Sys2Proof
end

