-- ==== Sys2Proof/Config.lean ====
section
/-! DEFINITION. What the wiring of one node fixes, and the durations of the manual in µs. -/

namespace Sys2Proof.Config

/-- The resistance between OLSET and ground, in Ω (R139). It belongs to the board, so it has no body:
every statement holds for every resistor. -/
opaque olsetOhms : Nat

/-- The current limit of the output switches, in µA (R135, section 9.6). It belongs to the part, so it has
no body: every statement holds for every limit of the range. -/
opaque currentLimitMicroamps : Nat

/-- The confirm timer, 5 ms (R13, R17). -/
def confirmTime : Nat := 5000
/-- The off-check timer, 100 µs (R15). -/
def offCheckTime : Nat := 100
/-- The off-guarantee, counted from the last good reply, 250 µs (R129). -/
def offGuaranteeTime : Nat := 250
/-- The drive watchdog, 200 µs (R123). -/
def watchdogTime : Nat := 200
/-- OFF-LINE recovery, 200 ms (R118). -/
def offLineTime : Nat := 200000
/-- Blanking after an edge, 5 ms (R133). -/
def blankingTime : Nat := 5000
/-- The report filter of OVERLOAD and OVERTEMP, 40 µs (R140). -/
def reportFilterTime : Nat := 40
/-- The takeover step of one station number, 0.25 ms (R52). -/
def takeoverStep : Nat := 250

end Sys2Proof.Config
end

