-- ==== Sys2Proof/Machine/Types.lean ====
section
/-! DEFINITION. The types of the node's records: the values the manual names, the configuration image,
the frames, and one structure for each block of section 3 of the manual's scope. -/

namespace Sys2Proof.Machine

open Sys2Proof

/-! ## Collections of fixed size -/

/-- Eight things of one sort: one for each channel, zone, sense input or host point. -/
structure Eight (α : Type) where
  c0 : α
  c1 : α
  c2 : α
  c3 : α
  c4 : α
  c5 : α
  c6 : α
  c7 : α
  deriving DecidableEq, Repr

/-- Four things of one sort: one for each term slot of a channel. -/
structure Four (α : Type) where
  t0 : α
  t1 : α
  t2 : α
  t3 : α
  deriving DecidableEq, Repr

/-- The seven fault kinds of a channel's fault record, in the order of section 13.1. -/
inductive FaultKind where
  | openOff | shortSupply | openOn | overload | overtemp | failOn | stuckOn
  deriving DecidableEq, Repr

/-- One thing for each fault kind. -/
structure PerKind (α : Type) where
  openOff : α
  shortSupply : α
  openOn : α
  overload : α
  overtemp : α
  failOn : α
  stuckOn : α
  deriving DecidableEq, Repr

/-- The five kinds the power die measures and reports (R124, R138 to R140). -/
inductive PowerKind where
  | openOff | shortSupply | openOn | overload | overtemp
  deriving DecidableEq, Repr

/-- One thing for each kind of the power die. -/
structure PerPower (α : Type) where
  openOff : α
  shortSupply : α
  openOn : α
  overload : α
  overtemp : α
  deriving DecidableEq, Repr

/-- A set of fault kinds. -/
abbrev KindSet := PerKind Bool

/-- The nine node flags (section 10.5), in the order of section 13.1. -/
inductive NodeFlag where
  | linkDown | supplyLow | busDegraded | duplicateStation | groupConflict | foreignPublisher
  | queueOverflow | malformedFrame | frameAbandoned
  deriving DecidableEq, Repr

/-! ## The configuration image (section 13.4). Times stand in their image units. -/

/-- The source of a term (section 1.2). -/
inductive TermSource where
  | subscription (i : Nat)
  | sense (n : Fin 8)
  | hostPoint (n : Fin 8)
  deriving DecidableEq, Repr

/-- A term: a source and an invert flag. -/
structure Term where
  source : TermSource
  invert : Bool
  deriving DecidableEq, Repr

inductive Combine where
  | and | or
  deriving DecidableEq, Repr

inductive Timing where
  | immediate | marked
  deriving DecidableEq, Repr

inductive FailPolicy where
  | failOff | failHold
  deriving DecidableEq, Repr

inductive Restart where
  | auto | rearm
  deriving DecidableEq, Repr

/-- Configuration fields of a channel record (section 1.1.1). `holdOver` is in 50 ms units. -/
structure ChannelConfig where
  enabled : Bool
  terms : List Term
  combine : Combine
  group : Option (Fin 8)
  zone : Option (Fin 8)
  timing : Timing
  failPolicy : FailPolicy
  holdOver : Nat
  restart : Restart
  latchMask : PerPower Bool
  deriving DecidableEq, Repr

/-- Configuration of a subscription entry (section 5.3). `lifetime` is in 50 ms units. -/
structure SubscriptionConfig where
  point : Fin 512
  publisher : Station
  lifetime : Nat
  deriving DecidableEq, Repr

/-- The source of a publication (R86). -/
inductive PubSource where
  | sense (n : Fin 8)
  | hostPoint (n : Fin 8)
  | feedback (n : Fin 8)
  | faultAny (n : Fin 8)
  | nodeError
  deriving DecidableEq, Repr

structure PublicationConfig where
  point : Fin 512
  source : PubSource
  deriving DecidableEq, Repr

/-- Configuration of a membership entry (section 2.1.1). `dead` is the dead time D in 10 ms units. -/
structure MembershipConfig where
  group : Fin 128
  members : Byte
  dead : Nat
  deriving DecidableEq, Repr

/-- The role of a sense input (section 5.1). -/
inductive InputRole where
  | unused | publish
  | trip (zone : Fin 8)
  | clear (zones : Byte)
  deriving DecidableEq, Repr

structure InputConfig where
  activeHigh : Bool
  role : InputRole
  deriving DecidableEq, Repr

/-- Peer bus bit rates: 125, 250 or 500 kbit/s. -/
inductive BitRate where
  | k125 | k250 | k500
  deriving DecidableEq, Repr

/-- A checked image (section 11.2). `hold` is H in 10 ms units, `claim` C in ms, `mark` P in ms,
`refresh` R in 50 ms units, `debounce` in ms. The signature is the computed check (R172). -/
structure Image where
  bitRate : BitRate
  hold : Nat
  claim : Nat
  mark : Nat
  refresh : Nat
  debounce : Nat
  channels : Eight ChannelConfig
  subscriptions : List SubscriptionConfig
  publications : List PublicationConfig
  memberships : List MembershipConfig
  inputs : Eight InputConfig
  signature : Half
  deriving DecidableEq, Repr

/-! ## Frames (section 13.2) -/

/-- The cause of a TRIP, in the order INPUT, HOST, REASSERT of R63. -/
inductive TripCause where
  | input | host | reassert
  deriving DecidableEq, Repr

/-- The contents of a STATUS frame (R151). -/
structure StatusInfo where
  flags : BitVec 9
  drive : Byte
  locked : Byte
  sticky : Byte
  tripped : Byte
  mark : Half
  deriving DecidableEq, Repr

/-- A point and its value, as a POINTS frame pairs them. -/
structure PointPair where
  point : Fin 512
  value : Bool
  deriving DecidableEq, Repr

/-- A well-formed frame: kind and payload contents. -/
inductive Frame where
  | mark (number : Half)
  | trip (zones : Byte) (cause : TripCause)
  | clear (zones : Byte)
  | release (group : Fin 128) (channel : Fin 8)
  | hold (group : Fin 128) (channel : Fin 8) (objection : Bool)
  | claim (group : Fin 128) (channel : Fin 8)
  | faultAck (target : Station) (channels : Byte) (kinds : KindSet) (nodeFlags : Bool)
  | fault (channel : Fin 8) (live sticky : KindSet) (firstMark : Half)
  | points (pairs : List PointPair)
  | status (info : StatusInfo)
  | hello (token signature : Half)
  deriving DecidableEq, Repr

/-- A frame in the transmit queue (section 6.3): its age is the instant it entered; `onLine` marks the
frame whose attempt is in progress (R104). -/
structure Queued where
  frame : Frame
  age : Nat
  retries : Nat
  onLine : Bool
  deriving DecidableEq, Repr

/-! ## Configuration Loader (chapter 11) -/

inductive NodeState where
  | loading | running | configFault
  deriving DecidableEq, Repr

inductive ImageSource where
  | memory | host
  deriving DecidableEq, Repr

/-- The reasons of R157 and R159, in the order section 11.1 gives them. -/
inductive FaultReason where
  | memoryAbsent | memoryRead | imageLength | imageCheck | formatVersion | noStation | fieldRange
  | duplicateSubscription | duplicatePublication | duplicateGroup | termReference | groupMembership
  | memberBacklink | timeRange | inputRole
  deriving DecidableEq, Repr

/-- Where a read of the configuration memory stands (R157). -/
inductive MemoryRead where
  | idle
  /-- The memory has left this many address attempts unanswered; the 1 ms wait runs. -/
  | retryWait (attempts : Nat)
  | header
  | body (length : Nat)
  deriving DecidableEq, Repr

/-- The staging area: its bytes by address 0 to 2047, in one canonical form (`Memory.wf`). -/
abbrev Memory := List Host.Cell

/-- The Configuration Loader's fields (section 11.1). The held image carries its signature. -/
structure Loader where
  nodeState : NodeState
  source : ImageSource
  station : Station
  read : MemoryRead
  staging : Memory
  image : Option Image
  reason : Option FaultReason
  item : Option Nat
  deriving DecidableEq, Repr

/-! ## Channel Logic (chapter 1) -/

inductive ChannelState where
  | off | waiting | armed | energizing | on | disarming | releasing | suspended | locked
  deriving DecidableEq, Repr

inductive Target where
  | off | suspended | locked
  deriving DecidableEq, Repr

inductive Cause where
  | trip | shutdown | fault
  deriving DecidableEq, Repr

/-- A set of lock causes. -/
structure CauseSet where
  trip : Bool
  shutdown : Bool
  fault : Bool
  deriving DecidableEq, Repr

/-- Run-time fields of a channel record (section 1.1.2). -/
structure Channel where
  state : ChannelState
  demand : Bool
  causes : CauseSet
  target : Target
  rearm : Bool
  handBack : Bool
  confirm : Timer
  offCheck : Timer
  /-- One hold-over timer for each term, by term slot (R4). -/
  holdOvers : Four Timer
  deriving DecidableEq, Repr

/-- What a channel sends to the Group Table (section 1.5). -/
inductive ToGroupMsg where
  | request | cancel | doneNeverDriven | doneOffConfirmed
  deriving DecidableEq, Repr

/-- What the Group Table sends to a channel (section 1.5). -/
inductive ToChannelMsg where
  | grant | revoke
  deriving DecidableEq, Repr

/-- A message under way to a membership entry. -/
structure ToGroup where
  entry : Fin 8
  channel : Fin 8
  msg : ToGroupMsg
  deriving DecidableEq, Repr

/-- A message under way to a channel. -/
structure ToChannel where
  channel : Fin 8
  msg : ToChannelMsg
  deriving DecidableEq, Repr

/-- A FEEDBACK reply's channel bits and supply-low flag. -/
structure Feedback where
  bits : Byte
  supplyLow : Bool
  deriving DecidableEq, Repr

structure ChannelLogic where
  records : Eight Channel
  /-- The latest FEEDBACK reply delivered (R6, R131). -/
  feedback : Option Feedback
  /-- Messages under way, oldest first (R8). -/
  toGroups : List ToGroup
  toChannels : List ToChannel
  deriving DecidableEq, Repr

/-! ## Group Table (chapter 2) -/

inductive EntryState where
  | unknown | free | dead | heldRemote | claiming | claimed | heldLocal | releasingLocal
  deriving DecidableEq, Repr

/-- A holder: a station and the channel its frames name. -/
structure Holder where
  station : Station
  channel : Fin 8
  deriving DecidableEq, Repr

/-- Run-time fields of a membership entry (section 2.1.2). `conflict` is the conflicting station with
the channel its last frame named (R38, R42). -/
structure Entry where
  state : EntryState
  holder : Option Holder
  requests : List (Fin 8)
  claimChannel : Option (Fin 8)
  yielded : Bool
  conflict : Option Holder
  lapsed : Bool
  releaseQueued : Bool
  hold : Timer
  lifetime : Timer
  window : Timer
  dead : Timer
  lapse : Timer
  deriving DecidableEq, Repr

/-! ## Mark Timer (chapter 3) -/

structure MarkTimer where
  number : Half
  timer : Timer
  queued : Bool
  deriving DecidableEq, Repr

/-! ## Zone Table (chapter 4) -/

structure Zone where
  tripped : Bool
  station : Option Station
  cause : Option TripCause
  localActive : Bool
  deriving DecidableEq, Repr

structure ZoneTable where
  zones : Eight Zone
  shutdown : Bool
  deriving DecidableEq, Repr

/-! ## Sense Inputs, Point Image, Publication Table (chapter 5) -/

/-- Run-time fields of a sense input; levels are `true` for high. -/
structure SenseInput where
  pin : Bool
  level : Bool
  timer : Timer
  deriving DecidableEq, Repr

inductive Age where
  | unseen | fresh | stale
  deriving DecidableEq, Repr

structure Subscription where
  age : Age
  value : Option Bool
  timer : Timer
  foreignCount : Nat
  lastChange : Option Half
  deriving DecidableEq, Repr

structure Publication where
  waiting : Bool
  timer : Timer
  lastSent : Option Bool
  deriving DecidableEq, Repr

structure PubTable where
  entries : List Publication
  blocked : Bool
  deriving DecidableEq, Repr

/-! ## Peer Bus Controller (chapters 6 and 7) -/

inductive BusState where
  | disabled | joining | onLine | muted | offLine | barred
  deriving DecidableEq, Repr

inductive JoinPhase where
  | helloQueued | joinWait | helloHoldOff
  deriving DecidableEq, Repr

structure Bus where
  state : BusState
  phase : Option JoinPhase
  joinTimer : Timer
  offLineTimer : Timer
  joinCounter : Half
  score : Nat
  queue : List Queued
  /-- The frame of the attempt in progress, with the content it began with (R104). -/
  attempt : Option Frame
  /-- The latest own frame put on the line, bit for bit, with the check its sender computes (R169). -/
  sent : Option FrameRead
  /-- Whether the line has been idle for the gap since the latest entry to a bus state (R93). -/
  gapSeen : Bool
  /-- Whether the node drove the reject slot of the latest frame it read dominant (R96). -/
  rejecting : Bool
  deriving DecidableEq, Repr

/-! ## Fault Records (chapter 10) -/

/-- The four fields a channel's fault record holds for a kind. -/
structure KindRecord where
  live : Bool
  sticky : Bool
  count : Nat
  firstMark : Option Half
  deriving DecidableEq, Repr

structure FaultRecord where
  kinds : PerKind KindRecord
  newest : Option Half
  waiting : Bool
  deriving DecidableEq, Repr

structure NodeFlags where
  sticky : BitVec 9
  live : BitVec 9
  deriving DecidableEq, Repr

/-- An entry of the network fault list (R152). -/
structure ListEntry where
  source : Station
  channel : Fin 8
  live : KindSet
  sticky : KindSet
  firstMark : Half
  arrival : Half
  deriving DecidableEq, Repr

/-- A STATUS as the peer table keeps it. -/
structure StoredStatus where
  info : StatusInfo
  arrival : Half
  deriving DecidableEq, Repr

/-- An entry of the peer table (section 10.8). -/
structure Peer where
  present : Bool
  silent : Nat
  signature : Option Half
  status : Option StoredStatus
  deriving DecidableEq, Repr

structure FaultTable where
  records : Eight FaultRecord
  blocked : Bool
  flags : NodeFlags
  list : List ListEntry
  overrun : Nat
  /-- Entry k is that of station k + 1, for stations 1 to 62. -/
  peers : List Peer
  deriving DecidableEq, Repr

/-! ## Host Port (chapter 12) -/

inductive Status where
  | accepted | refusedState | refusedArgument | busy | checkError
  deriving DecidableEq, Repr

/-- A response: the command it answers, its status, its data bytes. -/
structure Response where
  command : Byte
  status : Status
  data : List Byte
  deriving DecidableEq, Repr

structure HostEvents where
  zoneChange : Bool
  lockChange : Bool
  nodeFlag : Bool
  deriving DecidableEq, Repr

structure HostPort where
  response : Response
  events : HostEvents
  points : Eight Bool
  /-- The bytes being shifted out on SDO while a transaction is under way (R162). -/
  transaction : Option (List Byte)
  deriving DecidableEq, Repr

/-! ## Barrier Link (chapter 8) -/

/-- The latest replies of each kind taken while the link is DOWN. -/
structure LatestReplies where
  feedback : Option Feedback
  diagnostics : PerPower (Option Byte)
  deriving DecidableEq, Repr

/-- The logic side's record. -/
structure Link where
  up : Bool
  goodRun : Nat
  failedRun : Nat
  slotCount : BitVec 2
  lastGood : Option Nat
  guarantee : Timer
  latest : LatestReplies
  /-- The latest drive word sent (pad TPD). -/
  driveWord : Option (BitVec 16)
  deriving DecidableEq, Repr

/-! ## Power die (chapters 8 and 9) -/

inductive Thermal where
  | normal | shutdown
  deriving DecidableEq, Repr

inductive Report where
  | clear | standing | prolonged
  deriving DecidableEq, Repr

/-- A condition and the instant it last changed. -/
structure Condition where
  present : Bool
  since : Nat
  deriving DecidableEq, Repr

/-- The power die's fields for one channel (section 9.1). -/
structure PowerChannel where
  commanded : Bool
  blanking : Timer
  /-- The instant of the latest entry to the commanded state: time in state is `now - since`. -/
  since : Nat
  thermal : Thermal
  /-- What the environment last showed at the output. -/
  load : Electrical
  conditions : PerPower Condition
  reports : PerPower Report
  deriving DecidableEq, Repr

structure PowerDie where
  inReset : Bool
  enable : Bool
  bits : Byte
  previous : Option (BitVec 2)
  watchdog : Timer
  tripped : Bool
  position : Fin 10
  supplyNormal : Bool
  /-- The latest reply word sent (pad TPR). -/
  replyWord : Option (BitVec 18)
  channels : Eight PowerChannel
  deriving DecidableEq, Repr

end Sys2Proof.Machine
end

