-- ==== Sys2Proof/Machine/Collections.lean ====
section
/-! DEFINITION. Reading and writing the collections of fixed size, and the mask and byte helpers that the
frames, the responses and the image share. -/

namespace Sys2Proof.Machine

open Sys2Proof

/-! ## Eight and Four -/

def Eight.get {α : Type} (e : Eight α) (n : Fin 8) : α :=
  match n with
  | 0 => e.c0 | 1 => e.c1 | 2 => e.c2 | 3 => e.c3 | 4 => e.c4 | 5 => e.c5 | 6 => e.c6 | 7 => e.c7

def Eight.set {α : Type} (e : Eight α) (n : Fin 8) (a : α) : Eight α :=
  match n with
  | 0 => { e with c0 := a } | 1 => { e with c1 := a } | 2 => { e with c2 := a } | 3 => { e with c3 := a }
  | 4 => { e with c4 := a } | 5 => { e with c5 := a } | 6 => { e with c6 := a } | 7 => { e with c7 := a }

def Eight.all {α : Type} (a : α) : Eight α := ⟨a, a, a, a, a, a, a, a⟩

/-- The eight things that a function gives for 0 to 7. -/
def Eight.of {α : Type} (f : Fin 8 → α) : Eight α := ⟨f 0, f 1, f 2, f 3, f 4, f 5, f 6, f 7⟩

def Eight.toList {α : Type} (e : Eight α) : List α :=
  [e.c0, e.c1, e.c2, e.c3, e.c4, e.c5, e.c6, e.c7]

def Four.get {α : Type} (f : Four α) (n : Fin 4) : α :=
  match n with
  | 0 => f.t0 | 1 => f.t1 | 2 => f.t2 | 3 => f.t3

def Four.set {α : Type} (f : Four α) (n : Fin 4) (a : α) : Four α :=
  match n with
  | 0 => { f with t0 := a } | 1 => { f with t1 := a } | 2 => { f with t2 := a } | 3 => { f with t3 := a }

def Four.all {α : Type} (a : α) : Four α := ⟨a, a, a, a⟩

/-- The numbers 0 to 7, of channels, zones, inputs, host points and membership entries. -/
def eightIndices : List (Fin 8) := [0, 1, 2, 3, 4, 5, 6, 7]

/-! ## Kinds -/

def PerKind.get {α : Type} (p : PerKind α) (k : FaultKind) : α :=
  match k with
  | .openOff => p.openOff | .shortSupply => p.shortSupply | .openOn => p.openOn
  | .overload => p.overload | .overtemp => p.overtemp | .failOn => p.failOn | .stuckOn => p.stuckOn

def PerKind.set {α : Type} (p : PerKind α) (k : FaultKind) (a : α) : PerKind α :=
  match k with
  | .openOff => { p with openOff := a } | .shortSupply => { p with shortSupply := a }
  | .openOn => { p with openOn := a } | .overload => { p with overload := a }
  | .overtemp => { p with overtemp := a } | .failOn => { p with failOn := a }
  | .stuckOn => { p with stuckOn := a }

def PerKind.all {α : Type} (a : α) : PerKind α := ⟨a, a, a, a, a, a, a⟩

def PerKind.of {α : Type} (f : FaultKind → α) : PerKind α :=
  ⟨f .openOff, f .shortSupply, f .openOn, f .overload, f .overtemp, f .failOn, f .stuckOn⟩

/-- Whether some kind is in the set. -/
def PerKind.any (p : KindSet) : Bool :=
  p.openOff || p.shortSupply || p.openOn || p.overload || p.overtemp || p.failOn || p.stuckOn

def PerPower.get {α : Type} (p : PerPower α) (k : PowerKind) : α :=
  match k with
  | .openOff => p.openOff | .shortSupply => p.shortSupply | .openOn => p.openOn
  | .overload => p.overload | .overtemp => p.overtemp

def PerPower.set {α : Type} (p : PerPower α) (k : PowerKind) (a : α) : PerPower α :=
  match k with
  | .openOff => { p with openOff := a } | .shortSupply => { p with shortSupply := a }
  | .openOn => { p with openOn := a } | .overload => { p with overload := a }
  | .overtemp => { p with overtemp := a }

def PerPower.all {α : Type} (a : α) : PerPower α := ⟨a, a, a, a, a⟩

def PerPower.of {α : Type} (f : PowerKind → α) : PerPower α :=
  ⟨f .openOff, f .shortSupply, f .openOn, f .overload, f .overtemp⟩

/-- A kind of the power die as a kind of the fault record. -/
def PowerKind.kind (k : PowerKind) : FaultKind :=
  match k with
  | .openOff => .openOff | .shortSupply => .shortSupply | .openOn => .openOn
  | .overload => .overload | .overtemp => .overtemp

/-- A kind is in the latch mask, or it is FAIL-ON or STUCK-ON, which latch on every channel (R1). -/
def latches (mask : PerPower Bool) (k : FaultKind) : Bool :=
  match k with
  | .openOff => mask.openOff | .shortSupply => mask.shortSupply | .openOn => mask.openOn
  | .overload => mask.overload | .overtemp => mask.overtemp | .failOn => true | .stuckOn => true

/-! ## Causes -/

def CauseSet.empty : CauseSet := ⟨false, false, false⟩

def CauseSet.has (s : CauseSet) (c : Cause) : Bool :=
  match c with
  | .trip => s.trip | .shutdown => s.shutdown | .fault => s.fault

def CauseSet.put (s : CauseSet) (c : Cause) (b : Bool) : CauseSet :=
  match c with
  | .trip => { s with trip := b } | .shutdown => { s with shutdown := b } | .fault => { s with fault := b }

/-! ## Masks and bytes (section 13.1) -/

/-- Bit n of a mask of channels, zones or inputs. -/
def maskBit (m : Byte) (n : Fin 8) : Bool := m.getLsbD n.val

/-- The mask whose bit n is the nth of eight values. -/
def maskOf (e : Eight Bool) : Byte :=
  BitVec.ofBool e.c7 ++ BitVec.ofBool e.c6 ++ BitVec.ofBool e.c5 ++ BitVec.ofBool e.c4
    ++ BitVec.ofBool e.c3 ++ BitVec.ofBool e.c2 ++ BitVec.ofBool e.c1 ++ BitVec.ofBool e.c0

/-- Two bytes, most significant first (section 13). -/
def hiByte (h : Half) : Byte := h.extractLsb' 8 8
def loByte (h : Half) : Byte := h.extractLsb' 0 8
def half (hi lo : Byte) : Half := hi ++ lo

/-- A number as one byte, and as two bytes most significant first. -/
def byteOf (n : Nat) : Byte := BitVec.ofNat 8 n
def halfOf (n : Nat) : Half := BitVec.ofNat 16 n
def halfBytes (h : Half) : List Byte := [hiByte h, loByte h]

/-- yes/no, set/clear, ON/OFF: 1 or 0. -/
def boolByte (b : Bool) : Byte := if b then 1 else 0

/-- A byte as a fault kind set; bit 7 names no kind. -/
def kindSetOf (b : Byte) : KindSet :=
  ⟨b.getLsbD 0, b.getLsbD 1, b.getLsbD 2, b.getLsbD 3, b.getLsbD 4, b.getLsbD 5, b.getLsbD 6⟩

/-- A fault kind set as a byte. -/
def kindSetByte (k : KindSet) : Byte :=
  maskOf ⟨k.openOff, k.shortSupply, k.openOn, k.overload, k.overtemp, k.failOn, k.stuckOn, false⟩

/-- The code of a TRIP cause: 1 INPUT, 2 HOST, 3 REASSERT. -/
def TripCause.code (c : TripCause) : Byte :=
  match c with
  | .input => 1 | .host => 2 | .reassert => 3

/-- The higher of two causes in the order INPUT, HOST, REASSERT, which is that of their codes (R63, R101,
section 13.1). -/
def TripCause.higher (a b : TripCause) : TripCause :=
  if a.code ≤ b.code then b else a

/-- A node flag's bit number (section 13.1). -/
def NodeFlag.bit (f : NodeFlag) : Nat :=
  match f with
  | .linkDown => 0 | .supplyLow => 1 | .busDegraded => 2 | .duplicateStation => 3 | .groupConflict => 4
  | .foreignPublisher => 5 | .queueOverflow => 6 | .malformedFrame => 7 | .frameAbandoned => 8

/-- The flag as a set of one. -/
def NodeFlag.mask (f : NodeFlag) : BitVec 9 := BitVec.ofNat 9 (2 ^ f.bit)

/-! ## Lists -/

/-- The element at an index, changed. -/
def modifyAt {α : Type} (l : List α) (i : Nat) (f : α → α) : List α :=
  match l, i with
  | [], _ => []
  | a :: as, 0 => f a :: as
  | a :: as, i + 1 => a :: modifyAt as i f

/-- A list's elements with a function of index and element applied, counted from `i`. -/
def mapFrom {α β : Type} (f : Nat → α → β) (i : Nat) : List α → List β
  | [] => []
  | a :: as => f i a :: mapFrom f (i + 1) as

end Sys2Proof.Machine
end

