-- ==== Sys2Proof/Machine/Starting.lean ====
section
/-! DEFINITION. The values that node reset, RUNNING entry and power-die reset give each block. -/

namespace Sys2Proof.Machine

open Sys2Proof

/-! ## Values at RUNNING entry -/

/-- A channel record at RUNNING entry (R2). -/
def Channel.start : Channel :=
  { state := .off, demand := false, causes := CauseSet.empty, target := .off, rearm := false,
    handBack := false, confirm := none, offCheck := none, holdOvers := Four.all none }

/-- A membership entry at RUNNING entry (R27). -/
def Entry.start : Entry :=
  { state := .unknown, holder := none, requests := [], claimChannel := none, yielded := false,
    conflict := none, lapsed := false, releaseQueued := false, hold := none, lifetime := none,
    window := none, dead := none, lapse := none }

/-- A zone entry at RUNNING entry (R60). -/
def Zone.start : Zone := { tripped := false, station := none, cause := none, localActive := false }

/-- A subscription entry at RUNNING entry (R79). -/
def Subscription.start : Subscription :=
  { age := .unseen, value := none, timer := none, foreignCount := 0, lastChange := none }

/-- A publication entry at RUNNING entry (R85). -/
def Publication.start : Publication := { waiting := true, timer := none, lastSent := none }

/-! ## Values at node reset -/

/-- Channel Logic at node reset (R2). No configuration is held; the run-time fields have no meaning
before RUNNING entry and stand at the values that entry gives them (log entry 6). -/
def ChannelLogic.reset : ChannelLogic :=
  { records := Eight.all Channel.start, feedback := none, toGroups := [], toChannels := [] }

/-- The Mark Timer at node reset (R52). -/
def MarkTimer.reset : MarkTimer := { number := 0, timer := none, queued := false }

/-- The zone entries at node reset: none (R60), stored as entries that nothing reads. -/
def ZoneTable.reset (shutdown : Bool) : ZoneTable :=
  { zones := Eight.all Zone.start, shutdown := shutdown }

/-- The Sense Inputs block at node reset: no debounced levels (R75). The pins keep their levels
(DESIGN CHOICE: log entry 9). -/
def SenseInput.reset (pin : Bool) : SenseInput := { pin := pin, level := false, timer := none }

/-- The Publication Table at node reset (R85): build blocked is no from the reset on
(DESIGN CHOICE: log entry 40). -/
def PubTable.reset : PubTable := { entries := [], blocked := false }

/-- The PBC at node reset (R93, R100, R108, R111). The join counter is not reset (R112). -/
def Bus.reset (joinCounter : Half) : Bus :=
  { state := .disabled, phase := none, joinTimer := none, offLineTimer := none,
    joinCounter := joinCounter, score := 0, queue := [], attempt := none, sent := none,
    gapSeen := false, rejecting := false }

def KindRecord.reset : KindRecord := { live := false, sticky := false, count := 0, firstMark := none }

/-- A channel's fault record at node reset (R144). -/
def FaultRecord.reset : FaultRecord :=
  { kinds := PerKind.all KindRecord.reset, newest := none, waiting := false }

/-- The node flags at node reset: LINK-DOWN live and sticky (R149). -/
def NodeFlags.reset : NodeFlags :=
  { sticky := NodeFlag.mask .linkDown, live := NodeFlag.mask .linkDown }

/-- An entry of the peer table at node reset (R153). -/
def Peer.reset : Peer := { present := false, silent := 0, signature := none, status := none }

/-- Fault Records at node reset (R144, R148, R149, R152, R153). -/
def FaultTable.reset : FaultTable :=
  { records := Eight.all FaultRecord.reset, blocked := false, flags := NodeFlags.reset, list := [],
    overrun := 0, peers := List.replicate 62 Peer.reset }

/-- The reset response: it answers NOP, with status ACCEPTED and no data (R162). -/
def Response.reset : Response := { command := 0, status := .accepted, data := [] }

/-- The Host Port at node reset: host points OFF (R78), the raising of LINK-DOWN in the event set (R168). -/
def HostPort.reset : HostPort :=
  { response := Response.reset,
    events := { zoneChange := false, lockChange := false, nodeFlag := true },
    points := Eight.all false, transaction := none }

def LatestReplies.none : LatestReplies := { feedback := Option.none, diagnostics := PerPower.all Option.none }

/-- The logic side of the Barrier Link at node reset (R121) (DESIGN CHOICE: log entry 9). -/
def Link.reset : Link :=
  { up := false, goodRun := 0, failedRun := 0, slotCount := 0, lastGood := none, guarantee := none,
    latest := LatestReplies.none, driveWord := none }

/-- The Configuration Loader at node reset (R155): the straps are read at its end
(DESIGN CHOICE: log entry 9). -/
def Loader.reset (source : ImageSource) (station : Station) : Loader :=
  { nodeState := .loading, source := source, station := station, read := .idle, staging := [],
    image := none, reason := none, item := none }

/-! ## Values at power-die reset -/

def Condition.absent (now : Nat) : Condition := { present := false, since := now }

/-- A channel of the power die on leaving reset (R132). -/
def PowerChannel.reset (now : Nat) (load : Electrical) : PowerChannel :=
  { commanded := false, blanking := none, since := now, thermal := .normal, load := load,
    conditions := PerPower.all (Condition.absent now), reports := PerPower.all .clear }

/-- The power die at its reset, or on leaving it (R121, R132). -/
def PowerDie.reset (inReset : Bool) (now : Nat) (loads : Eight Electrical) : PowerDie :=
  { inReset := inReset, enable := false, bits := 0, previous := none, watchdog := none, tripped := false,
    position := 0, supplyNormal := false, replyWord := none,
    channels := Eight.of fun n => PowerChannel.reset now (loads.get n) }

/-- An output with nothing at it: the electrical situation the model starts from (log entry 7). -/
def Electrical.rest : Electrical := { voltage := 0, draw := 0, junction := 25, stored := 0, supply := 0 }

/-! ## The image that stands where none is held -/

def ChannelConfig.blank : ChannelConfig :=
  { enabled := false, terms := [], combine := .and, group := none, zone := none, timing := .immediate,
    failPolicy := .failOff, holdOver := 0, restart := .auto, latchMask := PerPower.all false }

/-- An image with no record in use. Nothing acts on it: every rule that reads the configuration reads it
while the node is RUNNING, when an image is held. -/
def Image.blank : Image :=
  { bitRate := .k125, hold := 0, claim := 0, mark := 0, refresh := 0, debounce := 0,
    channels := Eight.all ChannelConfig.blank, subscriptions := [], publications := [],
    memberships := [], inputs := Eight.all { activeHigh := true, role := .unused }, signature := 0 }

end Sys2Proof.Machine
end

