-- ==== Sys2Proof/Machine/State.lean ====
section
/-! DEFINITION. The node's state, its reset, and the reasons a step could stop. -/

namespace Sys2Proof.Machine

open Sys2Proof

/-- The reasons a step could stop with a fault. There are none: every command of the manual has an
effect in every state, if only that of changing nothing. -/
inductive Fault where
  deriving DecidableEq, Repr

/-- The reasons a step could be refused. -/
inductive Refusal where
  /-- A command without a meaning in the model, by its mnemonic. Raised by an arm of `exec` alone; no arm
  raises it now. Safe: a refused command proves nothing about the node. -/
  | notModelled (mnemonic : String)
  deriving DecidableEq, Repr

/-- The EW816: one field for each block of the manual, the clock, and the queue of waiting commands. -/
structure State where
  /-- The model's clock in µs (log entry 2). -/
  now : Nat
  /-- The logic die is held in node reset (R155). -/
  held : Bool
  loader : Loader
  channels : ChannelLogic
  groups : List Entry
  marks : MarkTimer
  zones : ZoneTable
  inputs : Eight SenseInput
  points : List Subscription
  pubs : PubTable
  bus : Bus
  faults : FaultTable
  host : HostPort
  link : Link
  power : PowerDie
  /-- The commands waiting, first in, first out. -/
  pending : List Instr
  deriving DecidableEq, Repr

/-- Power-on of both supplies: both dies are in reset. -/
def State.reset : State :=
  { now := 0, held := true,
    loader := Loader.reset .memory 0,
    channels := ChannelLogic.reset,
    groups := [],
    marks := MarkTimer.reset,
    zones := ZoneTable.reset false,
    inputs := Eight.all (SenseInput.reset false),
    points := [],
    pubs := PubTable.reset,
    bus := Bus.reset 0,
    faults := FaultTable.reset,
    host := HostPort.reset,
    link := Link.reset,
    power := PowerDie.reset true 0 (Eight.all Electrical.rest),
    pending := [] }

end Sys2Proof.Machine
end

