-- ==== Sys2Proof/Machine/Flags.lean ====
section
/-! DEFINITION. Values computed from the state (ERR, IRQ, readiness, channel values), the host event
set, the node flags, the live values of fault kinds, and the pending marks of publications that follow them. -/

namespace Sys2Proof.Machine

open Sys2Proof

/-! ## Reading the state -/

/-- The configuration in force; a blank one while no image is held. -/
def State.config (s : State) : Image := s.loader.image.getD Image.blank

/-- The node state is RUNNING, which only an accepted image brings about (R161). -/
def State.running (s : State) : Bool := s.loader.nodeState == .running

/-- An event of a block that works only while RUNNING (R1, R60, R75, R79, R85, R156). -/
def whenRunning (f : State → State) (s : State) : State := if s.running then f s else s

/-- Channel n's configuration and record. -/
def State.cfg (s : State) (c : Fin 8) : ChannelConfig := s.config.channels.get c
def State.chan (s : State) (c : Fin 8) : Channel := s.channels.records.get c

/-- The output path is ready: the link is UP and the latest FEEDBACK reply's supply-low flag is clear (R6). -/
def State.pathReady (s : State) : Bool :=
  s.link.up && (match s.channels.feedback with | some f => !f.supplyLow | none => false)

/-- The three values a channel's state gives other blocks (R7). -/
def ChannelState.confirmedOn (st : ChannelState) : Bool :=
  match st with
  | .on | .disarming => true
  | _ => false
def ChannelState.driven (st : ChannelState) : Bool :=
  match st with
  | .energizing | .on | .disarming => true
  | _ => false
def ChannelState.isLocked (st : ChannelState) : Bool :=
  match st with
  | .locked => true
  | _ => false

/-- The drive bits that Channel Logic presents: all off while no records exist (R1, R7). -/
def State.driveBits (s : State) : Byte :=
  if s.running then maskOf (Eight.of fun c => (s.chan c).state.driven) else 0

/-- The enable of the drive word (R122). -/
def State.enable (s : State) : Bool := s.running && !s.zones.shutdown

/-- The value of a sense input as a source: its debounced level is its active level (R77). -/
def State.senseOn (s : State) (n : Fin 8) : Bool :=
  (s.inputs.get n).level == (s.config.inputs.get n).activeHigh

/-- The sticky set and the live set of a channel's fault record. -/
def FaultRecord.sticky (r : FaultRecord) : KindSet := PerKind.of fun k => (r.kinds.get k).sticky
def FaultRecord.live (r : FaultRecord) : KindSet := PerKind.of fun k => (r.kinds.get k).live

/-- Some kind on some channel is sticky. -/
def State.anyKindSticky (s : State) : Bool :=
  eightIndices.any fun c => (s.faults.records.get c).sticky.any

/-- The ERR pin is asserted (R150). -/
def State.err (s : State) : Bool :=
  !s.running || s.faults.flags.sticky != 0 || s.anyKindSticky

/-- The IRQ pin is asserted (R168); it is released while the logic die is held in reset. -/
def State.irq (s : State) : Bool :=
  !s.held && (s.host.events.zoneChange || s.host.events.lockChange || s.host.events.nodeFlag
    || !s.faults.list.isEmpty)

/-- A node flag's sticky and live values. -/
def State.flagSticky (s : State) (f : NodeFlag) : Bool := s.faults.flags.sticky.getLsbD f.bit
def State.flagLive (s : State) (f : NodeFlag) : Bool := s.faults.flags.live.getLsbD f.bit

/-! ## The host event set (R168) -/

def setZoneChange (s : State) : State :=
  { s with host := { s.host with events := { s.host.events with zoneChange := true } } }
def setLockChange (s : State) : State :=
  { s with host := { s.host with events := { s.host.events with lockChange := true } } }
def setNodeFlagEvent (s : State) : State :=
  { s with host := { s.host with events := { s.host.events with nodeFlag := true } } }

/-! ## Publications that become pending (R86, R87) -/

/-- The entries whose configuration meets a test become pending. -/
def pendWhere (p : PublicationConfig → Bool) : List PublicationConfig → List Publication → List Publication
  | c :: cs, e :: es => (if p c then { e with waiting := true } else e) :: pendWhere p cs es
  | _, es => es

def pendPublications (p : PublicationConfig → Bool) (s : State) : State :=
  { s with pubs := { s.pubs with entries := pendWhere p s.config.publications s.pubs.entries } }

/-- Every publication with this source becomes pending: its value changed (R86). -/
def pendSource (src : PubSource) (s : State) : State :=
  pendPublications (fun c => c.source == src) s

/-- The publications that a frame's pairs carried become pending again (R90). -/
def pendPairs (pairs : List PointPair) (s : State) : State :=
  pendPublications (fun c => pairs.any fun p => p.point == c.point) s

/-- A change of the sticky values, told to the node-error publications where it changes ERR (R150). -/
def trackErr (f : State → State) (s : State) : State :=
  let t := f s
  if s.err == t.err then t else pendSource .nodeError t

/-! ## Node flags (R149) -/

def setFlags (fl : NodeFlags) (s : State) : State :=
  { s with faults := { s.faults with flags := fl } }

/-- A flag becomes sticky, and NODE-FLAG is set. -/
def raiseFlag (f : NodeFlag) (s : State) : State :=
  setNodeFlagEvent
    (trackErr (fun s => setFlags { s.faults.flags with sticky := s.faults.flags.sticky ||| f.mask } s) s)

/-- A flag with a live value takes it: a rise raises the flag, a fall leaves it sticky, and either sets
NODE-FLAG (R149). A value it already has changes nothing (DESIGN CHOICE: log entry 42). -/
def setFlagLive (f : NodeFlag) (b : Bool) (s : State) : State :=
  if s.flagLive f == b then s
  else if b then raiseFlag f (setFlags { s.faults.flags with live := s.faults.flags.live ||| f.mask } s)
  else setNodeFlagEvent (setFlags { s.faults.flags with live := s.faults.flags.live &&& ~~~f.mask } s)

/-! ## Fault records -/

def setRecord (c : Fin 8) (r : FaultRecord) (s : State) : State :=
  { s with faults := { s.faults with records := s.faults.records.set c r } }

def State.faultRec (s : State) (c : Fin 8) : FaultRecord := s.faults.records.get c

/-- A kind's live value, told to the fault-any publications where the live set becomes empty or
non-empty (R145). -/
def setLive (c : Fin 8) (k : FaultKind) (b : Bool) (s : State) : State :=
  let r := s.faultRec c
  let r' := { r with kinds := r.kinds.set k { r.kinds.get k with live := b } }
  let t := setRecord c r' s
  if r.live.any == r'.live.any then t else pendSource (.faultAny c) t

/-- The channel's FAULT frame waits to be built (R148). -/
def setFaultWaiting (b : Bool) (c : Fin 8) (s : State) : State :=
  setRecord c { s.faultRec c with waiting := b } s

/-! ## Acting on all eight channels, entries or zones, by number -/

/-- A change for each of 0 to 7, in the order of the numbers (log entry 5). -/
def each8 (f : Fin 8 → State → State) (s : State) : State :=
  f 7 (f 6 (f 5 (f 4 (f 3 (f 2 (f 1 (f 0 s)))))))

end Sys2Proof.Machine
end

