-- ==== Sys2Proof/Machine/Wire.lean ====
section
/-! DEFINITION. Wire formats: check computation, frames and their payloads, drive and reply words. -/

namespace Sys2Proof.Machine

open Sys2Proof

/-! ## Checks (R169, R173) -/

/-- One bit into a check register of width w: it shifts left one place, and where the bit shifted out
differs from the data bit it is combined with the polynomial by exclusive OR (R169). -/
def checkBit {w : Nat} (poly : BitVec w) (reg : BitVec w) (bit : Bool) : BitVec w :=
  if reg.msb != bit then (reg <<< 1) ^^^ poly else reg <<< 1

/-- The 16-bit check over bits in the order they are sent: all ones at the start, x^16+x^12+x^5+1. -/
def check16 (bits : List Bool) : Half :=
  bits.foldl (checkBit (4129 : Half)) 0xFFFF

/-- The 5-bit check of a link word: all ones at the start, x^5+x^2+1 (R173). -/
def check5 (bits : List Bool) : BitVec 5 :=
  bits.foldl (checkBit (5 : BitVec 5)) 31

/-- The bits of a word, most significant first. -/
def bitsOf {w : Nat} (x : BitVec w) : List Bool :=
  (List.range w).map fun i => x.getMsbD i

/-- The bits of bytes in the order they are sent. -/
def byteBits (bytes : List Byte) : List Bool := bytes.flatMap bitsOf

/-- The image check, over the bytes before the check (R172). -/
def imageCheck (bytes : List Byte) : Half := check16 (byteBits bytes)

/-- The frame check, from the first bit of the kind code to the last bit of the payload (R169). -/
def frameCheck (kind : BitVec 4) (source : Station) (length : BitVec 5) (payload : List Byte) : Half :=
  check16 (bitsOf kind ++ bitsOf (BitVec.ofFin source : BitVec 6) ++ bitsOf length ++ byteBits payload)

/-- A frame as read is bad: the checks differ, the frame ended before its check was complete, or the
length field is above 16 (R96, R169). -/
def FrameRead.isBad (f : FrameRead) : Bool :=
  decide (16 < f.length.toNat) || decide (f.payload.length ≠ f.length.toNat)
    || f.check != some (frameCheck f.kind f.source f.length f.payload)

/-! ## Frames -/

/-- The kind code of a frame (section 13.2). -/
def Frame.code (f : Frame) : Nat :=
  match f with
  | .mark _ => 0 | .trip _ _ => 1 | .clear _ => 2 | .release _ _ => 3 | .hold _ _ _ => 4
  | .claim _ _ => 5 | .faultAck _ _ _ _ => 6 | .fault _ _ _ _ => 7 | .points _ => 8
  | .status _ => 9 | .hello _ _ => 10

/-- The arbitration key of a station's frame (section 6.1). -/
def Frame.key (source : Station) (f : Frame) : Key :=
  BitVec.append (BitVec.ofNat 4 f.code) (BitVec.ofFin source : BitVec 6)

/-- A POINTS pair as two bytes: 01 for OFF or 10 for ON in bits 15 and 14, the point number below. -/
def PointPair.word (p : PointPair) : Half :=
  (if p.value then 0x8000 else 0x4000) ||| BitVec.ofNat 16 p.point.val

/-- Two bytes as a POINTS pair: a value code 00 or 11, or a point number above 511, is none (R170). -/
def pointPairOf (w : Half) : Option PointPair :=
  if h : (w.extractLsb' 0 14).toNat < 512 then
    if w.extractLsb' 14 2 = 1 then some { point := ⟨(w.extractLsb' 0 14).toNat, h⟩, value := false }
    else if w.extractLsb' 14 2 = 2 then some { point := ⟨(w.extractLsb' 0 14).toNat, h⟩, value := true }
    else none
  else none

/-- The pairs that a list of bytes holds. -/
def pointPairsOf (bytes : List Byte) : Option (List PointPair) :=
  match bytes with
  | [] => some []
  | [_] => none
  | hi :: lo :: rest =>
    match pointPairOf (half hi lo), pointPairsOf rest with
    | some p, some ps => some (p :: ps)
    | _, _ => none

/-- The two bytes of a node flag set. -/
def flagHalf (f : BitVec 9) : Half := f.setWidth 16

/-- The eight payload bytes of a STATUS. -/
def StatusInfo.bytes (i : StatusInfo) : List Byte :=
  halfBytes (flagHalf i.flags) ++ [i.drive, i.locked, i.sticky, i.tripped] ++ halfBytes i.mark

/-- The payload of a frame (section 13.2). -/
def Frame.payload (f : Frame) : List Byte :=
  match f with
  | .mark n => halfBytes n
  | .trip z c => [z, c.code]
  | .clear z => [z]
  | .release g c => [byteOf g.val, byteOf c.val]
  | .hold g c o => [byteOf g.val, byteOf c.val, boolByte o]
  | .claim g c => [byteOf g.val, byteOf c.val]
  | .faultAck t m k n => [byteOf t.val, m, kindSetByte k, boolByte n]
  | .fault c l s m => [byteOf c.val, kindSetByte l, kindSetByte s] ++ halfBytes m
  | .points ps => byteOf ps.length :: ps.flatMap fun p => halfBytes p.word
  | .status i => i.bytes
  | .hello t s => halfBytes t ++ halfBytes s

/-- A byte as a group number, a channel, a yes/no value, a TRIP cause, a target station; none outside
the range (R170). -/
def groupOf (b : Byte) : Option (Fin 128) := if h : b.toNat < 128 then some ⟨b.toNat, h⟩ else none
def channelOf (b : Byte) : Option (Fin 8) := if h : b.toNat < 8 then some ⟨b.toNat, h⟩ else none
def boolOf (b : Byte) : Option Bool := if b = 0 then some false else if b = 1 then some true else none
def causeOf (b : Byte) : Option TripCause :=
  if b = 1 then some .input else if b = 2 then some .host else if b = 3 then some .reassert else none
def stationOf (b : Byte) : Option Station :=
  if h : 1 ≤ b.toNat ∧ b.toNat ≤ 62 then some ⟨b.toNat, by omega⟩ else none
def kindsOf (b : Byte) : Option KindSet := if b.getLsbD 7 then none else some (kindSetOf b)
/-- A node flag set whose bits 9 to 15 are clear. -/
def flagsOf (h : Half) : Option (BitVec 9) := if (h >>> 9) = 0 then some (h.setWidth 9) else none

/-- The kind code, 0 to 15, and the payload as a well-formed frame; none where the frame is malformed by
its content (R98, R170). The source station is judged apart. -/
def Frame.parse (kind : Nat) (payload : List Byte) : Option Frame :=
  match kind, payload with
  | 0, [a, b] => some (.mark (half a b))
  | 1, [z, c] => (causeOf c).map fun c => .trip z c
  | 2, [z] => some (.clear z)
  | 3, [g, c] =>
    match groupOf g, channelOf c with
    | some g, some c => some (.release g c)
    | _, _ => none
  | 4, [g, c, o] =>
    match groupOf g, channelOf c, boolOf o with
    | some g, some c, some o => some (.hold g c o)
    | _, _, _ => none
  | 5, [g, c] =>
    match groupOf g, channelOf c with
    | some g, some c => some (.claim g c)
    | _, _ => none
  | 6, [t, m, k, n] =>
    match stationOf t, kindsOf k, boolOf n with
    | some t, some k, some n => some (.faultAck t m k n)
    | _, _, _ => none
  | 7, [c, l, s, a, b] =>
    match channelOf c, kindsOf l, kindsOf s with
    | some c, some l, some s => some (.fault c l s (half a b))
    | _, _, _ => none
  | 8, n :: rest =>
    if 1 ≤ n.toNat ∧ n.toNat ≤ 7 ∧ rest.length = 2 * n.toNat then (pointPairsOf rest).map .points else none
  | 9, [a, b, d, l, s, t, m, n] =>
    (flagsOf (half a b)).map fun f =>
      .status { flags := f, drive := d, locked := l, sticky := s, tripped := t, mark := half m n }
  | 10, [a, b, c, d] => some (.hello (half a b) (half c d))
  | _, _ => none

/-- The frame as a receiver reads it whole from the line, with the check its sender computes (R169). -/
def Frame.onLine (source : Station) (f : Frame) : FrameRead :=
  { kind := BitVec.ofNat 4 f.code, source := source, length := BitVec.ofNat 5 f.payload.length,
    payload := f.payload,
    check := some (frameCheck (BitVec.ofNat 4 f.code) source (BitVec.ofNat 5 f.payload.length) f.payload) }

/-- The range that a frame's content must keep beyond its type: a FAULT-ACK target is 1 to 62, a POINTS
frame carries one to seven pairs (R98). -/
def Frame.inRange (f : Frame) : Bool :=
  match f with
  | .faultAck t _ _ _ => decide (1 ≤ t.val ∧ t.val ≤ 62)
  | .points ps => decide (1 ≤ ps.length ∧ ps.length ≤ 7)
  | _ => true

/-! ## Barrier Link words (section 13.5) -/

/-- The drive word: enable, drive bits 7 to 0, slot count, check. -/
def driveWordOf (enable : Bool) (bits : Byte) (count : BitVec 2) : BitVec 16 :=
  let body : BitVec 11 := BitVec.ofBool enable ++ bits ++ count
  body ++ check5 (bitsOf body)

/-- The drive word's fields. -/
def driveEnable (w : BitVec 16) : Bool := w.getLsbD 15
def driveBits (w : BitVec 16) : Byte := w.extractLsb' 7 8
def driveCount (w : BitVec 16) : BitVec 2 := w.extractLsb' 5 2
/-- The check of a drive word is good (R173). -/
def driveCheckGood (w : BitVec 16) : Bool :=
  w.extractLsb' 0 5 == check5 (bitsOf (w.extractLsb' 5 11))

/-- The kinds of reply (R124). -/
inductive ReplyKind where
  | feedback
  | diagnostic (k : PowerKind)
  deriving DecidableEq, Repr

/-- The reply kind codes (section 13.5). -/
def ReplyKind.code (k : ReplyKind) : BitVec 3 :=
  match k with
  | .feedback => 0
  | .diagnostic .overtemp => 1
  | .diagnostic .openOn => 2
  | .diagnostic .openOff => 3
  | .diagnostic .shortSupply => 4
  | .diagnostic .overload => 5

/-- The kind a code names; 6 and 7 name none. -/
def replyKindOf (c : BitVec 3) : Option ReplyKind :=
  if c = 0 then some .feedback
  else if c = 1 then some (.diagnostic .overtemp)
  else if c = 2 then some (.diagnostic .openOn)
  else if c = 3 then some (.diagnostic .openOff)
  else if c = 4 then some (.diagnostic .shortSupply)
  else if c = 5 then some (.diagnostic .overload)
  else none

/-- The kind at a rotation position (R124). -/
def replyKindAt (p : Fin 10) : ReplyKind :=
  match p with
  | 0 => .feedback | 1 => .diagnostic .overtemp | 2 => .feedback | 3 => .diagnostic .openOn
  | 4 => .feedback | 5 => .diagnostic .openOff | 6 => .feedback | 7 => .diagnostic .shortSupply
  | 8 => .feedback | 9 => .diagnostic .overload

/-- The reply word: kind, channel bits 7 to 0, supply-low, watchdog-tripped, check. -/
def replyWordOf (k : ReplyKind) (bits : Byte) (supplyLow tripped : Bool) : BitVec 18 :=
  let body : BitVec 13 := k.code ++ bits ++ BitVec.ofBool supplyLow ++ BitVec.ofBool tripped
  body ++ check5 (bitsOf body)

/-- A reply that is not failed: its kind, channel bits and supply-low flag. -/
structure GoodReply where
  kind : ReplyKind
  bits : Byte
  supplyLow : Bool
  deriving DecidableEq, Repr

/-- A reply word as the logic side judges it; none where the slot counts as failed: a bad check, a kind
code 6 or 7, or the watchdog-tripped flag set (R125, R173). -/
def judgeReply (w : BitVec 18) : Option GoodReply :=
  if w.extractLsb' 0 5 != check5 (bitsOf (w.extractLsb' 5 13)) then none
  else if w.getLsbD 5 then none
  else (replyKindOf (w.extractLsb' 15 3)).map fun k =>
    { kind := k, bits := w.extractLsb' 7 8, supplyLow := w.getLsbD 6 }

end Sys2Proof.Machine
end

