-- ==== Sys2Proof/Machine/Queue.lean ====
section
/-! DEFINITION. The transmit queue: offers, merges, displacement, withdrawal, edits and the room notice
(R100 to R107). -/

namespace Sys2Proof.Machine

open Sys2Proof

/-- The number of frames the queue holds at most (R100). -/
def queueCapacity : Nat := 12

def setQueue (q : List Queued) (s : State) : State := { s with bus := { s.bus with queue := q } }

/-- The group a group frame names. -/
def Frame.group (f : Frame) : Option (Fin 128) :=
  match f with
  | .release g _ => some g
  | .hold g _ _ => some g
  | .claim g _ => some g
  | _ => none

/-- Two frames fall under one limit of R101. -/
def sameLimit (a b : Frame) : Bool :=
  match a, b with
  | .mark _, .mark _ => true
  | .trip _ _, .trip _ _ => true
  | .clear _, .clear _ => true
  | .points _, .points _ => true
  | .status _, .status _ => true
  | .hello _ _, .hello _ _ => true
  | .fault c _ _ _, .fault d _ _ _ => c == d
  | a, b =>
    match a.group, b.group with
    | some g, some h => g == h
    | _, _ => false

/-- The queued frame that a merge makes of a queued frame and an offer under one limit; none where the
pair does not merge (R101). A merged HOLD keeps the channel it was queued with
(DESIGN CHOICE: log entry 16). -/
def mergeFrames (queued offered : Frame) : Option Frame :=
  match queued, offered with
  | .trip z c, .trip z' c' => some (.trip (z ||| z') (c.higher c'))
  | .clear z, .clear z' => some (.clear (z ||| z'))
  | .hold g c o, .hold _ _ o' => some (.hold g c (o || o'))
  | .status _, .status i => some (.status i)
  | _, _ => none

/-- A RELEASE onto a queued HOLD takes its place (R101). -/
def replacesHold (queued offered : Frame) : Bool :=
  match queued, offered with
  | .hold _ _ _, .release _ _ => true
  | _, _ => false

/-- The bus state takes offers of this frame's kind (R100). -/
def admits (b : BusState) (f : Frame) : Bool :=
  match b, f with
  | .onLine, _ => true
  | .joining, .hello _ _ => true
  | _, _ => false

/-- A frame enters after every frame of lower or equal kind code (R100). -/
def insertByCode (q : Queued) : List Queued → List Queued
  | [] => [q]
  | x :: xs => if x.frame.code ≤ q.frame.code then x :: insertByCode q xs else q :: x :: xs

/-- The first queued frame under a frame's limit takes new content in its place. -/
def replaceContent (f m : Frame) : List Queued → List Queued
  | [] => []
  | x :: xs => if sameLimit x.frame f then { x with frame := m } :: xs else x :: replaceContent f m xs

/-- A new queue entry (R100). -/
def newEntry (now : Nat) (f : Frame) : Queued := { frame := f, age := now, retries := 0, onLine := false }

/-- The room notice: frames refused for a full queue may be built again (R90, R107, R148)
(DEDUCED: log entry 32). -/
def roomNotice (s : State) : State :=
  { s with pubs := { s.pubs with blocked := false }, faults := { s.faults with blocked := false } }

/-- The owner's answer to the notice "displaced" (R90, R102, R148). Frames of kind codes below 6 are
never displaced; a displaced FAULT-ACK or STATUS is dropped. -/
def displacedNotice (f : Frame) (s : State) : State :=
  match f with
  | .points ps => pendPairs ps s
  | .fault c _ _ _ => setFaultWaiting true c s
  | _ => s

/-- An owner offers a frame: the queue as the offer leaves it, and whether the frame was taken up
(entered or merged). A refusal is the answer `false` (R100, R101, R102). -/
def offer (f : Frame) (s : State) : State × Bool :=
  if !admits s.bus.state f then (s, false)
  else
    match s.bus.queue.find? fun q => sameLimit q.frame f with
    | some q =>
      match mergeFrames q.frame f with
      | some m => (setQueue (replaceContent f m s.bus.queue) s, true)
      | none =>
        if replacesHold q.frame f then
          (setQueue (insertByCode (newEntry s.now f)
            (s.bus.queue.filter fun x => !sameLimit x.frame f)) s, true)
        else (s, false)
    | none =>
      if s.bus.queue.length < queueCapacity then
        (setQueue (insertByCode (newEntry s.now f) s.bus.queue) s, true)
      else
        match s.bus.queue.getLast? with
        | some last =>
          if f.code < last.frame.code then
            (displacedNotice last.frame (raiseFlag .queueOverflow
              (setQueue (insertByCode (newEntry s.now f) s.bus.queue.dropLast) s)), true)
          else (raiseFlag .queueOverflow s, false)
        | none => (s, false)

/-- An offer whose refusal the owner does not act on. -/
def offerOnly (f : Frame) (s : State) : State := (offer f s).1

/-- Some queued frame meets a test. -/
def State.queues (s : State) (p : Frame → Bool) : Bool := s.bus.queue.any fun q => p q.frame

/-- An owner withdraws its queued frames that meet a test (R103); the room notice follows where one left. -/
def withdrawFrames (p : Frame → Bool) (s : State) : State :=
  if s.queues p then roomNotice (setQueue (s.bus.queue.filter fun q => !p q.frame) s) else s

def isMark (f : Frame) : Bool := match f with | .mark _ => true | _ => false
def isTrip (f : Frame) : Bool := match f with | .trip _ _ => true | _ => false
def isClear (f : Frame) : Bool := match f with | .clear _ => true | _ => false
def isPoints (f : Frame) : Bool := match f with | .points _ => true | _ => false
def isFaultOf (c : Fin 8) (f : Frame) : Bool := match f with | .fault d _ _ _ => d == c | _ => false
def isClaimOf (g : Fin 128) (f : Frame) : Bool := match f with | .claim h _ => h == g | _ => false
def isHoldOf (g : Fin 128) (f : Frame) : Bool := match f with | .hold h _ _ => h == g | _ => false
def isReleaseOf (g : Fin 128) (f : Frame) : Bool := match f with | .release h _ => h == g | _ => false

/-- A zone taken out of a queued TRIP's mask (R63). -/
def withoutZoneTrip (z : Fin 8) (f : Frame) : Frame :=
  match f with
  | .trip m c => .trip (m &&& ~~~(1#8 <<< z.val)) c
  | f => f
/-- A zone taken out of a queued CLEAR's mask (R63). -/
def withoutZoneClear (z : Fin 8) (f : Frame) : Frame :=
  match f with
  | .clear m => .clear (m &&& ~~~(1#8 <<< z.val))
  | f => f
def emptyTrip (f : Frame) : Bool := match f with | .trip m _ => m == 0 | _ => false
def emptyClear (f : Frame) : Bool := match f with | .clear m => m == 0 | _ => false

/-- An owner's edit of its queued frames, in their places (R103). -/
def editFrames (e : Frame → Frame) (s : State) : State :=
  setQueue (s.bus.queue.map fun q => { q with frame := e q.frame }) s

/-- Zone z leaves the own queued TRIP, which is withdrawn with an empty mask (R63, R68). -/
def removeFromTrip (z : Fin 8) (s : State) : State :=
  withdrawFrames emptyTrip (editFrames (withoutZoneTrip z) s)

/-- Zone z leaves the own queued CLEAR, which is withdrawn with an empty mask (R62, R63, R65). -/
def removeFromClear (z : Fin 8) (s : State) : State :=
  withdrawFrames emptyClear (editFrames (withoutZoneClear z) s)

end Sys2Proof.Machine
end

