-- ==== Sys2Proof/Machine/Channels.lean ====
section
/-! DEFINITION. Channel Logic: demand, the channel state machine, lock causes, path loss, revocation
(chapter 1). -/

namespace Sys2Proof.Machine

open Sys2Proof

def setChan (c : Fin 8) (r : Channel) (s : State) : State :=
  { s with channels := { s.channels with records := s.channels.records.set c r } }

/-- A change of one channel record. -/
def modChan (c : Fin 8) (f : Channel → Channel) (s : State) : State := setChan c (f (s.chan c)) s

/-- A message to the membership entry named in the channel's group field; none without a group (R8). -/
def sendToGroup (c : Fin 8) (m : ToGroupMsg) (s : State) : State :=
  match (s.cfg c).group with
  | some e => { s with channels := { s.channels with toGroups := s.channels.toGroups ++ [⟨e, c, m⟩] } }
  | none => s

/-! ## State changes -/

/-- The confirm timer at entry to a state: 5 ms in ENERGIZING (R13), and in RELEASING if the link is UP
(R17); stopped in every other. -/
def confirmAtEntry (st : ChannelState) (s : State) : Timer :=
  match st with
  | .energizing => some (s.now + Config.confirmTime)
  | .releasing => if s.link.up then some (s.now + Config.confirmTime) else none
  | _ => none

/-- Entry to a state. The timers of the state left stop; the off-check goes on between ON and DISARMING
(R15). A change of confirmed-on reaches the feedback publications (R86), entering or leaving LOCKED sets
LOCK-CHANGE (R25), and leaving LOCKED makes STUCK-ON not live (R24). -/
def enterState (st : ChannelState) (c : Fin 8) (s : State) : State :=
  let r := s.chan c
  let t := setChan c { r with
    state := st, confirm := confirmAtEntry st s,
    offCheck := if r.state.confirmedOn && st.confirmedOn then r.offCheck else none } s
  let t := if r.state.confirmedOn == st.confirmedOn then t else pendSource (.feedback c) t
  let t := if r.state.isLocked == st.isLocked then t else setLockChange t
  if r.state.isLocked && !st.isLocked then setLive c .stuckOn false t else t

/-- Acting on demand ON in OFF: request and WAITING with a group, ARMED or ENERGIZING without (R9). -/
def startChannel (c : Fin 8) (s : State) : State :=
  match (s.cfg c).group with
  | some _ => enterState .waiting c (sendToGroup c .request s)
  | none =>
    match (s.cfg c).timing with
    | .marked => enterState .armed c s
    | .immediate => enterState .energizing c s

/-- In OFF: acts on demand ON when rearm pending is no, the path is ready and the channel is enabled (R9). -/
def startIfDue (c : Fin 8) (s : State) : State :=
  let r := s.chan c
  if r.demand && !r.rearm && s.pathReady && (s.cfg c).enabled then startChannel c s else s

/-- Demand seen OFF in OFF clears rearm pending (R10). -/
def seeDemandInOff (c : Fin 8) (s : State) : State :=
  if (s.chan c).demand then startIfDue c s else modChan c (fun r => { r with rearm := false }) s

/-- Entry to OFF, where R9 and R10 apply at once. -/
def enterOff (c : Fin 8) (s : State) : State := seeDemandInOff c (enterState .off c s)

/-- Entry to RELEASING with a release target (R17). -/
def enterReleasing (target : Target) (c : Fin 8) (s : State) : State :=
  modChan c (fun r => { r with target := target }) (enterState .releasing c s)

/-- SUSPENDED to OFF: rearm pending with restart REARM (R22). -/
def leaveSuspended (c : Fin 8) (s : State) : State :=
  enterOff c (match (s.cfg c).restart with
    | .rearm => modChan c (fun r => { r with rearm := true }) s
    | .auto => s)

/-- Off confirmed or assured in RELEASING: "done, off confirmed", then the release target (R17). -/
def completeRelease (c : Fin 8) (s : State) : State :=
  let t := sendToGroup c .doneOffConfirmed s
  match (s.chan c).target with
  | .off => enterOff c t
  | .suspended =>
    let t := enterState .suspended c t
    if t.pathReady then leaveSuspended c t else t
  | .locked => enterState .locked c t

/-- Hand-back pending is settled: "done, off confirmed" (R18, R22). -/
def settleHandBack (c : Fin 8) (s : State) : State :=
  if (s.chan c).handBack then
    sendToGroup c .doneOffConfirmed (modChan c (fun r => { r with handBack := false }) s)
  else s

/-- Demand OFF in ON: DISARMING for MARKED, RELEASING with target OFF for IMMEDIATE (R14). -/
def fallFromOn (c : Fin 8) (s : State) : State :=
  match (s.cfg c).timing with
  | .marked => enterState .disarming c s
  | .immediate => enterReleasing .off c s

/-- Entry to ON from ENERGIZING, where demand OFF is acted on in the same event (R13). -/
def enterOn (c : Fin 8) (s : State) : State :=
  let t := enterState .on c s
  if (t.chan c).demand then t else fallFromOn c t

/-- A grouped channel that leaves a driven state, or LOCKED at STUCK-ON, owes its hand-back (R18, R21). -/
def oweHandBack (c : Fin 8) (s : State) : State :=
  if (s.cfg c).group.isSome then modChan c (fun r => { r with handBack := true }) s else s

/-! ## Demand (R3, R4, R5) -/

/-- A term's value before inversion; none where it is unusable (R3). -/
def rawTermValue (s : State) (c : Fin 8) (slot : Fin 4) (t : Term) : Option Bool :=
  match t.source with
  | .sense n => some (s.senseOn n)
  | .hostPoint n => some (s.host.points.get n)
  | .subscription i =>
    match s.points[i]? with
    | none => none
    | some e =>
      match e.age with
      | .unseen => none
      | .fresh => e.value
      | .stale =>
        match (s.cfg c).failPolicy with
        | .failOff => none
        | .failHold => if ((s.chan c).holdOvers.get slot).isSome then e.value else none

/-- A term's value after its invert flag; an unusable term has none. -/
def termValue (s : State) (c : Fin 8) (slot : Fin 4) (t : Term) : Option Bool :=
  (rawTermValue s c slot t).map fun v => v != t.invert

/-- The values of a channel's terms, in order. -/
def termValues (s : State) (c : Fin 8) : List (Option Bool) :=
  mapFrom (fun i t => termValue s c (Fin.ofNat 4 i) t) 0 (s.cfg c).terms

/-- The demand that the sources give at this moment (R5). -/
def evalDemand (s : State) (c : Fin 8) : Bool :=
  (s.cfg c).enabled && (termValues s c).all Option.isSome &&
    (match (s.cfg c).combine with
     | .and => (termValues s c).all fun v => v == some true
     | .or => (termValues s c).any fun v => v == some true)

/-- A demand change, taken by the state machine (section 1.6). -/
def demandChange (c : Fin 8) (d : Bool) (s : State) : State :=
  let t := modChan c (fun r => { r with demand := d }) s
  match (s.chan c).state with
  | .off => seeDemandInOff c t
  | .waiting => if d then t else enterOff c (sendToGroup c .cancel t)
  | .armed => if d then t else enterOff c (sendToGroup c .doneNeverDriven t)
  | .on => if d then t else fallFromOn c t
  | .disarming => if d then enterState .on c t else t
  | .energizing | .releasing | .suspended | .locked => t

/-- An evaluation of a channel's demand (R5). -/
def evaluate (c : Fin 8) (s : State) : State :=
  let d := evalDemand s c
  if d == (s.chan c).demand then s else demandChange c d s

/-- A channel has a term whose source meets a test. -/
def State.usesSource (s : State) (p : TermSource → Bool) (c : Fin 8) : Bool :=
  (s.cfg c).terms.any fun t => p t.source

/-- Every channel with a term on such a source evaluates its demand again (R5). -/
def evaluateUsers (p : TermSource → Bool) (s : State) : State :=
  each8 (fun c s => if s.usesSource p c then evaluate c s else s) s

/-- A change of the hold-over timers of channel c's terms on subscription entries that meet a test. -/
def setHoldOvers (p : Nat → Bool) (tm : Timer) (c : Fin 8) (s : State) : State :=
  let onEntry (slot : Fin 4) : Bool :=
    match (s.cfg c).terms[slot.val]? with
    | some t => (match t.source with | .subscription i => p i | _ => false)
    | none => false
  let upd (slot : Fin 4) (h : Four Timer) : Four Timer := if onEntry slot then h.set slot tm else h
  modChan c (fun r => { r with holdOvers := upd 3 (upd 2 (upd 1 (upd 0 r.holdOvers))) }) s

/-- The hold-over timers that start when entries go from FRESH to STALE: on FAIL-HOLD channels, unless
the hold-over is 0 ms (R4). -/
def startHoldOvers (p : Nat → Bool) (c : Fin 8) (s : State) : State :=
  match (s.cfg c).failPolicy with
  | .failOff => s
  | .failHold =>
    if (s.cfg c).holdOver = 0 then s
    else setHoldOvers p (some (s.now + 50000 * (s.cfg c).holdOver)) c s

/-! ## Lock causes (R19, R20) -/

def addCause (k : Cause) (c : Fin 8) (s : State) : State :=
  modChan c (fun r => { r with causes := r.causes.put k true }) s

/-- A forced cause reaching a channel (R19). -/
def forceCause (k : Cause) (c : Fin 8) (s : State) : State :=
  let r := s.chan c
  if r.causes.has k then s
  else
    let t := addCause k c s
    match r.state with
    | .off | .suspended => enterState .locked c t
    | .waiting => enterState .locked c (sendToGroup c .cancel t)
    | .armed => enterState .locked c (sendToGroup c .doneNeverDriven t)
    | .energizing | .on | .disarming => enterReleasing .locked c t
    | .releasing => modChan c (fun r => { r with target := .locked }) t
    | .locked => setLockChange t

/-- Rearm pending set to yes, and cleared at once if demand is already OFF (R10). -/
def setRearm (c : Fin 8) (s : State) : State := modChan c (fun r => { r with rearm := r.demand }) s

/-- A cause withdrawn by its owner (R20). -/
def withdrawCause (k : Cause) (c : Fin 8) (s : State) : State :=
  let r := s.chan c
  if !r.causes.has k then s
  else
    let t := modChan c (fun r => { r with causes := r.causes.put k false }) s
    let nowEmpty := (r.causes.put k false) == CauseSet.empty
    match r.state with
    | .locked => if nowEmpty then enterOff c (setRearm c t) else setLockChange t
    | .releasing =>
      if nowEmpty && r.target == .locked then
        setRearm c (modChan c (fun r => { r with target := if s.pathReady then .off else .suspended }) t)
      else t
    | _ => t

/-! ## The output path (R21, R22) -/

/-- Path lost, for one channel (R21). -/
def pathLostAt (c : Fin 8) (s : State) : State :=
  match (s.chan c).state with
  | .off | .locked | .suspended => s
  | .waiting => enterState .suspended c (sendToGroup c .cancel s)
  | .armed => enterState .suspended c (sendToGroup c .doneNeverDriven s)
  | .energizing | .on | .disarming => oweHandBack c (enterState .suspended c s)
  | .releasing =>
    modChan c (fun r => { r with target := match r.target with | .off => .suspended | x => x }) s

def pathLost (s : State) : State := each8 pathLostAt s

/-- Path ready, for one channel: SUSPENDED to OFF (R22), and OFF acts on demand ON (R9). -/
def pathReadyAt (c : Fin 8) (s : State) : State :=
  match (s.chan c).state with
  | .suspended => leaveSuspended c s
  | .off => startIfDue c s
  | _ => s

def pathReadyEvent (s : State) : State := each8 pathReadyAt s

/-- The confirm timer of one channel, where it is RELEASING. -/
def confirmIfReleasing (tm : Timer) (c : Fin 8) (s : State) : State :=
  match (s.chan c).state with
  | .releasing => modChan c (fun r => { r with confirm := tm }) s
  | _ => s

/-- The confirm timers of RELEASING channels, stopped at link DOWN or restarted at link UP (R21). -/
def setReleasingConfirm (tm : Timer) (s : State) : State := each8 (confirmIfReleasing tm) s

/-! ## FEEDBACK, off-assured, mark events, revocation, grants -/

/-- A FEEDBACK reply's bit in the state machine (R13, R15, R17). -/
def feedbackInState (on : Bool) (c : Fin 8) (s : State) : State :=
  match (s.chan c).state with
  | .energizing => if on then enterOn c s else s
  | .on | .disarming =>
    modChan c (fun r => { r with offCheck :=
      if on then none else match r.offCheck with
        | none => some (s.now + Config.offCheckTime)
        | some x => some x }) s
  | .releasing => if on then s else completeRelease c s
  | .off | .waiting | .armed | .suspended | .locked => s

/-- A FEEDBACK reply's bit at a channel. A reply showing the output off also settles hand-back pending
(R18, R22) and makes STUCK-ON not live (R24). -/
def feedbackAt (bits : Byte) (c : Fin 8) (s : State) : State :=
  let on := maskBit bits c
  let t := feedbackInState on c s
  if on then t else setLive c .stuckOn false (settleHandBack c t)

/-- Off-assured at a channel (R21, R22). -/
def offAssuredAt (c : Fin 8) (s : State) : State :=
  settleHandBack c (match (s.chan c).state with
    | .releasing => completeRelease c s
    | _ => s)

/-- A mark event at a channel (R56). -/
def markEventAt (c : Fin 8) (s : State) : State :=
  match (s.chan c).state with
  | .armed => enterState .energizing c s
  | .disarming => enterReleasing .off c s
  | _ => s

/-- A revoke at a channel (R8, R23). -/
def revokeAt (c : Fin 8) (s : State) : State :=
  match (s.chan c).state with
  | .armed => enterOff c (sendToGroup c .doneNeverDriven s)
  | .energizing | .on | .disarming => enterReleasing .off c s
  | .off | .waiting | .releasing | .suspended | .locked => s

/-- A grant at a channel: used in WAITING (R11), answered "done, never driven" in any other state (R8). -/
def grantAt (c : Fin 8) (s : State) : State :=
  match (s.chan c).state with
  | .waiting =>
    match (s.cfg c).timing with
    | .marked => enterState .armed c s
    | .immediate => enterState .energizing c s
  | _ => sendToGroup c .doneNeverDriven s

end Sys2Proof.Machine
end

