-- ==== Sys2Proof/Machine/FaultRecords.lean ====
section
/-! DEFINITION. Fault Records: occurrences, acknowledgement, FAULT and STATUS frames, the network fault
list and the peer table (chapter 10), and the channel timers that raise FAIL-ON and STUCK-ON. -/

namespace Sys2Proof.Machine

open Sys2Proof

/-! ## Occurrences (R145, R146) -/

/-- A fault record after an occurrence of a kind at a mark number: steps 1 to 3 of R146. -/
def FaultRecord.occur (r : FaultRecord) (k : FaultKind) (mark : Half) : FaultRecord :=
  let kr := r.kinds.get k
  let kr' : KindRecord :=
    { kr with count := min 255 (kr.count + 1), sticky := true,
              firstMark := if kr.sticky then kr.firstMark else some mark }
  { kinds := r.kinds.set k kr',
    newest := if kr.sticky then r.newest else some mark,
    waiting := r.waiting || !kr.sticky }

/-- An occurrence of a kind on a channel (R146). -/
def occurrence (k : FaultKind) (c : Fin 8) (s : State) : State :=
  let t := trackErr (setRecord c ((s.faultRec c).occur k s.marks.number)) s
  if latches (s.cfg c).latchMask k then forceCause .fault c t else t

/-- A delivered live value of a power kind; a rise while RUNNING is an occurrence (R144, R145). -/
def takeLive (k : PowerKind) (b : Bool) (c : Fin 8) (s : State) : State :=
  let rises := b && !((s.faultRec c).kinds.get k.kind).live
  let t := setLive c k.kind b s
  if rises && s.running then occurrence k.kind c t else t

/-- A delivered diagnostic reply: bit n is the live value of its kind on channel n (R127, R145). -/
def takeDiagnostic (k : PowerKind) (bits : Byte) (s : State) : State :=
  each8 (fun c s => takeLive k (maskBit bits c) c s) s

/-- The occurrences of RUNNING entry: every kind live at that moment (R144). -/
def startOccurrences (s : State) : State :=
  each8 (fun c s =>
    let live := (s.faultRec c).live
    let go (k : PowerKind) (s : State) : State := if live.get k.kind then occurrence k.kind c s else s
    go .overtemp (go .overload (go .openOn (go .shortSupply (go .openOff s))))) s

/-! ## Channel timers (R13, R15, R18) -/

/-- FAIL-ON: FAULT enters the cause set, the channel enters RELEASING with target LOCKED, and Fault
Records takes the occurrence, whose own forcing finds FAULT already in the set (R13, R15, R19). -/
def raiseFailOn (c : Fin 8) (s : State) : State :=
  occurrence .failOn c (enterReleasing .locked c (addCause .fault c s))

/-- Confirm timer expiry in ENERGIZING (R13). -/
def confirmExpiryEnergizing (c : Fin 8) (s : State) : State :=
  let r := s.chan c
  if r.state == .energizing && r.confirm.isSome then raiseFailOn c s else s

/-- Confirm timer expiry in RELEASING (R18): STUCK-ON live and one occurrence, FAULT added, hand-back
pending if grouped, LOCKED without "done". -/
def confirmExpiryReleasing (c : Fin 8) (s : State) : State :=
  let r := s.chan c
  if r.state == .releasing && r.confirm.isSome then
    occurrence .stuckOn c
      (setLive c .stuckOn true (enterState .locked c (oweHandBack c (addCause .fault c s))))
  else s

/-- The supply-low flag of the latest FEEDBACK reply is set (R6). -/
def State.supplyLowSeen (s : State) : Bool :=
  match s.channels.feedback with
  | some f => f.supplyLow
  | none => false

/-- Off-check expiry in ON or DISARMING: FAIL-ON unless OVERTEMP is live or the supply is low; the timer
stops (R15). -/
def offCheckExpiry (c : Fin 8) (s : State) : State :=
  let r := s.chan c
  if r.state.confirmedOn && r.offCheck.isSome then
    let t := modChan c (fun r => { r with offCheck := none }) s
    if ((s.faultRec c).kinds.get .overtemp).live || s.supplyLowSeen then t else raiseFailOn c t
  else s

/-- Hold-over expiry: the term becomes unusable, and demand is evaluated (R4, R5). -/
def holdOverExpiry (c : Fin 8) (slot : Fin 4) (s : State) : State :=
  if ((s.chan c).holdOvers.get slot).isSome then
    evaluate c (modChan c (fun r => { r with holdOvers := r.holdOvers.set slot none }) s)
  else s

/-! ## Acknowledgement (R147) -/

/-- A fault record after an acknowledgement of a set of kinds: sticky falls where the kind is not live. -/
def FaultRecord.acknowledge (r : FaultRecord) (kinds : KindSet) : FaultRecord :=
  { r with kinds := PerKind.of fun k =>
      let kr := r.kinds.get k
      if kinds.get k then { kr with sticky := kr.sticky && kr.live } else kr }

/-- No kind that latches for the channel is sticky. -/
def noLatchingSticky (mask : PerPower Bool) (sticky : KindSet) : Bool :=
  !(PerKind.of fun k => sticky.get k && latches mask k).any

/-- The kinds of an acknowledgement, on the channels of its mask; ERR follows (R147, R150). -/
def acknowledgeKinds (channels : Byte) (kinds : KindSet) (s : State) : State :=
  trackErr (each8 fun c s =>
    if maskBit channels c then setRecord c ((s.faultRec c).acknowledge kinds) s else s) s

/-- FAULT withdrawn from the named channels on which no latching kind is left sticky (R20, R147). -/
def acknowledgeCauses (channels : Byte) (s : State) : State :=
  each8 (fun c s =>
    if maskBit channels c && noLatchingSticky (s.cfg c).latchMask (s.faultRec c).sticky then
      withdrawCause .fault c s else s) s

/-- The node flags that are not live lose their sticky values (R149). -/
def acknowledgeFlags (s : State) : State :=
  trackErr (fun s => setFlags { s.faults.flags with
    sticky := s.faults.flags.sticky &&& s.faults.flags.live } s) s

/-- An acknowledgement: kinds, then the withdrawal of FAULT, then node flags (R147, R149). -/
def acknowledge (channels : Byte) (kinds : KindSet) (nodeFlags : Bool) (s : State) : State :=
  let t := acknowledgeCauses channels (acknowledgeKinds channels kinds s)
  if nodeFlags then acknowledgeFlags t else t

/-! ## FAULT frames (R148) -/

/-- The FAULT frame of a channel as its record stands. The live set never names FAIL-ON
(DESIGN CHOICE: log entry 33). -/
def faultFrame (s : State) (c : Fin 8) : Frame :=
  let r := s.faultRec c
  .fault c { r.live with failOn := false } r.sticky (r.newest.getD 0)

def setFaultBlocked (b : Bool) (s : State) : State := { s with faults := { s.faults with blocked := b } }

/-- A FAULT frame is built for a channel when the four conditions hold (R148). -/
def buildFault (c : Fin 8) (s : State) : State :=
  if (s.faultRec c).waiting && !s.queues (isFaultOf c) && s.bus.state == .onLine && !s.faults.blocked then
    let (t, taken) := offer (faultFrame s c) s
    if taken then setFaultWaiting false c t else setFaultBlocked true t
  else s

/-- Channels in order of their numbers (R148). -/
def buildFaults (s : State) : State := each8 buildFault s

/-- At entry to ON-LINE, every channel with a sticky kind waits for its FAULT frame (R148). -/
def pendStickyFaults (s : State) : State :=
  each8 (fun c s => if (s.faultRec c).sticky.any then setFaultWaiting true c s else s) s

/-! ## STATUS frames (R151) -/

/-- The contents of the node's STATUS at a moment. -/
def statusInfo (s : State) : StatusInfo :=
  { flags := s.faults.flags.sticky,
    drive := maskOf (Eight.of fun c => (s.chan c).state.driven),
    locked := maskOf (Eight.of fun c => (s.chan c).state.isLocked),
    sticky := maskOf (Eight.of fun c => (s.faultRec c).sticky.any),
    tripped := maskOf (Eight.of fun z => (s.zones.zones.get z).tripped),
    mark := s.marks.number }

/-- A STATUS is due: it is built and offered, and a refusal is not acted on (R151). -/
def sendStatus (s : State) : State := offerOnly (.status (statusInfo s)) s

/-! ## The network fault list (R152) -/

/-- The entries the list holds at most. -/
def listCapacity : Nat := 16

/-- A FAULT frame taken joins the list; a full list loses its oldest entry. -/
def appendFault (source : Station) (c : Fin 8) (live sticky : KindSet) (firstMark : Half) (s : State) :
    State :=
  let e : ListEntry :=
    { source := source, channel := c, live := { live with failOn := false }, sticky := sticky,
      firstMark := firstMark, arrival := s.marks.number }
  if s.faults.list.length < listCapacity then
    { s with faults := { s.faults with list := s.faults.list ++ [e] } }
  else
    { s with faults := { s.faults with list := s.faults.list.drop 1 ++ [e],
                                       overrun := min 255 (s.faults.overrun + 1) } }

/-! ## The peer table (R153, R154) -/

/-- The index of a station's entry. -/
def peerIndex (st : Station) : Nat := st.val - 1

def modPeer (st : Station) (f : Peer → Peer) (s : State) : State :=
  { s with faults := { s.faults with peers := modifyAt s.faults.peers (peerIndex st) f } }

/-- A well-formed frame taken from the station: PRESENT, silent marks 0 (R153). -/
def refreshPeer (st : Station) (s : State) : State :=
  modPeer st (fun p => { p with present := true, silent := 0 }) s

/-- One more silent mark; at 64 a PRESENT entry becomes ABSENT (R153). -/
def Peer.markSilent (p : Peer) : Peer :=
  if p.present then
    if 64 ≤ p.silent + 1 then { p with present := false, silent := 64 } else { p with silent := p.silent + 1 }
  else p

/-- A mark event at the peer table. -/
def peersMark (s : State) : State :=
  { s with faults := { s.faults with peers := s.faults.peers.map Peer.markSilent } }

/-- A mark event: all eight channels together, then the peer table (R56, R153). -/
def markEvent (s : State) : State := peersMark (each8 markEventAt s)

end Sys2Proof.Machine
end

