-- ==== Sys2Proof/Machine/Groups.lean ====
section
/-! DEFINITION. The Group Table: membership entries, their frames, timers and messages (chapter 2). -/

namespace Sys2Proof.Machine

open Sys2Proof

/-! ## Entries and their configuration -/

/-- Membership entry e's run-time fields and configuration, where the image lists it (R26). -/
def State.entry (s : State) (e : Fin 8) : Option Entry := s.groups[e.val]?
def State.member (s : State) (e : Fin 8) : MembershipConfig :=
  s.config.memberships.getD e.val { group := 0, members := 0, dead := 0 }

def setEntry (e : Fin 8) (x : Entry) (s : State) : State :=
  { s with groups := modifyAt s.groups e.val fun _ => x }

/-- A change of one entry. -/
def modEntry (e : Fin 8) (f : Entry → Entry) (s : State) : State :=
  { s with groups := modifyAt s.groups e.val f }

/-- H, C and D in µs. -/
def State.holdInterval (s : State) : Nat := 10000 * s.config.hold
def State.claimWindow (s : State) : Nat := 1000 * s.config.claim
def State.deadTime (s : State) (e : Fin 8) : Nat := 10000 * (s.member e).dead

def State.onLine (s : State) : Bool := s.bus.state == .onLine

/-- The entry takes group frames: bus state JOINING or ON-LINE (R31, R47). -/
def State.learns (s : State) : Bool := s.bus.state == .onLine || s.bus.state == .joining

/-! ## State changes of an entry -/

/-- An entry in a new state with every other run-time field absent, no or stopped; the list is kept (R27). -/
def Entry.moved (x : Entry) (st : EntryState) : Entry :=
  { Entry.start with state := st, requests := x.requests }

def enterUnknown (e : Fin 8) (s : State) : State := modEntry e (fun x => x.moved .unknown) s

/-- UNKNOWN after a lapse, with the lifetime timer started (R31, R42). -/
def enterUnknownLapsed (e : Fin 8) (s : State) : State :=
  modEntry e (fun x => { x.moved .unknown with lifetime := some (s.now + 3 * s.holdInterval) }) s

def enterFree (e : Fin 8) (s : State) : State := modEntry e (fun x => x.moved .free) s

/-- FREE with the retry hold-off running (R30). -/
def enterFreeHoldOff (e : Fin 8) (s : State) : State :=
  modEntry e (fun x => { x.moved .free with hold := some (s.now + s.holdInterval) }) s

/-- DEAD with the dead timer at D; a dead time of 0 ms passes through to FREE in the one event (R44). -/
def enterDead (e : Fin 8) (s : State) : State :=
  modEntry e (fun x => if s.deadTime e = 0 then x.moved .free
    else { x.moved .dead with dead := some (s.now + s.deadTime e) }) s

/-- HELD-REMOTE with the lifetime timer at 3H. -/
def enterHeldRemote (e : Fin 8) (h : Holder) (s : State) : State :=
  modEntry e (fun x => { x.moved .heldRemote with
    holder := some h, lifetime := some (s.now + 3 * s.holdInterval) }) s

/-! ## Group frames queued and withdrawn (R29, R30) -/

/-- A HOLD is offered. Its loss changes nothing in the entry (R30). -/
def offerHold (e : Fin 8) (c : Fin 8) (objection : Bool) (s : State) : State :=
  offerOnly (.hold (s.member e).group c objection) s

/-- A RELEASE is offered; a refusal ends as an abandonment does, in DEAD (R30). -/
def offerRelease (e : Fin 8) (c : Fin 8) (s : State) : State :=
  let (t, taken) := offer (.release (s.member e).group c) s
  if taken then t else enterDead e t

def withdrawClaim (e : Fin 8) (s : State) : State := withdrawFrames (isClaimOf (s.member e).group) s
def withdrawHold (e : Fin 8) (s : State) : State := withdrawFrames (isHoldOf (s.member e).group) s
def withdrawRelease (e : Fin 8) (s : State) : State := withdrawFrames (isReleaseOf (s.member e).group) s

/-- The channel a group frame of the entry names: the holder channel, or the claim channel (R29). -/
def Entry.frameChannel (x : Entry) : Fin 8 :=
  match x.holder with
  | some h => h.channel
  | none => x.claimChannel.getD 0

/-- A FREE entry claims: CLAIMING, naming the head of the list; a refused CLAIM leaves it FREE with the
retry hold-off (R29, R30, R32). -/
def claimGroup (e c : Fin 8) (s : State) : State :=
  let t := modEntry e (fun x => { x.moved .claiming with claimChannel := some c }) s
  let (u, taken) := offer (.claim (s.member e).group c) t
  if taken then u else enterFreeHoldOff e u

/-- The three conditions of R32 for a CLAIM: a waiting channel in FREE, ON-LINE, no hold-off. -/
def claimIfDue (e : Fin 8) (s : State) : State :=
  match s.entry e with
  | some x =>
    match x.requests with
    | c :: _ => if x.state == .free && s.onLine && x.hold.isNone then claimGroup e c s else s
    | [] => s
  | none => s

/-- A message to a channel. -/
def sendToChannel (c : Fin 8) (m : ToChannelMsg) (s : State) : State :=
  { s with channels := { s.channels with toChannels := s.channels.toChannels ++ [⟨c, m⟩] } }

/-- The revoke sent to the holder channel (R40). -/
def sendRevoke (x : Entry) (s : State) : State :=
  match x.holder with
  | some h => sendToChannel h.channel .revoke s
  | none => s

/-! ## "done" and the giving up of a holding (R35, R40, R42) -/

/-- The entry queues RELEASE and waits in RELEASING-LOCAL (R42 case 4). -/
def queueRelease (e : Fin 8) (x : Entry) (s : State) : State :=
  offerRelease e x.frameChannel (setEntry e { x with
    state := .releasingLocal, releaseQueued := true, hold := none, lapse := none, window := none } s)

/-- The holder channel's "done" in RELEASING-LOCAL, or a claim given up unused: the first case of R42
that applies (DEDUCED: log entry 14). -/
def settleDone (e : Fin 8) (x : Entry) (s : State) : State :=
  if !s.onLine then enterUnknown e s
  else if x.yielded then
    match x.conflict with
    | some h => enterHeldRemote e h s
    | none => enterUnknown e s
  else if x.lapsed then enterUnknownLapsed e s
  else queueRelease e x s

/-- A "done" from a channel reaches the entry (R40, R42). -/
def doneAt (e c : Fin 8) (s : State) : State :=
  match s.entry e with
  | none => s
  | some x =>
    let isHolder : Bool := match x.holder with | some h => h.channel == c | none => false
    match x.state with
    | .heldLocal => if isHolder then settleDone e x s else s
    | .releasingLocal => if isHolder && !x.releaseQueued then settleDone e x s else s
    | _ => s

/-- A request reaches the entry (R28). -/
def requestAt (e c : Fin 8) (s : State) : State :=
  modEntry e (fun x => if x.requests.contains c then x else { x with requests := x.requests ++ [c] }) s

/-- A cancel reaches the entry; in CLAIMING one that empties the list withdraws the CLAIM (R28, R33). -/
def cancelAt (e c : Fin 8) (s : State) : State :=
  match s.entry e with
  | none => s
  | some x =>
    let rest := x.requests.filter fun d => d != c
    let t := setEntry e { x with requests := rest } s
    if x.state == .claiming && x.requests.contains c && rest.isEmpty then
      enterFree e (withdrawClaim e t)
    else t

/-! ## Taken group frames (R31 to R45) -/

/-- The conflict of two holders, in HELD-LOCAL (with a revoke) or in RELEASING-LOCAL (R38, R41). -/
def yieldTo (e : Fin 8) (x : Entry) (h : Holder) (s : State) : State :=
  let t := raiseFlag .groupConflict s
  let t := if x.state == .heldLocal then sendRevoke x t else t
  let t := withdrawHold e t
  setEntry e { x with state := .releasingLocal, yielded := true, conflict := some h, hold := none,
                      lapse := none } t

/-- A foreign CLAIM at an entry. -/
def foreignClaim (e : Fin 8) (h : Holder) (s : State) : State :=
  match s.entry e with
  | none => s
  | some x =>
    match x.state with
    | .unknown | .free | .dead | .heldRemote => enterHeldRemote e h s
    | .claiming => enterHeldRemote e h (withdrawClaim e s)
    | .claimed | .heldLocal => offerHold e x.frameChannel true s
    | .releasingLocal =>
      if x.releaseQueued || !s.onLine then s
      else if x.yielded then setEntry e { x with conflict := some h } s
      else offerHold e x.frameChannel true s

/-- The own CLAIM taken: CLAIMING to CLAIMED (R33) (DEDUCED: log entry 15). -/
def ownClaim (e : Fin 8) (s : State) : State :=
  match s.entry e with
  | none => s
  | some x =>
    if x.state == .claiming then
      setEntry e { x with state := .claimed, window := some (s.now + s.claimWindow),
                          lapse := some (s.now + 2 * s.holdInterval) } s
    else s

/-- A foreign HOLD at an entry. -/
def foreignHold (e : Fin 8) (h : Holder) (objection : Bool) (s : State) : State :=
  match s.entry e with
  | none => s
  | some x =>
    match x.state with
    | .unknown | .free | .dead | .heldRemote => enterHeldRemote e h s
    | .claiming => enterHeldRemote e h (withdrawClaim e s)
    | .claimed =>
      let t := if objection then s else raiseFlag .groupConflict s
      enterHeldRemote e h (withdrawHold e t)
    | .heldLocal => yieldTo e x h s
    | .releasingLocal =>
      if !s.onLine then s
      else if x.releaseQueued then
        enterHeldRemote e h (raiseFlag .groupConflict (withdrawRelease e s))
      else if x.yielded then setEntry e { x with conflict := some h } s
      else yieldTo e x h s

/-- The own HOLD taken: the lapse timer restarts (R34, R36, R41) (DEDUCED: log entry 15). -/
def ownHold (e : Fin 8) (s : State) : State :=
  match s.entry e with
  | none => s
  | some x =>
    let restart := setEntry e { x with lapse := some (s.now + 2 * s.holdInterval) } s
    match x.state with
    | .claimed | .heldLocal => restart
    | .releasingLocal => if s.onLine && !x.yielded && !x.releaseQueued then restart else s
    | _ => s

/-- A foreign RELEASE at an entry. -/
def foreignRelease (e : Fin 8) (source : Station) (s : State) : State :=
  match s.entry e with
  | none => s
  | some x =>
    match x.state with
    | .unknown | .free => enterDead e s
    | .claiming => enterDead e (withdrawClaim e s)
    | .claimed => settleDone e x s
    | .heldRemote =>
      if (match x.holder with | some h => h.station == source | none => false) then enterDead e s else s
    | .dead | .heldLocal | .releasingLocal => s

/-- The own RELEASE taken (R32, R43) (DEDUCED: log entry 15). -/
def ownRelease (e : Fin 8) (s : State) : State :=
  match s.entry e with
  | none => s
  | some x =>
    match x.state with
    | .free => enterDead e s
    | .releasingLocal => if x.releaseQueued then enterDead e s else s
    | _ => s

/-- An effect on each membership entry of a group. -/
def onGroup (g : Fin 128) (f : Fin 8 → State → State) (s : State) : State :=
  each8 (fun e s => if (s.entry e).isSome && (s.member e).group == g then f e s else s) s

/-! ## Notices (R30) -/

/-- The own CLAIM abandoned while ON-LINE. -/
def claimAbandoned (e : Fin 8) (s : State) : State :=
  match s.entry e with
  | some x => if x.state == .claiming then enterFreeHoldOff e s else s
  | none => s

/-- The own RELEASE abandoned while ON-LINE: DEAD, as if taken. -/
def releaseAbandoned (e : Fin 8) (s : State) : State :=
  match s.entry e with
  | some x => if x.state == .releasingLocal && x.releaseQueued then enterDead e s else s
  | none => s

/-! ## Timers -/

/-- Hold timer expiry in HELD-LOCAL or RELEASING-LOCAL (R36, R41). -/
def holdExpiry (e : Fin 8) (s : State) : State :=
  match s.entry e with
  | none => s
  | some x =>
    let again := offerHold e x.frameChannel false
      (setEntry e { x with hold := some (s.now + s.holdInterval) } s)
    if x.hold.isNone then s
    else match x.state with
      | .heldLocal => again
      | .releasingLocal => if s.onLine && !x.yielded && !x.releaseQueued then again else s
      | _ => s

/-- End of the retry hold-off in FREE (R32). -/
def retryExpiry (e : Fin 8) (s : State) : State :=
  match s.entry e with
  | none => s
  | some x => if x.state == .free && x.hold.isSome then setEntry e { x with hold := none } s else s

/-- Lifetime expiry in HELD-REMOTE or UNKNOWN (R31, R45). -/
def lifetimeExpiry (e : Fin 8) (s : State) : State :=
  match s.entry e with
  | none => s
  | some x =>
    if x.lifetime.isSome && (x.state == .heldRemote || x.state == .unknown) then enterDead e s else s

/-- Claim window expiry: a grant to the head of the list, or the group released unused (R35). -/
def windowExpiry (e : Fin 8) (s : State) : State :=
  match s.entry e with
  | none => s
  | some x =>
    if x.state == .claimed && x.window.isSome then
      match x.requests with
      | c :: rest =>
        offerHold e c false (sendToChannel c .grant (setEntry e { x with
          state := .heldLocal, holder := some { station := s.loader.station, channel := c },
          requests := rest, window := none, hold := some (s.now + s.holdInterval) } s))
      | [] => settleDone e x s
    else s

/-- Dead time ends (R44). -/
def deadExpiry (e : Fin 8) (s : State) : State :=
  match s.entry e with
  | none => s
  | some x => if x.state == .dead && x.dead.isSome then enterFree e s else s

/-- Lapse expiry: a revocation in HELD-LOCAL, lapsed set in RELEASING-LOCAL (R39, R41). -/
def lapseExpiry (e : Fin 8) (s : State) : State :=
  match s.entry e with
  | none => s
  | some x =>
    if x.lapse.isNone then s
    else match x.state with
      | .heldLocal =>
        sendRevoke x (setEntry e { x with state := .releasingLocal, lapsed := true, lapse := none } s)
      | .releasingLocal =>
        if x.releaseQueued then s else setEntry e { x with lapsed := true, lapse := none } s
      | _ => s

/-! ## Bus states (R47, R48, R49) -/

/-- Leaving ON-LINE or JOINING (R47). -/
def groupLeaves (e : Fin 8) (s : State) : State :=
  match s.entry e with
  | none => s
  | some x =>
    match x.state with
    | .heldLocal =>
      sendRevoke x (setEntry e { x with
        state := .releasingLocal, lapsed := true, hold := none, lapse := none } s)
    | .releasingLocal =>
      if x.releaseQueued then enterUnknown e s
      else setEntry e { x with lapsed := true, hold := none, lapse := none } s
    | .unknown | .free | .dead | .heldRemote | .claiming | .claimed => enterUnknown e s

/-- Entry to ON-LINE (R48). -/
def groupOnLine (e : Fin 8) (s : State) : State :=
  match s.entry e with
  | none => s
  | some x =>
    match x.state with
    | .unknown => enterFree e s
    | .releasingLocal =>
      if !x.yielded && !x.releaseQueued then
        offerHold e x.frameChannel false (setEntry e { x with
          hold := some (s.now + s.holdInterval), lapse := some (s.now + 2 * s.holdInterval) } s)
      else s
    | _ => s

/-- A HELLO from another station while ON-LINE: the holdings are announced (R49). -/
def groupHello (e : Fin 8) (s : State) : State :=
  match s.entry e with
  | none => s
  | some x =>
    match x.state with
    | .heldLocal => offerHold e x.frameChannel false s
    | .releasingLocal =>
      if !x.yielded && !x.releaseQueued then offerHold e x.frameChannel false s else s
    | _ => s

end Sys2Proof.Machine
end

