-- ==== Sys2Proof/Machine/Zones.lean ====
section
/-! DEFINITION. The Zone Table: trips, clears, the SHUTDOWN field (chapter 4), and the Sense Inputs that
feed it (section 5.1). -/

namespace Sys2Proof.Machine

open Sys2Proof

def State.zone (s : State) (z : Fin 8) : Zone := s.zones.zones.get z

def setZone (z : Fin 8) (x : Zone) (s : State) : State :=
  { s with zones := { s.zones with zones := s.zones.zones.set z x } }

/-! ## Tripping (R62 to R66) -/

/-- The cause TRIP forced on the enabled channels of a zone (R64). -/
def forceTrip (z : Fin 8) (s : State) : State :=
  each8 (fun c s => if (s.cfg c).enabled && (s.cfg c).zone == some z then forceCause .trip c s else s) s

/-- A zone entry takes a trip's station and cause; from CLEAR it enters TRIPPED, with ZONE-CHANGE and
TRIP forced (R60, R64). -/
def tripZone (z : Fin 8) (station : Station) (cause : TripCause) (s : State) : State :=
  let x := s.zone z
  let t := setZone z { x with tripped := true, station := some station, cause := some cause } s
  if x.tripped then t else forceTrip z (setZoneChange t)

/-- TRIP is queued in ON-LINE alone, with a mask that names a zone (R63, R70). -/
def queueTrip (zones : Byte) (cause : TripCause) (s : State) : State :=
  if s.onLine && zones != 0 then offerOnly (.trip zones cause) s else s

/-- The mask of one zone. -/
def zoneMask (z : Fin 8) : Byte := 1#8 <<< z.val

/-- Some trip input of the zone has its debounced level at its active level (R61). -/
def State.tripSource (s : State) (z : Fin 8) : Bool :=
  eightIndices.any fun n => (s.config.inputs.get n).role == .trip z && s.senseOn n

/-- A trip input becomes active (R62). -/
def tripInputActive (z : Fin 8) (s : State) : State :=
  let t := setZone z { s.zone z with localActive := true } s
  removeFromClear z (queueTrip (zoneMask z) .input (tripZone z s.loader.station .input t))

/-- A trip input becomes inactive: local source active is recomputed (R61). -/
def tripInputInactive (z : Fin 8) (s : State) : State :=
  setZone z { s.zone z with localActive := s.tripSource z } s

/-- The host's TRIP ZONES at one zone: a zone held by a local input keeps its station and cause (R65). -/
def hostTripZone (z : Fin 8) (s : State) : State :=
  let x := s.zone z
  removeFromClear z
    (if x.localActive then tripZone z (x.station.getD s.loader.station) (x.cause.getD .input) s
     else tripZone z s.loader.station .host s)

/-- An effect on each zone of a mask, by number. -/
def onZones (mask : Byte) (f : Fin 8 → State → State) (s : State) : State :=
  each8 (fun z s => if maskBit mask z then f z s else s) s

/-- TRIP ZONES (R65). -/
def hostTripZones (mask : Byte) (s : State) : State :=
  queueTrip mask .host (onZones mask hostTripZone s)

/-- A taken TRIP at one zone (R66). -/
def takenTripZone (source : Station) (cause : TripCause) (z : Fin 8) (s : State) : State :=
  let x := s.zone z
  if x.tripped && x.localActive then s else tripZone z source cause s

/-! ## Clearing (R67, R68) -/

/-- The zones of a mask without an active local source. -/
def withoutLocal (mask : Byte) (s : State) : Byte :=
  mask &&& ~~~maskOf (Eight.of fun z => (s.zone z).localActive)

/-- CLEAR is queued in ON-LINE alone, for the zones without an active local source (R63, R67). -/
def queueClear (mask : Byte) (s : State) : State :=
  if s.onLine && withoutLocal mask s != 0 then offerOnly (.clear (withoutLocal mask s)) s else s

/-- TRIP withdrawn from every channel of a zone, enabled or not (R68). -/
def withdrawTrip (z : Fin 8) (s : State) : State :=
  each8 (fun c s => if (s.cfg c).zone == some z then withdrawCause .trip c s else s) s

/-- A taken CLEAR at one zone: a re-trip with an active local source, a clear without (R68). -/
def takenClearZone (z : Fin 8) (s : State) : State :=
  let x := s.zone z
  if x.localActive then
    queueTrip (zoneMask z) .input (tripZone z s.loader.station .input s)
  else if x.tripped then
    removeFromTrip z (withdrawTrip z (setZoneChange
      (setZone z { x with tripped := false, station := none, cause := none } s)))
  else s

/-! ## Bus states and lost frames (R70, R71) -/

/-- The zones that meet a test, as a mask. -/
def zonesWhere (p : Zone → Bool) (s : State) : Byte := maskOf (Eight.of fun z => p (s.zone z))

/-- Entry to ON-LINE: TRIP for the zones with an active local source (R70). -/
def zonesOnLine (s : State) : State := queueTrip (zonesWhere Zone.localActive s) .input s

/-- A HELLO from another station while ON-LINE: TRIP with cause REASSERT for every tripped zone (R71). -/
def zonesHello (s : State) : State := queueTrip (zonesWhere Zone.tripped s) .reassert s

/-- The own TRIP abandoned: a new TRIP for the zones still tripped (R70). -/
def tripAbandoned (zones : Byte) (cause : TripCause) (s : State) : State :=
  queueTrip (zones &&& zonesWhere Zone.tripped s) cause s

/-! ## SHUTDOWN (R72, R73) -/

def forceShutdown (s : State) : State := each8 (forceCause .shutdown) s
def withdrawShutdown (s : State) : State := each8 (withdrawCause .shutdown) s

/-- The shutdown field changes. While the logic die is held in reset only the field follows the pin; in
LOADING and CONFIG-FAULT the field and ZONE-CHANGE; while RUNNING the channels too (R60, R72, R73)
(DEDUCED: log entry 8). -/
def shutdownChange (b : Bool) (s : State) : State :=
  if s.zones.shutdown == b then s
  else
    let t := { s with zones := { s.zones with shutdown := b } }
    if s.held then t
    else
      let t := setZoneChange t
      if s.running then (if b then forceShutdown t else withdrawShutdown t) else t

/-! ## Sense Inputs (R75, R76, R77) -/

def setInput (n : Fin 8) (x : SenseInput) (s : State) : State := { s with inputs := s.inputs.set n x }

/-- A sense pin changes level: the debounce timer starts or stops (R76). -/
def pinChange (n : Fin 8) (s : State) : State :=
  let x := s.inputs.get n
  let pin := !x.pin
  if s.running && (s.config.inputs.get n).role != .unused then
    setInput n { x with pin := pin,
                        timer := if pin == x.level then none
                                 else some (s.now + 1000 * s.config.debounce) } s
  else setInput n { x with pin := pin } s

/-- A trip or clear input's change reaches the Zone Table (R61, R62, R67). -/
def inputToZones (n : Fin 8) (s : State) : State :=
  match (s.config.inputs.get n).role with
  | .trip z => if s.senseOn n then tripInputActive z s else tripInputInactive z s
  | .clear mask => if s.senseOn n then queueClear mask s else s
  | .unused | .publish => s

/-- A debounced level's change, handed to Channel Logic, the Zone Table and the Publication Table (R77)
(DESIGN CHOICE: log entry 20). -/
def inputChanged (n : Fin 8) (s : State) : State :=
  pendSource (.sense n) (inputToZones n (evaluateUsers (· == .sense n) s))

/-- Debounce expiry: the debounced level takes the pin level (R76). -/
def debounceExpires (n : Fin 8) (s : State) : State :=
  let x := s.inputs.get n
  if x.timer.isSome then
    inputChanged n (setInput n { x with level := x.pin, timer := none } s)
  else s

/-- The first debounced level of RUNNING entry (R75). -/
def firstLevel (x : SenseInput) (cfg : InputConfig) : SenseInput :=
  { x with level := if cfg.role == .unused then !cfg.activeHigh else x.pin, timer := none }

/-- A first level that is active reaches the Zone Table as an input becoming active (R61, R75). -/
def firstInputToZones (n : Fin 8) (s : State) : State :=
  if s.senseOn n then inputToZones n s else s

end Sys2Proof.Machine
end

