-- ==== Sys2Proof/Machine/Points.lean ====
section
/-! DEFINITION. The Point Image and the Publication Table (chapter 5), and the Mark Timer (chapter 3). -/

namespace Sys2Proof.Machine

open Sys2Proof

/-! ## The Point Image (R80 to R83) -/

/-- The last pair of a frame that names a point, and how many name it. -/
def lastValue (point : Fin 512) (pairs : List PointPair) : Option Bool :=
  (pairs.filter fun p => p.point == point).getLast?.map PointPair.value
def timesNamed (point : Fin 512) (pairs : List PointPair) : Nat :=
  (pairs.filter fun p => p.point == point).length

/-- An entry takes a value from its expected publisher (R81). -/
def Subscription.take (e : Subscription) (v : Bool) (deadline : Nat) (mark : Half) : Subscription :=
  { e with age := .fresh, value := some v, timer := some deadline,
           lastChange := if e.value == some v then e.lastChange else some mark }

/-- An entry counts the pairs of another station (R82). -/
def Subscription.countForeign (e : Subscription) (n : Nat) : Subscription :=
  { e with foreignCount := min 255 (e.foreignCount + n) }

/-- One entry at a taken POINTS frame (R80). -/
def takePoints (s : State) (source : Station) (pairs : List PointPair) (cfg : SubscriptionConfig)
    (e : Subscription) : Subscription :=
  match lastValue cfg.point pairs with
  | none => e
  | some v =>
    if source = cfg.publisher then e.take v (s.now + 50000 * cfg.lifetime) s.marks.number
    else e.countForeign (timesNamed cfg.point pairs)

/-- Two lists zipped by a function; the second list's tail stays where the first is shorter. -/
def zipKeep {α β : Type} (f : α → β → β) : List α → List β → List β
  | a :: as, b :: bs => f a b :: zipKeep f as bs
  | _, bs => bs

/-- A frame names an entry from another station than its expected publisher (R82). -/
def namesForeign (source : Station) (pairs : List PointPair) (cfg : SubscriptionConfig) : Bool :=
  cfg.publisher != source && pairs.any fun p => p.point == cfg.point

/-- Entry i differs in state or value between two moments. -/
def entryChanged (before after : List Subscription) (i : Nat) : Bool :=
  match before[i]?, after[i]? with
  | some a, some b => a.age != b.age || a.value != b.value
  | _, _ => false

/-- Entry i became FRESH between two moments. -/
def becameFresh (before after : List Subscription) (i : Nat) : Bool :=
  match before[i]?, after[i]? with
  | some a, some b => a.age != .fresh && b.age == .fresh
  | _, _ => false

/-- A test on subscription entries as a test on term sources. -/
def onEntryIndex (p : Nat → Bool) (t : TermSource) : Bool :=
  match t with
  | .subscription i => p i
  | _ => false

/-- A taken POINTS frame: every entry it names acts, then the channels see all the changes together (R80 to R82). -/
def pointsAtImage (source : Station) (pairs : List PointPair) (s : State) : State :=
  let before := s.points
  let after := zipKeep (takePoints s source pairs) s.config.subscriptions s.points
  let t := { s with points := after }
  let t := if s.config.subscriptions.any (namesForeign source pairs) then raiseFlag .foreignPublisher t else t
  let t := each8 (setHoldOvers (becameFresh before after) none) t
  evaluateUsers (onEntryIndex (entryChanged before after)) t

/-- Age timer expiry: FRESH to STALE, hold-over timers start, demand is evaluated (R4, R83). -/
def ageExpiry (i : Nat) (s : State) : State :=
  match s.points[i]? with
  | none => s
  | some e =>
    if e.age == .fresh && e.timer.isSome then
      let t := { s with points := modifyAt s.points i fun e => { e with age := .stale, timer := none } }
      evaluateUsers (onEntryIndex (· == i)) (each8 (startHoldOvers (· == i)) t)
    else s

/-! ## The Publication Table (R85 to R91) -/

/-- A publication's source value (R86). -/
def sourceValue (s : State) (src : PubSource) : Bool :=
  match src with
  | .sense n => s.senseOn n
  | .hostPoint n => s.host.points.get n
  | .feedback n => (s.chan n).state.confirmedOn
  | .faultAny n => (s.faultRec n).live.any
  | .nodeError => s.err

/-- The pairs of the first pending entries, lowest index first, up to a number of them (R89). -/
def pendingPairs (s : State) : Nat → List PublicationConfig → List Publication → List PointPair
  | n + 1, c :: cs, e :: es =>
    if e.waiting then ⟨c.point, sourceValue s c.source⟩ :: pendingPairs s n cs es
    else pendingPairs s (n + 1) cs es
  | _, _, _ => []

/-- The first pending entries, up to a number, leave the pending set and restart their refresh timers. -/
def takePending (deadline : Nat) : Nat → List Publication → List Publication
  | n + 1, e :: es =>
    if e.waiting then { e with waiting := false, timer := some deadline } :: takePending deadline n es
    else e :: takePending deadline (n + 1) es
  | _, es => es

def setPubs (es : List Publication) (s : State) : State := { s with pubs := { s.pubs with entries := es } }
def setPubBlocked (b : Bool) (s : State) : State := { s with pubs := { s.pubs with blocked := b } }

/-- The pairs that one POINTS frame carries at most. -/
def pairsPerFrame : Nat := 7

/-- A POINTS frame is built when the three conditions hold (R89). The entries carried leave the pending set
before the offer, so that a change which the offer itself brings about makes them pending again (R87). A
refusal leaves them pending and sets build blocked (R90). -/
def buildPoints (s : State) : State :=
  let pairs := pendingPairs s pairsPerFrame s.config.publications s.pubs.entries
  if !s.queues isPoints && s.onLine && !s.pubs.blocked && !pairs.isEmpty then
    let (t, taken) := offer (.points pairs)
      (setPubs (takePending (s.now + 50000 * s.config.refresh) pairsPerFrame s.pubs.entries) s)
    if taken then t else setPubBlocked true (offerOnly (.points pairs) s)
  else s

/-- The own POINTS frame was taken: last sent values (R90). -/
def pointsSent (pairs : List PointPair) (s : State) : State :=
  setPubs (zipKeep (fun c e =>
    match lastValue c.point pairs with
    | some v => { e with lastSent := some v }
    | none => e) s.config.publications s.pubs.entries) s

/-- Every entry becomes pending (R91). -/
def pendAll (s : State) : State := pendPublications (fun _ => true) s

/-- Refresh timer expiry (R88). -/
def refreshExpiry (i : Nat) (s : State) : State :=
  setPubs (modifyAt s.pubs.entries i fun e =>
    if e.timer.isSome then { e with waiting := true, timer := none } else e) s

/-! ## The Mark Timer (R52 to R59) -/

def setMarks (m : MarkTimer) (s : State) : State := { s with marks := m }

/-- P plus the takeover step, in µs (R52). -/
def State.markInterval (s : State) : Nat :=
  1000 * s.config.mark + Config.takeoverStep * s.loader.station.val

/-- A mark with a number: the number adopted, mark queued no, the timer restarted, one mark event (R53 to R55). -/
def takeMark (n : Half) (s : State) : State :=
  markEvent (setMarks { number := n, timer := some (s.now + s.markInterval), queued := false } s)

/-- A STATUS is due at this mark number: it equals the own station number modulo 32 (R58). -/
def State.statusDue (s : State) (n : Half) : Bool := n.toNat % 32 == s.loader.station.val % 32

/-- A taken MARK (R53). -/
def markAtTimer (own : Bool) (n : Half) (s : State) : State :=
  let t := if s.marks.queued && !own then withdrawFrames isMark s else s
  let t := takeMark n t
  if t.onLine && t.statusDue n then sendStatus t else t

/-- Mark timer expiry: a MARK queued in ON-LINE, a local mark otherwise (R54). A refused MARK, which no
full queue makes (R55), is taken locally as any MARK that is not sent. -/
def markExpiry (s : State) : State :=
  if s.marks.timer.isNone then s
  else if s.onLine then
    let n := s.marks.number + 1
    let (t, taken) := offer (.mark n) (setMarks { s.marks with timer := none, queued := true } s)
    if taken then t else takeMark n t
  else takeMark (s.marks.number + 1) s

/-! ## Frames due after an event -/

/-- The frames that an event leaves due: CLAIMs of FREE entries (R32), FAULT frames (R148), a POINTS
frame (R89), in the order of their kind codes (log entry 5). -/
def buildDue (s : State) : State :=
  buildPoints (buildFaults (each8 claimIfDue s))

end Sys2Proof.Machine
end

