-- ==== Sys2Proof/Machine/Bus.lean ====
section
/-! DEFINITION. The Peer Bus Controller: bus states, the bus fault score, attempts, frames read and their
dispatch (chapters 6 and 7). -/

namespace Sys2Proof.Machine

open Sys2Proof

def setBus (b : Bus) (s : State) : State := { s with bus := b }

/-- The PBC reads the frames that pass: JOINING, ON-LINE, MUTED or BARRED (R96). -/
def BusState.takesFrames (b : BusState) : Bool :=
  match b with
  | .joining | .onLine | .muted | .barred => true
  | .disabled | .offLine => false

/-! ## Notices for frames that end untaken (R30, R55, R70, R90, R107, R113, R148) -/

/-- The notice "flushed" for one frame. -/
def flushedNotice (f : Frame) (s : State) : State :=
  match f with
  | .mark n => takeMark n s
  | .points ps => pendPairs ps s
  | .fault c _ _ _ => setFaultWaiting true c s
  | _ => s

def flushedNotices : List Queued → State → State
  | [], s => s
  | q :: qs, s => flushedNotices qs (flushedNotice q.frame s)

/-- The HELLO abandoned: HELLO-HOLD-OFF with the join timer at H (R113). -/
def helloAbandoned (s : State) : State :=
  if s.bus.phase == some .helloQueued then
    setBus { s.bus with phase := some .helloHoldOff, joinTimer := some (s.now + s.holdInterval) } s
  else s

/-- The notice "abandoned" for one frame. -/
def abandonedNotice (f : Frame) (s : State) : State :=
  match f with
  | .mark n => takeMark n s
  | .trip z c => tripAbandoned z c s
  | .claim g _ => onGroup g claimAbandoned s
  | .release g _ => onGroup g releaseAbandoned s
  | .points ps => pendPairs ps s
  | .fault c _ _ _ => setFaultWaiting true c s
  | .hello _ _ => helloAbandoned s
  | .clear _ | .hold _ _ _ | .faultAck _ _ _ _ | .status _ => s

/-! ## Changes of bus state (R106, R111 to R119) -/

/-- The queue flushed, with each owner's answer to the notice (R106). -/
def flushQueue (s : State) : State :=
  let q := s.bus.queue
  if q.isEmpty then s else flushedNotices q (roomNotice (setQueue [] s))

/-- Leaving JOINING or ON-LINE: the flush, the Group Table, the Publication Table (R47, R91, R106). -/
def leaveTraffic (s : State) : State := setPubBlocked false (each8 groupLeaves (flushQueue s))

/-- Entry to MUTED, OFF-LINE or BARRED from a state of the bus (R106, R116, R118, R119, R120). -/
def enterSilent (b : BusState) (s : State) : State :=
  let t := setFaultBlocked false (setBus { s.bus with
    state := b, phase := none, joinTimer := none, gapSeen := false,
    offLineTimer := if b == .offLine then some (s.now + Config.offLineTime) else none } s)
  setFlagLive .busDegraded true (if s.learns then leaveTraffic t else t)

/-- A HELLO with a fresh token (R112). -/
def offerHello (s : State) : State :=
  offerOnly (.hello s.bus.joinCounter s.config.signature)
    (setBus { s.bus with phase := some .helloQueued, joinTimer := none } s)

/-- Entry to JOINING (R112). -/
def enterJoining (s : State) : State :=
  offerHello (setFlagLive .busDegraded false (setFaultBlocked false
    (setBus { s.bus with state := .joining, gapSeen := false, offLineTimer := none } s)))

/-- Entry to ON-LINE: the Group Table, the Zone Table, Fault Records and the Publication Table act
(R48, R70, R91, R114, R148). -/
def enterOnLine (s : State) : State :=
  let t := setPubBlocked false (setFaultBlocked false
    (setBus { s.bus with state := .onLine, phase := none, joinTimer := none, gapSeen := false } s))
  pendAll (pendStickyFaults (zonesOnLine (each8 groupOnLine t)))

/-! ## The bus fault score (R108, R116 to R118) -/

def setScore (n : Nat) (s : State) : State := setBus { s.bus with score := n } s

/-- The comparison that follows every change of the score. -/
def judgeScore (s : State) : State :=
  match s.bus.state with
  | .joining | .onLine =>
    if 200 ≤ s.bus.score then enterSilent .offLine s
    else if 96 ≤ s.bus.score then enterSilent .muted s
    else s
  | .muted =>
    if s.bus.score ≤ 32 then enterJoining s
    else if 200 ≤ s.bus.score then enterSilent .offLine s
    else s
  | .disabled | .offLine | .barred => s

def raiseScore (n : Nat) (s : State) : State := setScore (min 255 (s.bus.score + n)) s
def lowerScore (s : State) : State := setScore (s.bus.score - 1) s

/-! ## Taken frames (R97 to R99) -/

/-- A frame's effect at the owner of its kind. `own` tells a self-delivered frame (R97). -/
def atOwner (own : Bool) (source : Station) (f : Frame) (s : State) : State :=
  match f with
  | .mark n => markAtTimer own n s
  | .trip z c => onZones z (takenTripZone source c) s
  | .clear z => onZones z takenClearZone s
  | .claim g c =>
    if s.learns then onGroup g (if own then ownClaim else fun e => foreignClaim e ⟨source, c⟩) s else s
  | .hold g c o =>
    if s.learns then onGroup g (if own then ownHold else fun e => foreignHold e ⟨source, c⟩ o) s else s
  | .release g _ =>
    if s.learns then onGroup g (if own then ownRelease else fun e => foreignRelease e source) s else s
  | .points ps => pointsAtImage source ps s
  | .fault c l st m => appendFault source c l st m s
  | .faultAck t ch k n => if t = s.loader.station then acknowledge ch k n s else s
  | .status i => modPeer source (fun p => { p with status := some ⟨i, s.marks.number⟩ }) s
  | .hello _ sig =>
    let t := if !own && s.onLine then pendAll (zonesHello (each8 groupHello s)) else s
    modPeer source (fun p => { p with signature := some sig }) t

/-- Dispatch: the owner, then the presence of the source (R99, R153). -/
def dispatch (own : Bool) (source : Station) (f : Frame) (s : State) : State :=
  refreshPeer source (atOwner own source f s)

/-- The node reads the line: it is in a state that takes frames, and the line has been idle for the gap
since entry to it (R93, R96) (DESIGN CHOICE: log entry 10). -/
def State.listens (s : State) : Bool := s.bus.state.takesFrames && s.bus.gapSeen

/-- The node reads a frame that is not taken, a bad or a rejected one: no attempt of its own is on the line
(R96, R106) (DEDUCED: log entry 11). -/
def State.reads (s : State) : Bool := s.listens && s.bus.attempt.isNone

/-- The node takes a frame that bears a source station. An attempt of its own may already be on the line: the
other frame's taking then reaches the tables before the attempt ends (R43, R69, R104). A frame of the own
station number is the attempt's own then (R97, R119) (DEDUCED: log entry 11). -/
def State.takesFrom (source : Station) (s : State) : Bool :=
  s.listens && (s.bus.attempt.isNone || source != s.loader.station)

def setRejecting (b : Bool) (s : State) : State := setBus { s.bus with rejecting := b } s

/-- A duplicate of the own station number (R119). -/
def duplicateFound (s : State) : State :=
  match s.bus.state with
  | .joining | .onLine | .muted => enterSilent .barred (raiseFlag .duplicateStation s)
  | .barred => raiseFlag .duplicateStation s
  | .disabled | .offLine => s

/-- A good frame taken from another sender (R96 to R98, R119): the score first, then the malformed test,
the duplicate check, and the dispatch (DEDUCED: log entry 13). -/
def hear (kind : Nat) (source : Station) (payload : List Byte) (s : State) : State :=
  if !s.takesFrom source then s
  else
    let t := judgeScore (lowerScore (setRejecting false s))
    buildDue (match (if source = 0 ∨ source = 63 then none else Frame.parse kind payload) with
      | none => raiseFlag .malformedFrame t
      | some f => if source = s.loader.station then duplicateFound t else dispatch false source f t)

/-- A bad frame that the node reads (R96, R108). -/
def hearBad (s : State) : State :=
  if !s.reads then s else buildDue (judgeScore (raiseScore 1 (setRejecting s.learns s)))

/-- A frame read to its end, judged by its own content (R96, R169). -/
def readFrame (f : FrameRead) (s : State) : State :=
  if FrameRead.isBad f then hearBad s else hear f.kind.toNat f.source f.payload s

/-- A good frame that another station rejected: discarded, the score unchanged (R96). -/
def hearRejected (s : State) : State := if !s.reads then s else setRejecting false s

/-! ## Own attempts (R93 to R95, R104, R105) -/

/-- The level of the line in one key bit, true for recessive: dominant where any station drives it (R93, R94).
`others` are the bits that the other stations have yet to send. -/
def lineLevel (own : Bool) (others : List (List Bool)) : Bool := own && others.all fun o => o.headD true

/-- The other stations that go on after a key bit: one that sent recessive and read dominant stops (R94). -/
def stillSending (line : Bool) (others : List (List Bool)) : List (List Bool) :=
  (others.filter fun o => o.headD true == line).map List.tail

/-- Arbitration, key bit by key bit: a station that sends recessive and reads dominant has lost; one that meets
no dominant bit that it did not send itself goes on (R94). -/
def passesArbitration (own : List Bool) (others : List (List Bool)) : Bool :=
  match own with
  | [] => true
  | b :: bs =>
    let line := lineLevel b others
    if b && !line then false else passesArbitration bs (stillSending line others)

/-- An own frame passes arbitration against the keys that the other stations offer in the same gap (R94). -/
def State.passes (s : State) (f : Frame) (rivals : List Key) : Bool :=
  passesArbitration (bitsOf (f.key s.loader.station)) (rivals.map bitsOf)

/-- The idle gap: the head is offered, and its attempt is on the line, with the check of its content, if it
passes arbitration; else the queue, the retry counts and the score stay (R94, R169)
(DESIGN CHOICE: log entry 10). -/
def offerHead (rivals : List Key) (s : State) : State :=
  if !s.bus.state.takesFrames || s.bus.attempt.isSome then s
  else
    let t := setBus { s.bus with gapSeen := true } s
    match s.bus.queue with
    | [] => t
    | q :: qs =>
      if s.learns && s.passes q.frame rivals then
        setBus { t.bus with
          attempt := some q.frame, sent := some (Frame.onLine s.loader.station q.frame),
          queue := { q with onLine := true } :: qs } t
      else t

/-- The entry of the attempt, after one more failure. -/
def Queued.failed (q : Queued) : Queued :=
  if q.onLine then { q with retries := q.retries + 1, onLine := false } else q

/-- The retry count at which a frame is abandoned (R105). -/
def retryLimit : Nat := 16

/-- The frames whose retry count has reached the limit leave the queue with their notices (R105)
(DEDUCED: log entry 13). -/
def abandonDue (s : State) : State :=
  match s.bus.queue.find? fun q => retryLimit ≤ q.retries with
  | none => s
  | some q =>
    abandonedNotice q.frame (raiseFlag .frameAbandoned
      (roomNotice (setQueue (s.bus.queue.filter fun q => q.retries < retryLimit) s)))

/-- An own attempt fails, by collision or by a reject mark (R95, R104, R105, R108). -/
def failAttempt (s : State) : State :=
  if s.bus.attempt.isNone then s
  else
    let t := raiseScore 8 (setBus { s.bus with attempt := none, queue := s.bus.queue.map Queued.failed } s)
    buildDue (judgeScore (abandonDue t))

/-- What the queue entry holds that the taken frame did not carry (R104) (DEDUCED: log entry 37). -/
def residue (entry taken : Frame) : Option Frame :=
  match entry, taken with
  | .trip z c, .trip z' _ => if z &&& ~~~z' = 0 then none else some (.trip (z &&& ~~~z') c)
  | .clear z, .clear z' => if z &&& ~~~z' = 0 then none else some (.clear (z &&& ~~~z'))
  | .hold g c o, .hold _ _ o' => if o && !o' then some (.hold g c true) else none
  | .status i, .status i' => if i = i' then none else some (.status i)
  | _, _ => none

/-- The queue after the attempt's frame is taken: its entry leaves, or stays with the residue alone
(DEDUCED: log entry 37). -/
def settleTaken (taken : Frame) : List Queued → List Queued
  | [] => []
  | q :: qs =>
    if q.onLine then
      match residue q.frame taken with
      | some f => { q with frame := f, retries := 0, onLine := false } :: qs
      | none => qs
    else q :: settleTaken taken qs

/-- The notice "taken" (R90, R107, R113). The other owners act on the self-delivery alone. -/
def takenNotice (f : Frame) (s : State) : State :=
  match f with
  | .points ps => pointsSent ps s
  | .hello _ _ =>
    if s.bus.phase == some .helloQueued then
      setBus { s.bus with phase := some .joinWait, joinTimer := some (s.now + s.holdInterval) } s
    else s
  | _ => s

/-- The own frame on the line is taken (R95): out of the queue, the score, self-delivery, the notice. -/
def completeAttempt (f : Frame) (s : State) : State :=
  let queued := s.bus.queue.any Queued.onLine
  let rest := settleTaken f s.bus.queue
  let t := setBus { s.bus with attempt := none, queue := rest } s
  let t := if rest.length < s.bus.queue.length then roomNotice t else t
  let t := dispatch true s.loader.station f (judgeScore (lowerScore t))
  buildDue (if queued then takenNotice f t else t)

/-- A frame of a kind code is taken: the own attempt's, or another sender's. -/
def takeFrame (kind : Nat) (a : Arrival) (s : State) : State :=
  match a with
  | .heard source payload => hear kind source payload s
  | .own =>
    match s.bus.attempt with
    | some f => if f.code = kind then completeAttempt f s else s
    | none => s

/-! ## Timers of the bus state (R113, R114, R118) -/

/-- Join timer expiry in JOIN-WAIT. -/
def joinWaitEnds (s : State) : State :=
  if s.bus.state == .joining && s.bus.phase == some .joinWait && s.bus.joinTimer.isSome then
    buildDue (enterOnLine s)
  else s

/-- Join timer expiry in HELLO-HOLD-OFF. -/
def helloHoldOffEnds (s : State) : State :=
  if s.bus.state == .joining && s.bus.phase == some .helloHoldOff && s.bus.joinTimer.isSome then
    offerHello s
  else s

/-- Off-line timer expiry: score 40, MUTED. -/
def offLineEnds (s : State) : State :=
  if s.bus.state == .offLine && s.bus.offLineTimer.isSome then enterSilent .muted (setScore 40 s) else s

end Sys2Proof.Machine
end

