-- ==== Sys2Proof/Machine/BusEvents.lean ====
section
/-! DEFINITION. The commands of the peer bus (chapters 6 and 7). -/

namespace Sys2Proof.Machine

open Sys2Proof

/-- The line has been idle for the gap: the head of the queue is offered, and wins or loses arbitration against
the keys of the other stations' frames (R93, R94). -/
def execFrameOffer (rivals : List Key) (s : State) : Host.Outcome State Fault Refusal :=
  .next (offerHead rivals s)

/-- The own attempt meets a collision (R95). -/
def execAttemptCollision (s : State) : Host.Outcome State Fault Refusal :=
  .next (failAttempt s)

/-- The own frame is sent whole and meets a reject mark (R95). -/
def execAttemptRejected (s : State) : Host.Outcome State Fault Refusal :=
  .next (failAttempt s)

/-- A frame is read to its end; it is bad, or it is judged as the good frame it is (R96). -/
def execBadFrameReceived (f : FrameRead) (s : State) : Host.Outcome State Fault Refusal :=
  .next (readFrame f s)

/-- A good frame is rejected by another station (R96). -/
def execFrameRejectedByOther (s : State) : Host.Outcome State Fault Refusal :=
  .next (hearRejected s)

/-- A MARK is taken (R53). -/
def execMarkTaken (a : Arrival) (s : State) : Host.Outcome State Fault Refusal :=
  .next (takeFrame 0 a s)

/-- A TRIP is taken (R66). -/
def execTripTaken (a : Arrival) (s : State) : Host.Outcome State Fault Refusal :=
  .next (takeFrame 1 a s)

/-- A CLEAR is taken (R68). -/
def execClearTaken (a : Arrival) (s : State) : Host.Outcome State Fault Refusal :=
  .next (takeFrame 2 a s)

/-- A CLAIM is taken (R31 to R45). -/
def execClaimTaken (a : Arrival) (s : State) : Host.Outcome State Fault Refusal :=
  .next (takeFrame 5 a s)

/-- A HOLD is taken (R31 to R45). -/
def execHoldTaken (a : Arrival) (s : State) : Host.Outcome State Fault Refusal :=
  .next (takeFrame 4 a s)

/-- A RELEASE is taken (R31 to R45). -/
def execReleaseTaken (a : Arrival) (s : State) : Host.Outcome State Fault Refusal :=
  .next (takeFrame 3 a s)

/-- A POINTS frame is taken (R80). -/
def execPointsTaken (a : Arrival) (s : State) : Host.Outcome State Fault Refusal :=
  .next (takeFrame 8 a s)

/-- A FAULT frame is taken (R152). -/
def execFaultTaken (a : Arrival) (s : State) : Host.Outcome State Fault Refusal :=
  .next (takeFrame 7 a s)

/-- A FAULT-ACK is taken (R147, R99). -/
def execFaultAckTaken (a : Arrival) (s : State) : Host.Outcome State Fault Refusal :=
  .next (takeFrame 6 a s)

/-- A STATUS is taken (R154). -/
def execStatusTaken (a : Arrival) (s : State) : Host.Outcome State Fault Refusal :=
  .next (takeFrame 9 a s)

/-- A HELLO is taken (R115). -/
def execHelloTaken (a : Arrival) (s : State) : Host.Outcome State Fault Refusal :=
  .next (takeFrame 10 a s)

/-- OFF-LINE recovery ends (R118). -/
def execOffLineTimerExpiry (s : State) : Host.Outcome State Fault Refusal :=
  .next (offLineEnds s)

/-- The join timer expires in JOIN-WAIT (R114). -/
def execJoinWaitExpiry (s : State) : Host.Outcome State Fault Refusal :=
  .next (joinWaitEnds s)

/-- The join timer expires in HELLO-HOLD-OFF (R113). -/
def execHelloHoldOffExpiry (s : State) : Host.Outcome State Fault Refusal :=
  .next (helloHoldOffEnds s)

/-- A good frame of a kind code that names no kind is taken by the line (R98). -/
def execUndefinedKindTaken (kind : BitVec 4) (source : Station) (payload : List Byte) (s : State) : Host.Outcome State Fault Refusal :=
  .next (hear kind.toNat source payload s)

end Sys2Proof.Machine
end

