-- ==== Sys2Proof/Machine/ChannelEvents.lean ====
section
/-! DEFINITION. The commands of a channel: its timers, and the messages between it and its membership entry
(sections 1.5 and 1.6). -/

namespace Sys2Proof.Machine

open Sys2Proof

/-- The confirm timer expires in ENERGIZING (R13, R24). -/
def execConfirmTimerExpiryEnergizing (c : Fin 8) (s : State) : Host.Outcome State Fault Refusal :=
  .next (buildDue (whenRunning (confirmExpiryEnergizing c) s))

/-- The confirm timer expires in RELEASING (R18, R24). -/
def execConfirmTimerExpiryReleasing (c : Fin 8) (s : State) : Host.Outcome State Fault Refusal :=
  .next (buildDue (whenRunning (confirmExpiryReleasing c) s))

/-- The off-check timer expires (R15). -/
def execOffCheckExpiry (c : Fin 8) (s : State) : Host.Outcome State Fault Refusal :=
  .next (buildDue (whenRunning (offCheckExpiry c) s))

/-- A hold-over timer expires (R4, R5). -/
def execHoldOverExpiry (c : Fin 8) (term : Fin 4) (s : State) : Host.Outcome State Fault Refusal :=
  .next (buildDue (whenRunning (holdOverExpiry c term) s))

/-! ## Messages (R8)

A message reaches its receiver after those sent to the same receiver before it. A command for a message that
is not the next one of its receiver changes nothing. -/


/-- The next message to channel c's entry, if it comes from c and meets a test, reaches the entry
(DEDUCED: log entry 34). -/
def deliverToGroup (c : Fin 8) (p : ToGroupMsg → Bool) (f : Fin 8 → State → State) (s : State) : State :=
  match (s.cfg c).group with
  | none => s
  | some e =>
    match s.channels.toGroups.find? fun m => m.entry == e with
    | none => s
    | some m =>
      if m.channel == c && p m.msg then
        f e { s with channels := { s.channels with toGroups := s.channels.toGroups.erase m } }
      else s


/-- The next message to channel c, if it meets a test, reaches the channel (DEDUCED: log entry 34). -/
def deliverToChannel (c : Fin 8) (p : ToChannelMsg → Bool) (f : State → State) (s : State) : State :=
  match s.channels.toChannels.find? fun m => m.channel == c with
  | none => s
  | some m =>
    if p m.msg then f { s with channels := { s.channels with toChannels := s.channels.toChannels.erase m } }
    else s


/-- Either form of "done". -/
def isDone (m : ToGroupMsg) : Bool :=
  match m with
  | .doneNeverDriven | .doneOffConfirmed => true
  | .request | .cancel => false


/-- A request reaches the membership entry (R28). -/
def execRequest (c : Fin 8) (s : State) : Host.Outcome State Fault Refusal :=
  .next (buildDue (whenRunning (deliverToGroup c (· == .request) (fun e => requestAt e c)) s))

/-- A cancel reaches the membership entry (R28, R33). -/
def execCancel (c : Fin 8) (s : State) : Host.Outcome State Fault Refusal :=
  .next (buildDue (whenRunning (deliverToGroup c (· == .cancel) (fun e => cancelAt e c)) s))

/-- A grant reaches the channel (R8, R11). -/
def execGrant (c : Fin 8) (s : State) : Host.Outcome State Fault Refusal :=
  .next (buildDue (whenRunning (deliverToChannel c (· == .grant) (grantAt c)) s))

/-- A revoke reaches the channel (R8, R23). -/
def execRevoke (c : Fin 8) (s : State) : Host.Outcome State Fault Refusal :=
  .next (buildDue (whenRunning (deliverToChannel c (· == .revoke) (revokeAt c)) s))

/-- "Done, never driven" or "done, off confirmed" reaches the membership entry (R40, R42). -/
def execDone (c : Fin 8) (s : State) : Host.Outcome State Fault Refusal :=
  .next (buildDue (whenRunning (deliverToGroup c isDone (fun e => doneAt e c)) s))

end Sys2Proof.Machine
end

