-- ==== Sys2Proof/Machine/GroupTimers.lean ====
section
/-! DEFINITION. The timers of a membership entry (section 2.1.3). -/

namespace Sys2Proof.Machine

open Sys2Proof

/-- The hold timer expires in HELD-LOCAL or RELEASING-LOCAL (R36, R41). -/
def execHoldTimerExpiry (e : Fin 8) (s : State) : Host.Outcome State Fault Refusal :=
  .next (buildDue (whenRunning (holdExpiry e) s))

/-- The hold timer expires in FREE, as a retry hold-off (R32). -/
def execRetryHoldOffExpiry (e : Fin 8) (s : State) : Host.Outcome State Fault Refusal :=
  .next (buildDue (whenRunning (retryExpiry e) s))

/-- The lifetime timer expires (R31, R45). -/
def execLifetimeTimerExpiry (e : Fin 8) (s : State) : Host.Outcome State Fault Refusal :=
  .next (buildDue (whenRunning (lifetimeExpiry e) s))

/-- The claim window ends (R35). -/
def execClaimWindowExpiry (e : Fin 8) (s : State) : Host.Outcome State Fault Refusal :=
  .next (buildDue (whenRunning (windowExpiry e) s))

/-- The dead time ends (R44). -/
def execDeadTimerExpiry (e : Fin 8) (s : State) : Host.Outcome State Fault Refusal :=
  .next (buildDue (whenRunning (deadExpiry e) s))

/-- The lapse timer expires (R39, R41). -/
def execLapseTimerExpiry (e : Fin 8) (s : State) : Host.Outcome State Fault Refusal :=
  .next (buildDue (whenRunning (lapseExpiry e) s))

end Sys2Proof.Machine
end

