-- ==== Sys2Proof/Machine/Staging.lean ====
section
/-! DEFINITION. The staging area of the Configuration Loader: 2048 bytes by address, in canonical form. -/

namespace Sys2Proof.Machine

open Sys2Proof

/-- The size of the staging area (section 11.1). -/
def stagingSize : Nat := 2048

/-- What an unlisted address reads as: the staging area is all zero at node reset (R155). -/
def stagingBlank : Byte := 0

/-- Addresses strictly rise from a lower bound, lie inside the area, and no entry holds the blank byte. -/
def Memory.wfFrom (low : Nat) : Memory → Bool
  | [] => true
  | (a, b) :: rest =>
    decide (low ≤ a) && decide (a < stagingSize) && b != stagingBlank && Memory.wfFrom (a + 1) rest

/-- The canonical form: equal contents are equal lists. -/
def Memory.wf (m : Memory) : Bool := Memory.wfFrom 0 m

/-- The byte at an address. -/
def Memory.read (m : Memory) (addr : Nat) : Byte :=
  match m with
  | [] => stagingBlank
  | (a, b) :: rest => if a = addr then b else Memory.read rest addr

/-- The list with the byte at an address replaced, kept in canonical form. -/
def Memory.put (m : Memory) (addr : Nat) (b : Byte) : Memory :=
  match m with
  | [] => if b = stagingBlank then [] else [(addr, b)]
  | (a, c) :: rest =>
    if addr < a then (if b = stagingBlank then (a, c) :: rest else (addr, b) :: (a, c) :: rest)
    else if addr = a then (if b = stagingBlank then rest else (a, b) :: rest)
    else (a, c) :: Memory.put rest addr b

/-- A byte written at an address of the area; no byte exists above 2047, and nothing is written there. -/
def Memory.write (m : Memory) (addr : Nat) (b : Byte) : Memory :=
  if addr < stagingSize then Memory.put m addr b else m

/-- Bytes written from an address on (R158). -/
def Memory.writeBytes (m : Memory) (addr : Nat) : List Byte → Memory
  | [] => m
  | b :: bs => Memory.writeBytes (Memory.write m addr b) (addr + 1) bs

/-- The bytes from an address on. -/
def Memory.readBytes (m : Memory) (addr : Nat) : Nat → List Byte
  | 0 => []
  | n + 1 => Memory.read m addr :: Memory.readBytes m (addr + 1) n

end Sys2Proof.Machine
end

