-- ==== Sys2Proof/Machine/ImageCheck.lean ====
section
/-! DEFINITION. The configuration image: its layout, and the checks of R159 in their order. -/

namespace Sys2Proof.Machine

open Sys2Proof

/-! ## Layout (section 13.4) -/

/-- The byte at an offset of the image, and the two-byte field there. -/
def imageByte (img : List Byte) (i : Nat) : Byte := img.getD i 0
def imageNat (img : List Byte) (i : Nat) : Nat := (imageByte img i).toNat
def imageHalf (img : List Byte) (i : Nat) : Half := half (imageByte img i) (imageByte img (i + 1))
def imageHalfNat (img : List Byte) (i : Nat) : Nat := (imageHalf img i).toNat

/-- The record counts of the header. -/
def subCount (img : List Byte) : Nat := imageNat img 3
def pubCount (img : List Byte) : Nat := imageNat img 4
def memCount (img : List Byte) : Nat := imageNat img 5

/-- The offsets of the records. -/
def channelAt (c : Nat) : Nat := 12 + 15 * c
def subAt (i : Nat) : Nat := 132 + 5 * i
def pubAt (img : List Byte) (i : Nat) : Nat := 132 + 5 * subCount img + 4 * i
def memAt (img : List Byte) (i : Nat) : Nat := 132 + 5 * subCount img + 4 * pubCount img + 4 * i
def inputAt (img : List Byte) (n : Nat) : Nat :=
  132 + 5 * subCount img + 4 * pubCount img + 4 * memCount img + 2 * n

/-- The length that the record counts call for. -/
def lengthOfCounts (img : List Byte) : Nat :=
  150 + 5 * subCount img + 4 * pubCount img + 4 * memCount img

/-- The smallest length that holds a header and a check, and the largest (R157). -/
def lengthInRange (n : Nat) : Bool := decide (8 ≤ n ∧ n ≤ stagingSize)

/-- The offset of term slot t of channel c. -/
def termAt (c t : Nat) : Nat := channelAt c + 2 + 2 * t

/-- The number of terms a channel's record gives. -/
def termCount (img : List Byte) (c : Nat) : Nat := imageNat img (channelAt c + 1)

/-! ## The checks -/

/-- The first offset that fails, of candidates in image order. -/
def firstBad (l : List (Nat × Bool)) : Option Nat :=
  match l with
  | [] => none
  | (at_, bad) :: rest => if bad then some at_ else firstBad rest

/-- A byte with some of its bits 5 to 7 set. -/
def highBitsSet (b : Byte) : Bool := (b >>> 5) != 0

/-- FIELD-RANGE for one channel record (R159 check 5, R172). -/
def channelFieldFaults (img : List Byte) (c : Nat) : List (Nat × Bool) :=
  let o := channelAt c
  [(o, highBitsSet (imageByte img o)),
   (o + 1, decide (termCount img c = 0 ∨ 4 < termCount img c))]
  ++ (List.range (termCount img c)).map (fun t =>
       let b := imageByte img (termAt c t)
       (termAt c t, (b.extractLsb' 0 2 == 3) || (b.extractLsb' 2 5 != 0)))
  ++ [(o + 10, imageNat img (o + 10) != 255 && decide (7 < imageNat img (o + 10))),
      (o + 11, imageNat img (o + 11) != 255 && decide (7 < imageNat img (o + 11))),
      (o + 14, highBitsSet (imageByte img (o + 14)))]

/-- Check 5, FIELD-RANGE (DEDUCED: log entry 30). A length that does not match the counts is found at the length
field (DESIGN CHOICE: log entry 12). -/
def fieldRangeFault (img : List Byte) : Option Nat :=
  firstBad <|
    [(0, img.length != lengthOfCounts img),
     (3, decide (48 < subCount img)), (4, decide (16 < pubCount img)), (5, decide (8 < memCount img)),
     (6, decide (2 < imageNat img 6))]
    ++ (List.range 8).flatMap (channelFieldFaults img)
    ++ (List.range (subCount img)).flatMap (fun i =>
        [(subAt i, decide (511 < imageHalfNat img (subAt i))),
         (subAt i + 2, decide (imageNat img (subAt i + 2) = 0 ∨ 62 < imageNat img (subAt i + 2)))])
    ++ (List.range (pubCount img)).flatMap (fun i =>
        let o := pubAt img i
        [(o, decide (511 < imageHalfNat img o)), (o + 2, decide (4 < imageNat img (o + 2))),
         (o + 3, decide (imageNat img (o + 2) < 4 ∧ 7 < imageNat img (o + 3)))])
    ++ (List.range (memCount img)).flatMap (fun i =>
        let o := memAt img i
        [(o, decide (127 < imageNat img o)), (o + 1, imageByte img (o + 1) == 0)])

/-- The first record that names what an earlier record of its list names: its offset. -/
def duplicateFault (keys : List (Nat × Nat)) : Option Nat :=
  go [] keys
where
  go (seen : List Nat) : List (Nat × Nat) → Option Nat
    | [] => none
    | (offset, key) :: rest => if seen.contains key then some offset else go (key :: seen) rest

/-- Checks 6, 7 and 8. -/
def duplicateSubscription (img : List Byte) : Option Nat :=
  duplicateFault ((List.range (subCount img)).map fun i => (subAt i, imageHalfNat img (subAt i)))
def duplicatePublication (img : List Byte) : Option Nat :=
  duplicateFault ((List.range (pubCount img)).map fun i => (pubAt img i, imageHalfNat img (pubAt img i)))
def duplicateGroup (img : List Byte) : Option Nat :=
  duplicateFault ((List.range (memCount img)).map fun i => (memAt img i, imageNat img (memAt img i)))

/-- Check 9, TERM-REFERENCE: a subscription beyond the list, an input or a host point above 7. -/
def termReferenceFault (img : List Byte) : Option Nat :=
  firstBad <| (List.range 8).flatMap fun c =>
    (List.range (termCount img c)).map fun t =>
      let o := termAt c t
      (o + 1, if (imageByte img o).extractLsb' 0 2 == 0 then decide (subCount img ≤ imageNat img (o + 1))
              else decide (7 < imageNat img (o + 1)))

/-- Check 10, GROUP-MEMBERSHIP. -/
def groupMembershipFault (img : List Byte) : Option Nat :=
  firstBad <| (List.range 8).map fun c =>
    let g := imageNat img (channelAt c + 10)
    (channelAt c + 10,
     g != 255 && (decide (memCount img ≤ g) || !((imageByte img (memAt img g + 1)).getLsbD c)))

/-- Check 11, MEMBER-BACKLINK. -/
def memberBacklinkFault (img : List Byte) : Option Nat :=
  firstBad <| (List.range (memCount img)).map fun i =>
    (memAt img i + 1, (List.range 8).any fun c =>
      (imageByte img (memAt img i + 1)).getLsbD c && imageNat img (channelAt c + 10) != i)

/-- A time outside its range in image units (R172). -/
def outside (lo hi n : Nat) : Bool := decide (n < lo ∨ hi < n)

/-- Check 12, TIME-RANGE. C not below H is found at C (DESIGN CHOICE: log entry 12). -/
def timeRangeFault (img : List Byte) : Option Nat :=
  firstBad <|
    [(7, outside 2 50 (imageNat img 7)),
     (8, outside 2 50 (imageNat img 8) || decide (10 * imageNat img 7 ≤ imageNat img 8)),
     (9, outside 2 250 (imageNat img 9)), (10, outside 1 40 (imageNat img 10)),
     (11, outside 1 20 (imageNat img 11))]
    ++ (List.range 8).map (fun c => (channelAt c + 12, outside 0 200 (imageHalfNat img (channelAt c + 12))))
    ++ (List.range (subCount img)).map (fun i => (subAt i + 3, outside 2 200 (imageHalfNat img (subAt i + 3))))
    ++ (List.range (memCount img)).map
        (fun i => (memAt img i + 2, outside 0 500 (imageHalfNat img (memAt img i + 2))))

/-- Check 13, INPUT-ROLE: a TRIP role names a zone above 7, a CLEAR role an empty mask. The item index is the
offset of the record's second byte, which holds the zone or the mask (DESIGN CHOICE: log entry 12). -/
def inputRoleFault (img : List Byte) : Option Nat :=
  firstBad <| (List.range 8).map fun n =>
    let o := inputAt img n
    let role := (imageByte img o).extractLsb' 0 2
    (o + 1, (role == 2 && decide (7 < imageNat img (o + 1))) || (role == 3 && imageByte img (o + 1) == 0))

/-- The first check that fails, with its item index, for an image of a length in range (R159). -/
def imageFault (station : Station) (img : List Byte) : Option (FaultReason × Nat) :=
  if imageCheck (img.take (img.length - 2)) != imageHalf img (img.length - 2) then
    some (.imageCheck, img.length - 2)
  else if imageByte img 2 != 1 then some (.formatVersion, 2)
  else if station = 0 ∨ station = 63 then some (.noStation, station.val)
  else match fieldRangeFault img with
  | some i => some (.fieldRange, i)
  | none => match duplicateSubscription img with
  | some i => some (.duplicateSubscription, i)
  | none => match duplicatePublication img with
  | some i => some (.duplicatePublication, i)
  | none => match duplicateGroup img with
  | some i => some (.duplicateGroup, i)
  | none => match termReferenceFault img with
  | some i => some (.termReference, i)
  | none => match groupMembershipFault img with
  | some i => some (.groupMembership, i)
  | none => match memberBacklinkFault img with
  | some i => some (.memberBacklink, i)
  | none => match timeRangeFault img with
  | some i => some (.timeRange, i)
  | none => match inputRoleFault img with
  | some i => some (.inputRole, i)
  | none => none

/-! ## Reading the records of an image that passed -/

/-- A number as one of 0 to 7. A checked image gives none of the numbers that this reduces. -/
def eightOf (n : Nat) : Fin 8 := Fin.ofNat 8 n

def termOf (img : List Byte) (c t : Nat) : Term :=
  let b := imageByte img (termAt c t)
  let i := imageNat img (termAt c t + 1)
  { source := if b.extractLsb' 0 2 == 0 then .subscription i
              else if b.extractLsb' 0 2 == 1 then .sense (eightOf i) else .hostPoint (eightOf i),
    invert := b.getLsbD 7 }

/-- A group or zone byte: 255 is absent. -/
def optionalIndex (b : Nat) : Option (Fin 8) := if b = 255 then none else some (eightOf b)

def latchMaskOf (b : Byte) : PerPower Bool :=
  ⟨b.getLsbD 0, b.getLsbD 1, b.getLsbD 2, b.getLsbD 3, b.getLsbD 4⟩

def channelConfigOf (img : List Byte) (c : Nat) : ChannelConfig :=
  let o := channelAt c
  let f := imageByte img o
  { enabled := f.getLsbD 0,
    terms := (List.range (termCount img c)).map (termOf img c),
    combine := if f.getLsbD 1 then .or else .and,
    group := optionalIndex (imageNat img (o + 10)),
    zone := optionalIndex (imageNat img (o + 11)),
    timing := if f.getLsbD 2 then .marked else .immediate,
    failPolicy := if f.getLsbD 3 then .failHold else .failOff,
    holdOver := imageHalfNat img (o + 12),
    restart := if f.getLsbD 4 then .rearm else .auto,
    latchMask := latchMaskOf (imageByte img (o + 14)) }

def subscriptionConfigOf (img : List Byte) (i : Nat) : SubscriptionConfig :=
  { point := Fin.ofNat 512 (imageHalfNat img (subAt i)),
    publisher := Fin.ofNat 64 (imageNat img (subAt i + 2)),
    lifetime := imageHalfNat img (subAt i + 3) }

def pubSourceOf (kind : Nat) (n : Fin 8) : PubSource :=
  match kind with
  | 0 => .sense n | 1 => .hostPoint n | 2 => .feedback n | 3 => .faultAny n | _ => .nodeError

def publicationConfigOf (img : List Byte) (i : Nat) : PublicationConfig :=
  { point := Fin.ofNat 512 (imageHalfNat img (pubAt img i)),
    source := pubSourceOf (imageNat img (pubAt img i + 2)) (eightOf (imageNat img (pubAt img i + 3))) }

def membershipConfigOf (img : List Byte) (i : Nat) : MembershipConfig :=
  { group := Fin.ofNat 128 (imageNat img (memAt img i)),
    members := imageByte img (memAt img i + 1),
    dead := imageHalfNat img (memAt img i + 2) }

def inputConfigOf (img : List Byte) (n : Nat) : InputConfig :=
  let b := imageByte img (inputAt img n)
  { activeHigh := b.getLsbD 7,
    role := if b.extractLsb' 0 2 == 0 then .unused else if b.extractLsb' 0 2 == 1 then .publish
            else if b.extractLsb' 0 2 == 2 then .trip (eightOf (imageNat img (inputAt img n + 1)))
            else .clear (imageByte img (inputAt img n + 1)) }

def bitRateOf (code : Nat) : BitRate :=
  match code with
  | 0 => .k125 | 1 => .k250 | _ => .k500

/-- The image that the bytes hold. -/
def imageOf (img : List Byte) : Image :=
  { bitRate := bitRateOf (imageNat img 6), hold := imageNat img 7, claim := imageNat img 8,
    mark := imageNat img 9, refresh := imageNat img 10, debounce := imageNat img 11,
    channels := Eight.of fun c => channelConfigOf img c.val,
    subscriptions := (List.range (subCount img)).map (subscriptionConfigOf img),
    publications := (List.range (pubCount img)).map (publicationConfigOf img),
    memberships := (List.range (memCount img)).map (membershipConfigOf img),
    inputs := Eight.of fun n => inputConfigOf img n.val,
    signature := imageCheck (img.take (img.length - 2)) }

/-- The image whose length field stands in the staging area, checked in the order of R159: an image, or
the reason and the item index of its refusal. -/
def checkImage (station : Station) (staging : Memory) : Except (FaultReason × Nat) Image :=
  let length := imageHalfNat (Memory.readBytes staging 0 2) 0
  if lengthInRange length then
    let img := Memory.readBytes staging 0 length
    match imageFault station img with
    | some f => .error f
    | none => .ok (imageOf img)
  else .error (.imageLength, 0)

end Sys2Proof.Machine
end

