-- ==== Sys2Proof/Machine/Startup.lean ====
section
/-! DEFINITION. Node reset, loading, CONFIG-FAULT and RUNNING entry (chapter 11). -/

namespace Sys2Proof.Machine

open Sys2Proof

def setLoader (l : Loader) (s : State) : State := { s with loader := l }

/-! ## Node reset (R155) -/

/-- Every block of the logic die at its node reset values. The join counter, the SHUTDOWN field, the pins,
the power die, the clock and the waiting commands are not reset (R72, R112, R155). -/
def nodeReset (s : State) : State :=
  { s with
    held := true,
    loader := Loader.reset s.loader.source s.loader.station,
    channels := ChannelLogic.reset,
    groups := [],
    marks := MarkTimer.reset,
    zones := ZoneTable.reset s.zones.shutdown,
    inputs := Eight.of fun n => SenseInput.reset (s.inputs.get n).pin,
    points := [],
    pubs := PubTable.reset,
    bus := Bus.reset s.bus.joinCounter,
    faults := FaultTable.reset,
    host := HostPort.reset,
    link := Link.reset }

/-- Power-on of the logic supply also starts the join counter and the SHUTDOWN field (R72, R112). -/
def powerOn (s : State) : State :=
  let t := nodeReset s
  { t with zones := ZoneTable.reset false, bus := Bus.reset 0 }

/-! ## RUNNING entry (R161) -/

/-- Every block's starting run-time values from an accepted image. The host points, the latest FEEDBACK
reply, the live values and the link keep theirs (R78, R144, R161). -/
def takeImage (img : Image) (s : State) : State :=
  { s with
    loader := { s.loader with nodeState := .running, read := .idle, image := some img, reason := none,
                              item := none },
    channels := { ChannelLogic.reset with feedback := s.channels.feedback },
    groups := List.replicate img.memberships.length Entry.start,
    marks := { number := 0, queued := false,
               timer := some (s.now + 1000 * img.mark + Config.takeoverStep * s.loader.station.val) },
    zones := ZoneTable.reset s.zones.shutdown,
    inputs := Eight.of fun n => firstLevel (s.inputs.get n) (img.inputs.get n),
    points := List.replicate img.subscriptions.length Subscription.start,
    pubs := { entries := List.replicate img.publications.length Publication.start, blocked := false },
    bus := Bus.reset s.bus.joinCounter }

/-- The values handed on at RUNNING entry: first levels, SHUTDOWN, occurrences, the entry to JOINING, and
the first evaluation of demand, which finds the forced causes in place (R2, R60, R75, R112, R144)
(DEDUCED: log entry 19). -/
def enterRunning (img : Image) (s : State) : State :=
  let t := each8 firstInputToZones (takeImage img s)
  let t := if t.zones.shutdown then forceShutdown t else t
  buildDue (each8 evaluate (enterJoining (startOccurrences t)))

/-- CONFIG-FAULT with a reason and an item index (R159, R160). -/
def enterConfigFault (reason : FaultReason) (item : Nat) (s : State) : State :=
  setLoader { s.loader with nodeState := .configFault, read := .idle, reason := some reason,
                            item := some item } s

/-- The image in the staging area is checked, and accepted or refused (R159). -/
def judgeImage (s : State) : State :=
  match checkImage s.loader.station s.loader.staging with
  | .ok img => enterRunning img s
  | .error f => enterConfigFault f.1 f.2 s

/-! ## Reading the configuration memory (R157) -/

/-- The address attempts in all. -/
def addressAttempts : Nat := 10
/-- The bytes of the header. -/
def headerSize : Nat := 6

def setRead (r : MemoryRead) (s : State) : State := setLoader { s.loader with read := r } s

/-- The memory answers, or leaves unanswered, the latest of so many attempts. -/
def addressAnswer (acknowledged : Bool) (attempts : Nat) (s : State) : State :=
  if acknowledged then setRead .header s
  else if addressAttempts ≤ attempts then enterConfigFault .memoryAbsent 0 s
  else setRead (.retryWait attempts) s

/-- The 1 ms wait ends, and the memory is addressed again. -/
def retryAddress (acknowledged : Bool) (s : State) : State :=
  match s.loader.read with
  | .retryWait n => addressAnswer acknowledged (n + 1) s
  | .idle | .header | .body _ => s

/-- Bytes from the memory enter the staging area. -/
def stageBytes (offset : Nat) (bytes : List Byte) (s : State) : State :=
  setLoader { s.loader with staging := Memory.writeBytes s.loader.staging offset bytes } s

/-- The header has been read: its length field is judged. -/
def takeHeader (bytes : List Byte) (s : State) : State :=
  match s.loader.read with
  | .header =>
    if bytes.length = headerSize then
      let t := stageBytes 0 bytes s
      let length := imageHalfNat bytes 0
      if lengthInRange length then setRead (.body length) t else enterConfigFault .imageLength 0 t
    else s
  | .idle | .retryWait _ | .body _ => s

/-- The last byte has been read: the image is checked in this event. -/
def takeBody (bytes : List Byte) (s : State) : State :=
  match s.loader.read with
  | .body length =>
    if headerSize + bytes.length = length then judgeImage (stageBytes headerSize bytes s) else s
  | .idle | .retryWait _ | .header => s

/-- The read fails after so many bytes of its phase: they stay, and the item index is the offset of the
byte being read. -/
def readFails (bytes : List Byte) (s : State) : State :=
  match s.loader.read with
  | .header =>
    if bytes.length < headerSize then
      enterConfigFault .memoryRead bytes.length (stageBytes 0 bytes s)
    else s
  | .body length =>
    if headerSize + bytes.length < length then
      enterConfigFault .memoryRead (headerSize + bytes.length) (stageBytes headerSize bytes s)
    else s
  | .idle | .retryWait _ => s

/-! ## The end of a node reset (R155, R157) -/

/-- The straps are sampled, the response buffer takes the reset response, and loading starts. -/
def endReset (x : ResetSample) (s : State) : State :=
  let t := { s with
    held := false,
    loader := Loader.reset (if x.cfgselHigh then .memory else .host) x.station,
    host := { s.host with response := Response.reset } }
  if x.cfgselHigh then addressAnswer x.memoryAcknowledges 1 t else t

end Sys2Proof.Machine
end

