-- ==== Sys2Proof/Machine/Operands.lean ====
section
/-! DEFINITION. The host's requests: the transaction's bytes, the arguments, and the answers that R163 gives
before a request acts (sections 12.1, 12.2, 13.3). -/

namespace Sys2Proof.Machine

open Sys2Proof

/-- The highest command code (section 13.3). -/
def lastCommand : Nat := 16

/-- The sum of bytes modulo 256 (R171). -/
def byteSum (bytes : List Byte) : Byte := bytes.foldl (· + ·) 0

/-- What the bytes of a transaction hold (R162, R171). -/
inductive Shifted where
  /-- SCS rose before a command byte. -/
  | nothing
  /-- The request is incomplete or its check is bad; the command byte it began with. -/
  | broken (command : Byte)
  /-- A complete request with a good check. -/
  | request (command : Byte) (arguments : List Byte)
  deriving DecidableEq, Repr

/-- The bytes judged by step 1 of R163. Bytes after the check byte belong to no request
(DEDUCED: log entry 27). -/
def judgeBytes (bytes : List Byte) : Shifted :=
  match bytes with
  | [] => .nothing
  | [command] => .broken command
  | command :: length :: rest =>
    if length.toNat < rest.length ∧ byteSum (bytes.take (length.toNat + 3)) = 255 then
      .request command (rest.take length.toNat)
    else .broken command

/-- A request whose command and argument length R171 defines. -/
inductive Request where
  | nop | readNode
  | readChannel (c : Byte) | readSubscription (i : Byte) | readPublication (i : Byte) | readGroup (i : Byte)
  | readZones
  | readPeer (station : Byte)
  | popFaultList | readEvents
  | setHostPoint (n v : Byte)
  | ackFaults (station channels kinds nodeFlags : Byte)
  | tripZones (mask : Byte) | clearZones (mask : Byte)
  | resetNode
  | writeConfigBlock (offset : Half) (data : List Byte)
  | commitConfig
  deriving DecidableEq, Repr

/-- The request a command code and arguments make; none for a code above 16 or another length than the
command's (R171). The length of WRITE CONFIG BLOCK's data is judged with its arguments. -/
def requestOf (command : Byte) (arguments : List Byte) : Option Request :=
  match command.toNat, arguments with
  | 0, [] => some .nop
  | 1, [] => some .readNode
  | 2, [c] => some (.readChannel c)
  | 3, [i] => some (.readSubscription i)
  | 4, [i] => some (.readPublication i)
  | 5, [i] => some (.readGroup i)
  | 6, [] => some .readZones
  | 7, [s] => some (.readPeer s)
  | 8, [] => some .popFaultList
  | 9, [] => some .readEvents
  | 10, [n, v] => some (.setHostPoint n v)
  | 11, [s, c, k, n] => some (.ackFaults s c k n)
  | 12, [m] => some (.tripZones m)
  | 13, [m] => some (.clearZones m)
  | 14, [] => some .resetNode
  | 15, hi :: lo :: data => some (.writeConfigBlock (half hi lo) data)
  | 16, [] => some .commitConfig
  | _, _ => none

/-! ## Answers -/

/-- The response buffer takes a response, and the transaction ends (R162). -/
def respond (command : Byte) (status : Status) (data : List Byte) (s : State) : State :=
  { s with host := { s.host with response := ⟨command, status, data⟩, transaction := none } }

/-- A request is taken at the rise of SCS that ends a transaction; a rise without one takes none (R162)
(DEDUCED: log entry 29). -/
def whenTransaction (f : State → State) (s : State) : State :=
  if s.host.transaction.isSome then f s else s

/-- Step 2 and step 3 of R163, before a request that needs the node RUNNING acts. -/
def judged (command : Byte) (argumentsGood : Bool) (admitted : State → Bool) (f : State → State)
    (s : State) : State :=
  if !argumentsGood then respond command .refusedArgument [] s
  else if !admitted s then respond command .refusedState [] s
  else f s

/-- An index that the held image must list: outside RUNNING the request fails step 3, while RUNNING an
unlisted index fails step 2 (R163). -/
def judgedIndex (command : Byte) (listed : State → Nat) (i : Byte) (f : State → State) (s : State) : State :=
  if !s.running then respond command .refusedState [] s
  else if listed s ≤ i.toNat then respond command .refusedArgument [] s
  else f s

/-- A configuration request is admitted in LOADING with image source HOST, and in CONFIG-FAULT (R158, R163). -/
def State.configurable (s : State) : Bool :=
  match s.loader.nodeState with
  | .loading => s.loader.source == .host
  | .configFault => true
  | .running => false

end Sys2Proof.Machine
end

