-- ==== Sys2Proof/Machine/Responses.lean ====
section
/-! DEFINITION. The data of the responses, byte by byte (R164, R171). Sets of host events and of lock causes
take one byte, bit by bit in the order their chapters list them (log entry 23). -/

namespace Sys2Proof.Machine

open Sys2Proof

/-! ## Encodings (R171) -/

/-- A field that may be absent: a presence byte, then the field, or zeros in its place. -/
def optionalBytes {α : Type} (width : Nat) (f : α → List Byte) (o : Option α) : List Byte :=
  match o with
  | some a => 1 :: f a
  | none => 0 :: List.replicate width 0

def optionalHalf (o : Option Half) : List Byte := optionalBytes 2 halfBytes o
def optionalByte (o : Option Byte) : List Byte := optionalBytes 1 (fun b => [b]) o

/-- A list: its count, then its items. -/
def countedBytes {α : Type} (f : α → List Byte) (l : List α) : List Byte := byteOf l.length :: l.flatMap f

def channelByte (c : Fin 8) : Byte := byteOf c.val
def holderBytes (h : Holder) : List Byte := [byteOf h.station.val, channelByte h.channel]

/-- Named values: their positions in the order of their chapters (DEDUCED: log entry 18). -/
def NodeState.position (x : NodeState) : Byte :=
  match x with
  | .loading => 0 | .running => 1 | .configFault => 2
def ImageSource.position (x : ImageSource) : Byte :=
  match x with
  | .memory => 0 | .host => 1
def FaultReason.position (x : FaultReason) : Byte :=
  match x with
  | .memoryAbsent => 0 | .memoryRead => 1 | .imageLength => 2 | .imageCheck => 3 | .formatVersion => 4
  | .noStation => 5 | .fieldRange => 6 | .duplicateSubscription => 7 | .duplicatePublication => 8
  | .duplicateGroup => 9 | .termReference => 10 | .groupMembership => 11 | .memberBacklink => 12
  | .timeRange => 13 | .inputRole => 14
def BusState.position (x : BusState) : Byte :=
  match x with
  | .disabled => 0 | .joining => 1 | .onLine => 2 | .muted => 3 | .offLine => 4 | .barred => 5
def JoinPhase.position (x : JoinPhase) : Byte :=
  match x with
  | .helloQueued => 0 | .joinWait => 1 | .helloHoldOff => 2
def ChannelState.position (x : ChannelState) : Byte :=
  match x with
  | .off => 0 | .waiting => 1 | .armed => 2 | .energizing => 3 | .on => 4 | .disarming => 5
  | .releasing => 6 | .suspended => 7 | .locked => 8
def Target.position (x : Target) : Byte :=
  match x with
  | .off => 0 | .suspended => 1 | .locked => 2
def EntryState.position (x : EntryState) : Byte :=
  match x with
  | .unknown => 0 | .free => 1 | .dead => 2 | .heldRemote => 3 | .claiming => 4 | .claimed => 5
  | .heldLocal => 6 | .releasingLocal => 7
def Age.position (x : Age) : Byte :=
  match x with
  | .unseen => 0 | .fresh => 1 | .stale => 2
def Combine.position (x : Combine) : Byte :=
  match x with
  | .and => 0 | .or => 1
def Timing.position (x : Timing) : Byte :=
  match x with
  | .immediate => 0 | .marked => 1
def FailPolicy.position (x : FailPolicy) : Byte :=
  match x with
  | .failOff => 0 | .failHold => 1
def Restart.position (x : Restart) : Byte :=
  match x with
  | .auto => 0 | .rearm => 1
/-- A level: high, low (DEDUCED: log entry 18). -/
def levelByte (high : Bool) : Byte := if high then 0 else 1
/-- A peer's presence: PRESENT, ABSENT (DEDUCED: log entry 18). -/
def presenceByte (present : Bool) : Byte := if present then 0 else 1
/-- The shutdown field: asserted, released. -/
def shutdownByte (asserted : Bool) : Byte := if asserted then 0 else 1

/-- The source of a term: its type, in the order of R3's table, and its index (R171)
(DESIGN CHOICE: log entry 39). -/
def TermSource.bytes (x : TermSource) : List Byte :=
  match x with
  | .sense n => [0, channelByte n]
  | .hostPoint n => [1, channelByte n]
  | .subscription i => [2, byteOf i]

/-- The source of a publication: its type and its index; a node error source has none, given as 0
(DESIGN CHOICE: log entry 39). -/
def PubSource.bytes (x : PubSource) : List Byte :=
  match x with
  | .sense n => [0, channelByte n]
  | .hostPoint n => [1, channelByte n]
  | .feedback n => [2, channelByte n]
  | .faultAny n => [3, channelByte n]
  | .nodeError => [4, 0]

def CauseSet.byte (x : CauseSet) : Byte :=
  maskOf ⟨x.trip, x.shutdown, x.fault, false, false, false, false, false⟩
def HostEvents.byte (x : HostEvents) : Byte :=
  maskOf ⟨x.zoneChange, x.lockChange, x.nodeFlag, false, false, false, false, false⟩

/-! ## READ NODE (R57, R77, R92, R109, R120, R131, R156, R164) -/

/-- A field that exists while an image is held. -/
def whileHeld {α : Type} (s : State) (a : α) : Option α := if s.running then some a else none

/-- The loader's part; the item index takes two bytes (DESIGN CHOICE: log entry 44). -/
def loaderBytes (s : State) : List Byte :=
  [s.loader.nodeState.position, s.loader.source.position, byteOf s.loader.station.val]
    ++ optionalByte (s.loader.reason.map FaultReason.position)
    ++ optionalHalf (s.loader.item.map halfOf)
    ++ optionalHalf (s.loader.image.map Image.signature)

/-- The bus controller's part; the score and the queue length take one byte each
(DESIGN CHOICE: log entry 44). -/
def busBytes (s : State) : List Byte :=
  [s.bus.state.position, byteOf s.bus.score, byteOf s.bus.queue.length]
    ++ countedBytes (fun q => [byteOf q.frame.code]) s.bus.queue
    ++ optionalByte (s.bus.phase.map JoinPhase.position)

def markBytes (s : State) : List Byte :=
  halfBytes s.marks.number ++ optionalByte (whileHeld s (byteOf s.config.mark)) ++ [boolByte s.marks.queued]

/-- The Barrier Link's part: the latest drive word and the latest FEEDBACK reply with one presence byte each
(R131) (DESIGN CHOICE: log entry 39). -/
def linkBytes (s : State) : List Byte :=
  [boolByte s.link.up]
    ++ optionalBytes 2 (fun w => [boolByte (driveEnable w), driveBits w]) s.link.driveWord
    ++ optionalBytes 2 (fun f => [f.bits, boolByte f.supplyLow]) s.channels.feedback

/-- The sense inputs' part: the eight pin levels, then the eight debounced levels with a presence byte each
(R77) (DESIGN CHOICE: log entry 38). -/
def inputBytes (s : State) : List Byte :=
  s.inputs.toList.map (fun x => levelByte x.pin)
    ++ s.inputs.toList.flatMap (fun x => optionalByte (whileHeld s (levelByte x.level)))

/-- READ NODE's data. Build blocked is given in every node state, without a presence byte
(DESIGN CHOICE: log entry 40). The node flags are given as their live set and then their sticky set, with 0
in the live set for the flags that have no live value (DESIGN CHOICE: log entry 38). The number of entries in
the network fault list and the overrun count take one byte each (DESIGN CHOICE: log entry 44). -/
def nodeBytes (s : State) : List Byte :=
  loaderBytes s ++ busBytes s ++ markBytes s ++ linkBytes s ++ inputBytes s
    ++ s.host.points.toList.map boolByte
    ++ optionalByte (whileHeld s (byteOf s.config.refresh)) ++ [boolByte s.pubs.blocked]
    ++ halfBytes (flagHalf s.faults.flags.live) ++ halfBytes (flagHalf s.faults.flags.sticky)
    ++ [boolByte s.err, byteOf s.faults.list.length, byteOf s.faults.overrun, s.host.events.byte]

/-! ## READ CHANNEL (R164) -/

/-- The configuration fields, a term as three bytes: source type, index, invert
(DESIGN CHOICE: log entry 39). -/
def channelConfigBytes (x : ChannelConfig) : List Byte :=
  boolByte x.enabled :: countedBytes (fun t => t.source.bytes ++ [boolByte t.invert]) x.terms
    ++ [x.combine.position] ++ optionalByte (x.group.map channelByte) ++ optionalByte (x.zone.map channelByte)
    ++ [x.timing.position, x.failPolicy.position] ++ halfBytes (halfOf x.holdOver)
    ++ [x.restart.position, kindSetByte ⟨x.latchMask.openOff, x.latchMask.shortSupply, x.latchMask.openOn,
          x.latchMask.overload, x.latchMask.overtemp, false, false⟩]

def channelRunBytes (x : Channel) : List Byte :=
  [x.state.position, boolByte x.demand, x.causes.byte, x.target.position, boolByte x.rearm,
    boolByte x.handBack, boolByte x.state.driven]

/-- A term: whether it is usable, and its value after the invert flag, absent where it is unusable. -/
def termBytes (v : Option Bool) : List Byte := boolByte v.isSome :: optionalByte (v.map boolByte)

/-- The record of one kind; the occurrence count takes one byte (DESIGN CHOICE: log entry 44). -/
def kindRecordBytes (k : KindRecord) : List Byte :=
  [boolByte k.live, boolByte k.sticky, byteOf k.count] ++ optionalHalf k.firstMark

/-- A fault record, kind by kind; FAIL-ON, which has no live value (R145), gives the byte 0 for it
(DESIGN CHOICE: log entry 39). -/
def faultRecordBytes (r : FaultRecord) : List Byte :=
  kindRecordBytes r.kinds.openOff ++ kindRecordBytes r.kinds.shortSupply ++ kindRecordBytes r.kinds.openOn
    ++ kindRecordBytes r.kinds.overload ++ kindRecordBytes r.kinds.overtemp ++ kindRecordBytes r.kinds.failOn
    ++ kindRecordBytes r.kinds.stuckOn ++ optionalHalf r.newest ++ [boolByte r.waiting]

/-- READ CHANNEL's data; a second count stands before the terms' usability and values
(DESIGN CHOICE: log entry 39). -/
def channelBytes (c : Fin 8) (s : State) : List Byte :=
  channelConfigBytes (s.cfg c) ++ channelRunBytes (s.chan c) ++ countedBytes termBytes (termValues s c)
    ++ faultRecordBytes (s.faultRec c)

/-! ## The other reads (R51, R60, R84, R92, R152, R154) -/

/-- READ SUBSCRIPTION's data; the point number takes two bytes, the count of foreign pairs one
(DESIGN CHOICE: log entry 44). -/
def subscriptionBytes (cfg : SubscriptionConfig) (x : Subscription) : List Byte :=
  halfBytes (halfOf cfg.point.val) ++ [byteOf cfg.publisher.val] ++ halfBytes (halfOf cfg.lifetime)
    ++ [x.age.position] ++ optionalByte (x.value.map boolByte) ++ [byteOf x.foreignCount]
    ++ optionalHalf x.lastChange

/-- READ PUBLICATION's data; the point number takes two bytes (DESIGN CHOICE: log entry 44). -/
def publicationBytes (cfg : PublicationConfig) (x : Publication) (s : State) : List Byte :=
  halfBytes (halfOf cfg.point.val) ++ cfg.source.bytes
    ++ [boolByte (sourceValue s cfg.source), boolByte x.waiting] ++ optionalByte (x.lastSent.map boolByte)

def groupBytes (cfg : MembershipConfig) (x : Entry) : List Byte :=
  [byteOf cfg.group.val, cfg.members] ++ halfBytes (halfOf cfg.dead) ++ [x.state.position]
    ++ optionalBytes 2 holderBytes x.holder ++ countedBytes (fun c => [channelByte c]) x.requests
    ++ optionalByte (x.claimChannel.map channelByte) ++ [boolByte x.yielded]
    ++ optionalByte (x.conflict.map fun h => byteOf h.station.val)
    ++ [boolByte x.lapsed, boolByte x.releaseQueued]

def zoneBytes (x : Zone) : List Byte :=
  boolByte x.tripped :: optionalByte (x.station.map fun n => byteOf n.val)
    ++ optionalByte (x.cause.map TripCause.code) ++ [boolByte x.localActive]

/-- The zone entries, where they exist, and the shutdown field. -/
def zonesBytes (s : State) : List Byte :=
  (if s.running then s.zones.zones.toList.flatMap zoneBytes else []) ++ [shutdownByte s.zones.shutdown]

/-- READ PEER's data; the number of silent marks takes one byte (DESIGN CHOICE: log entry 44). -/
def peerBytes (x : Peer) : List Byte :=
  [presenceByte x.present, byteOf x.silent] ++ optionalHalf x.signature
    ++ optionalBytes 10 (fun st => st.info.bytes ++ halfBytes st.arrival) x.status

def listEntryBytes (e : ListEntry) : List Byte :=
  [byteOf e.source.val, channelByte e.channel, kindSetByte e.live, kindSetByte e.sticky]
    ++ halfBytes e.firstMark ++ halfBytes e.arrival

/-- POP FAULT LIST's data (R152): the oldest entry behind ONE presence byte, with eight bytes of 0 for an empty list
(DESIGN CHOICE: log entry 39), then the number of entries left and the overrun count, one byte each
(DESIGN CHOICE: log entry 44). -/
def popBytes (s : State) : List Byte :=
  optionalBytes 8 listEntryBytes s.faults.list.head?
    ++ [byteOf (s.faults.list.length - 1), byteOf s.faults.overrun]

/-! ## The bytes on SDO (section 13.3) -/

def Status.code (x : Status) : Byte :=
  match x with
  | .accepted => 0 | .refusedState => 1 | .refusedArgument => 2 | .busy => 3 | .checkError => 4

/-- A response as it is shifted out, with the check byte that makes the sum 255. -/
def Response.bytes (r : Response) : List Byte :=
  let body := [r.command, r.status.code] ++ halfBytes (halfOf r.data.length) ++ r.data
  body ++ [255 - byteSum body]

end Sys2Proof.Machine
end

