-- ==== Sys2Proof/Machine/HostPort.lean ====
section
/-! DEFINITION. The host's requests as they act (sections 12.2 to 12.5). Each is the effect of the request
in the event of the SCS rise; `whenTransaction` asks for the transaction apart. -/

namespace Sys2Proof.Machine

open Sys2Proof

/-! ## Requests that read (R164) -/

def takeNop (s : State) : State := respond 0 .accepted [] s

def takeReadNode (s : State) : State := respond 1 .accepted (nodeBytes s) s

def takeReadChannel (c : Byte) (s : State) : State :=
  judged 2 (channelOf c).isSome State.running
    (fun s => respond 2 .accepted (channelBytes (eightOf c.toNat) s) s) s

def takeReadSubscription (i : Byte) (s : State) : State :=
  judgedIndex 3 (fun s => s.points.length) i (fun s =>
    match s.config.subscriptions[i.toNat]?, s.points[i.toNat]? with
    | some cfg, some x => respond 3 .accepted (subscriptionBytes cfg x) s
    | _, _ => respond 3 .refusedArgument [] s) s

def takeReadPublication (i : Byte) (s : State) : State :=
  judgedIndex 4 (fun s => s.pubs.entries.length) i (fun s =>
    match s.config.publications[i.toNat]?, s.pubs.entries[i.toNat]? with
    | some cfg, some x => respond 4 .accepted (publicationBytes cfg x s) s
    | _, _ => respond 4 .refusedArgument [] s) s

def takeReadGroup (i : Byte) (s : State) : State :=
  judgedIndex 5 (fun s => s.groups.length) i (fun s =>
    match s.config.memberships[i.toNat]?, s.groups[i.toNat]? with
    | some cfg, some x => respond 5 .accepted (groupBytes cfg x) s
    | _, _ => respond 5 .refusedArgument [] s) s

def takeReadZones (s : State) : State := respond 6 .accepted (zonesBytes s) s

def takeReadPeer (station : Byte) (s : State) : State :=
  match stationOf station with
  | some st => respond 7 .accepted (peerBytes (s.faults.peers.getD (peerIndex st) Peer.reset)) s
  | none => respond 7 .refusedArgument [] s

/-- POP FAULT LIST: the oldest entry leaves, and the overrun count becomes 0 (R152). -/
def takePopFaultList (s : State) : State :=
  respond 8 .accepted (popBytes s)
    { s with faults := { s.faults with list := s.faults.list.drop 1, overrun := 0 } }

/-- READ EVENTS: the set is returned and emptied (R168). -/
def takeReadEvents (s : State) : State :=
  respond 9 .accepted [s.host.events.byte]
    { s with host := { s.host with events := ⟨false, false, false⟩ } }

/-! ## Requests that act (R78, R165, R166) -/

/-- Host point n takes v: channels with a term on it evaluate demand, publications of it become pending. -/
def hostPointChange (n : Fin 8) (v : Bool) (s : State) : State :=
  if s.host.points.get n == v then s
  else
    let t := { s with host := { s.host with points := s.host.points.set n v } }
    pendSource (.hostPoint n) (evaluateUsers (· == .hostPoint n) t)

def takeSetHostPoint (n v : Byte) (s : State) : State :=
  judged 10 ((channelOf n).isSome && (boolOf v).isSome) State.running
    (fun s => respond 10 .accepted [] (buildDue (hostPointChange (eightOf n.toNat) (v == 1) s))) s

/-- ACK FAULTS on the own station, or offered as a FAULT-ACK to another (R166). -/
def ackFaults (st : Station) (channels : Byte) (kinds : KindSet) (nodeFlags : Bool) (s : State) : State :=
  if st = s.loader.station then
    respond 11 .accepted [] (buildDue (acknowledge channels kinds nodeFlags s))
  else if !s.onLine then respond 11 .refusedState [] s
  else
    let (t, taken) := offer (.faultAck st channels kinds nodeFlags) s
    respond 11 (if taken then .accepted else .busy) [] (buildDue t)

def takeAckFaults (station channels kinds nodeFlags : Byte) (s : State) : State :=
  match stationOf station, kindsOf kinds, boolOf nodeFlags with
  | some st, some k, some n =>
    if s.running then ackFaults st channels k n s else respond 11 .refusedState [] s
  | _, _, _ => respond 11 .refusedArgument [] s

def takeTripZones (mask : Byte) (s : State) : State :=
  judged 12 (mask != 0) State.running
    (fun s => respond 12 .accepted [] (buildDue (hostTripZones mask s))) s

def takeClearZones (mask : Byte) (s : State) : State :=
  judged 13 (mask != 0) (fun s => s.running && s.onLine)
    (fun s => respond 13 .accepted [] (buildDue (queueClear mask s))) s

/-! ## Requests about the node (R167) -/

/-- RESET NODE: the node reset and its end in the one event (DEDUCED: log entry 36). -/
def takeResetNode (x : ResetSample) (s : State) : State := endReset x (nodeReset s)

def takeWriteConfigBlock (offset : Half) (data : List Byte) (s : State) : State :=
  judged 15 (decide (1 ≤ data.length ∧ data.length ≤ 32 ∧ offset.toNat + data.length ≤ stagingSize))
    State.configurable
    (fun s => respond 15 .accepted [] (stageBytes offset.toNat data s)) s

/-- COMMIT CONFIG: ACCEPTED where the image passed, REFUSED-ARGUMENT where it failed. -/
def takeCommitConfig (s : State) : State :=
  judged 16 true State.configurable
    (fun s =>
      let t := judgeImage s
      respond 16 (if t.running then .accepted else .refusedArgument) [] t) s

/-! ## A transaction's bytes (R162, R163, R171) -/

/-- A request of a defined command and length. -/
def takeRequest (r : Request) (x : ResetSample) (s : State) : State :=
  match r with
  | .nop => takeNop s
  | .readNode => takeReadNode s
  | .readChannel c => takeReadChannel c s
  | .readSubscription i => takeReadSubscription i s
  | .readPublication i => takeReadPublication i s
  | .readGroup i => takeReadGroup i s
  | .readZones => takeReadZones s
  | .readPeer st => takeReadPeer st s
  | .popFaultList => takePopFaultList s
  | .readEvents => takeReadEvents s
  | .setHostPoint n v => takeSetHostPoint n v s
  | .ackFaults st c k n => takeAckFaults st c k n s
  | .tripZones m => takeTripZones m s
  | .clearZones m => takeClearZones m s
  | .resetNode => takeResetNode x s
  | .writeConfigBlock o d => takeWriteConfigBlock o d s
  | .commitConfig => takeCommitConfig s

/-- The transaction ends without a request: the response buffer keeps its content. -/
def endTransaction (s : State) : State := { s with host := { s.host with transaction := none } }

/-- The bytes of a transaction, judged and taken. -/
def takeBytes (bytes : List Byte) (x : ResetSample) (s : State) : State :=
  match judgeBytes bytes with
  | .nothing => endTransaction s
  | .broken command => respond command .checkError [] s
  | .request command arguments =>
    match requestOf command arguments with
    | some r => takeRequest r x s
    | none => respond command .refusedArgument [] s

/-- SCS falls: the response buffer starts to shift out. No transaction begins while the logic die is held
in reset, or while one is under way (R162). -/
def beginTransaction (s : State) : State :=
  if s.held || s.host.transaction.isSome then s
  else { s with host := { s.host with transaction := some s.host.response.bytes } }

/-- The byte on SDO after k bytes of the transaction: the response, then fill bytes of 0; nothing is shifted out
without a transaction, also while SCS is still low after a reset (R162, section 13.3)
(DESIGN CHOICE: log entry 29). -/
def State.sdo (s : State) (k : Nat) : Option Byte := s.host.transaction.map fun bytes => bytes.getD k 0

end Sys2Proof.Machine
end

