-- ==== Sys2Proof/Machine/HostRequests.lean ====
section
/-! DEFINITION. The commands of the Local Host Port: the fall of SCS, and the rise of SCS with each request
(chapter 12). A rise that ends no transaction takes no request (R162). -/

namespace Sys2Proof.Machine

open Sys2Proof

/-- NOP (R163). -/
def execNop (s : State) : Host.Outcome State Fault Refusal :=
  .next (whenTransaction takeNop s)

/-- READ NODE (R164). -/
def execReadNode (s : State) : Host.Outcome State Fault Refusal :=
  .next (whenTransaction takeReadNode s)

/-- READ CHANNEL c (R164). -/
def execReadChannel (c : Byte) (s : State) : Host.Outcome State Fault Refusal :=
  .next (whenTransaction (takeReadChannel c) s)

/-- READ SUBSCRIPTION i (R84). -/
def execReadSubscription (i : Byte) (s : State) : Host.Outcome State Fault Refusal :=
  .next (whenTransaction (takeReadSubscription i) s)

/-- READ PUBLICATION i (R92). -/
def execReadPublication (i : Byte) (s : State) : Host.Outcome State Fault Refusal :=
  .next (whenTransaction (takeReadPublication i) s)

/-- READ GROUP i (R51). -/
def execReadGroup (i : Byte) (s : State) : Host.Outcome State Fault Refusal :=
  .next (whenTransaction (takeReadGroup i) s)

/-- READ ZONES (R60). -/
def execReadZones (s : State) : Host.Outcome State Fault Refusal :=
  .next (whenTransaction takeReadZones s)

/-- READ PEER s (R154). -/
def execReadPeer (station : Byte) (s : State) : Host.Outcome State Fault Refusal :=
  .next (whenTransaction (takeReadPeer station) s)

/-- POP FAULT LIST (R152). -/
def execPopFaultList (s : State) : Host.Outcome State Fault Refusal :=
  .next (whenTransaction takePopFaultList s)

/-- READ EVENTS (R168). -/
def execReadEvents (s : State) : Host.Outcome State Fault Refusal :=
  .next (whenTransaction takeReadEvents s)

/-- SET HOST POINT n v (R78). -/
def execSetHostPoint (n v : Byte) (s : State) : Host.Outcome State Fault Refusal :=
  .next (whenTransaction (takeSetHostPoint n v) s)

/-- ACK FAULTS (R147, R166). -/
def execAckFaults (station channels kinds nodeFlags : Byte) (s : State) : Host.Outcome State Fault Refusal :=
  .next (whenTransaction (takeAckFaults station channels kinds nodeFlags) s)

/-- TRIP ZONES (R65). -/
def execTripZones (mask : Byte) (s : State) : Host.Outcome State Fault Refusal :=
  .next (whenTransaction (takeTripZones mask) s)

/-- CLEAR ZONES (R67). -/
def execClearZones (mask : Byte) (s : State) : Host.Outcome State Fault Refusal :=
  .next (whenTransaction (takeClearZones mask) s)

/-- RESET NODE (R155, R167). -/
def execResetNode (sample : ResetSample) (s : State) : Host.Outcome State Fault Refusal :=
  .next (whenTransaction (takeResetNode sample) s)

/-- WRITE CONFIG BLOCK (R158). -/
def execWriteConfigBlock (offset : Half) (data : List Byte) (s : State) : Host.Outcome State Fault Refusal :=
  .next (whenTransaction (takeWriteConfigBlock offset data) s)

/-- COMMIT CONFIG (R158, R167). -/
def execCommitConfig (s : State) : Host.Outcome State Fault Refusal :=
  .next (whenTransaction takeCommitConfig s)

/-- The rise of SCS with the bytes shifted in: CHECK-ERROR for an incomplete request or a bad check, and for
other bytes what R162 and R163 give them. -/
def execCheckError (bytes : List Byte) (sample : ResetSample) (s : State) : Host.Outcome State Fault Refusal :=
  .next (whenTransaction (takeBytes bytes sample) s)

/-- SCS rises before a command byte: no request, and the response buffer is kept (R162). -/
def execEmptyTransaction (s : State) : Host.Outcome State Fault Refusal :=
  .next (whenTransaction endTransaction s)

/-- SCS falls (R162). -/
def execTransactionBegin (s : State) : Host.Outcome State Fault Refusal :=
  .next (beginTransaction s)

end Sys2Proof.Machine
end

