-- ==== Sys2Proof/Machine/Link.lean ====
section
/-! DEFINITION. The logic side of the Barrier Link: drive words, the judging of slots, link state, the
delivery of replies, the off-guarantee (chapter 8). -/

namespace Sys2Proof.Machine

open Sys2Proof

def setLink (l : Link) (s : State) : State := { s with link := l }

/-- The runs of slots that change the link state (R126). -/
def goodSlotsToUp : Nat := 16
def failedSlotsToDown : Nat := 8

/-! ## The drive word (R122) -/

/-- The start of a slot: the drive word from the values of this moment, and the slot count advanced. No
slot runs while the logic die is held in reset (R121) (DEDUCED: log entry 8). -/
def startSlot (s : State) : State :=
  if s.held then s
  else setLink { s.link with
    driveWord := some (driveWordOf s.enable s.driveBits s.link.slotCount),
    slotCount := s.link.slotCount + 1 } s

/-! ## Delivery (R6, R127) -/

def setFeedback (f : Feedback) (s : State) : State :=
  { s with channels := { s.channels with feedback := some f } }

/-- The channel bits of a FEEDBACK reply at the eight records. -/
def feedbackBits (bits : Byte) (s : State) : State := whenRunning (each8 (feedbackAt bits)) s

/-- A FEEDBACK reply while UP: the supply-low flag with its path event, the channel bits, then SUPPLY-LOW. -/
def takeFeedback (f : Feedback) (s : State) : State :=
  let t := setFeedback f s
  let t := if s.pathReady && !t.pathReady then whenRunning pathLost t
    else if !s.pathReady && t.pathReady then whenRunning pathReadyEvent t
    else t
  setFlagLive .supplyLow f.supplyLow (feedbackBits f.bits t)

/-- A good reply delivered while UP (R127). -/
def deliver (r : GoodReply) (s : State) : State :=
  match r.kind with
  | .feedback => takeFeedback ⟨r.bits, r.supplyLow⟩ s
  | .diagnostic k => takeDiagnostic k r.bits s

/-- The latest replies with one more good reply taken while DOWN. -/
def LatestReplies.take (l : LatestReplies) (r : GoodReply) : LatestReplies :=
  match r.kind with
  | .feedback => { l with feedback := some ⟨r.bits, r.supplyLow⟩ }
  | .diagnostic k => { l with diagnostics := l.diagnostics.set k (some r.bits) }

/-! ## UP and DOWN (R126, R128, R129) -/

/-- The latest diagnostic reply of a kind, if one was taken while DOWN. -/
def deliverLatest (l : LatestReplies) (k : PowerKind) (s : State) : State :=
  match l.diagnostics.get k with
  | some bits => takeDiagnostic k bits s
  | none => s

/-- Channel Logic at the UP state: the path judged with the latest FEEDBACK reply, the confirm timers of
RELEASING channels, then the channel bits in the states that result (R21, R128) (DEDUCED: log entry 21). -/
def channelsUp (l : LatestReplies) (s : State) : State :=
  let t := match l.feedback with
    | some f => setFeedback f s
    | none => s
  let t := whenRunning (setReleasingConfirm (some (s.now + Config.confirmTime))) t
  let t := if t.pathReady then whenRunning pathReadyEvent t else t
  match l.feedback with
  | some f => feedbackBits f.bits t
  | none => t

/-- Fault Records at the UP state: the five diagnostic replies act one by one, in this order
(DESIGN CHOICE: log entry 41). -/
def faultsUp (l : LatestReplies) (s : State) : State :=
  let t := match l.feedback with
    | some f => setFlagLive .supplyLow f.supplyLow s
    | none => s
  setFlagLive .linkDown false
    (deliverLatest l .overload (deliverLatest l .shortSupply (deliverLatest l .openOff
      (deliverLatest l .openOn (deliverLatest l .overtemp t)))))

/-- The link state becomes UP (R128): the channels act before Fault Records (DESIGN CHOICE: log entry 41). -/
def linkUp (s : State) : State :=
  let l := s.link.latest
  faultsUp l (channelsUp l (setLink { s.link with
    up := true, goodRun := 0, failedRun := 0, lastGood := some s.now, guarantee := none,
    latest := LatestReplies.none } s))

/-- The link state becomes DOWN: the path is lost, the confirm timers of RELEASING channels stop, LINK-DOWN
is live, and the off-guarantee runs from the last good reply (R21, R129) (DEDUCED: log entry 21). -/
def linkDown (s : State) : State :=
  let t := setLink { s.link with
    up := false, goodRun := 0, failedRun := 0,
    guarantee := some (s.link.lastGood.getD s.now + Config.offGuaranteeTime) } s
  setFlagLive .linkDown true (whenRunning (fun s => setReleasingConfirm none (pathLost s)) t)

/-! ## Slots (R125, R126) -/

/-- A good slot. -/
def goodSlot (r : GoodReply) (s : State) : State :=
  if s.link.up then deliver r (setLink { s.link with failedRun := 0, lastGood := some s.now } s)
  else
    let t := setLink { s.link with goodRun := s.link.goodRun + 1, latest := s.link.latest.take r } s
    if goodSlotsToUp ≤ t.link.goodRun then linkUp t else t

/-- A failed slot. -/
def failedSlot (s : State) : State :=
  if s.link.up then
    let t := setLink { s.link with failedRun := s.link.failedRun + 1 } s
    if failedSlotsToDown ≤ t.link.failedRun then linkDown t else t
  else setLink { s.link with goodRun := 0 } s

/-- A slot judged by its reply, if one arrived (R125). -/
def judgeSlot (reply : Option (BitVec 18)) (s : State) : State :=
  if s.held then s
  else buildDue (match reply.bind judgeReply with
    | some r => goodSlot r s
    | none => failedSlot s)

/-- The off-guarantee timer expires: off-assured, once (R130). -/
def guaranteeEnds (s : State) : State :=
  if s.link.guarantee.isSome then
    whenRunning (each8 offAssuredAt) (setLink { s.link with guarantee := none } s)
  else s

end Sys2Proof.Machine
end

