-- ==== Sys2Proof/Machine/LinkEvents.lean ====
section
/-! DEFINITION. The commands of the logic side of the Barrier Link (chapter 8). -/

namespace Sys2Proof.Machine

open Sys2Proof

/-- A slot starts, and the drive word is built and sent (R122). -/
def execSlotStart (s : State) : Host.Outcome State Fault Refusal :=
  .next (startSlot s)

/-- A reply arrives (R125 to R128). -/
def execReplyReceived (w : BitVec 18) (s : State) : Host.Outcome State Fault Refusal :=
  .next (judgeSlot (some w) s)

/-- A slot ends without a good reply (R125, R126, R129). -/
def execSlotFailed (reply : Option (BitVec 18)) (s : State) : Host.Outcome State Fault Refusal :=
  .next (judgeSlot reply s)

/-- The off-guarantee timer expires (R130). -/
def execOffGuaranteeExpiry (s : State) : Host.Outcome State Fault Refusal :=
  .next (buildDue (guaranteeEnds s))

end Sys2Proof.Machine
end

