-- ==== Sys2Proof/Machine/Pins.lean ====
section
/-! DEFINITION. The commands of the SHUTDOWN pin and of the sense inputs (sections 4.6 and 5.1). -/

namespace Sys2Proof.Machine

open Sys2Proof

/-- SHUTDOWN has been low for 5 µs (R72, R73). -/
def execShutdownAsserted (s : State) : Host.Outcome State Fault Refusal :=
  .next (buildDue (shutdownChange true s))

/-- SHUTDOWN has been high for 5 µs (R72, R73). -/
def execShutdownReleased (s : State) : Host.Outcome State Fault Refusal :=
  .next (buildDue (shutdownChange false s))

/-- A sense pin changes level (R76). -/
def execSensePinChange (n : Fin 8) (s : State) : Host.Outcome State Fault Refusal :=
  .next (pinChange n s)

/-- A debounce timer expires (R76, R77). -/
def execDebounceExpiry (n : Fin 8) (s : State) : Host.Outcome State Fault Refusal :=
  .next (buildDue (whenRunning (debounceExpires n) s))

end Sys2Proof.Machine
end

