-- ==== Sys2Proof/Machine/PointTimers.lean ====
section
/-! DEFINITION. The timers of the Mark Timer, the Point Image and the Publication Table (chapters 3 and 5). -/

namespace Sys2Proof.Machine

open Sys2Proof

/-- The mark timer expires (R54). -/
def execMarkTimerExpiry (s : State) : Host.Outcome State Fault Refusal :=
  .next (buildDue (whenRunning markExpiry s))

/-- An age timer expires (R83). -/
def execAgeTimerExpiry (i : Fin 48) (s : State) : Host.Outcome State Fault Refusal :=
  .next (buildDue (whenRunning (ageExpiry i.val) s))

/-- A refresh timer expires (R88). -/
def execRefreshTimerExpiry (i : Fin 16) (s : State) : Host.Outcome State Fault Refusal :=
  .next (buildDue (whenRunning (refreshExpiry i.val) s))

end Sys2Proof.Machine
end

