-- ==== Sys2Proof/Machine/Power.lean ====
section
/-! DEFINITION. The power die: the drive watchdog, switching edges, thermal protection, the supply monitor,
conditions, reports and reply words (chapters 8 and 9). -/

namespace Sys2Proof.Machine

open Sys2Proof

def setPower (p : PowerDie) (s : State) : State := { s with power := p }

/-! ## Electrical limits -/

/-- The output voltage bounds of R134 and R138, in mV. -/
def onVoltage : Int := 8500
def openVoltage : Int := 4500
/-- The junction temperatures of R136, in °C. -/
def shutdownJunction : Int := 160
def restartJunction : Int := 140

/-- The resistance that sets the open-load threshold: 12 to 120 kΩ, a value beyond counting as the bound
(R139) (DESIGN CHOICE: log entry 25). -/
def thresholdOhms : Int := max 12000 (min 120000 (Config.olsetOhms : Int))

/-- The current limit: 2.0 A to 3.2 A, a value beyond counting as the bound (R135, section 9.6)
(DESIGN CHOICE: log entry 25). -/
def currentLimit : Int := max 2000000 (min 3200000 (Config.currentLimitMicroamps : Int))

/-- The off-state pull-up current in µA (R138, section 9.6) (DESIGN CHOICE: log entry 25). -/
def pullUpCurrent : Int := 60

/-- The turn-off clamp holds the output this far below VBB, in mV (R133, section 9.6)
(DESIGN CHOICE: log entry 25). -/
def clampVoltage : Int := 45000

/-- A current in µA lies below, or above, 1200 mA divided by the resistance in kΩ (R139). -/
def belowThreshold (current : Int) : Bool := current * thresholdOhms < 1200000000
def aboveThreshold (current : Int) : Bool := 1200000000 < current * thresholdOhms

/-! ## One channel: conditions (R133 to R139) -/

/-- The switch conducts (R133). -/
def PowerChannel.conducts (p : PowerChannel) : Bool := p.commanded && p.thermal == .normal

/-- The current through the switch: what the load draws, up to the limit, and none while the switch does not
conduct (R133, R135). -/
def PowerChannel.switchCurrent (p : PowerChannel) : Int :=
  if p.conducts then min p.load.draw currentLimit else 0

/-- The switch is holding its current at the limit (R135). -/
def PowerChannel.limiting (p : PowerChannel) : Bool := p.conducts && decide (currentLimit ≤ p.load.draw)

/-- The off-state pull-up is on: the channel is OFF and the supply state is NORMAL (R137, R138). -/
def PowerChannel.pullUp (p : PowerChannel) (normal : Bool) : Bool := !p.commanded && normal

/-- The turn-off clamp carries a current: the switch does not conduct, and the energy of an inductive load is
not spent (R133). -/
def PowerChannel.clamps (p : PowerChannel) : Bool := !p.conducts && decide (0 < p.load.stored)

/-- The current of an inductive load that flows on through the turn-off clamp (R133)
(DESIGN CHOICE: log entry 43). -/
def PowerChannel.clampCurrent (p : PowerChannel) : Int := if p.clamps then p.load.stored else 0

/-- The output voltage in mV: the clamp holds it below VBB while it carries a current; else it is what the
environment shows (R133) (DESIGN CHOICE: log entry 43). -/
def PowerChannel.output (p : PowerChannel) : Int :=
  if p.clamps then p.load.supply - clampVoltage else p.load.voltage

/-- The current in µA that flows from the die into the output: through the switch, through the turn-off
clamp, and from the pull-up (R133, R135, R138) (DESIGN CHOICE: log entry 43). -/
def PowerChannel.sourced (p : PowerChannel) (normal : Bool) : Int :=
  p.switchCurrent + p.clampCurrent + (if p.pullUp normal then pullUpCurrent else 0)

/-- Output measured on (R134). -/
def PowerChannel.measuredOn (p : PowerChannel) : Bool :=
  decide (onVoltage < p.output) || (p.conducts && aboveThreshold p.switchCurrent && decide (0 < p.output))

/-- A kind's condition as the output shows it, while the supply state is NORMAL (R135, R136, R138, R139). -/
def PowerChannel.shows (p : PowerChannel) (k : PowerKind) : Bool :=
  match k with
  | .openOff => !p.commanded && decide (openVoltage ≤ p.output) && decide (p.output ≤ onVoltage)
  | .shortSupply => !p.commanded && decide (onVoltage < p.output)
  | .openOn => p.conducts && belowThreshold p.switchCurrent
  | .overload => p.limiting
  | .overtemp => p.commanded && p.thermal == .shutdown

/-- A condition measured again: its time restarts where it changes. -/
def Condition.measure (c : Condition) (b : Bool) (now : Nat) : Condition :=
  if c.present == b then c else { present := b, since := now }

/-- The conditions measured again; none is measured while the supply state is LOW (R137). -/
def PowerChannel.measure (p : PowerChannel) (normal : Bool) (now : Nat) : PowerChannel :=
  { p with conditions := PerPower.of fun k => (p.conditions.get k).measure (normal && p.shows k) now }

/-- The thermal state follows the junction while the commanded state is ON (R136)
(DEDUCED: log entry 22). -/
def PowerChannel.followJunction (p : PowerChannel) : PowerChannel :=
  { p with thermal :=
      if !p.commanded then p.thermal
      else match p.thermal with
        | .normal => if shutdownJunction ≤ p.load.junction then .shutdown else .normal
        | .shutdown => if p.load.junction ≤ restartJunction then .normal else .shutdown }

/-- The channel under a new electrical situation. -/
def PowerChannel.observe (p : PowerChannel) (load : Electrical) (normal : Bool) (now : Nat) : PowerChannel :=
  ({ p with load := load }.followJunction).measure normal now

/-! ## One channel: reports (R138, R140 to R143) -/

def blankedKind (k : BlankedKind) : PowerKind :=
  match k with
  | .openOff => .openOff | .shortSupply => .shortSupply | .openOn => .openOn
def unblankedKind (k : UnblankedKind) : PowerKind :=
  match k with
  | .overload => .overload | .overtemp => .overtemp

/-- A blanked kind's own state: ON for OPEN-ON, OFF for the other two (section 9.5). -/
def ownState (k : BlankedKind) : Bool :=
  match k with
  | .openOn => true | .openOff => false | .shortSupply => false

/-- A blanked kind's filter in µs (R141). -/
def blankedFilter (k : BlankedKind) : Nat :=
  match k with
  | .openOff => 2000 | .shortSupply => 1000 | .openOn => 2000

/-- The short filter in µs for a time spent in the state being left (R142) (DEDUCED: log entry 24). -/
def shortFilter (timeInState : Nat) : Nat :=
  if timeInState < 1000 then 80 else if timeInState < 2500 then 400 else 1000

/-- A condition has been present, or absent, continuously for a time. -/
def Condition.presentFor (c : Condition) (t now : Nat) : Bool := c.present && decide (t ≤ now - c.since)
def Condition.absentFor (c : Condition) (t now : Nat) : Bool := !c.present && decide (t ≤ now - c.since)

/-- A kind's report changes. SHORT-SUPPLY outranks OPEN-OFF: a SHORT-SUPPLY report that leaves CLEAR makes
OPEN-OFF CLEAR, and OPEN-OFF does not leave CLEAR beside one that stands (R138). -/
def PowerChannel.setReport (p : PowerChannel) (k : PowerKind) (r : Report) : PowerChannel :=
  match k with
  | .shortSupply =>
    if r == .clear then { p with reports := { p.reports with shortSupply := r } }
    else { p with reports := { p.reports with shortSupply := r, openOff := .clear } }
  | .openOff =>
    if p.reports.shortSupply == .clear then { p with reports := { p.reports with openOff := r } }
    else { p with reports := { p.reports with openOff := .clear } }
  | k => { p with reports := p.reports.set k r }

/-- A report judged on the time its condition has run (R141). -/
def judgeReport (k : BlankedKind) (p : PowerChannel) (now : Nat) : Report :=
  let c := p.conditions.get (blankedKind k)
  let r := p.reports.get (blankedKind k)
  if r == .clear && c.presentFor (blankedFilter k) now then .standing
  else if r == .standing && c.absentFor (blankedFilter k) now then .clear
  else r

/-- The judging at blanking expiry and after: only in the own state (R141). SHORT-SUPPLY comes first, so
that OPEN-OFF may stand in the event in which SHORT-SUPPLY clears (R138). -/
def PowerChannel.judge (p : PowerChannel) (k : BlankedKind) (now : Nat) : PowerChannel :=
  if p.commanded == ownState k then p.setReport (blankedKind k) (judgeReport k p now) else p

/-- A PROLONGED report at the blanking expiry of the opposite state (R143). -/
def PowerChannel.endProlonged (p : PowerChannel) (k : BlankedKind) : PowerChannel :=
  if p.commanded != ownState k && p.reports.get (blankedKind k) == .prolonged then p.setReport (blankedKind k) .clear else p

/-- A blanked kind's report at an edge, decided on what the channel saw in the state it leaves (R142), or
back in its own state (R143). -/
def edgeReport (k : BlankedKind) (p : PowerChannel) (now : Nat) : Report :=
  let c := p.conditions.get (blankedKind k)
  let r := p.reports.get (blankedKind k)
  if p.commanded == ownState k then
    match r with
    | .standing => .prolonged
    | .prolonged => .prolonged
    | .clear =>
      if p.blanking.isSome && c.presentFor (shortFilter (now - p.since)) now then .prolonged else .clear
  else
    match r with
    | .prolonged => .standing
    | r => r

/-- The reports at a switching edge: blanked kinds by R142 and R143, the others CLEAR at an edge to OFF
(R140). -/
def PowerChannel.reportsAtEdge (p : PowerChannel) (now : Nat) : PowerChannel :=
  let q := p.setReport .shortSupply (edgeReport .shortSupply p now)
  let q := q.setReport .openOff (edgeReport .openOff p now)
  let q := q.setReport .openOn (edgeReport .openOn p now)
  if p.commanded then (q.setReport .overload .clear).setReport .overtemp .clear else q

/-- Entry to a commanded state: blanking, time in state and conditions restart (R133, R137); the thermal
state is NORMAL in OFF, and follows the junction in ON (R136) (DEDUCED: log entry 22). -/
def PowerChannel.enter (p : PowerChannel) (b : Bool) (normal : Bool) (now : Nat) : PowerChannel :=
  (PowerChannel.followJunction { p with
    commanded := b, blanking := some (now + Config.blankingTime), since := now, thermal := .normal,
    conditions := PerPower.all (Condition.absent now) }).measure normal now

/-- The commanded state taken from the applied drive; a change is a switching edge (R133). -/
def PowerChannel.command (p : PowerChannel) (b : Bool) (normal : Bool) (now : Nat) : PowerChannel :=
  if p.commanded == b then p else (p.reportsAtEdge now).enter b normal now

/-! ## The die -/

/-- The commanded state of channel n (R133). -/
def PowerDie.commands (p : PowerDie) (n : Fin 8) : Bool :=
  p.enable && maskBit p.bits n && !p.tripped && p.supplyNormal

/-- The off-state pull-up of output n is on; it is off while the supply state is LOW (R137, R138). -/
def PowerDie.pullUp (p : PowerDie) (n : Fin 8) : Bool := (p.channels.get n).pullUp p.supplyNormal

/-- The current in µA that flows from the die into output n (R133, R135, R138). -/
def PowerDie.sourced (p : PowerDie) (n : Fin 8) : Int := (p.channels.get n).sourced p.supplyNormal

def PowerDie.mapChannels (p : PowerDie) (f : Fin 8 → PowerChannel → PowerChannel) : PowerDie :=
  { p with channels := Eight.of fun n => f n (p.channels.get n) }

def PowerDie.setChannel (p : PowerDie) (c : Fin 8) (x : PowerChannel) : PowerDie :=
  { p with channels := p.channels.set c x }

/-- Every channel follows the applied drive. -/
def PowerDie.follow (p : PowerDie) (now : Nat) : PowerDie :=
  p.mapChannels fun n x => x.command (p.commands n) p.supplyNormal now

/-- A drive word is valid: the die is out of reset, the check is good, and the count differs from the
previous one, if there is one (R123). -/
def PowerDie.accepts (p : PowerDie) (w : BitVec 16) : Bool :=
  !p.inReset && driveCheckGood w && p.previous != some (driveCount w)

/-- A valid drive word is taken (R123). -/
def PowerDie.drive (p : PowerDie) (w : BitVec 16) (now : Nat) : PowerDie :=
  if p.accepts w then
    { p with enable := driveEnable w, bits := driveBits w, previous := some (driveCount w),
             watchdog := some (now + Config.watchdogTime), tripped := false }.follow now
  else p

/-- Watchdog expiry: every output off (R123). -/
def PowerDie.watchdogEnds (p : PowerDie) (now : Nat) : PowerDie :=
  if p.watchdog.isSome then { p with watchdog := none, tripped := true }.follow now else p

/-- The channel bits of a reply of a kind (R124, R134). -/
def PowerDie.replyBits (p : PowerDie) (k : ReplyKind) : Byte :=
  maskOf (Eight.of fun n =>
    let x := p.channels.get n
    match k with
    | .feedback => x.measuredOn
    | .diagnostic d => x.reports.get d != .clear)

/-- The reply word of the rotation position; none is sent in reset (R124, R132). -/
def PowerDie.formReply (p : PowerDie) : PowerDie :=
  if p.inReset then p
  else { p with
    replyWord := some (replyWordOf (replyKindAt p.position) (p.replyBits (replyKindAt p.position))
      (!p.supplyNormal) p.tripped),
    position := p.position + 1 }

/-- A channel at the change to supply LOW (R137). The time of every condition starts again at the change, also of one
that was already absent, on a channel that was OFF too (DESIGN CHOICE: log entry 22; nothing reads these times while the
supply is LOW, and the recovery starts them anew). -/
def PowerChannel.supplyLost (p : PowerChannel) (now : Nat) : PowerChannel :=
  { p with
    commanded := false, blanking := none, since := if p.commanded then now else p.since,
    thermal := .normal, conditions := PerPower.all (Condition.absent now),
    reports := PerPower.all .clear }

/-- The supply state becomes LOW. -/
def PowerDie.supplyFalls (p : PowerDie) (now : Nat) : PowerDie :=
  if !p.inReset && p.supplyNormal then
    { p with supplyNormal := false }.mapChannels fun _ x => x.supplyLost now
  else p

/-- The supply state becomes NORMAL: every channel enters the commanded state of the applied drive, with
every report CLEAR (R137). -/
def PowerDie.supplyReturns (p : PowerDie) (now : Nat) : PowerDie :=
  if !p.inReset && !p.supplyNormal then
    let q := { p with supplyNormal := true }
    q.mapChannels fun n x => { x with reports := PerPower.all .clear }.enter (q.commands n) true now
  else p

/-- A change of one channel while the die is out of reset. -/
def PowerDie.modify (p : PowerDie) (c : Fin 8) (f : PowerChannel → PowerChannel) : PowerDie :=
  if p.inReset then p else p.setChannel c (f (p.channels.get c))

/-- What the environment shows at the eight outputs. -/
def PowerDie.loads (p : PowerDie) : Eight Electrical := Eight.of fun n => (p.channels.get n).load

/-- A new electrical situation at output c; in reset only the situation itself changes. -/
def PowerDie.show (p : PowerDie) (c : Fin 8) (load : Electrical) (now : Nat) : PowerDie :=
  let x := p.channels.get c
  p.setChannel c (if p.inReset then { x with load := load } else x.observe load p.supplyNormal now)

/-- The filter of OVERLOAD or OVERTEMP ends: the report follows a condition that has been present, or absent,
for 40 µs (R140). -/
def PowerChannel.filterEnds (p : PowerChannel) (k : UnblankedKind) (now : Nat) : PowerChannel :=
  let c := p.conditions.get (unblankedKind k)
  match p.reports.get (unblankedKind k) with
  | .clear =>
    if c.presentFor Config.reportFilterTime now then p.setReport (unblankedKind k) .standing else p
  | .standing =>
    if c.absentFor Config.reportFilterTime now then p.setReport (unblankedKind k) .clear else p
  | .prolonged => p

/-- The filter of a blanked kind ends after blanking: the report is judged on the time its condition has run
(R141). A SHORT-SUPPLY report that clears lets OPEN-OFF be judged in the same event (R138). -/
def PowerChannel.blankedFilterEnds (p : PowerChannel) (k : BlankedKind) (now : Nat) : PowerChannel :=
  if p.blanking.isSome then p
  else
    let q := p.judge k now
    if k == .shortSupply && p.reports.shortSupply != .clear && q.reports.shortSupply == .clear then
      q.judge .openOff now
    else q

/-- Blanking expiry: own-state reports are judged, PROLONGED ones of the opposite state end (R141, R143). -/
def PowerChannel.blankingEnds (p : PowerChannel) (now : Nat) : PowerChannel :=
  if p.blanking.isNone then p
  else
    let q := { p with blanking := none }
    let q := ((q.endProlonged .shortSupply).endProlonged .openOff).endProlonged .openOn
    ((q.judge .shortSupply now).judge .openOff now).judge .openOn now

end Sys2Proof.Machine
end

