-- ==== Sys2Proof/Machine/PowerEvents.lean ====
section
/-! DEFINITION. The commands of the power die (chapters 8 and 9). -/

namespace Sys2Proof.Machine

open Sys2Proof

/-- A drive word arrives (R123, R133). -/
def execDriveWordReceived (w : BitVec 16) (s : State) : Host.Outcome State Fault Refusal :=
  .next (setPower (s.power.drive w s.now) s)

/-- The drive watchdog expires (R123). -/
def execWatchdogExpiry (s : State) : Host.Outcome State Fault Refusal :=
  .next (setPower (s.power.watchdogEnds s.now) s)

/-- A reply word is formed and sent (R124). -/
def execReplyWordFormed (s : State) : Host.Outcome State Fault Refusal :=
  .next (setPower s.power.formReply s)

/-- VBB is below 6.0 V: the power die is in reset (R121, R132). -/
def execPowerDieReset (s : State) : Host.Outcome State Fault Refusal :=
  .next (setPower (PowerDie.reset true s.now (s.power.loads)) s)

/-- The power die leaves reset (R132). -/
def execPowerDieResetEnd (s : State) : Host.Outcome State Fault Refusal :=
  .next (if s.power.inReset then setPower (PowerDie.reset false s.now (s.power.loads)) s else s)

/-- VBB has been below 9.5 V for 20 µs (R137). -/
def execSupplyLow (s : State) : Host.Outcome State Fault Refusal :=
  .next (setPower (s.power.supplyFalls s.now) s)

/-- VBB has been above 10.5 V for 20 µs (R137). -/
def execSupplyRecovered (s : State) : Host.Outcome State Fault Refusal :=
  .next (setPower (s.power.supplyReturns s.now) s)

/-- The junction of channel c reaches 160 °C (R136) (DEDUCED: log entry 22). -/
def execThermalShutdown (c : Fin 8) (s : State) : Host.Outcome State Fault Refusal :=
  .next (setPower (s.power.modify c fun x =>
    x.observe { x.load with junction := max shutdownJunction x.load.junction } s.power.supplyNormal s.now) s)

/-- The junction of channel c cools to 140 °C (R136) (DEDUCED: log entry 22). -/
def execThermalRestart (c : Fin 8) (s : State) : Host.Outcome State Fault Refusal :=
  .next (setPower (s.power.modify c fun x =>
    x.observe { x.load with junction := min restartJunction x.load.junction } s.power.supplyNormal s.now) s)

/-- The electrical situation of output c changes (R133, R134, R135, R136, R138, R139). -/
def execConditionChange (c : Fin 8) (load : Electrical) (s : State) : Host.Outcome State Fault Refusal :=
  .next (setPower (s.power.show c load s.now) s)

/-- The 40 µs filter of OVERLOAD or OVERTEMP ends (R140). -/
def execReportFilterExpiry (c : Fin 8) (k : UnblankedKind) (s : State) : Host.Outcome State Fault Refusal :=
  .next (setPower (s.power.modify c fun x => x.filterEnds k s.now) s)

/-- The filter of a blanked kind ends after blanking (R141). -/
def execBlankedFilterExpiry (c : Fin 8) (k : BlankedKind) (s : State) : Host.Outcome State Fault Refusal :=
  .next (setPower (s.power.modify c fun x => x.blankedFilterEnds k s.now) s)

/-- The blanking of channel c ends (R141, R143). -/
def execBlankingExpiry (c : Fin 8) (s : State) : Host.Outcome State Fault Refusal :=
  .next (setPower (s.power.modify c fun x => x.blankingEnds s.now) s)

end Sys2Proof.Machine
end

