-- ==== Sys2Proof/Machine/Resets.lean ====
section
/-! DEFINITION. The commands of resets and loading (chapter 11). -/

namespace Sys2Proof.Machine

open Sys2Proof

/-- VCC rises past 2.9 V after power-on, or falls below 2.7 V: the logic die is in node reset (R155). -/
def execLogicSupplyPowerOn (s : State) : Host.Outcome State Fault Refusal :=
  .next (powerOn s)

/-- RESET has been low for 10 µs (R155). -/
def execResetPinAsserted (s : State) : Host.Outcome State Fault Refusal :=
  .next (nodeReset s)

/-- Reset ends: the straps are sampled and loading starts (R155, R157, R162). -/
def execNodeResetEnd (sample : ResetSample) (s : State) : Host.Outcome State Fault Refusal :=
  .next (if s.held then endReset sample s else s)

/-- The 1 ms wait ends and the memory is addressed again (R157). -/
def execMemoryAddressRetry (acknowledged : Bool) (s : State) : Host.Outcome State Fault Refusal :=
  .next (retryAddress acknowledged s)

/-- The last image byte is read, and the image is checked (R157, R159, R161). -/
def execMemoryReadComplete (bytes : List Byte) (s : State) : Host.Outcome State Fault Refusal :=
  .next (takeBody bytes s)

/-- The read of the memory fails: MEMORY-READ (R157). -/
def execMemoryReadFailure (bytes : List Byte) (s : State) : Host.Outcome State Fault Refusal :=
  .next (readFails bytes s)

/-- The header is read, and its length field judged (R157). -/
def execMemoryHeaderRead (bytes : List Byte) (s : State) : Host.Outcome State Fault Refusal :=
  .next (takeHeader bytes s)

end Sys2Proof.Machine
end

