-- ==== Sys2Proof/Machine/Dispatch.lean ====
section
/-! DEFINITION. One arm for each command. -/

namespace Sys2Proof.Machine

open Sys2Proof

def exec (i : Instr) (s : State) : Host.Outcome State Fault Refusal :=
  match i with
  | .nop => Sys2Proof.Machine.execNop s
  | .readNode => Sys2Proof.Machine.execReadNode s
  | .readChannel c => Sys2Proof.Machine.execReadChannel c s
  | .readSubscription k => Sys2Proof.Machine.execReadSubscription k s
  | .readPublication k => Sys2Proof.Machine.execReadPublication k s
  | .readGroup k => Sys2Proof.Machine.execReadGroup k s
  | .readZones => Sys2Proof.Machine.execReadZones s
  | .readPeer station => Sys2Proof.Machine.execReadPeer station s
  | .popFaultList => Sys2Proof.Machine.execPopFaultList s
  | .readEvents => Sys2Proof.Machine.execReadEvents s
  | .setHostPoint n v => Sys2Proof.Machine.execSetHostPoint n v s
  | .ackFaults station channels kinds nodeFlags => Sys2Proof.Machine.execAckFaults station channels kinds nodeFlags s
  | .tripZones mask => Sys2Proof.Machine.execTripZones mask s
  | .clearZones mask => Sys2Proof.Machine.execClearZones mask s
  | .resetNode sample => Sys2Proof.Machine.execResetNode sample s
  | .writeConfigBlock offset data => Sys2Proof.Machine.execWriteConfigBlock offset data s
  | .commitConfig => Sys2Proof.Machine.execCommitConfig s
  | .checkError bytes sample => Sys2Proof.Machine.execCheckError bytes sample s
  | .emptyTransaction => Sys2Proof.Machine.execEmptyTransaction s
  | .logicSupplyPowerOn => Sys2Proof.Machine.execLogicSupplyPowerOn s
  | .resetPinAsserted => Sys2Proof.Machine.execResetPinAsserted s
  | .nodeResetEnd sample => Sys2Proof.Machine.execNodeResetEnd sample s
  | .memoryAddressRetry acknowledged => Sys2Proof.Machine.execMemoryAddressRetry acknowledged s
  | .memoryReadComplete bytes => Sys2Proof.Machine.execMemoryReadComplete bytes s
  | .memoryReadFailure bytes => Sys2Proof.Machine.execMemoryReadFailure bytes s
  | .shutdownAsserted => Sys2Proof.Machine.execShutdownAsserted s
  | .shutdownReleased => Sys2Proof.Machine.execShutdownReleased s
  | .sensePinChange n => Sys2Proof.Machine.execSensePinChange n s
  | .debounceExpiry n => Sys2Proof.Machine.execDebounceExpiry n s
  | .confirmTimerExpiryEnergizing c => Sys2Proof.Machine.execConfirmTimerExpiryEnergizing c s
  | .confirmTimerExpiryReleasing c => Sys2Proof.Machine.execConfirmTimerExpiryReleasing c s
  | .offCheckExpiry c => Sys2Proof.Machine.execOffCheckExpiry c s
  | .holdOverExpiry c term => Sys2Proof.Machine.execHoldOverExpiry c term s
  | .request c => Sys2Proof.Machine.execRequest c s
  | .cancel c => Sys2Proof.Machine.execCancel c s
  | .grant c => Sys2Proof.Machine.execGrant c s
  | .revoke c => Sys2Proof.Machine.execRevoke c s
  | .done c => Sys2Proof.Machine.execDone c s
  | .holdTimerExpiry e => Sys2Proof.Machine.execHoldTimerExpiry e s
  | .retryHoldOffExpiry e => Sys2Proof.Machine.execRetryHoldOffExpiry e s
  | .lifetimeTimerExpiry e => Sys2Proof.Machine.execLifetimeTimerExpiry e s
  | .claimWindowExpiry e => Sys2Proof.Machine.execClaimWindowExpiry e s
  | .deadTimerExpiry e => Sys2Proof.Machine.execDeadTimerExpiry e s
  | .lapseTimerExpiry e => Sys2Proof.Machine.execLapseTimerExpiry e s
  | .markTimerExpiry => Sys2Proof.Machine.execMarkTimerExpiry s
  | .ageTimerExpiry k => Sys2Proof.Machine.execAgeTimerExpiry k s
  | .refreshTimerExpiry k => Sys2Proof.Machine.execRefreshTimerExpiry k s
  | .frameOffer rivals => Sys2Proof.Machine.execFrameOffer rivals s
  | .attemptCollision => Sys2Proof.Machine.execAttemptCollision s
  | .attemptRejected => Sys2Proof.Machine.execAttemptRejected s
  | .badFrameReceived f => Sys2Proof.Machine.execBadFrameReceived f s
  | .frameRejectedByOther => Sys2Proof.Machine.execFrameRejectedByOther s
  | .markTaken a => Sys2Proof.Machine.execMarkTaken a s
  | .tripTaken a => Sys2Proof.Machine.execTripTaken a s
  | .clearTaken a => Sys2Proof.Machine.execClearTaken a s
  | .claimTaken a => Sys2Proof.Machine.execClaimTaken a s
  | .holdTaken a => Sys2Proof.Machine.execHoldTaken a s
  | .releaseTaken a => Sys2Proof.Machine.execReleaseTaken a s
  | .pointsTaken a => Sys2Proof.Machine.execPointsTaken a s
  | .faultTaken a => Sys2Proof.Machine.execFaultTaken a s
  | .faultAckTaken a => Sys2Proof.Machine.execFaultAckTaken a s
  | .statusTaken a => Sys2Proof.Machine.execStatusTaken a s
  | .helloTaken a => Sys2Proof.Machine.execHelloTaken a s
  | .offLineTimerExpiry => Sys2Proof.Machine.execOffLineTimerExpiry s
  | .joinWaitExpiry => Sys2Proof.Machine.execJoinWaitExpiry s
  | .helloHoldOffExpiry => Sys2Proof.Machine.execHelloHoldOffExpiry s
  | .slotStart => Sys2Proof.Machine.execSlotStart s
  | .driveWordReceived w => Sys2Proof.Machine.execDriveWordReceived w s
  | .watchdogExpiry => Sys2Proof.Machine.execWatchdogExpiry s
  | .replyWordFormed => Sys2Proof.Machine.execReplyWordFormed s
  | .replyReceived w => Sys2Proof.Machine.execReplyReceived w s
  | .slotFailed reply => Sys2Proof.Machine.execSlotFailed reply s
  | .offGuaranteeExpiry => Sys2Proof.Machine.execOffGuaranteeExpiry s
  | .powerDieReset => Sys2Proof.Machine.execPowerDieReset s
  | .powerDieResetEnd => Sys2Proof.Machine.execPowerDieResetEnd s
  | .supplyLow => Sys2Proof.Machine.execSupplyLow s
  | .supplyRecovered => Sys2Proof.Machine.execSupplyRecovered s
  | .thermalShutdown c => Sys2Proof.Machine.execThermalShutdown c s
  | .thermalRestart c => Sys2Proof.Machine.execThermalRestart c s
  | .conditionChange c load => Sys2Proof.Machine.execConditionChange c load s
  | .reportFilterExpiry c k => Sys2Proof.Machine.execReportFilterExpiry c k s
  | .blankedFilterExpiry c k => Sys2Proof.Machine.execBlankedFilterExpiry c k s
  | .blankingExpiry c => Sys2Proof.Machine.execBlankingExpiry c s
  | .undefinedKindTaken kind source payload => Sys2Proof.Machine.execUndefinedKindTaken kind source payload s
  | .memoryHeaderRead bytes => Sys2Proof.Machine.execMemoryHeaderRead bytes s
  | .transactionBegin => Sys2Proof.Machine.execTransactionBegin s

end Sys2Proof.Machine
end

