-- ==== Sys2Proof/Machine/Step.lean ====
section
/-! DEFINITION. One step: the command at the front of the queue, or a tick of the clock. -/

namespace Sys2Proof.Machine

open Sys2Proof

/-- One µs passes with nothing waiting: the clock and the join counter go on (R112; log entry 2). -/
def tick (s : State) : State :=
  { s with now := s.now + 1, bus := { s.bus with joinCounter := s.bus.joinCounter + 1 } }

/-- The front command acts on the state with the rest of the queue; an empty queue is a tick. -/
def step (s : State) : Host.Outcome State Fault Refusal :=
  match s.pending with
  | [] => .next (tick s)
  | c :: rest => exec c { s with pending := rest }

/-- The state with the command that a word spells at the front of its queue. -/
def State.withFetchWord (s : State) (nbits w : Nat) : State :=
  match decodeTableWord nbits w with
  | some c => { s with pending := c :: s.pending }
  | none => s

end Sys2Proof.Machine
end

