-- ==== Sys2Proof/Safety.lean ====
section
/-! DEFINITION. What a sound state is, in the terms the statements use: the promises that the manual makes
about every moment of the node, each as a test of one state. -/

namespace Sys2Proof.Machine

open Sys2Proof

/-- A test at each of 0 to 7. -/
def each8Holds (p : Fin 8 → Bool) : Bool := eightIndices.all p

/-! ## Messages of a channel -/

/-- The messages of channel c that are under way to its membership entry, oldest first (section 1.5). -/
def State.sentBy (s : State) (c : Fin 8) : List ToGroup := s.channels.toGroups.filter fun m => m.channel == c

/-- A message of channel c as it joins them: none where its group field is absent (R8). -/
def State.messageOf (s : State) (c : Fin 8) (m : ToGroupMsg) : List ToGroup :=
  match (s.cfg c).group with
  | some e => [⟨e, c, m⟩]
  | none => []

/-! ## What an event does to one channel -/

/-- From s to t, cause k was forced on channel c, as the table of R19 gives it. -/
def State.forced (s t : State) (k : Cause) (c : Fin 8) : Prop :=
  let r := s.chan c
  let u := t.chan c
  if r.causes.has k = true then u = r ∧ t.sentBy c = s.sentBy c
  else
    u.causes = r.causes.put k true ∧ u.demand = r.demand ∧ u.rearm = r.rearm ∧ u.handBack = r.handBack ∧
    u.holdOvers = r.holdOvers ∧
    u.state = (match r.state with
      | .energizing | .on | .disarming | .releasing => .releasing
      | .off | .waiting | .armed | .suspended | .locked => .locked) ∧
    (u.state = .releasing → u.target = .locked) ∧
    t.sentBy c = s.sentBy c ++ (match r.state with
      | .waiting => s.messageOf c .cancel
      | .armed => s.messageOf c .doneNeverDriven
      | .off | .energizing | .on | .disarming | .releasing | .suspended | .locked => [])

/-- From s to t, cause k was withdrawn from channel c, as R20 and R10 give it. -/
def State.withdrawn (s t : State) (k : Cause) (c : Fin 8) : Prop :=
  let r := s.chan c
  let u := t.chan c
  let left := r.causes.put k false
  let held : Bool := r.state == .locked || (r.state == .releasing && r.target == .locked)
  t.sentBy c = s.sentBy c ∧ u.causes = left ∧ u.demand = r.demand ∧ u.handBack = r.handBack ∧
    (r.causes.has k = false → u = r) ∧
    (r.causes.has k = true → left = CauseSet.empty → held = true →
      u.rearm = r.demand ∧
      (r.state = .locked → u.state = .off) ∧
      (r.state = .releasing → u.state = .releasing ∧
        u.target = if s.pathReady = true then .off else .suspended)) ∧
    (left ≠ CauseSet.empty ∨ held = false →
      u.state = r.state ∧ u.target = r.target ∧ u.rearm = r.rearm)

/-- From s to t, channel c took a demand change to d: the column of the state machine that R9 to R16 give. -/
def State.tookDemand (s t : State) (d : Bool) (c : Fin 8) : Prop :=
  let r := s.chan c
  let u := t.chan c
  let onlyDemand : Prop := u = { r with demand := d } ∧ t.sentBy c = s.sentBy c
  match r.state with
  | .off =>
    if d = false then u = { r with demand := false, rearm := false } ∧ t.sentBy c = s.sentBy c
    else if (!r.rearm && s.pathReady && (s.cfg c).enabled) = false then onlyDemand
    else u.demand = true ∧ u.rearm = false ∧ t.sentBy c = s.sentBy c ++ s.messageOf c .request ∧
      u.state = (match (s.cfg c).group, (s.cfg c).timing with
        | some _, _ => .waiting
        | none, .marked => .armed
        | none, .immediate => .energizing) ∧
      (u.state = .energizing → u.confirm = some (s.now + 5000))
  | .waiting =>
    if d = true then onlyDemand
    else u.state = .off ∧ u.demand = false ∧ u.rearm = false ∧ u.causes = r.causes ∧
      t.sentBy c = s.sentBy c ++ s.messageOf c .cancel
  | .armed =>
    if d = true then onlyDemand
    else u.state = .off ∧ u.demand = false ∧ u.rearm = false ∧ u.causes = r.causes ∧
      t.sentBy c = s.sentBy c ++ s.messageOf c .doneNeverDriven
  | .on =>
    if d = true then onlyDemand
    else t.sentBy c = s.sentBy c ∧ u.demand = false ∧ u.causes = r.causes ∧
      match (s.cfg c).timing with
      | .marked => u.state = .disarming ∧ u.offCheck = r.offCheck
      | .immediate => u.state = .releasing ∧ u.target = .off ∧ u.offCheck = none ∧
          u.confirm = if s.link.up = true then some (s.now + 5000) else none
  | .disarming =>
    if d = false then onlyDemand
    else t.sentBy c = s.sentBy c ∧ u.state = .on ∧ u.demand = true ∧ u.offCheck = r.offCheck ∧
      u.causes = r.causes
  | .energizing | .releasing | .suspended | .locked => onlyDemand

/-- From s to t, channel c is as it was, with the messages it had under way. -/
def State.sameChannel (s t : State) (c : Fin 8) : Prop := t.chan c = s.chan c ∧ t.sentBy c = s.sentBy c

/-- From s to t, channel c evaluated its demand from the sources of t (R5). -/
def State.evaluated (s t : State) (c : Fin 8) : Prop :=
  if (evalDemand t c == (s.chan c).demand) = true then s.sameChannel t c else s.tookDemand t (evalDemand t c) c

/-- s with the hold-over timers of channel c as they are in t: an event that starts or stops them evaluates the
demand after it (R4, R5). -/
def State.withHoldOvers (s t : State) (c : Fin 8) : State :=
  modChan c (fun r => { r with holdOvers := (t.chan c).holdOvers }) s

/-! ## What an event leaves a membership entry -/

/-- The queue holds no room for a new frame of group g: a frame of the group is queued, or 12 frames are
(R101, R102). -/
def State.noRoomFor (t : State) (g : Fin 128) : Prop :=
  12 ≤ t.bus.queue.length ∨ ∃ q ∈ t.bus.queue, q.frame.group = some g

/-- Membership entry e is left as x, unless x may claim (R32): then the entry claims for the head of its list, with
a CLAIM queued that names it (R29); a CLAIM that the queue has no room for leaves it FREE with the retry hold-off
(R30). -/
def State.leaves (t : State) (e : Fin 8) (x : Entry) : Prop :=
  match x.requests with
  | [] => t.entry e = some x
  | c :: _ =>
    if x.state = .free ∧ x.hold = none ∧ t.onLine = true then
      (t.entry e = some { Entry.start with state := .claiming, requests := x.requests,
                                           claimChannel := some c } ∧
        ∃ q ∈ t.bus.queue, q.frame = .claim (t.member e).group c) ∨
      (t.entry e = some { Entry.start with state := .free, requests := x.requests,
                                           hold := some (t.now + t.holdInterval) } ∧
        t.noRoomFor (t.member e).group)
    else t.entry e = some x

/-! ## Frames that arrive -/

/-- The command that takes a frame of this kind, as the table names it. -/
def Frame.taken (f : Frame) (a : Arrival) : Instr :=
  match f with
  | .mark _ => .markTaken a
  | .trip _ _ => .tripTaken a
  | .clear _ => .clearTaken a
  | .release _ _ => .releaseTaken a
  | .hold _ _ _ => .holdTaken a
  | .claim _ _ => .claimTaken a
  | .faultAck _ _ _ _ => .faultAckTaken a
  | .fault _ _ _ _ => .faultTaken a
  | .points _ => .pointsTaken a
  | .status _ => .statusTaken a
  | .hello _ _ => .helloTaken a

/-- The node reads what passes, in JOINING, ON-LINE, MUTED or BARRED (R93, R96), with a score at which a good
frame leaves JOINING and ON-LINE alone and does not bring OFF-LINE (R116, R117); the source is another valid
station (R98, R119). An attempt of its own may be on the line (R69, R104). -/
def State.hears (s : State) (source : Station) : Prop :=
  s.running = true ∧ s.bus.gapSeen = true ∧ 1 ≤ source.val ∧ source.val ≤ 62 ∧ source ≠ s.loader.station ∧
    match s.bus.state with
    | .joining | .onLine => s.bus.score ≤ 96
    | .muted => s.bus.score ≤ 200
    | .barred => True
    | .disabled | .offLine => False

/-- A good frame leaves a MUTED node MUTED: its score stays above 32 (R116). -/
def State.staysMuted (s : State) : Prop := s.bus.state = .muted → 34 ≤ s.bus.score

/-- The node is ON-LINE with its own frame on the line (R95, R104). -/
def State.sends (s : State) (f : Frame) : Prop :=
  s.running = true ∧ s.bus.state = .onLine ∧ s.bus.attempt = some f ∧ s.bus.score ≤ 96

/-- A frame arrives at the owner of its kind from a source: the own frame of an attempt that completes, or a frame
heard from another station (R97, R99). -/
def State.arrives (s : State) (f : Frame) (source : Station) (a : Arrival) : Prop :=
  match a with
  | .own => s.sends f ∧ source = s.loader.station
  | .heard station payload => station = source ∧ payload = f.payload ∧ f.inRange = true ∧ s.hears source

/-- From s to t, each channel took a mark event (R56). -/
def State.tookMarkEvent (s t : State) : Prop :=
  ∀ c, t.sentBy c = s.sentBy c ∧
    let r := s.chan c
    match r.state with
    | .armed => t.chan c = { r with state := .energizing, confirm := some (s.now + 5000), offCheck := none }
    | .disarming => t.chan c = { r with
        state := .releasing, target := .off, offCheck := none,
        confirm := if s.link.up = true then some (s.now + 5000) else none }
    | .off | .waiting | .energizing | .on | .releasing | .suspended | .locked => t.chan c = r

/-- From s to t, no channel and no message of a channel changed. -/
def State.sameChannels (s t : State) : Prop := ∀ c, s.sameChannel t c

/-- From s to t, the blocks that no frame and no membership entry reaches are as they were: the loader, the sense
inputs, the host points, the Barrier Link, the power die, the SHUTDOWN field. -/
def State.sameSurroundings (s t : State) : Prop :=
  t.held = s.held ∧ t.loader = s.loader ∧ t.inputs = s.inputs ∧ t.host.points = s.host.points ∧
    t.link = s.link ∧ t.power = s.power ∧ t.zones.shutdown = s.zones.shutdown ∧
    t.channels.feedback = s.channels.feedback

/-! ## States of a membership entry -/

/-- A new state with every other field absent, no or stopped; the waiting channels are kept (section 2.1.2). -/
def Entry.became (x : Entry) (state : EntryState) : Entry :=
  { Entry.start with state := state, requests := x.requests }

/-- HELD-REMOTE, with the lifetime timer at 3H (R45). -/
def State.heldBy (s : State) (x : Entry) (h : Holder) : Entry :=
  { x.became .heldRemote with holder := some h, lifetime := some (s.now + 3 * s.holdInterval) }

/-- DEAD, with the dead timer at D; with D at 0 ms the entry passes on to FREE (R44). -/
def State.deadAfter (s : State) (e : Fin 8) (x : Entry) : Entry :=
  if s.deadTime e = 0 then x.became .free
  else { x.became .dead with dead := some (s.now + s.deadTime e) }

/-- From x, the entry waits for its RELEASE to be taken, in RELEASING-LOCAL, with a RELEASE queued that names the
holder channel, or the claim channel (R29, R42); a RELEASE that the queue has no room for ends the holding at once,
in DEAD (R30). -/
def State.releases (s t : State) (e : Fin 8) (x : Entry) : Prop :=
  (t.entry e = some { x with state := .releasingLocal, releaseQueued := true, hold := none, lapse := none,
                             window := none } ∧
    ∃ q ∈ t.bus.queue, q.frame = .release (s.member e).group x.frameChannel) ∨
  (t.leaves e (s.deadAfter e x) ∧ t.noRoomFor (s.member e).group)

/-- From x, the holding ends with the first case of R42 that applies, in the bus state of s. -/
def State.settled (s t : State) (e : Fin 8) (x : Entry) : Prop :=
  if s.bus.state ≠ .onLine then t.entry e = some (x.became .unknown)
  else if x.yielded = true then
    ∀ h, x.conflict = some h → t.entry e = some (s.heldBy x h)
  else if x.lapsed = true then
    t.entry e = some { x.became .unknown with lifetime := some (s.now + 3 * s.holdInterval) }
  else s.releases t e x

/-! ## What the building of due frames can touch -/

/-- From s to t, nothing changed but what the frames due after an event touch (R32, R89, R148): membership entries,
the transmit queue, the node flags, the records' waiting bits and build blocked, the publications, the host
event set. -/
def State.sameButTraffic (s t : State) : Prop :=
  t = { s with
    groups := t.groups, pubs := t.pubs,
    bus := { s.bus with queue := t.bus.queue },
    faults := { s.faults with records := t.faults.records, blocked := t.faults.blocked,
                              flags := t.faults.flags },
    host := { s.host with events := t.host.events } }
  ∧ (∀ c, (t.faultRec c).kinds = (s.faultRec c).kinds ∧ (t.faultRec c).newest = (s.faultRec c).newest)
  ∧ t.faults.flags.live = s.faults.flags.live

/-- Publication k is on its way: it is pending, or a queued POINTS frame carries its point with the value of its
source (R87, R89). -/
def State.willSend (t : State) (k : Fin 16) (cfg : PublicationConfig) : Prop :=
  t.pubs.entries[k.val]?.map Publication.waiting = some true ∨
    ∃ q ∈ t.bus.queue, ∃ pairs, q.frame = .points pairs ∧
      { point := cfg.point, value := sourceValue t cfg.source } ∈ pairs

/-! ## The two dies -/

/-- The commands of the power die: the events of its own side of the barrier (chapters 8 and 9). -/
def Instr.onPowerDie (i : Instr) : Bool :=
  match i with
  | .driveWordReceived _ | .watchdogExpiry | .replyWordFormed | .powerDieReset | .powerDieResetEnd
  | .supplyLow | .supplyRecovered | .thermalShutdown _ | .thermalRestart _ | .conditionChange _ _
  | .reportFilterExpiry _ _ | .blankedFilterExpiry _ _ | .blankingExpiry _ => true
  | .nop | .readNode | .readChannel _ | .readSubscription _ | .readPublication _ | .readGroup _
  | .readZones | .readPeer _ | .popFaultList | .readEvents | .setHostPoint _ _ | .ackFaults _ _ _ _
  | .tripZones _ | .clearZones _ | .resetNode _ | .writeConfigBlock _ _ | .commitConfig
  | .checkError _ _ | .emptyTransaction | .logicSupplyPowerOn | .resetPinAsserted | .nodeResetEnd _
  | .memoryAddressRetry _ | .memoryReadComplete _ | .memoryReadFailure _ | .shutdownAsserted
  | .shutdownReleased | .sensePinChange _ | .debounceExpiry _ | .confirmTimerExpiryEnergizing _
  | .confirmTimerExpiryReleasing _ | .offCheckExpiry _ | .holdOverExpiry _ _ | .request _ | .cancel _
  | .grant _ | .revoke _ | .done _ | .holdTimerExpiry _ | .retryHoldOffExpiry _ | .lifetimeTimerExpiry _
  | .claimWindowExpiry _ | .deadTimerExpiry _ | .lapseTimerExpiry _ | .markTimerExpiry
  | .ageTimerExpiry _ | .refreshTimerExpiry _ | .frameOffer _ | .attemptCollision | .attemptRejected
  | .badFrameReceived _ | .frameRejectedByOther | .markTaken _ | .tripTaken _ | .clearTaken _
  | .claimTaken _ | .holdTaken _ | .releaseTaken _ | .pointsTaken _ | .faultTaken _ | .faultAckTaken _
  | .statusTaken _ | .helloTaken _ | .offLineTimerExpiry | .joinWaitExpiry | .helloHoldOffExpiry
  | .slotStart | .replyReceived _ | .slotFailed _ | .offGuaranteeExpiry | .undefinedKindTaken _ _ _
  | .memoryHeaderRead _ | .transactionBegin => false

/-! ## The peer bus -/

/-- While the bus state is ON-LINE or JOINING, the score is below 96 (R116). -/
def State.scoreSound (s : State) : Bool := !s.learns || decide (s.bus.score < 96)

/-- No two queued frames fall under one limit of R101. -/
def limitsHold : List Queued → Bool
  | [] => true
  | q :: qs => (qs.all fun x => !sameLimit q.frame x.frame) && limitsHold qs

/-- The queue holds at most 12 frames, and at most one frame under each limit; only FAULT-ACK has none
(R100, R101). -/
def State.queueSound (s : State) : Bool :=
  decide (s.bus.queue.length ≤ queueCapacity) && limitsHold s.bus.queue

/-- The queue's order is that of the kind codes (R100). -/
def codesRise : List Queued → Bool
  | [] => true
  | q :: qs => (qs.all fun x => decide (q.frame.code ≤ x.frame.code)) && codesRise qs

def State.queueOrdered (s : State) : Bool := codesRise s.bus.queue

/-! ## Fault Records -/

/-- The network fault list holds at most 16 entries (R152). -/
def State.listSound (s : State) : Bool := decide (s.faults.list.length ≤ listCapacity)

/-- A kind's record keeps the promise of R146: live means sticky and counted at least once. -/
def KindRecord.sound (k : KindRecord) : Bool := !k.live || (k.sticky && decide (1 ≤ k.count))

/-- The seven kinds. -/
def faultKinds : List FaultKind :=
  [.openOff, .shortSupply, .openOn, .overload, .overtemp, .failOn, .stuckOn]

/-- While the node is RUNNING, a kind that is live is sticky, with a count of at least 1 (R146); before, the
two kinds of Channel Logic are not live (R144). -/
def State.recordsSound (s : State) : Bool :=
  each8Holds fun c =>
    if s.running then faultKinds.all fun k => ((s.faultRec c).kinds.get k).sound
    else !((s.faultRec c).kinds.get .failOn).live && !((s.faultRec c).kinds.get .stuckOn).live

/-- BUS-DEGRADED is live while the bus state is MUTED, OFF-LINE or BARRED, and LINK-DOWN while the link state
is DOWN (R120, R149). -/
def State.flagsSound (s : State) : Bool :=
  (s.flagLive .busDegraded == (s.bus.state == .muted || s.bus.state == .offLine || s.bus.state == .barred))
    && (s.flagLive .linkDown == !s.link.up)

/-! ## Channels -/

/-- The cause set is empty unless the state is LOCKED, or RELEASING with target LOCKED (section 1.1.2). -/
def Channel.causesSound (r : Channel) : Bool :=
  r.causes == CauseSet.empty || r.state == .locked || (r.state == .releasing && r.target == .locked)

def State.causesSound (s : State) : Bool := each8Holds fun c => (s.chan c).causesSound

/-- While the node is RUNNING and the path is not ready, no channel is in WAITING, ARMED, ENERGIZING, ON or
DISARMING (R9, R21). -/
def State.pathSound (s : State) : Bool :=
  !s.running || s.pathReady || each8Holds fun c =>
    match (s.chan c).state with
    | .waiting | .armed | .energizing | .on | .disarming => false
    | .off | .releasing | .suspended | .locked => true

/-- A channel stands off with TRIP in its cause set. -/
def Channel.heldByTrip (r : Channel) : Bool :=
  r.causes.trip && (r.state == .locked || (r.state == .releasing && r.target == .locked))

/-- While a zone is TRIPPED, every enabled channel of it is in RELEASING with target LOCKED, or in LOCKED,
with TRIP in its cause set (R64). -/
def State.zonesSound (s : State) : Bool :=
  !s.running || each8Holds fun c =>
    match (s.cfg c).zone with
    | some z => !(s.cfg c).enabled || !(s.zone z).tripped || (s.chan c).heldByTrip
    | none => true

/-! ## The Group Table -/

/-- At most eight entries (section 2.1). CLAIMING and CLAIMED stand only while the bus state is ON-LINE
(R47), and a request list holds a channel at most once (R28). -/
def State.entriesSound (s : State) : Bool :=
  decide (s.groups.length ≤ 8) && s.groups.all fun x =>
    (s.onLine || (x.state != .claiming && x.state != .claimed)) && decide x.requests.Nodup

/-! ## The Configuration Loader and the power die -/

/-- The staging area is in its canonical form. -/
def State.stagingSound (s : State) : Bool := s.loader.staging.wf

/-- The node state's ties: an image is held exactly in RUNNING (R155, R161), the bus state is DISABLED
exactly outside it (R111), no memory is read in RUNNING or while the logic die is held in reset, and a held
logic die is in LOADING with no transaction (R155, R157, R162). -/
def State.nodeSound (s : State) : Bool :=
  (s.running == s.loader.image.isSome) && (s.running == (s.bus.state != .disabled))
    && (!(s.running || s.held) || s.loader.read == .idle)
    && (!s.held || (s.loader.nodeState == .loading && s.host.transaction.isNone))

/-- OPEN-OFF and SHORT-SUPPLY are never reported for one channel at once (R138), and OVERLOAD and OVERTEMP
are never PROLONGED (R140). -/
def PowerChannel.reportsSound (p : PowerChannel) : Bool :=
  (p.reports.openOff == .clear || p.reports.shortSupply == .clear)
    && p.reports.overload != .prolonged && p.reports.overtemp != .prolonged

def State.reportsSound (s : State) : Bool := each8Holds fun c => (s.power.channels.get c).reportsSound

/-- Each channel's commanded state is what R133 gives. -/
def State.commandsSound (s : State) : Bool :=
  each8Holds fun c => (s.power.channels.get c).commanded == s.power.commands c

end Sys2Proof.Machine
end

