-- ==== Sys2Proof/Certificates/Slice0/Obligations.lean ====
section
/-! DEFINITION. The statements for the provers, in the order of the manual's chapters: what each command does, what
it leaves alone, what a reader of the words and bytes gets back, and what every step keeps. -/

open Sys2Proof Sys2Proof.Machine

/-! ### Steps and commands -/

/-- One step is the command at the front of the queue acting on the state with the queue's rest. With
nothing waiting one microsecond passes: the model's clock and the join counter of R112 go on, and nothing
else. The queue, and the clock's steps, are the model's choice (log entries 1 and 2). -/
def Obligations.StepRunsTheFrontCommand : Prop :=
  (∀ (c : Instr) (s : State) (rest : List Instr), s.pending = c :: rest →
     step s = exec c { s with pending := rest }) ∧
  (∀ s : State, s.pending = [] →
     step s = .next { s with now := s.now + 1, bus := { s.bus with joinCounter := s.bus.joinCounter + 1 } })

/-- Every command completes in every state: none is refused and none faults (the model's reading, log entry
31), the clock stands, and no command touches the queue of waiting commands (the model's own, log entries 1
and 2). Sections 1.1.2, 8.1 and 9.1: the two dies share nothing but the words of the Barrier Link, so a
command of the power die changes the power die alone, and no other command changes it; that the words' ways
are commands of their own is the model's choice (log entry 26). -/
def Obligations.EveryCommandCompletes : Prop :=
  (∀ (c : Instr) (s : State), ∃ t, exec c s = .next t ∧ t.now = s.now ∧ t.pending = s.pending) ∧
  (∀ (c : Instr) (s t : State), exec c s = .next t →
     (Instr.onPowerDie c = true → t = { s with power := t.power }) ∧
     (Instr.onPowerDie c = false → t.power = s.power))

/-- R1, R26, R52, R60, R75, R93 and R111: before RUNNING entry, and in CONFIG-FAULT, the blocks that work
from an image take no event, and the bus is not read. That a command of theirs then changes nothing at all
is the model's reading (log entries 3 and 31). -/
def Obligations.NothingBeforeRunning : Prop :=
  ∀ s : State, s.running = false → s.bus.state = .disabled → s.bus.attempt = none →
    (∀ c n, exec (.debounceExpiry c) s = .next s ∧ exec (.holdOverExpiry c n) s = .next s) ∧
    (∀ c, exec (.confirmTimerExpiryEnergizing c) s = .next s ∧
      exec (.confirmTimerExpiryReleasing c) s = .next s ∧ exec (.offCheckExpiry c) s = .next s ∧
      exec (.request c) s = .next s ∧ exec (.cancel c) s = .next s ∧ exec (.grant c) s = .next s ∧
      exec (.revoke c) s = .next s ∧ exec (.done c) s = .next s ∧
      exec (.holdTimerExpiry c) s = .next s ∧ exec (.retryHoldOffExpiry c) s = .next s ∧
      exec (.lifetimeTimerExpiry c) s = .next s ∧ exec (.claimWindowExpiry c) s = .next s ∧
      exec (.deadTimerExpiry c) s = .next s ∧ exec (.lapseTimerExpiry c) s = .next s) ∧
    exec .markTimerExpiry s = .next s ∧
    (∀ i, exec (.ageTimerExpiry i) s = .next s) ∧ (∀ i, exec (.refreshTimerExpiry i) s = .next s) ∧
    (∀ rivals, exec (.frameOffer rivals) s = .next s) ∧ (∀ f, exec (.badFrameReceived f) s = .next s) ∧
    exec .frameRejectedByOther s = .next s ∧
    (∀ a, exec (.markTaken a) s = .next s ∧ exec (.tripTaken a) s = .next s ∧
      exec (.clearTaken a) s = .next s ∧ exec (.claimTaken a) s = .next s ∧
      exec (.holdTaken a) s = .next s ∧ exec (.releaseTaken a) s = .next s ∧
      exec (.pointsTaken a) s = .next s ∧ exec (.faultTaken a) s = .next s ∧
      exec (.faultAckTaken a) s = .next s ∧ exec (.statusTaken a) s = .next s ∧
      exec (.helloTaken a) s = .next s) ∧
    (∀ k st p, exec (.undefinedKindTaken k st p) s = .next s) ∧
    exec .offLineTimerExpiry s = .next s ∧ exec .joinWaitExpiry s = .next s ∧
    exec .helloHoldOffExpiry s = .next s

/-- R150 and R168: the two pins that the node drives for its host. ERR is asserted outside RUNNING, and
while a node flag or a kind on a channel is sticky; IRQ while the host event set or the network fault list
holds something. -/
def Obligations.ErrAndIrqPins : Prop :=
  ∀ s : State,
    (s.err = true ↔ s.running = false ∨ (∃ f, s.flagSticky f = true) ∨
      ∃ c k, ((s.faultRec c).kinds.get k).sticky = true) ∧
    (s.irq = true ↔ s.held = false ∧ (s.host.events.zoneChange = true ∨ s.host.events.lockChange = true ∨
      s.host.events.nodeFlag = true ∨ s.faults.list ≠ []))

/-! ### Output channels -/

/-- R13, R15, R17, R18, R24, R25 and R146: the confirm timer and the off-check. FAIL-ON, counted once and
sticky but not live, takes a channel of ENERGIZING, ON or DISARMING to RELEASING with target LOCKED and
FAULT in its cause set. STUCK-ON, live, takes one of RELEASING to LOCKED, where a grouped channel owes its
hand-back. An off-check with OVERTEMP live, or the supply low, only stops. That the expiry of a timer that
does not run changes neither the channels nor the records is the model's choice (log entry 3). -/
def Obligations.ConfirmAndOffCheckExpiry : Prop :=
  (∀ (s : State) (c : Fin 8), s.running = true →
     let r := s.chan c
     ∃ t, exec (.confirmTimerExpiryEnergizing c) s = .next t ∧ t.loader = s.loader ∧ t.zones = s.zones ∧
       t.points = s.points ∧ t.inputs = s.inputs ∧ t.marks = s.marks ∧ t.link = s.link ∧
       t.power = s.power ∧ (∀ d, d ≠ c → s.sameChannel t d) ∧
       (∀ d k, d ≠ c ∨ k ≠ .failOn → (t.faultRec d).kinds.get k = (s.faultRec d).kinds.get k) ∧
       (r.state = .energizing → r.confirm ≠ none →
         t.chan c = { r with state := .releasing, target := .locked,
                             causes := { r.causes with fault := true }, offCheck := none,
                             confirm := if s.link.up = true then some (s.now + 5000) else none } ∧
         t.sentBy c = s.sentBy c ∧
         (t.faultRec c).kinds.failOn =
           { live := (s.faultRec c).kinds.failOn.live, sticky := true,
             count := min 255 ((s.faultRec c).kinds.failOn.count + 1),
             firstMark := if (s.faultRec c).kinds.failOn.sticky = true then
                 (s.faultRec c).kinds.failOn.firstMark else some s.marks.number }) ∧
       (r.state ≠ .energizing ∨ r.confirm = none → s.sameButTraffic t)) ∧
  (∀ (s : State) (c : Fin 8), s.running = true →
     let r := s.chan c
     ∃ t, exec (.confirmTimerExpiryReleasing c) s = .next t ∧ t.loader = s.loader ∧ t.zones = s.zones ∧
       t.points = s.points ∧ t.inputs = s.inputs ∧ t.marks = s.marks ∧ t.link = s.link ∧
       t.power = s.power ∧ (∀ d, d ≠ c → s.sameChannel t d) ∧
       (∀ d k, d ≠ c ∨ k ≠ .stuckOn → (t.faultRec d).kinds.get k = (s.faultRec d).kinds.get k) ∧
       (r.state = .releasing → r.confirm ≠ none →
         t.chan c = { r with state := .locked, causes := { r.causes with fault := true },
                             confirm := none, offCheck := none,
                             handBack := r.handBack || (s.cfg c).group.isSome } ∧
         t.sentBy c = s.sentBy c ∧ t.host.events.lockChange = true ∧
         (t.faultRec c).kinds.stuckOn =
           { live := true, sticky := true,
             count := min 255 ((s.faultRec c).kinds.stuckOn.count + 1),
             firstMark := if (s.faultRec c).kinds.stuckOn.sticky = true then
                 (s.faultRec c).kinds.stuckOn.firstMark else some s.marks.number }) ∧
       (r.state ≠ .releasing ∨ r.confirm = none → s.sameButTraffic t)) ∧
  (∀ (s : State) (c : Fin 8), s.running = true →
     let r := s.chan c
     let excused := ((s.faultRec c).kinds.overtemp.live || s.supplyLowSeen) = true
     ∃ t, exec (.offCheckExpiry c) s = .next t ∧ t.loader = s.loader ∧ t.zones = s.zones ∧
       t.points = s.points ∧ t.inputs = s.inputs ∧ t.marks = s.marks ∧ t.link = s.link ∧
       t.power = s.power ∧ (∀ d, d ≠ c → s.sameChannel t d) ∧ t.sentBy c = s.sentBy c ∧
       (∀ d k, d ≠ c ∨ k ≠ .failOn → (t.faultRec d).kinds.get k = (s.faultRec d).kinds.get k) ∧
       (r.state = .on ∨ r.state = .disarming → r.offCheck ≠ none → excused →
         t.chan c = { r with offCheck := none } ∧ (t.faultRec c).kinds = (s.faultRec c).kinds) ∧
       (r.state = .on ∨ r.state = .disarming → r.offCheck ≠ none → ¬ excused →
         t.chan c = { r with state := .releasing, target := .locked,
                             causes := { r.causes with fault := true }, offCheck := none,
                             confirm := if s.link.up = true then some (s.now + 5000) else none } ∧
         (t.faultRec c).kinds.failOn.sticky = true ∧
         (t.faultRec c).kinds.failOn.count = min 255 ((s.faultRec c).kinds.failOn.count + 1)) ∧
       ((r.state ≠ .on ∧ r.state ≠ .disarming) ∨ r.offCheck = none → s.sameButTraffic t))

/-- R3 to R5, R9, R11, R12, R14, R16 and R83: the sources of a channel's demand. An entry of the Point Image
grows STALE when its age timer expires, keeping its value, and starts the hold-over timers of the FAIL-HOLD
terms on it; a hold-over's expiry makes its term unusable. The channels concerned evaluate their demand in
the same event and act on its change, and no other channel is touched. A term has the value of its source,
inverted where its flag says so, and none where the source gives none; the demand is ON where the channel is
enabled, every term is usable, and with AND every value is ON, with OR one is. -/
def Obligations.AgeAndHoldOver : Prop :=
  (∀ s : State, s.running = true →
     (∀ (i : Fin 48) (x : Subscription), s.points[i.val]? = some x → x.age = .fresh → x.timer ≠ none →
       ∃ t, exec (.ageTimerExpiry i) s = .next t ∧ t.points = s.points.set i.val { x with age := .stale, timer := none } ∧
         t.loader = s.loader ∧ t.zones = s.zones ∧ t.inputs = s.inputs ∧ t.marks = s.marks ∧
         t.link = s.link ∧ t.power = s.power ∧ t.host.points = s.host.points ∧
         ∀ c, (s.usesSource (fun y => y == .subscription i.val) c = false → s.sameChannel t c) ∧
           (s.usesSource (fun y => y == .subscription i.val) c = true →
             (t.chan c).demand = evalDemand t c ∧ (t.chan c).causes = (s.chan c).causes ∧
             (s.withHoldOvers t c).evaluated t c ∧
             ((s.cfg c).failPolicy = .failOff ∨ (s.cfg c).holdOver = 0 → s.evaluated t c) ∧
             ((s.cfg c).failPolicy = .failOff ∨
               ((s.cfg c).holdOver = 0 ∧ (s.chan c).holdOvers = Four.all none) →
               (t.chan c).demand = false) ∧
             ((s.cfg c).failPolicy = .failHold → (s.cfg c).holdOver ≠ 0 → ∀ slot : Fin 4,
               (((s.cfg c).terms[slot.val]?).map Term.source = some (.subscription i.val) →
                 (t.chan c).holdOvers.get slot = some (s.now + 50000 * (s.cfg c).holdOver)) ∧
               (((s.cfg c).terms[slot.val]?).map Term.source ≠ some (.subscription i.val) →
                 (t.chan c).holdOvers.get slot = (s.chan c).holdOvers.get slot)))) ∧
     (∀ (c : Fin 8) (slot : Fin 4), (s.chan c).holdOvers.get slot ≠ none →
       ∃ t, exec (.holdOverExpiry c slot) s = .next t ∧ t.loader = s.loader ∧ t.points = s.points ∧
         t.zones = s.zones ∧ t.inputs = s.inputs ∧ t.marks = s.marks ∧ t.link = s.link ∧
         t.power = s.power ∧ (∀ d, d ≠ c → s.sameChannel t d) ∧
         (t.chan c).holdOvers = (s.chan c).holdOvers.set slot none ∧ (t.chan c).demand = evalDemand t c ∧
         (t.chan c).causes = (s.chan c).causes ∧ (s.withHoldOvers t c).evaluated t c)) ∧
  (∀ (s : State) (c : Fin 8),
     let cfg := s.cfg c
     (termValues s c).length = cfg.terms.length ∧
     (∀ (slot : Fin 4) (x : Term), cfg.terms[slot.val]? = some x →
       let value : Option Bool := match x.source with
         | .sense n => some (decide ((s.inputs.get n).level = (s.config.inputs.get n).activeHigh))
         | .hostPoint n => some (s.host.points.get n)
         | .subscription i => match s.points[i]? with
           | none => none
           | some e => match e.age with
             | .unseen => none
             | .fresh => e.value
             | .stale =>
               if cfg.failPolicy = .failHold ∧ (s.chan c).holdOvers.get slot ≠ none then e.value else none
       (termValues s c)[slot.val]? = some (value.map fun v => if x.invert = true then !v else v)) ∧
     (evalDemand s c = true ↔ cfg.enabled = true ∧ (∀ v ∈ termValues s c, v ≠ none) ∧
       match cfg.combine with
       | .and => ∀ v ∈ termValues s c, v = some true
       | .or => some true ∈ termValues s c))

/-- R8, R11 and R23: a grant or a revoke that is the next message to its channel. A grant is used in WAITING
and answered "done, never driven" in every other state; a revoke sends an ARMED channel back to OFF and a
driven one to RELEASING with target OFF, and changes nothing elsewhere. -/
def Obligations.GrantAndRevoke : Prop :=
  ∀ (s : State) (c : Fin 8) (before after : List ToChannel) (m : ToChannelMsg), s.running = true →
    s.channels.toChannels = before ++ ⟨c, m⟩ :: after → (∀ x ∈ before, x.channel ≠ c) →
    let r := s.chan c
    ∃ t, exec (match m with | .grant => .grant c | .revoke => .revoke c) s = .next t ∧
      t.channels.toChannels = before ++ after ∧ t.loader = s.loader ∧ t.zones = s.zones ∧
      t.points = s.points ∧ t.inputs = s.inputs ∧ t.marks = s.marks ∧ t.link = s.link ∧
      t.power = s.power ∧ (∀ d, d ≠ c → s.sameChannel t d) ∧
      (t.chan c).causes = r.causes ∧ (t.chan c).demand = r.demand ∧ (t.chan c).handBack = r.handBack ∧
      match m, r.state with
      | .grant, .waiting => t.sentBy c = s.sentBy c ∧
          (t.chan c).state = (match (s.cfg c).timing with | .marked => .armed | .immediate => .energizing) ∧
          (t.chan c).confirm = (match (s.cfg c).timing with
            | .marked => none | .immediate => some (s.now + 5000))
      | .grant, .off | .grant, .armed | .grant, .energizing | .grant, .on | .grant, .disarming
      | .grant, .releasing | .grant, .suspended | .grant, .locked =>
          t.chan c = r ∧ t.sentBy c = s.sentBy c ++ s.messageOf c .doneNeverDriven
      | .revoke, .armed =>
          (r.demand = false → (t.chan c).state = .off ∧ (t.chan c).rearm = false ∧
            t.sentBy c = s.sentBy c ++ s.messageOf c .doneNeverDriven) ∧
          (r.demand = true → r.rearm = true ∨ s.pathReady = false → (t.chan c).state = .off ∧
            (t.chan c).rearm = r.rearm ∧ t.sentBy c = s.sentBy c ++ s.messageOf c .doneNeverDriven) ∧
          (r.demand = true → r.rearm = false → s.pathReady = true → (s.cfg c).enabled = true →
            (s.cfg c).group ≠ none → (t.chan c).state = .waiting ∧
            t.sentBy c = s.sentBy c ++ s.messageOf c .doneNeverDriven ++ s.messageOf c .request)
      | .revoke, .energizing | .revoke, .on | .revoke, .disarming =>
          t.chan c = { r with state := .releasing, target := .off, offCheck := none,
                              confirm := if s.link.up = true then some (s.now + 5000) else none } ∧
          t.sentBy c = s.sentBy c
      | .revoke, .off | .revoke, .waiting | .revoke, .releasing | .revoke, .suspended
      | .revoke, .locked => s.sameChannel t c

/-! ### Exclusion groups -/

/-- R8, R28 to R30, R32, R33, R40 and R42: the message that is the next of its membership entry. A request
joins the end of the list unless it stands there; a cancel leaves it; one that empties the list of a
CLAIMING entry makes the entry FREE and withdraws its CLAIM. A "done" from the holder channel ends the
holding, in HELD-LOCAL and, while no RELEASE is queued, in RELEASING-LOCAL; from another channel, or in
another state, it changes nothing. A FREE entry with a waiting channel claims, with a CLAIM queued that
names the head of its list, and a holding that ends with no conflict and no lapse waits for its RELEASE,
which names the holder channel: both where the queue has room for them. -/
def Obligations.MessagesAtTheEntry : Prop :=
  (∀ (s : State) (c e : Fin 8) (x : Entry) (before after : List ToGroup) (m : ToGroupMsg), s.running = true →
     (s.cfg c).group = some e → s.entry e = some x →
     s.channels.toGroups = before ++ ⟨e, c, m⟩ :: after → (∀ y ∈ before, y.entry ≠ e) →
     let done (i : Instr) (left : Entry) : Prop :=
       ∃ t, exec i s = .next t ∧ t.channels = { s.channels with toGroups := before ++ after } ∧
         t.zones = s.zones ∧ t.points = s.points ∧ t.marks = s.marks ∧ s.sameSurroundings t ∧
         t.leaves e left ∧ (∀ d, d ≠ e → ∀ y, s.entry d = some y → t.leaves d y) ∧
         (left.state ≠ x.state →
             (∀ d, d ≠ e → s.entry d ≠ none → (s.member d).group ≠ (s.member e).group) →
           ∀ q ∈ t.bus.queue, isClaimOf (s.member e).group q.frame = false) ∧
         (∀ h others, left.requests = h :: others → left.state = .free → left.hold = none →
           s.bus.state = .onLine → s.bus.queue.length + s.groups.length ≤ 12 →
           (∀ d, d ≠ e → s.entry d ≠ none → (s.member d).group ≠ (s.member e).group) →
           (∀ q ∈ s.bus.queue, q.frame.group ≠ some (s.member e).group) →
           t.entry e = some { Entry.start with state := .claiming, requests := left.requests,
                                               claimChannel := some h } ∧
           ∃ q ∈ t.bus.queue, q.frame = .claim (s.member e).group h)
     (m = .request → done (.request c)
       { x with requests := if x.requests.contains c = true then x.requests else x.requests ++ [c] }) ∧
     (m = .cancel → done (.cancel c)
       (let rest := x.requests.filter (fun d => d != c)
        if x.state = .claiming ∧ x.requests.contains c = true ∧ rest = [] then
          { Entry.start with state := .free }
        else { x with requests := rest }))) ∧
  (∀ (s : State) (c e : Fin 8) (x : Entry) (before after : List ToGroup) (m : ToGroupMsg), s.running = true →
     (s.cfg c).group = some e → s.entry e = some x → m = .doneNeverDriven ∨ m = .doneOffConfirmed →
     s.channels.toGroups = before ++ ⟨e, c, m⟩ :: after → (∀ y ∈ before, y.entry ≠ e) →
     ∃ t, exec (.done c) s = .next t ∧ t.channels = { s.channels with toGroups := before ++ after } ∧
       t.zones = s.zones ∧ t.points = s.points ∧ t.marks = s.marks ∧ s.sameSurroundings t ∧
       (∀ d, d ≠ e → ∀ y, s.entry d = some y → t.leaves d y) ∧
       if x.holder.map Holder.channel = some c ∧
           (x.state = .heldLocal ∨ (x.state = .releasingLocal ∧ x.releaseQueued = false)) then
         s.settled t e x ∧
         (s.bus.state = .onLine → x.yielded = false → x.lapsed = false → s.bus.queue.length < 12 →
           (∀ q ∈ s.bus.queue, isClaimOf (s.member e).group q.frame = false ∧
             isReleaseOf (s.member e).group q.frame = false) →
           t.entry e = some { x with state := .releasingLocal, releaseQueued := true, hold := none,
                                     lapse := none, window := none } ∧
           ∃ q ∈ t.bus.queue, q.frame = .release (s.member e).group c)
       else t.leaves e x)

/-- R31, R32, R35, R36, R39 to R41, R44 and R45: the timers of a membership entry. The claim window's end
grants the group to the head of the list, which leaves the list, is the holder and is announced; an empty
list ends the claim unused. A lapse in HELD-LOCAL revokes the group from its holder channel, in
RELEASING-LOCAL it is only noted. That a timer that does not run, or one whose expiry the state has no use
for, changes no entry is the model's choice (log entry 3). -/
def Obligations.EntryTimers : Prop :=
  (∀ (s : State) (e : Fin 8) (x : Entry), s.running = true → s.entry e = some x →
     let outcome (i : Instr) (facts : State → Prop) : Prop :=
       ∃ t, exec i s = .next t ∧ t.channels = s.channels ∧ t.zones = s.zones ∧ t.points = s.points ∧
         t.marks = s.marks ∧ s.sameSurroundings t ∧
         (∀ d, d ≠ e → ∀ y, s.entry d = some y → t.leaves d y) ∧ facts t
     outcome (.holdTimerExpiry e) (fun t =>
       if x.hold ≠ none ∧ (x.state = .heldLocal ∨ (x.state = .releasingLocal ∧ s.bus.state = .onLine ∧
           x.yielded = false ∧ x.releaseQueued = false)) then
         t.entry e = some { x with hold := some (s.now + s.holdInterval) } ∧
         (s.bus.state = .onLine → s.bus.queue.length < 12 →
           (∀ q ∈ s.bus.queue, sameLimit q.frame (.hold (s.member e).group 0 false) = false) →
           ∃ q ∈ t.bus.queue, q.frame = .hold (s.member e).group x.frameChannel false)
       else t.leaves e x) ∧
     outcome (.retryHoldOffExpiry e) (fun t =>
       t.leaves e (if x.state = .free then { x with hold := none } else x)) ∧
     outcome (.lifetimeTimerExpiry e) (fun t =>
       t.leaves e (if x.lifetime ≠ none ∧ (x.state = .heldRemote ∨ x.state = .unknown) then s.deadAfter e x
         else x)) ∧
     outcome (.deadTimerExpiry e) (fun t =>
       t.leaves e (if x.dead ≠ none ∧ x.state = .dead then x.became .free else x))) ∧
  (∀ (s : State) (e : Fin 8) (x : Entry), s.running = true → s.entry e = some x →
     let outcome (i : Instr) (sent : List ToChannel) (facts : State → Prop) : Prop :=
       ∃ t, exec i s = .next t ∧
         t.channels = { s.channels with toChannels := s.channels.toChannels ++ sent } ∧
         t.zones = s.zones ∧ t.points = s.points ∧ t.marks = s.marks ∧ s.sameSurroundings t ∧
         (∀ d, d ≠ e → ∀ y, s.entry d = some y → t.leaves d y) ∧ facts t
     (x.state = .claimed → x.window ≠ none →
       match x.requests with
       | c :: rest => outcome (.claimWindowExpiry e) [⟨c, .grant⟩] fun t =>
           t.entry e = some { x with state := .heldLocal, requests := rest, window := none,
                                     holder := some { station := s.loader.station, channel := c },
                                     hold := some (s.now + s.holdInterval) } ∧
           (s.bus.state = .onLine → s.bus.queue.length < 12 →
             (∀ q ∈ s.bus.queue, sameLimit q.frame (.hold (s.member e).group c false) = false) →
             ∃ q ∈ t.bus.queue, q.frame = .hold (s.member e).group c false)
       | [] => outcome (.claimWindowExpiry e) [] fun t => s.settled t e x) ∧
     (x.state ≠ .claimed ∨ x.window = none →
       outcome (.claimWindowExpiry e) [] fun t => t.leaves e x) ∧
     (x.state = .heldLocal → x.lapse ≠ none → ∀ h, x.holder = some h →
       outcome (.lapseTimerExpiry e) [⟨h.channel, .revoke⟩] fun t =>
         t.entry e = some { x with state := .releasingLocal, lapsed := true, lapse := none }) ∧
     (x.state = .releasingLocal → x.lapse ≠ none → outcome (.lapseTimerExpiry e) [] fun t =>
       t.entry e = some (if x.releaseQueued = true then x else { x with lapsed := true, lapse := none })) ∧
     ((x.state ≠ .heldLocal ∧ x.state ≠ .releasingLocal) ∨ x.lapse = none →
       outcome (.lapseTimerExpiry e) [] fun t => t.leaves e x))

/-- R31 to R34, R37, R38, R41, R43 to R45 and R47: a CLAIM, a HOLD or a RELEASE heard from another station,
at the one listed entry of its group. In JOINING and ON-LINE the entry follows it: GROUP-CONFLICT rises
where two stations hold, a holder that yields revokes the group from its channel, and ON-LINE an objection
is queued where the queue has room for it. A MUTED or BARRED node that stays so disregards it: only the
score and the source's presence change. -/
def Obligations.ForeignGroupFrames : Prop :=
  ∀ (s : State) (e : Fin 8) (x : Entry) (source : Station) (c : Fin 8), s.hears source →
    s.entry e = some x → (∀ d, d ≠ e → s.entry d ≠ none → (s.member d).group ≠ (s.member e).group) →
    let g := (s.member e).group
    let h : Holder := { station := source, channel := c }
    let outcome (i : Instr) (sent : List ToChannel) (facts : State → Prop) : Prop :=
      ∃ t, exec i s = .next t ∧
        t.channels = { s.channels with toChannels := s.channels.toChannels ++ sent } ∧
        t.zones = s.zones ∧ t.points = s.points ∧ t.marks = s.marks ∧ s.sameSurroundings t ∧
        (∀ d, d ≠ e → ∀ y, s.entry d = some y → t.leaves d y) ∧ facts t
    let objects (t : State) : Prop := t.entry e = some x ∧ (s.bus.state = .onLine → s.bus.queue.length < 12 →
      (∀ q ∈ s.bus.queue, sameLimit q.frame (.hold g c true) = false) →
      ∃ q ∈ t.bus.queue, q.frame = .hold g x.frameChannel true)
    let yields (t : State) : Prop :=
      t.entry e = some { x with state := .releasingLocal, yielded := true, conflict := some h,
                                hold := none, lapse := none } ∧
      t.flagSticky .groupConflict = true ∧ ∀ q ∈ t.bus.queue, isHoldOf g q.frame = false
    let claimed := Instr.claimTaken (.heard source (Frame.claim g c).payload)
    let held (objection : Bool) := Instr.holdTaken (.heard source (Frame.hold g c objection).payload)
    let released := Instr.releaseTaken (.heard source (Frame.release g c).payload)
    (s.learns = false → s.staysMuted → ∀ i, i = claimed ∨ i = released ∨ (∃ objection, i = held objection) →
      ∃ t, exec i s = .next t ∧ t = { s with
        bus := { s.bus with rejecting := false, score := s.bus.score - 1 },
        faults := { s.faults with peers := t.faults.peers } }) ∧
    (s.learns = true →
     (x.state = .unknown ∨ x.state = .free ∨ x.state = .dead ∨ x.state = .heldRemote ∨
         x.state = .claiming →
       outcome claimed [] (fun t => t.entry e = some (s.heldBy x h)) ∧
       ∀ objection, outcome (held objection) [] fun t => t.entry e = some (s.heldBy x h) ∧
         (x.state = .claiming → ∀ q ∈ t.bus.queue, isClaimOf g q.frame = false)) ∧
     (x.state = .unknown ∨ x.state = .free ∨ x.state = .claiming →
       outcome released [] fun t => t.leaves e (s.deadAfter e x)) ∧
     (x.state = .heldRemote → ∀ holder, x.holder = some holder → outcome released [] fun t =>
       t.leaves e (if holder.station = source then s.deadAfter e x else x)) ∧
     (x.state = .dead ∨ x.state = .heldLocal ∨ x.state = .releasingLocal →
       outcome released [] fun t => t.entry e = some x) ∧
     (x.state = .claimed →
       outcome claimed [] objects ∧
       (∀ objection, outcome (held objection) [] fun t => t.entry e = some (s.heldBy x h) ∧
         (objection = false → t.flagSticky .groupConflict = true)) ∧
       outcome released [] (fun t => s.settled t e x)) ∧
     (x.state = .heldLocal →
       outcome claimed [] objects ∧
       ∀ holder, x.holder = some holder → ∀ objection,
         outcome (held objection) [⟨holder.channel, .revoke⟩] yields) ∧
     (x.state = .releasingLocal →
       outcome claimed [] (fun t =>
         if x.releaseQueued = true ∨ s.bus.state ≠ .onLine then t.entry e = some x
         else if x.yielded = true then t.entry e = some { x with conflict := some h }
         else objects t) ∧
       ∀ objection, outcome (held objection) [] fun t =>
         if s.bus.state ≠ .onLine then t.entry e = some x
         else if x.releaseQueued = true then
           t.entry e = some (s.heldBy x h) ∧ t.flagSticky .groupConflict = true ∧
             ∀ q ∈ t.bus.queue, isReleaseOf g q.frame = false
         else if x.yielded = true then t.entry e = some { x with conflict := some h }
         else yields t))

/-- R32 to R34, R36, R41, R43 and R97: an own CLAIM, HOLD or RELEASE that is taken, at the one listed entry
of its group. Where the state has no use for it, an own frame changes nothing (log entry 15). -/
def Obligations.OwnGroupFrames : Prop :=
  ∀ (s : State) (e : Fin 8) (x : Entry) (c : Fin 8), s.entry e = some x →
    (∀ d, d ≠ e → s.entry d ≠ none → (s.member d).group ≠ (s.member e).group) →
    let g := (s.member e).group
    let outcome (f : Frame) (left : Entry) : Prop := s.sends f →
      ∃ t, exec (Frame.taken f .own) s = .next t ∧ t.bus.attempt = none ∧ t.bus.score = s.bus.score - 1 ∧
        t.channels = s.channels ∧ t.zones = s.zones ∧ t.points = s.points ∧ t.marks = s.marks ∧
        s.sameSurroundings t ∧ (∀ d, d ≠ e → ∀ y, s.entry d = some y → t.leaves d y) ∧ t.leaves e left
    outcome (.claim g c) (if x.state = .claiming then
        { x with state := .claimed, window := some (s.now + s.claimWindow),
                 lapse := some (s.now + 2 * s.holdInterval) }
      else x) ∧
    (∀ objection, outcome (.hold g c objection) (if x.state = .claimed ∨ x.state = .heldLocal ∨
          (x.state = .releasingLocal ∧ x.yielded = false ∧ x.releaseQueued = false) then
        { x with lapse := some (s.now + 2 * s.holdInterval) }
      else x)) ∧
    outcome (.release g c) (if x.state = .free ∨ (x.state = .releasingLocal ∧ x.releaseQueued = true) then
        s.deadAfter e x
      else x)

/-! ### Cycle marks -/

/-- R54, R52 and R56: the mark timer expires. ON-LINE, with no MARK queued, the next MARK is queued and the
timer waits for it; in every other bus state the node takes the next mark number locally, in one mark event,
and restarts the timer at P plus the takeover step of its station. The expiry of a timer that does not run
changes only the frames due: that is the model's choice (log entry 3). -/
def Obligations.MarkTimerExpiry : Prop :=
  ∀ s : State, s.running = true →
    (s.marks.timer = none → ∃ t, exec .markTimerExpiry s = .next t ∧ s.sameButTraffic t) ∧
    (s.marks.timer ≠ none → s.bus.state = .onLine → (∀ q ∈ s.bus.queue, isMark q.frame = false) →
      ∃ t, exec .markTimerExpiry s = .next t ∧
        t.marks = { number := s.marks.number, timer := none, queued := true } ∧
        (∃ q ∈ t.bus.queue, q.frame = .mark (s.marks.number + 1)) ∧ s.sameChannels t ∧
        t.zones = s.zones ∧ t.points = s.points ∧ t.faults.peers = s.faults.peers ∧
        s.sameSurroundings t) ∧
    (s.marks.timer ≠ none → s.bus.state ≠ .onLine →
      ∃ t, exec .markTimerExpiry s = .next t ∧
        t.marks = { number := s.marks.number + 1, queued := false,
                    timer := some (s.now + 1000 * s.config.mark + 250 * s.loader.station.val) } ∧
        s.tookMarkEvent t ∧ t.zones = s.zones ∧ t.points = s.points ∧ t.bus = s.bus ∧
        s.sameSurroundings t)

/-- R53, R55 to R58, R151 and R153: a MARK that is taken, the own one, or another station's in any bus state
that takes frames. Its number is adopted, the timer restarts, the channels and the peer table take one mark
event, a queued MARK is withdrawn where another station's comes first, and ON-LINE a STATUS is queued where
the number calls for the own station. -/
def Obligations.MarksTaken : Prop :=
  ∀ (s : State) (n : Half) (source : Station) (a : Arrival), s.arrives (.mark n) source a →
    ∃ t, exec (.markTaken a) s = .next t ∧
      t.marks = { number := n, queued := false,
                  timer := some (s.now + 1000 * s.config.mark + 250 * s.loader.station.val) } ∧
      s.tookMarkEvent t ∧ t.zones = s.zones ∧ t.points = s.points ∧ s.sameSurroundings t ∧
      t.bus.score = s.bus.score - 1 ∧
      (a ≠ .own → s.marks.queued = true → ∀ q ∈ t.bus.queue, isMark q.frame = false) ∧
      (∀ i : Fin 62, ∀ p, s.faults.peers[i.val]? = some p →
        t.faults.peers[i.val]? = some
          (let marked := if p.present = true then
              (if 64 ≤ p.silent + 1 then { p with present := false, silent := 64 }
               else { p with silent := p.silent + 1 })
            else p
           if i.val = source.val - 1 then { marked with present := true, silent := 0 } else marked)) ∧
      (s.bus.state = .onLine → n.toNat % 32 = s.loader.station.val % 32 →
        s.bus.queue.length + s.groups.length < 3 →
        ∃ q ∈ t.bus.queue, match q.frame with
          | .status i => i.flags = t.faults.flags.sticky ∧ i.mark = n ∧
              ∀ c, maskBit i.drive c = (t.chan c).state.driven ∧
                maskBit i.locked c = (t.chan c).state.isLocked ∧
                maskBit i.sticky c = (t.faultRec c).sticky.any ∧ maskBit i.tripped c = (t.zone c).tripped
          | .mark _ | .trip _ _ | .clear _ | .release _ _ | .hold _ _ _ | .claim _ _
          | .faultAck _ _ _ _ | .fault _ _ _ _ | .points _ | .hello _ _ => False)

/-! ### Trip zones and shutdown -/

/-- R66, with R60, R62, R64, R68, R69 and R20: a TRIP or a CLEAR that is taken, the own one, or another
station's in any bus state that takes frames, whether or not an own frame is on the line. A TRIP trips its
zones with its source and cause, but for a tripped zone with an active local source; a CLEAR clears its
zones, which leave the own queued TRIP, but trips those with an active local source, for which ON-LINE a
TRIP is queued. The enabled channels of a zone that trips are forced, and TRIP leaves every channel of a
zone that clears. A TRIP with a cause outside the three is malformed and touches no zone. -/
def Obligations.TripsAndClearsTaken : Prop :=
  ∀ (s : State) (mask : Byte) (cause : TripCause) (source : Station) (a : Arrival),
    let outcome (i : Instr) (zone : Fin 8 → Zone) (facts : State → Prop) : Prop :=
      ∃ t, exec i s = .next t ∧ facts t ∧ t.points = s.points ∧ t.marks = s.marks ∧ s.sameSurroundings t ∧
        t.bus.score = s.bus.score - 1 ∧
        (∀ z, t.zone z = if maskBit mask z = true then zone z else s.zone z) ∧
        ((∃ z, maskBit mask z = true ∧ (zone z).tripped ≠ (s.zone z).tripped) →
          t.host.events.zoneChange = true) ∧
        ∀ c, match (s.cfg c).zone with
          | none => s.sameChannel t c
          | some z =>
            if maskBit mask z = false ∨ (zone z).tripped = (s.zone z).tripped then s.sameChannel t c
            else if (zone z).tripped = false then s.withdrawn t .trip c
            else if (s.cfg c).enabled = true then s.forced t .trip c else s.sameChannel t c
    (s.arrives (.trip mask cause) source a → outcome (.tripTaken a) (fun z =>
      if (s.zone z).tripped = true ∧ (s.zone z).localActive = true then s.zone z
      else { s.zone z with tripped := true, station := some source, cause := some cause })
      fun t => mask = 0 → t.zones = s.zones ∧ s.sameChannels t) ∧
    (∀ badCause : Byte, badCause = 0 ∨ 3 < badCause.toNat → s.hears source →
      ∃ t, exec (.tripTaken (.heard source [mask, badCause])) s = .next t ∧ t.zones = s.zones ∧
        s.sameChannels t ∧ t.faults.peers = s.faults.peers ∧ t.flagSticky .malformedFrame = true) ∧
    (s.arrives (.clear mask) source a → outcome (.clearTaken a) (fun z =>
      if (s.zone z).localActive = true then
        { s.zone z with tripped := true, station := some s.loader.station, cause := some .input }
      else if (s.zone z).tripped = true then
        { tripped := false, station := none, cause := none, localActive := false }
      else s.zone z)
      fun t => ∀ z, maskBit mask z = true →
        ((s.zone z).localActive = true → s.bus.state = .onLine → s.queueSound = true →
          s.queueOrdered = true → ∃ q ∈ t.bus.queue, ∃ m c, q.frame = .trip m c ∧ maskBit m z = true) ∧
        ((s.zone z).localActive = false → (s.zone z).tripped = true →
          ∀ q ∈ t.bus.queue, ∀ m c, q.frame = .trip m c → maskBit m z = false))

/-- R60, R72 and R73: the SHUTDOWN pin. While RUNNING, a change forces SHUTDOWN on, or withdraws it from,
each of the eight channels, and sets ZONE-CHANGE; in LOADING and CONFIG-FAULT only the field and the event
change; while the logic die is held in reset the field alone follows the pin (log entry 8). A pin that is as
the field says changes nothing. -/
def Obligations.ShutdownPin : Prop :=
  ∀ (s : State) (asserted : Bool),
    let command : Instr := if asserted = true then .shutdownAsserted else .shutdownReleased
    let changed : State := { s with zones := { s.zones with shutdown := asserted } }
    let eventSet : State := { changed with
      host := { s.host with events := { s.host.events with zoneChange := true } } }
    (s.zones.shutdown = asserted → s.bus.state ≠ .onLine → exec command s = .next s) ∧
    (s.zones.shutdown ≠ asserted → s.held = true → s.bus.state ≠ .onLine →
      exec command s = .next changed) ∧
    (s.zones.shutdown ≠ asserted → s.held = false → s.running = false → s.bus.state ≠ .onLine →
      exec command s = .next eventSet) ∧
    (s.zones.shutdown ≠ asserted → s.held = false → s.running = true →
      ∃ t, exec command s = .next t ∧ t.zones = { s.zones with shutdown := asserted } ∧
        t.host.events.zoneChange = true ∧ t.enable = !asserted ∧ t.loader = s.loader ∧
        t.inputs = s.inputs ∧ t.points = s.points ∧ t.marks = s.marks ∧ t.link = s.link ∧
        t.power = s.power ∧ t.host.points = s.host.points ∧
        ∀ c, if asserted = true then s.forced t .shutdown c else s.withdrawn t .shutdown c)

/-! ### Points, inputs and publication -/

/-- R61, R62, R67, R76 and R77: the sense inputs. While RUNNING an input with a role starts its debounce
timer when the pin departs from the debounced level, and stops it when the pin returns. At its expiry the
debounced level takes the level of the pin: channels with a term on the input evaluate their demand; a trip
input that becomes active trips its zone with the own station and INPUT; one that becomes inactive clears
nothing; while the node is ON-LINE a clear input that becomes active queues a CLEAR of its zones without an
active local source, and in no case changes a zone. In another bus state no frame is queued. The order of
the readers is the model's (log entry 20). -/
def Obligations.SenseInputs : Prop :=
  (∀ (s : State) (n : Fin 8),
     let x := s.inputs.get n
     let after (timer : Timer) : State := { s with
       inputs := s.inputs.set n { x with pin := !x.pin, timer := timer } }
     (s.running = true → (s.config.inputs.get n).role ≠ .unused → x.pin = x.level →
       exec (.sensePinChange n) s = .next (after (some (s.now + 1000 * s.config.debounce)))) ∧
     (s.running = true → (s.config.inputs.get n).role ≠ .unused → x.pin ≠ x.level →
       exec (.sensePinChange n) s = .next (after none)) ∧
     (s.running = false ∨ (s.config.inputs.get n).role = .unused →
       exec (.sensePinChange n) s = .next (after x.timer))) ∧
  (∀ (s : State) (n : Fin 8), s.running = true → (s.inputs.get n).timer ≠ none →
     let role := (s.config.inputs.get n).role
     let active : Bool := (s.inputs.get n).pin == (s.config.inputs.get n).activeHigh
     ∃ t, exec (.debounceExpiry n) s = .next t ∧
       t.inputs = s.inputs.set n { pin := (s.inputs.get n).pin, level := (s.inputs.get n).pin, timer := none } ∧
       t.loader = s.loader ∧ t.points = s.points ∧ t.marks = s.marks ∧ t.link = s.link ∧
       t.power = s.power ∧ t.host.points = s.host.points ∧ t.zones.shutdown = s.zones.shutdown ∧
       (∀ z, role ≠ .trip z → t.zone z = s.zone z) ∧
       (∀ z, role = .trip z → active = true →
         t.zone z = { tripped := true, station := some s.loader.station, cause := some .input,
                      localActive := true } ∧
         ((s.zone z).tripped = false → t.host.events.zoneChange = true ∧
           ∀ c, (s.cfg c).enabled = true → (s.cfg c).zone = some z → (t.chan c).causes.trip = true) ∧
         (s.bus.state = .onLine → s.queueSound = true → s.queueOrdered = true →
           ∃ q ∈ t.bus.queue, ∃ m c, q.frame = .trip m c ∧ maskBit m z = true) ∧
         ∀ q ∈ t.bus.queue, ∀ m, q.frame = .clear m → maskBit m z = false) ∧
       (∀ mask, role = .clear mask → s.bus.state = .onLine →
         let asked := mask &&& ~~~zonesWhere Zone.localActive s
         (active = true → asked ≠ 0 → s.queueSound = true → s.queueOrdered = true →
           ∃ q ∈ t.bus.queue, ∃ m, q.frame = .clear m ∧ asked &&& m = asked) ∧
         (active = false ∨ asked = 0 → ∀ q ∈ t.bus.queue, isClear q.frame = true → q ∈ s.bus.queue)) ∧
       (s.bus.state ≠ .onLine → (∀ z, role ≠ .trip z) → t.bus.queue = s.bus.queue) ∧
       (∀ z, role = .trip z → active = false →
         t.zone z = { s.zone z with localActive := t.tripSource z }) ∧
       (∀ c, ((s.cfg c).zone = none ∨ active = false ∨ (∀ z, role ≠ .trip z)) →
         if s.usesSource (fun x => x == .sense n) c = true then s.evaluated t c else s.sameChannel t c))

/-- R4, R5, R9, R11, R12, R14, R16, R80 to R82 and R87 to R90: a POINTS frame that is taken, and a
publication's refresh timer. The last pair that names an entry's point gives it a value, where the frame
comes from the entry's publisher; pairs from another station are counted and raise FOREIGN-PUBLISHER. The
channels evaluate their demand where an entry of theirs changed, and act on its change; a hold-over timer
stops where its entry becomes FRESH. An own frame whose entry is still queued gives the last sent values; no
other does. A publication whose refresh timer expires is pending, and stays so where no POINTS frame may be
built; where one may, and nothing else is pending or due, it is queued with the source's value of this
moment. That a refresh expiry with no running timer changes only the frames due is the model's choice (log
entry 3). -/
def Obligations.PointsTaken : Prop :=
  (∀ (s : State) (pairs : List PointPair) (source : Station) (a : Arrival),
     s.arrives (.points pairs) source a →
     ∃ t, exec (.pointsTaken a) s = .next t ∧ t.zones = s.zones ∧ t.marks = s.marks ∧
       s.sameSurroundings t ∧ t.bus.score = s.bus.score - 1 ∧
       (∀ i : Fin 48, ∀ cfg, s.config.subscriptions[i.val]? = some cfg → ∀ x, s.points[i.val]? = some x →
         match (pairs.filter fun p => p.point == cfg.point).getLast? with
         | none => t.points[i.val]? = some x
         | some last =>
           if source = cfg.publisher then
             t.points[i.val]? = some { x with
               age := .fresh, value := some last.value, timer := some (s.now + 50000 * cfg.lifetime),
               lastChange := if x.value = some last.value then x.lastChange else some s.marks.number }
           else
             t.points[i.val]? = some { x with
               foreignCount :=
                 min 255 (x.foreignCount + (pairs.filter fun p => p.point == cfg.point).length) } ∧
             t.flagSticky .foreignPublisher = true) ∧
       (let changed (i : Nat) : Bool :=
         (t.points[i]?.map fun y => (y.age, y.value)) != (s.points[i]?.map fun y => (y.age, y.value))
        ∀ c, (t.chan c).causes = (s.chan c).causes ∧
         if s.usesSource (onEntryIndex changed) c = true then
           (t.chan c).demand = evalDemand t c ∧ (s.withHoldOvers t c).evaluated t c ∧
           ∀ slot : Fin 4, (t.chan c).holdOvers.get slot =
             (match ((s.cfg c).terms[slot.val]?).map Term.source with
              | some (.subscription i) =>
                if s.points[i]?.map Subscription.age ≠ t.points[i]?.map Subscription.age then none
                else (s.chan c).holdOvers.get slot
              | some (.sense _) | some (.hostPoint _) | none => (s.chan c).holdOvers.get slot)
         else s.sameChannel t c) ∧
       (a = .own → s.bus.queue.any Queued.onLine = true →
         ∀ i : Fin 16, ∀ cfg, s.config.publications[i.val]? = some cfg →
           ∀ x, s.pubs.entries[i.val]? = some x →
           ∀ last, (pairs.filter fun p => p.point == cfg.point).getLast? = some last →
             t.pubs.entries[i.val]?.map Publication.lastSent = some (some last.value)) ∧
       (a ≠ .own ∨ s.bus.queue.any Queued.onLine = false →
         t.pubs.entries.map Publication.lastSent = s.pubs.entries.map Publication.lastSent)) ∧
  (∀ (s : State) (i : Fin 16) (x : Publication), s.running = true → s.pubs.entries[i.val]? = some x →
     (x.timer = none → ∃ t, exec (.refreshTimerExpiry i) s = .next t ∧ s.sameButTraffic t) ∧
     (x.timer ≠ none →
       (s.bus.state ≠ .onLine → exec (.refreshTimerExpiry i) s = .next { s with
         pubs := { s.pubs with entries := s.pubs.entries.set i.val { x with waiting := true, timer := none } } }) ∧
       (s.bus.state = .onLine → s.pubs.blocked = true ∨ (∃ q ∈ s.bus.queue, isPoints q.frame = true) →
         s.queueSound = true → s.queueOrdered = true →
         ∃ t, exec (.refreshTimerExpiry i) s = .next t ∧ s.sameButTraffic t ∧
           t.pubs.entries[i.val]? = some { x with waiting := true, timer := none }) ∧
       (s.bus.state = .onLine → s.pubs.blocked = false → (∀ q ∈ s.bus.queue, isPoints q.frame = false) →
         s.bus.queue.length < 12 → s.groups = [] → (∀ c, (s.faultRec c).waiting = false) →
         (∀ y ∈ s.pubs.entries, y.waiting = false) →
         ∀ cfg, s.config.publications[i.val]? = some cfg →
           ∃ t, exec (.refreshTimerExpiry i) s = .next t ∧ s.sameButTraffic t ∧
             t.pubs.entries[i.val]? = some { x with
               waiting := false, timer := some (s.now + 50000 * s.config.refresh) } ∧
             ∃ q ∈ t.bus.queue, q.frame = .points [{ point := cfg.point, value := sourceValue s cfg.source }])))

/-! ### The peer bus -/

/-- R90, R100, R101, R102 and R148: what the queue does with an offer, ON-LINE of any frame and in JOINING
of a HELLO. It is refused in any other case; it merges into the queued frame of its limit, or replaces a
HOLD, or is refused; otherwise it enters behind every frame of lower or equal kind code; and in a full queue
it displaces the last frame if that has a larger code, and is refused if not, with QUEUE-OVERFLOW raised
either way. What a displaced POINTS or FAULT frame carried is pending again. A merged TRIP carries the cause
of the larger code. That a merged HOLD keeps the queued frame's channel is the model's choice (log entry
16). -/
def Obligations.Offers : Prop :=
  ∀ (s : State) (f : Frame),
    ((s.bus.state ≠ .onLine ∧ ¬ (s.bus.state = .joining ∧ f.code = 10)) → offer f s = (s, false)) ∧
    (s.bus.state = .onLine ∨ (s.bus.state = .joining ∧ f.code = 10) →
      (∀ before q after, s.bus.queue = before ++ q :: after →
        (∀ x ∈ before, sameLimit x.frame f = false) → sameLimit q.frame f = true →
        let becomes (g : Frame) : Prop := offer f s = ({ s with
          bus := { s.bus with queue := before ++ { q with frame := g } :: after } }, true)
        (∀ z c z' c', q.frame = .trip z c → f = .trip z' c' → becomes (.trip (z ||| z')
          (if c = .reassert ∨ c' = .reassert then .reassert
           else if c = .host ∨ c' = .host then .host else .input))) ∧
        (∀ z z', q.frame = .clear z → f = .clear z' → becomes (.clear (z ||| z'))) ∧
        (∀ g c o g' c' o', q.frame = .hold g c o → f = .hold g' c' o' → becomes (.hold g c (o || o'))) ∧
        (∀ i i', q.frame = .status i → f = .status i' → becomes (.status i')) ∧
        (∀ g c o g' c', q.frame = .hold g c o → f = .release g' c' → limitsHold s.bus.queue = true → ∃ a b,
          before ++ after = a ++ b ∧ (∀ x ∈ a, x.frame.code ≤ 3) ∧
          (∀ x, b.head? = some x → 3 < x.frame.code) ∧ offer f s = ({ s with bus := { s.bus with
            queue := a ++ newEntry s.now f :: b } }, true)) ∧
        (∀ g c o, f = .hold g c o → q.frame.code ≠ 4 → offer f s = (s, false)) ∧
        (∀ g c, f = .release g c → q.frame.code ≠ 4 → offer f s = (s, false)) ∧
        (f.code = 0 ∨ f.code = 5 ∨ f.code = 7 ∨ f.code = 8 ∨ f.code = 10 → offer f s = (s, false))) ∧
      ((∀ x ∈ s.bus.queue, sameLimit x.frame f = false) →
        (s.bus.queue.length < 12 → ∃ a b, s.bus.queue = a ++ b ∧
          (∀ x ∈ a, x.frame.code ≤ f.code) ∧ (∀ x, b.head? = some x → f.code < x.frame.code) ∧
          offer f s = ({ s with bus := { s.bus with queue := a ++
            { frame := f, age := s.now, retries := 0, onLine := false } :: b } }, true)) ∧
        (∀ rest last, s.bus.queue = rest ++ [last] → 12 ≤ s.bus.queue.length →
          (last.frame.code ≤ f.code → (offer f s).2 = false ∧ (offer f s).1.bus = s.bus ∧
            (offer f s).1.flagSticky .queueOverflow = true) ∧
          (f.code < last.frame.code → (offer f s).2 = true ∧
            (offer f s).1.flagSticky .queueOverflow = true ∧
            ∃ a b, rest = a ++ b ∧ (∀ x ∈ a, x.frame.code ≤ f.code) ∧
              (∀ x, b.head? = some x → f.code < x.frame.code) ∧
              (offer f s).1.bus.queue = a ++
                { frame := f, age := s.now, retries := 0, onLine := false } :: b) ∧
          (f.code < last.frame.code → match last.frame with
            | .points pairs => ∀ k : Fin 16, ∀ cfg, s.config.publications[k.val]? = some cfg →
                ∀ x, s.pubs.entries[k.val]? = some x → (∃ p ∈ pairs, p.point = cfg.point) →
                (offer f s).1.pubs.entries[k.val]?.map Publication.waiting = some true
            | .fault c _ _ _ => ((offer f s).1.faultRec c).waiting = true
            | .mark _ | .trip _ _ | .clear _ | .release _ _ | .hold _ _ _ | .claim _ _
            | .faultAck _ _ _ _ | .status _ | .hello _ _ => True))))

/-- R93 to R95, R104 and R169: an own attempt begins, and ends with its frame taken. The line has been idle
for the gap: in JOINING and ON-LINE the head of the queue is offered, and where no other station's key (kind
code, then station) is lower than its own, its attempt is on the line with the content it then has and the
check of that content; the queue keeps it and nothing else moves. Where one is lower, arbitration is lost,
and the frame, its retry count and the score stay as they were. MUTED and BARRED only mark the gap, and
DISABLED and OFF-LINE take no part. That one command both closes the gap and settles the arbitration, and
that the gap is a mark which a state entry takes away, is the model's choice (log entry 10). Where the entry
of a frame that is taken was edited or merged during its attempt, what the frame did not carry stays queued
with retry count 0 (which content that is, is the model's reading, log entry 37); where it was not, the
entry leaves: what is in the queue afterwards with the taken frame's content was there beside it or is a new
FAULT or POINTS frame, and where nothing new is due the queue is what was beside it. -/
def Obligations.FrameOffer : Prop :=
  (∀ (s : State) (rivals : List Key),
     let gap : State := { s with bus := { s.bus with gapSeen := true } }
     (s.bus.attempt ≠ none ∨ s.bus.state = .disabled ∨ s.bus.state = .offLine →
       exec (.frameOffer rivals) s = .next s) ∧
     (s.bus.attempt = none → s.bus.state = .muted ∨ s.bus.state = .barred →
       exec (.frameOffer rivals) s = .next gap) ∧
     (s.bus.attempt = none → s.bus.state = .joining ∨ s.bus.state = .onLine →
       (s.bus.queue = [] → exec (.frameOffer rivals) s = .next gap) ∧
       ∀ q qs, s.bus.queue = q :: qs →
         let key : Nat := 64 * q.frame.code + s.loader.station.val
         ((∀ r ∈ rivals, key ≤ BitVec.toNat r) → exec (.frameOffer rivals) s = .next { s with
           bus := { s.bus with gapSeen := true, attempt := some q.frame,
                               sent := some (q.frame.onLine s.loader.station),
                               queue := { q with onLine := true } :: qs } }) ∧
         ((∃ r ∈ rivals, BitVec.toNat r < key) → exec (.frameOffer rivals) s = .next gap))) ∧
  (∀ (s : State) (f : Frame) (before after : List Queued) (q : Queued), s.sends f →
     s.bus.queue = before ++ q :: after → q.onLine = true → (∀ x ∈ before ++ after, x.onLine = false) →
     s.bus.queue.length + s.groups.length < 3 →
     ∃ t, exec (f.taken .own) s = .next t ∧ t.bus.attempt = none ∧ t.bus.score = s.bus.score - 1 ∧
       t.bus.sent = s.bus.sent ∧ (∀ x ∈ t.bus.queue, x.onLine = false) ∧
       (q.frame = f →
         (∀ x ∈ t.bus.queue, x.frame = f → x ∈ before ++ after ∨
           ((f.code = 7 ∨ f.code = 8) ∧ x.age = s.now ∧ x.retries = 0)) ∧
         (f.code ≠ 0 → s.groups = [] → s.pubs.entries = [] → (∀ c, (s.faultRec c).waiting = false) →
           (f.code = 2 → ∀ z, (s.zone z).localActive = false) →
           (∀ x ∈ before ++ after, 3 ≤ x.frame.code) → t.bus.queue = before ++ after)) ∧
       let stays (g : Frame) : Prop := { q with frame := g, retries := 0, onLine := false } ∈ t.bus.queue
       (∀ z c z' c', q.frame = .trip z c → f = .trip z' c' → z &&& ~~~z' ≠ 0 → stays (.trip (z &&& ~~~z') c)) ∧
       (∀ z z', q.frame = .clear z → f = .clear z' → z &&& ~~~z' ≠ 0 → stays (.clear (z &&& ~~~z'))) ∧
       (∀ g c g' c', q.frame = .hold g c true → f = .hold g' c' false → stays (.hold g c true)) ∧
       (∀ i i', q.frame = .status i → f = .status i' → i ≠ i' → stays (.status i)))

/-- R95, R105, R108 and R116: an own attempt that fails, by a collision or by a reject mark. The score rises
by 8, the frame stays in its place with one more retry; at 96 the node is MUTED and at 200 OFF-LINE, with
its queue flushed. That a failure with no own attempt changes nothing is the model's reading (log entry 31). -/
def Obligations.AttemptFails : Prop :=
  ∀ (s : State) (i : Instr) (f : Frame), i = .attemptCollision ∨ i = .attemptRejected →
    (s.bus.attempt = none → exec i s = .next s) ∧
    (s.bus.attempt = some f → s.bus.state = .joining ∨ s.bus.state = .onLine →
      (∀ q ∈ s.bus.queue, q.retries + 1 < 16) →
      let failed : State := { s with bus := { s.bus with
        attempt := none, score := min 255 (s.bus.score + 8),
        queue := s.bus.queue.map fun q =>
          if q.onLine = true then { q with retries := q.retries + 1, onLine := false } else q } }
      (s.bus.score + 8 < 96 → s.bus.state = .joining → exec i s = .next failed) ∧
      (s.bus.score + 8 < 96 → s.bus.state = .onLine → ∃ t, exec i s = .next t ∧ failed.sameButTraffic t) ∧
      (96 ≤ s.bus.score + 8 → s.bus.score + 8 < 200 → ∃ t, exec i s = .next t ∧
        t.bus = { s.bus with state := .muted, phase := none, joinTimer := none, offLineTimer := none,
                             score := s.bus.score + 8, queue := [], attempt := none, gapSeen := false } ∧
        t.flagLive .busDegraded = true) ∧
      (200 ≤ s.bus.score + 8 → ∃ t, exec i s = .next t ∧
        t.bus = { s.bus with state := .offLine, phase := none, joinTimer := none,
                             offLineTimer := some (s.now + 200000), score := min 255 (s.bus.score + 8),
                             queue := [], attempt := none, gapSeen := false } ∧
        t.flagLive .busDegraded = true))

/-- R30, R55, R70, R90, R105, R113 and R148: the sixteenth failure abandons the frame. It leaves the queue
with FRAME-ABANDONED, and its owner acts: a MARK is taken locally, a TRIP is queued anew for those of its
zones that are still tripped, a CLAIM leaves its entry FREE with the retry hold-off, a RELEASE leaves it
DEAD, what a POINTS or FAULT frame carried is pending again or in a new frame, a HELLO holds off for H. -/
def Obligations.FrameAbandoned : Prop :=
  ∀ (s : State) (i : Instr) (q : Queued) (rest : List Queued),
    i = .attemptCollision ∨ i = .attemptRejected → s.running = true → s.bus.attempt ≠ none →
    s.bus.queue = q :: rest → q.onLine = true → q.retries = 15 →
    (∀ x ∈ rest, x.onLine = false ∧ x.retries < 16) → s.bus.score + 8 < 96 →
    (s.bus.state = .onLine →
      ∃ t, exec i s = .next t ∧ t.flagSticky .frameAbandoned = true ∧ t.bus.state = .onLine ∧
        t.bus.score = s.bus.score + 8 ∧ t.bus.attempt = none ∧ s.sameSurroundings t ∧
        t.zones = s.zones ∧ t.points = s.points ∧
        match q.frame with
        | .mark n => s.tookMarkEvent t ∧ t.marks = {
            number := n, queued := false,
            timer := some (s.now + 1000 * s.config.mark + 250 * s.loader.station.val) }
        | .claim g _ => s.sameChannels t ∧ t.marks = s.marks ∧ ∀ e x, s.entry e = some x →
            t.leaves e (if (s.member e).group = g ∧ x.state = .claiming then
                { x.became .free with hold := some (s.now + s.holdInterval) } else x)
        | .release g _ => s.sameChannels t ∧ t.marks = s.marks ∧ ∀ e x, s.entry e = some x →
            t.leaves e (if (s.member e).group = g ∧ x.state = .releasingLocal ∧ x.releaseQueued = true
              then s.deadAfter e x else x)
        | .trip _ _ | .clear _ | .hold _ _ _ | .faultAck _ _ _ _ | .fault _ _ _ _ | .points _
        | .status _ | .hello _ _ => s.sameChannels t ∧ t.marks = s.marks ∧
            (∀ e x, s.entry e = some x → t.leaves e x) ∧
            match q.frame with
            | .trip z c =>
              let still := z &&& zonesWhere Zone.tripped s
              s.queueSound = true →
                (still ≠ 0 → ∃ x ∈ t.bus.queue, x.frame = .trip still c ∧ x.retries = 0 ∧ x.onLine = false) ∧
                (still = 0 → ∀ x ∈ t.bus.queue, isTrip x.frame = false)
            | .points pairs => ∀ k : Fin 16, ∀ cfg, s.config.publications[k.val]? = some cfg →
                ∀ x, s.pubs.entries[k.val]? = some x → (∃ p ∈ pairs, p.point = cfg.point) → t.willSend k cfg
            | .fault c _ _ _ => (t.faultRec c).waiting = true ∨ ∃ x ∈ t.bus.queue, isFaultOf c x.frame = true
            | .mark _ | .clear _ | .release _ _ | .hold _ _ _ | .claim _ _ | .faultAck _ _ _ _ | .status _
            | .hello _ _ => True) ∧
    (s.bus.state = .joining → s.bus.phase = some .helloQueued → q.frame.code = 10 →
      ∃ t, exec i s = .next t ∧ t.flagSticky .frameAbandoned = true ∧
        t.bus = { s.bus with phase := some .helloHoldOff, joinTimer := some (s.now + s.holdInterval),
                             score := s.bus.score + 8, queue := rest, attempt := none })

/-- R30, R40, R47, R91 and R106: leaving ON-LINE, here for MUTED at an own attempt that fails. The queue is
flushed; a HELD-LOCAL entry revokes the group from its channel and waits for it, lapsed; one that waits for
"done" is lapsed; every other entry is UNKNOWN, with its waiting channels kept. A queued MARK is taken
locally (R55), and what the flushed POINTS and FAULT frames carried is pending again. -/
def Obligations.LeavingTheBus : Prop :=
  ∀ (s : State) (i : Instr), i = .attemptCollision ∨ i = .attemptRejected → s.running = true →
    s.bus.state = .onLine → s.bus.attempt ≠ none → (∀ q ∈ s.bus.queue, q.retries + 1 < 16) →
    88 ≤ s.bus.score → s.bus.score < 192 →
    ∃ t, exec i s = .next t ∧ t.bus.state = .muted ∧ t.bus.queue = [] ∧ t.pubs.blocked = false ∧
      t.faults.blocked = false ∧ s.sameSurroundings t ∧ t.zones = s.zones ∧ t.points = s.points ∧
      (∀ e x, s.entry e = some x → t.entry e = some
        (if x.state = .heldLocal then
          { x with state := .releasingLocal, lapsed := true, hold := none, lapse := none }
         else if x.state = .releasingLocal ∧ x.releaseQueued = false then
          { x with lapsed := true, hold := none, lapse := none }
         else x.became .unknown)) ∧
      (∀ e x, s.entry e = some x → x.state = .heldLocal → ∀ h, x.holder = some h →
        { channel := h.channel, msg := .revoke } ∈ t.channels.toChannels) ∧
      ((∀ q ∈ s.bus.queue, isMark q.frame = false) → s.sameChannels t ∧ t.marks = s.marks) ∧
      (∀ q ∈ s.bus.queue, match q.frame with
        | .mark n => s.queueSound = true → s.tookMarkEvent t ∧ t.marks = {
            number := n, queued := false,
            timer := some (s.now + 1000 * s.config.mark + 250 * s.loader.station.val) }
        | .fault c _ _ _ => (t.faultRec c).waiting = true
        | .points pairs => ∀ k : Fin 16, ∀ cfg, s.config.publications[k.val]? = some cfg →
            ∀ x, s.pubs.entries[k.val]? = some x → (∃ p ∈ pairs, p.point = cfg.point) →
            t.pubs.entries[k.val]?.map Publication.waiting = some true
        | .trip _ _ | .clear _ | .release _ _ | .hold _ _ _ | .claim _ _ | .faultAck _ _ _ _
        | .status _ | .hello _ _ => True)

/-- R96, R98, R108 and R116 to R119: frames that are read and not acted on, in JOINING, ON-LINE, MUTED and
BARRED. A bad frame raises the score by 1 and is rejected where the node takes part; at 96 it leaves ON-LINE
and JOINING for MUTED, and at 200 MUTED for OFF-LINE with its timer; one that another station rejected is
discarded with no change to the score; a malformed frame, or one of a kind that none has, raises
MALFORMED-FRAME and lowers the score by 1, which takes a MUTED node to JOINING at 32; a frame from the own
station number raises DUPLICATE-STATION and bars the node. That the score changes before the frame is judged
is the model's reading (log entry 13). -/
def Obligations.FramesNotActedOn : Prop :=
  ∀ (s : State) (f : FrameRead) (g : Frame) (source : Station) (payload : List Byte) (kind : BitVec 4),
    s.running = true → s.bus.gapSeen = true → s.bus.attempt = none →
    let read (rejecting : Bool) (score : Nat) : State :=
      { s with bus := { s.bus with rejecting := rejecting, score := score } }
    let part := s.bus.state = .joining ∨ s.bus.state = .onLine
    let silent := s.bus.state = .muted ∨ s.bus.state = .barred
    let stands := (part ∧ s.bus.score ≤ 96) ∨ s.bus.state = .barred ∨
      (s.bus.state = .muted ∧ 34 ≤ s.bus.score ∧ s.bus.score ≤ 200)
    (FrameRead.isBad f = true →
      (part → s.bus.score < 95 → ∃ t, exec (.badFrameReceived f) s = .next t ∧
        (read true (s.bus.score + 1)).sameButTraffic t) ∧
      (part → s.bus.score = 95 → ∃ t, exec (.badFrameReceived f) s = .next t ∧ t.bus.state = .muted ∧
        t.bus.score = 96 ∧ t.bus.queue = [] ∧ t.flagLive .busDegraded = true) ∧
      (s.bus.state = .muted → 32 ≤ s.bus.score → s.bus.score < 199 →
        exec (.badFrameReceived f) s = .next (read false (s.bus.score + 1))) ∧
      (s.bus.state = .muted → s.bus.score = 199 → ∃ t, exec (.badFrameReceived f) s = .next t ∧
        t.bus = { s.bus with state := .offLine, phase := none, joinTimer := none, gapSeen := false,
                             offLineTimer := some (s.now + 200000), score := 200, rejecting := false } ∧
        t.flagLive .busDegraded = true ∧ s.sameSurroundings t ∧ s.sameChannels t ∧ t.groups = s.groups) ∧
      (s.bus.state = .barred →
        exec (.badFrameReceived f) s = .next (read false (min 255 (s.bus.score + 1))))) ∧
    (part ∨ silent → exec .frameRejectedByOther s = .next (read false s.bus.score)) ∧
    (∀ i : Instr, (i = .undefinedKindTaken kind source payload ∧ 11 ≤ kind.toNat) ∨
        (i = g.taken (.heard source payload) ∧
          (Frame.parse g.code payload = none ∨ source = 0 ∨ source = 63)) →
      (stands → ∃ t, exec i s = .next t ∧
        (read false (s.bus.score - 1)).sameButTraffic t ∧ t.flagSticky .malformedFrame = true ∧
        (silent → t.bus.queue = s.bus.queue ∧ t.groups = s.groups)) ∧
      (s.bus.state = .muted → s.bus.score = 33 → ∃ t, exec i s = .next t ∧ t.bus.state = .joining ∧
        t.bus.score = 32 ∧ t.bus.phase = some .helloQueued ∧ t.flagSticky .malformedFrame = true)) ∧
    (part → s.bus.score ≤ 96 → g.inRange = true → 1 ≤ s.loader.station.val →
      s.loader.station.val ≤ 62 →
      ∃ t, exec (g.taken (.heard s.loader.station g.payload)) s = .next t ∧ t.bus.state = .barred ∧
        t.bus.queue = [] ∧ t.bus.score = s.bus.score - 1 ∧ t.flagSticky .duplicateStation = true ∧
        t.flagLive .busDegraded = true) ∧
    (silent → (s.bus.state = .muted → s.bus.score ≤ 200) → g.inRange = true →
      1 ≤ s.loader.station.val → s.loader.station.val ≤ 62 →
      ∃ t, exec (g.taken (.heard s.loader.station g.payload)) s = .next t ∧
        t.flagSticky .duplicateStation = true ∧
        (s.bus.state = .muted → 34 ≤ s.bus.score → s.bus.score ≤ 200 →
          t.bus = { s.bus with state := .barred, phase := none, joinTimer := none, offLineTimer := none,
                               gapSeen := false, score := s.bus.score - 1, rejecting := false } ∧
          t.flagLive .busDegraded = true) ∧
        (s.bus.state = .muted → s.bus.score = 33 →
          t.bus.state = .barred ∧ t.bus.phase = none ∧ t.bus.queue = [] ∧ t.bus.score = 32 ∧
          t.flagLive .busDegraded = true) ∧
        (s.bus.state = .barred → (read false (s.bus.score - 1)).sameButTraffic t ∧
          t.bus.queue = s.bus.queue ∧ t.groups = s.groups))

/-- R48, R91, R112 to R114, R116, R118 and R148: the ways back to ON-LINE. OFF-LINE ends in MUTED with score
40; a good frame that brings the score of a MUTED node to 32 makes it JOINING, with a HELLO of a fresh token
queued; the hold-off of a HELLO ends in the next; the join wait ends ON-LINE, where UNKNOWN entries are
FREE, every publication is pending or in a POINTS frame, and so with a FAULT frame of each channel that has
a sticky kind. That the score of a good frame changes before its dispatch is the model's reading (log entry
13). -/
def Obligations.BackOnLine : Prop :=
  ∀ (s : State) (f : Frame) (source : Station), s.running = true →
    (s.bus.state = .offLine → s.bus.offLineTimer ≠ none →
      ∃ t, exec .offLineTimerExpiry s = .next t ∧ s.sameSurroundings t ∧ s.sameChannels t ∧
        t.groups = s.groups ∧
        t.bus = { s.bus with state := .muted, score := 40, phase := none, joinTimer := none,
                             offLineTimer := none, gapSeen := false }) ∧
    (s.bus.state = .muted → s.bus.gapSeen = true → s.bus.attempt = none →
      s.bus.score = 33 → s.bus.queue = [] → f.inRange = true → 1 ≤ source.val → source.val ≤ 62 →
      source ≠ s.loader.station →
      ∃ t, exec (f.taken (.heard source f.payload)) s = .next t ∧ s.sameSurroundings t ∧
        t.flagLive .busDegraded = false ∧
        t.bus = { s.bus with state := .joining, score := 32, phase := some .helloQueued, joinTimer := none,
                             offLineTimer := none, gapSeen := false, rejecting := false,
                             queue := [{ frame := .hello s.bus.joinCounter s.config.signature, age := s.now,
                                         retries := 0, onLine := false }] }) ∧
    (s.bus.state = .joining → s.bus.phase = some .helloHoldOff → s.bus.joinTimer ≠ none →
      s.bus.queue = [] →
      exec .helloHoldOffExpiry s = .next { s with bus := { s.bus with
        phase := some .helloQueued, joinTimer := none,
        queue := [{ frame := .hello s.bus.joinCounter s.config.signature, age := s.now, retries := 0,
                    onLine := false }] } }) ∧
    (s.bus.state = .joining → s.bus.phase = some .joinWait → s.bus.joinTimer ≠ none →
      ∃ t, exec .joinWaitExpiry s = .next t ∧ t.bus.state = .onLine ∧ t.bus.phase = none ∧
        t.bus.joinTimer = none ∧ t.bus.score = s.bus.score ∧ s.sameSurroundings t ∧ s.sameChannels t ∧
        t.zones = s.zones ∧ t.points = s.points ∧ t.marks = s.marks ∧
        (∀ e x, s.entry e = some x →
          (x.state = .unknown → t.leaves e (x.became .free)) ∧
          (x.state = .releasingLocal → x.yielded = false → x.releaseQueued = false →
            t.entry e = some { x with hold := some (s.now + s.holdInterval),
                                      lapse := some (s.now + 2 * s.holdInterval) })) ∧
        (s.bus.queue = [] → ∀ z, (s.zone z).localActive = true →
          ∃ q ∈ t.bus.queue, ∃ m, q.frame = .trip m .input ∧ maskBit m z = true) ∧
        (∀ i : Fin 16, ∀ cfg, s.config.publications[i.val]? = some cfg → ∀ x, s.pubs.entries[i.val]? = some x →
          t.willSend i cfg) ∧
        (∀ c, (s.faultRec c).sticky.any = true →
          (t.faultRec c).waiting = true ∨ ∃ q ∈ t.bus.queue, isFaultOf c q.frame = true))

/-- R49, R71, R91, R113, R115, R153 and R154: a HELLO that is taken. From another station, ON-LINE, the node
announces what it holds: a HOLD for each group of a listed entry in HELD-LOCAL, or in RELEASING-LOCAL that
waits for "done" and has not yielded; a TRIP with REASSERT for the tripped zones; every publication. In
another bus state it announces nothing. The own HELLO starts the join wait. The signature is kept for the
source, the own station with the own HELLO. -/
def Obligations.HellosTaken : Prop :=
  ∀ (s : State) (token signature : Half) (source : Station) (payload : List Byte),
    payload = (Frame.hello token signature).payload →
    (s.hears source →
      ∃ t, exec (.helloTaken (.heard source payload)) s = .next t ∧ t.zones = s.zones ∧
        t.points = s.points ∧ t.marks = s.marks ∧ s.sameSurroundings t ∧ s.sameChannels t ∧
        t.bus.score = s.bus.score - 1 ∧
        (∀ e x, s.entry e = some x → t.leaves e x) ∧
        (∀ i : Fin 62, ∀ p, s.faults.peers[i.val]? = some p → t.faults.peers[i.val]? = some
          (if i.val = source.val - 1 then
            { p with present := true, silent := 0, signature := some signature } else p)) ∧
        (s.bus.state = .onLine → s.bus.queue = [] →
          (∀ e x, s.entry e = some x → x.state = .heldLocal ∨
              (x.state = .releasingLocal ∧ x.yielded = false ∧ x.releaseQueued = false) →
            (∀ d, d ≠ e → s.entry d ≠ none → (s.member d).group ≠ (s.member e).group) →
            ∃ q ∈ t.bus.queue, q.frame = .hold (s.member e).group x.frameChannel false) ∧
          (∀ z, (s.zone z).tripped = true →
            ∃ q ∈ t.bus.queue, ∃ m, q.frame = .trip m .reassert ∧ maskBit m z = true)) ∧
        (s.bus.state = .onLine → ∀ i : Fin 16, ∀ cfg, s.config.publications[i.val]? = some cfg →
          ∀ x, s.pubs.entries[i.val]? = some x → t.willSend i cfg) ∧
        (s.bus.state ≠ .onLine → s.staysMuted →
          t.groups = s.groups ∧ t.bus.queue = s.bus.queue ∧ t.pubs = s.pubs)) ∧
    (s.running = true → s.bus.state = .joining → s.bus.phase = some .helloQueued → s.bus.score ≤ 96 →
      s.bus.attempt = some (.hello token signature) →
      s.bus.queue.head?.map Queued.onLine = some true →
      ∃ t, exec (.helloTaken .own) s = .next t ∧ t.bus.state = .joining ∧
        t.bus.phase = some .joinWait ∧ t.bus.joinTimer = some (s.now + s.holdInterval) ∧
        t.bus.attempt = none ∧ t.bus.score = s.bus.score - 1 ∧ t.bus.queue = s.bus.queue.drop 1 ∧
        t.groups = s.groups ∧ t.zones = s.zones ∧ t.points = s.points ∧ t.marks = s.marks ∧
        s.sameSurroundings t ∧ s.sameChannels t ∧
        (1 ≤ s.loader.station.val → ∀ i : Fin 62, ∀ p, s.faults.peers[i.val]? = some p →
          t.faults.peers[i.val]? = some (if i.val = s.loader.station.val - 1 then
            { p with present := true, silent := 0, signature := some signature } else p)))

/-- R97, R98, R169 and R170, sections 13.1 and 13.2: frames as they travel. A frame within its ranges reads
back from its kind code and payload as itself; a payload that reads as a frame is that frame's payload, so
no two payloads of a kind spell one frame; and a whole frame, sent with the check its sender computes, is
not bad. -/
def Obligations.FramesReadBack : Prop :=
  (∀ f : Frame, f.inRange = true →
    Frame.parse f.code f.payload = some f ∧ f.payload.length ≤ 16 ∧ f.code ≤ 10) ∧
  (∀ (kind : Nat) (payload : List Byte) (f : Frame), Frame.parse kind payload = some f →
    f.code = kind ∧ f.payload = payload ∧ f.inRange = true) ∧
  (∀ (f : Frame) (source : Station), f.inRange = true → FrameRead.isBad (f.onLine source) = false)

/-! ### The Barrier Link -/

/-- R122, R7 and R173: the drive word that a slot starts with. While the logic die is held in reset no slot
starts (log entry 8). -/
def Obligations.SlotStart : Prop :=
  ∀ s : State,
    (s.held = true → exec .slotStart s = .next s) ∧
    (s.held = false →
      ∃ w, exec .slotStart s = .next { s with
          link := { s.link with driveWord := some w, slotCount := s.link.slotCount + 1 } } ∧
        driveEnable w = (s.running && !s.zones.shutdown) ∧ driveCount w = s.link.slotCount ∧
        driveCheckGood w = true ∧
        ∀ n, maskBit (driveBits w) n = true ↔ s.running = true ∧
          ((s.chan n).state = .energizing ∨ (s.chan n).state = .on ∨ (s.chan n).state = .disarming))

/-- R126, R128 and R129: the link state follows the runs of good and failed slots. Sixteen good slots in a
row bring UP, eight failed ones DOWN, where the off-guarantee runs to 250 µs after the last good reply;
LINK-DOWN's live value follows. The power die is not touched. In the event that brings UP, the latest
FEEDBACK reply judges the path and gives the channels their bits, and the latest diagnostic replies become
the live values, whose rises are occurrences. While the logic die is held in reset no slot is judged (log
entry 8); how the path and the confirm timers meet in that event, and that the channels act before the
records, is the model's order (log entries 21 and 41). -/
def Obligations.LinkStateBySlots : Prop :=
  (∀ s : State, s.held = false →
     (∀ w r, judgeReply w = some r →
       ∃ t, exec (.replyReceived w) s = .next t ∧ t.power = s.power ∧ t.zones = s.zones ∧
         t.points = s.points ∧ t.marks = s.marks ∧ t.loader = s.loader ∧ t.inputs = s.inputs ∧
         (s.link.up = true → t.link = { s.link with failedRun := 0, lastGood := some s.now }) ∧
         (s.link.up = false → s.link.goodRun + 1 < 16 →
           t.link = { s.link with goodRun := s.link.goodRun + 1, latest := s.link.latest.take r } ∧
           t.channels = s.channels ∧ t.faults.flags.live = s.faults.flags.live) ∧
         (s.link.up = false → 16 ≤ s.link.goodRun + 1 →
           t.link = { s.link with up := true, goodRun := 0, failedRun := 0, lastGood := some s.now,
                                  guarantee := none, latest := LatestReplies.none } ∧
           t.flagLive .linkDown = false)) ∧
     (∀ reply : Option (BitVec 18), reply.bind judgeReply = none →
       ∃ t, exec (.slotFailed reply) s = .next t ∧ t.power = s.power ∧ t.zones = s.zones ∧
         t.points = s.points ∧ t.marks = s.marks ∧ t.loader = s.loader ∧ t.inputs = s.inputs ∧
         (s.link.up = false → t.link = { s.link with goodRun := 0 } ∧ t.channels = s.channels) ∧
         (s.link.up = true → s.link.failedRun + 1 < 8 →
           t.link = { s.link with failedRun := s.link.failedRun + 1 } ∧ t.channels = s.channels) ∧
         (s.link.up = true → 8 ≤ s.link.failedRun + 1 → ∀ g, s.link.lastGood = some g →
           t.link = { s.link with up := false, goodRun := 0, failedRun := 0,
                                  guarantee := some (g + 250) } ∧
           t.flagLive .linkDown = true))) ∧
  (∀ (s : State) (w : BitVec 18) (reply : GoodReply), s.held = false → s.link.up = false →
     16 ≤ s.link.goodRun + 1 → judgeReply w = some reply →
     let latest := s.link.latest.take reply
     let now (k : PowerKind) (c : Fin 8) : Bool := match latest.diagnostics.get k with
       | some bits => maskBit bits c
       | none => ((s.faultRec c).kinds.get k.kind).live
     let rises (k : PowerKind) (c : Fin 8) : Bool :=
       s.running && now k c && !((s.faultRec c).kinds.get k.kind).live
     ∃ t, exec (.replyReceived w) s = .next t ∧
       t.channels.feedback = (match latest.feedback with | some f => some f | none => s.channels.feedback) ∧
       t.flagLive .supplyLow =
         (match latest.feedback with | some f => f.supplyLow | none => s.flagLive .supplyLow) ∧
       t.pathReady = (match t.channels.feedback with | some f => !f.supplyLow | none => false) ∧
       (∀ k c, (t.faultRec c).kinds.get k.kind =
         (let old := (s.faultRec c).kinds.get k.kind
          if rises k c = true then
            { live := true, sticky := true, count := min 255 (old.count + 1),
              firstMark := if old.sticky = true then old.firstMark else some s.marks.number }
          else { old with live := now k c })) ∧
       (s.running = false → t.channels.records = s.channels.records) ∧
       (s.running = true → ∀ k c, rises k c = true → (s.cfg c).latchMask.get k = true →
         (t.chan c).causes.fault = true ∧
         (s.causesSound = true → s.pathSound = true → (t.chan c).state.driven = false)) ∧
       (s.running = true → s.pathSound = true → ∀ f, latest.feedback = some f →
         ∀ c, (∀ k, rises k c = true → (s.cfg c).latchMask.get k = false) →
         let r := s.chan c
         let u := t.chan c
         let starts (rearm : Bool) : Prop :=
           rearm = false → (s.cfg c).enabled = true → u.state = (match (s.cfg c).group, (s.cfg c).timing with
             | some _, _ => .waiting | none, .marked => .armed | none, .immediate => .energizing)
         (maskBit f.bits c = false →
           u.handBack = false ∧ ((t.faultRec c).kinds.get .stuckOn).live = false) ∧
         match r.state with
         | .locked => u = { r with handBack := r.handBack && maskBit f.bits c }
         | .releasing =>
           (maskBit f.bits c = true → u = { r with confirm := some (s.now + 5000) } ∧ t.sentBy c = s.sentBy c) ∧
           (maskBit f.bits c = false →
             (r.target = .locked → u.state = .locked ∧ u.causes = r.causes) ∧
             (r.target = .suspended → f.supplyLow = true → u.state = .suspended) ∧
             (r.target ≠ .locked → f.supplyLow = false → r.demand = false → u.state = .off ∧ u.rearm = false))
         | .suspended =>
           let rearm := r.rearm || (s.cfg c).restart == .rearm
           (f.supplyLow = true → u.state = .suspended) ∧
           (f.supplyLow = false → r.demand = false → u.state = .off ∧ u.rearm = false) ∧
           (f.supplyLow = false → r.demand = true → rearm = true → u.state = .off ∧ u.rearm = true) ∧
           (f.supplyLow = false → r.demand = true → maskBit f.bits c = false → starts rearm)
         | .off =>
           (f.supplyLow = true ∨ r.demand = false ∨ r.rearm = true → u.state = .off ∧ u.rearm = r.rearm) ∧
           (f.supplyLow = false → r.demand = true → maskBit f.bits c = false → starts r.rearm)
         | .waiting | .armed | .energizing | .on | .disarming => False))

/-- R21 and R129: the link going DOWN is a lost path for every channel, and stops the confirm timers of
RELEASING channels. -/
def Obligations.LinkLossAtTheChannels : Prop :=
  ∀ (s : State) (reply : Option (BitVec 18)), s.held = false → s.running = true → s.link.up = true →
    8 ≤ s.link.failedRun + 1 → reply.bind judgeReply = none →
    ∃ t, exec (.slotFailed reply) s = .next t ∧ t.pathReady = false ∧ ∀ c,
      let r := s.chan c
      match r.state with
      | .off | .locked | .suspended => t.chan c = r ∧ t.sentBy c = s.sentBy c
      | .waiting => t.chan c = { r with state := .suspended, confirm := none, offCheck := none } ∧
          t.sentBy c = s.sentBy c ++ s.messageOf c .cancel
      | .armed => t.chan c = { r with state := .suspended, confirm := none, offCheck := none } ∧
          t.sentBy c = s.sentBy c ++ s.messageOf c .doneNeverDriven
      | .energizing | .on | .disarming =>
          t.chan c = { r with state := .suspended, confirm := none, offCheck := none,
                              handBack := r.handBack || (s.cfg c).group.isSome } ∧
          t.sentBy c = s.sentBy c
      | .releasing =>
          t.chan c = { r with target := if r.target = .off then .suspended else r.target,
                              confirm := none } ∧
          t.sentBy c = s.sentBy c

/-- R130 with R17, R21 and R22: off-assured, given once, completes each RELEASING channel over the DOWN link
and settles every hand-back. -/
def Obligations.OffAssured : Prop :=
  ∀ s : State, s.running = true → s.link.up = false → s.link.guarantee ≠ none →
    ∃ t, exec .offGuaranteeExpiry s = .next t ∧ t.link = { s.link with guarantee := none } ∧
      t.power = s.power ∧ t.zones = s.zones ∧ t.points = s.points ∧ ∀ c,
      let r := s.chan c
      (t.chan c).handBack = false ∧
      (r.state ≠ .releasing →
        t.chan c = { r with handBack := false } ∧
        t.sentBy c = s.sentBy c ++ (if r.handBack = true then s.messageOf c .doneOffConfirmed else [])) ∧
      (r.state = .releasing →
        (t.chan c).state = (match r.target with
          | .off => .off | .suspended => .suspended | .locked => .locked) ∧
        (t.chan c).confirm = none ∧ (t.chan c).causes = r.causes ∧
        t.sentBy c = s.sentBy c ++ s.messageOf c .doneOffConfirmed
          ++ (if r.handBack = true then s.messageOf c .doneOffConfirmed else []))

/-- R6, R13, R15, R17, R18, R21, R22 and R127: a FEEDBACK reply over a link that is UP. With the supply-low
flag clear as before, each channel takes its bit, and a reply showing the output off settles hand-back
pending and makes STUCK-ON not live. A reply that sets the flag loses the path; one that clears it again
makes the path ready, where a SUSPENDED channel whose output it shows off goes to OFF and acts on its demand
at once. -/
def Obligations.FeedbackReply : Prop :=
  (∀ (s : State) (w : BitVec 18) (f : GoodReply), s.held = false → s.running = true →
     s.pathReady = true → judgeReply w = some f → f.kind = .feedback → f.supplyLow = false →
     ∃ t, exec (.replyReceived w) s = .next t ∧ t.channels.feedback = some ⟨f.bits, false⟩ ∧
       t.flagLive .supplyLow = false ∧ t.power = s.power ∧ t.zones = s.zones ∧ ∀ c,
       let r := s.chan c
       (maskBit f.bits c = false → ((t.faultRec c).kinds.get .stuckOn).live = false ∧
         (t.chan c).handBack = false) ∧
       (maskBit f.bits c = true → t.sentBy c = s.sentBy c ∧
         match r.state with
         | .energizing =>
           (t.chan c).state =
             (if r.demand = true then .on
              else match (s.cfg c).timing with | .marked => .disarming | .immediate => .releasing) ∧
           (r.demand = true → (t.chan c).confirm = none)
         | .on | .disarming => t.chan c = { r with offCheck := none }
         | .off | .waiting | .armed | .releasing | .suspended | .locked => t.chan c = r) ∧
       (maskBit f.bits c = false →
         match r.state with
         | .on | .disarming => (t.chan c).state = r.state ∧ (t.chan c).offCheck =
             match r.offCheck with | none => some (s.now + 100) | some x => some x
         | .releasing =>
           (r.target = .locked → (t.chan c).state = .locked ∧ (t.chan c).causes = r.causes) ∧
           (r.target = .off → r.demand = false → (t.chan c).state = .off ∧ (t.chan c).rearm = false) ∧
           (r.handBack = false → r.target = .locked →
             t.sentBy c = s.sentBy c ++ s.messageOf c .doneOffConfirmed)
         | .off | .waiting | .armed | .energizing | .suspended | .locked =>
           t.chan c = { r with handBack := false } ∧ t.sentBy c = s.sentBy c ++
             (if r.handBack = true then s.messageOf c .doneOffConfirmed else []))) ∧
  (∀ (s : State) (w : BitVec 18) (f : GoodReply), s.held = false → s.running = true → s.link.up = true →
     judgeReply w = some f → f.kind = .feedback →
     (s.pathReady = true → f.supplyLow = true →
       ∃ t, exec (.replyReceived w) s = .next t ∧ t.pathReady = false ∧ t.flagLive .supplyLow = true ∧ ∀ c,
         match (s.chan c).state with
         | .off => (t.chan c).state = .off
         | .locked => (t.chan c).state = .locked
         | .releasing => (maskBit f.bits c = true → (t.chan c).state = .releasing) ∧
             ((s.chan c).target ≠ .locked → maskBit f.bits c = false → (t.chan c).state = .suspended)
         | .waiting | .armed | .energizing | .on | .disarming | .suspended =>
           (t.chan c).state = .suspended) ∧
     (s.pathReady = false → f.supplyLow = false →
       ∃ t, exec (.replyReceived w) s = .next t ∧ t.pathReady = true ∧ t.flagLive .supplyLow = false ∧
         ∀ c, (s.chan c).state = .suspended → maskBit f.bits c = false →
           let rearm := (s.chan c).rearm || (s.cfg c).restart == .rearm
           ((s.chan c).demand = false → (t.chan c).state = .off ∧ (t.chan c).rearm = false) ∧
           ((s.chan c).demand = true → rearm = true → (t.chan c).state = .off ∧ (t.chan c).rearm = true) ∧
           ((s.chan c).demand = true → rearm = false → (s.cfg c).enabled = true →
             (t.chan c).state = (match (s.cfg c).group, (s.cfg c).timing with
               | some _, _ => .waiting | none, .marked => .armed | none, .immediate => .energizing))))

/-- R127, R145, R146 and R148: a diagnostic reply over a link that is UP sets the live values of its kind; a
rise is an occurrence, which a kind in the latch mask turns into the cause FAULT. The other kinds' records
stay. The first occurrence queues a FAULT frame with the channel's live and sticky sets and the mark number
of this moment, where the queue has room for all that may be due. -/
def Obligations.DiagnosticReply : Prop :=
  (∀ (s : State) (w : BitVec 18) (f : GoodReply) (k : PowerKind), s.held = false → s.running = true →
     s.link.up = true → judgeReply w = some f → f.kind = .diagnostic k →
     ∃ t, exec (.replyReceived w) s = .next t ∧ t.power = s.power ∧ t.zones = s.zones ∧
       t.channels.feedback = s.channels.feedback ∧ ∀ c,
       let old := (s.faultRec c).kinds.get k.kind
       let new := (t.faultRec c).kinds.get k.kind
       new.live = maskBit f.bits c ∧
       (∀ j, j ≠ k.kind → (t.faultRec c).kinds.get j = (s.faultRec c).kinds.get j) ∧
       ((maskBit f.bits c && !old.live) = false →
         new = { old with live := maskBit f.bits c } ∧ t.chan c = s.chan c ∧ t.sentBy c = s.sentBy c) ∧
       ((maskBit f.bits c && !old.live) = true →
         new.count = min 255 (old.count + 1) ∧ new.sticky = true ∧
         new.firstMark = (if old.sticky = true then old.firstMark else some s.marks.number) ∧
         ((s.cfg c).latchMask.get k = false → t.chan c = s.chan c) ∧
         ((s.cfg c).latchMask.get k = true → (t.chan c).causes.has .fault = true ∧
           (t.chan c).state.driven = ((s.chan c).state.driven && (s.chan c).causes.has .fault)))) ∧
  (∀ (s : State) (w : BitVec 18) (f : GoodReply) (k : PowerKind) (c : Fin 8), s.held = false →
     s.running = true → s.link.up = true → judgeReply w = some f → f.kind = .diagnostic k →
     maskBit f.bits c = true → ((s.faultRec c).kinds.get k.kind).live = false →
     ((s.faultRec c).kinds.get k.kind).sticky = false →
     (s.bus.state ≠ .onLine →
       ∃ t, exec (.replyReceived w) s = .next t ∧ (t.faultRec c).waiting = true ∧
         (t.faultRec c).newest = some s.marks.number ∧ t.err = true) ∧
     (s.bus.state = .onLine → s.faults.blocked = false →
       (∀ q ∈ s.bus.queue, isFaultOf c q.frame = false) → s.bus.queue.length + s.groups.length < 4 →
       ∃ t, exec (.replyReceived w) s = .next t ∧ (t.faultRec c).waiting = false ∧ t.err = true ∧
         ∃ q ∈ t.bus.queue, q.frame = .fault c
           { PerKind.of (fun j => ((t.faultRec c).kinds.get j).live) with failOn := false }
           (PerKind.of fun j => ((t.faultRec c).kinds.get j).sticky) s.marks.number))

/-- R123, R125 and R173, section 13.5: the words of the Barrier Link. A drive word gives back what it was
built from and its check is good; a reply word is judged as what it was built from, unless watchdog tripped
is set; and a received reply word is refused exactly where its check is bad, its kind is none of the six or
the flag is set. -/
def Obligations.LinkWords : Prop :=
  (∀ (enable : Bool) (bits : Byte) (count : BitVec 2),
    driveEnable (driveWordOf enable bits count) = enable ∧ driveBits (driveWordOf enable bits count) = bits ∧
    driveCount (driveWordOf enable bits count) = count ∧
    driveCheckGood (driveWordOf enable bits count) = true) ∧
  (∀ (k : ReplyKind) (bits : Byte) (supplyLow tripped : Bool),
    judgeReply (replyWordOf k bits supplyLow tripped)
      = if tripped = true then none else some { kind := k, bits := bits, supplyLow := supplyLow }) ∧
  (∀ w : BitVec 18, judgeReply w = none ↔
    w.extractLsb' 0 5 ≠ check5 (bitsOf (w.extractLsb' 5 13)) ∨ 6 ≤ (w.extractLsb' 15 3).toNat ∨
      w.getLsbD 5 = true)

/-! ### The power die -/

/-- R123: what a valid drive word does, what an invalid one leaves, and what the expiry of the drive
watchdog does. The commanded state of a channel is R133's; the switch conducts while its thermal state is
NORMAL. -/
def Obligations.DriveWordAndWatchdog : Prop :=
  ∀ s : State,
    (∀ w, s.power.inReset = false → driveCheckGood w = true → s.power.previous ≠ some (driveCount w) →
      ∃ p, exec (.driveWordReceived w) s = .next { s with power := p } ∧
        p = { s.power with enable := driveEnable w, bits := driveBits w, previous := some (driveCount w),
                           watchdog := some (s.now + 200), tripped := false, channels := p.channels } ∧
        ∀ n, (p.channels.get n).commanded
              = (driveEnable w && maskBit (driveBits w) n && s.power.supplyNormal) ∧
            ((p.channels.get n).conducts = true ↔
              driveEnable w = true ∧ maskBit (driveBits w) n = true ∧ s.power.supplyNormal = true ∧
                (p.channels.get n).thermal = .normal)) ∧
    (∀ w, driveCheckGood w = false ∨ s.power.previous = some (driveCount w) →
      exec (.driveWordReceived w) s = .next s) ∧
    (s.power.watchdog ≠ none →
      ∃ p, exec .watchdogExpiry s = .next { s with power := p } ∧
        p = { s.power with watchdog := none, tripped := true, channels := p.channels } ∧
        ∀ n, (p.channels.get n).commanded = false ∧ (p.channels.get n).conducts = false)

/-- R133, R136, R138, R142 and R143: at a valid drive word a channel whose commanded state does not change
stays as it is; one whose commanded state changes meets a switching edge, which starts blanking, time in
state and the times of every condition, and gives the thermal state of the state entered. Of the blanked
kinds, out of the own state a STANDING report becomes PROLONGED, and a CLEAR one is carried over as
PROLONGED only in blanking, with a condition present for the short filter of the time in state; back in the
own state a PROLONGED report becomes STANDING. A SHORT-SUPPLY report that does not end CLEAR leaves no
OPEN-OFF report. That the conditions are measured anew at the edge is the model's reading (log entry 22).
After an edge to OFF the current that an inductive load's energy drives on flows through the turn-off clamp,
which holds the output below VBB: the 45 V, and what the environment gives of such a load, are the model's
choices (log entries 25 and 43). -/
def Obligations.SwitchingEdge : Prop :=
  (∀ (s : State) (w : BitVec 16) (n : Fin 8), s.power.inReset = false → driveCheckGood w = true →
     s.power.previous ≠ some (driveCount w) →
     ∃ p, exec (.driveWordReceived w) s = .next { s with power := p } ∧
       let before := s.power.channels.get n
       let after := p.channels.get n
       let on := driveEnable w && maskBit (driveBits w) n && s.power.supplyNormal
       (before.commanded = on → after = before) ∧
       (before.commanded ≠ on →
         after.commanded = on ∧ after.blanking = some (s.now + 5000) ∧ after.since = s.now ∧
         after.load = before.load ∧ (∀ k, (after.conditions.get k).since = s.now) ∧
         (on = false → after.thermal = .normal ∧ after.reports.overload = .clear ∧
           after.reports.overtemp = .clear ∧ after.switchCurrent = 0 ∧
           after.clampCurrent = max 0 before.load.stored ∧
           after.output = if 0 < before.load.stored then before.load.supply - 45000 else before.load.voltage) ∧
         (on = true → (after.thermal = .shutdown ↔ 160 ≤ before.load.junction) ∧
           after.reports.overload = before.reports.overload ∧
           after.reports.overtemp = before.reports.overtemp))) ∧
  (∀ (s : State) (w : BitVec 16) (n : Fin 8), s.power.inReset = false → driveCheckGood w = true →
     s.power.previous ≠ some (driveCount w) →
     (s.power.channels.get n).commanded
       ≠ (driveEnable w && maskBit (driveBits w) n && s.power.supplyNormal) →
     ∃ p, exec (.driveWordReceived w) s = .next { s with power := p } ∧
       let before := s.power.channels.get n
       let after := p.channels.get n
       let time := s.now - before.since
       let carried (c : Condition) : Prop := before.blanking ≠ none ∧ c.present = true ∧
         (if time < 1000 then 80 else if time < 2500 then 400 else 1000) ≤ s.now - c.since
       let outOf (c : Condition) (r r' : Report) : Prop :=
         (r = .standing → r' = .prolonged) ∧ (r = .clear → carried c → r' = .prolonged) ∧
           (r = .clear → ¬ carried c → r' = .clear)
       let backInto (r r' : Report) : Prop := r' = if r = .prolonged then .standing else r
       (before.commanded = true →
         outOf before.conditions.openOn before.reports.openOn after.reports.openOn ∧
         backInto before.reports.shortSupply after.reports.shortSupply ∧
         (after.reports.shortSupply = .clear →
           backInto before.reports.openOff after.reports.openOff)) ∧
       (before.commanded = false →
         backInto before.reports.openOn after.reports.openOn ∧
         outOf before.conditions.shortSupply before.reports.shortSupply after.reports.shortSupply ∧
         (after.reports.shortSupply = .clear →
           outOf before.conditions.openOff before.reports.openOff after.reports.openOff)) ∧
       (after.reports.shortSupply ≠ .clear → after.reports.openOff = .clear))

/-- R124: the reply word of a slot. Its kind is that of the rotation position, which advances by one; its
channel bits are the outputs measured on (R134), or the reports that stand; its flags are the supply state
and watchdog tripped; its check is good. An output is measured on above 8.5 V, and above 0 V while its
switch conducts more than the open-load threshold (R139). While the current of an inductive load flows on
through the turn-off clamp, the output stands 45 V below VBB (R133); that 45 V, and what the environment
gives of such a load, are the model's choices (log entries 25 and 43). That the current is held within one
limit, kept in its range, is the model's choice (log entry 25). In reset no word is sent (R132). -/
def Obligations.ReplyWord : Prop :=
  ∀ s : State,
    (s.power.inReset = true → exec .replyWordFormed s = .next s) ∧
    (s.power.inReset = false →
      ∃ w : BitVec 18,
        exec .replyWordFormed s = .next { s with
          power := { s.power with replyWord := some w, position := s.power.position + 1 } } ∧
        let kind := [ReplyKind.feedback, .diagnostic .overtemp, .feedback, .diagnostic .openOn, .feedback,
          .diagnostic .openOff, .feedback, .diagnostic .shortSupply, .feedback, .diagnostic .overload].getD
            s.power.position.val .feedback
        w.extractLsb' 15 3 = kind.code ∧
        w.getLsbD 6 = !s.power.supplyNormal ∧ w.getLsbD 5 = s.power.tripped ∧
        w.extractLsb' 0 5 = check5 (bitsOf (w.extractLsb' 5 13)) ∧
        ∀ n, w.getLsbD (7 + n.val) =
          (match kind with
           | .feedback =>
             let p := s.power.channels.get n
             let limit : Int := max 2000000 (min 3200000 (Config.currentLimitMicroamps : Int))
             let volts : Int :=
               if (p.commanded = true ∧ p.thermal = .normal) ∨ p.load.stored ≤ 0 then p.load.voltage
               else p.load.supply - 45000
             decide (8500 < volts ∨ (p.commanded = true ∧ p.thermal = .normal ∧ 0 < volts ∧
               1200000000 < min p.load.draw limit * max 12000 (min 120000 (Config.olsetOhms : Int))))
           | .diagnostic k => decide ((s.power.channels.get n).reports.get k ≠ .clear)))

/-- R121, R132, R137 and R138: the power die enters reset and leaves it with every field at its starting
value, and sends no word in between; what the environment shows at the outputs is not the die's own. The
supply state's change to LOW takes every commanded state, blanking and report and every pull-up away, and
its change to NORMAL gives the commanded states that the applied drive asks for, with the pull-up on at
every output that is OFF. That the starting values stand from the entry to reset, and not from its end
alone, is the model's choice (log entry 9), as is what the environment gives of an inductive load, whose
current flows on through the turn-off clamp when the supply is lost (R133, log entry 43). That an end of
reset out of reset, and a change to the supply state that stands, change nothing is the model's reading (log
entry 31). -/
def Obligations.PowerDieReset : Prop :=
  (∀ s : State,
     let starting (p : PowerDie) : Prop :=
       p.enable = false ∧ p.bits = 0 ∧ p.previous = none ∧ p.watchdog = none ∧
         p.tripped = false ∧ p.position = 0 ∧ p.supplyNormal = false ∧ p.replyWord = none ∧
         ∀ n, (p.channels.get n).load = (s.power.channels.get n).load ∧
           (p.channels.get n).commanded = false ∧ (p.channels.get n).blanking = none ∧
           (p.channels.get n).since = s.now ∧ (p.channels.get n).thermal = .normal ∧ p.pullUp n = false ∧
           (∀ k, (p.channels.get n).conditions.get k = { present := false, since := s.now }) ∧
           (∀ k, (p.channels.get n).reports.get k = .clear)
     (∃ p, exec .powerDieReset s = .next { s with power := p } ∧ p.inReset = true ∧ starting p) ∧
     (s.power.inReset = false → exec .powerDieResetEnd s = .next s) ∧
     (s.power.inReset = true →
       ∃ p, exec .powerDieResetEnd s = .next { s with power := p } ∧ p.inReset = false ∧ starting p)) ∧
  (∀ s : State, s.power.inReset = false →
     (s.power.supplyNormal = true →
       ∃ p, exec .supplyLow s = .next { s with power := p } ∧
         p = { s.power with supplyNormal := false, channels := p.channels } ∧
         ∀ n, (p.channels.get n).load = (s.power.channels.get n).load ∧
           (p.channels.get n).commanded = false ∧ (p.channels.get n).blanking = none ∧
           (p.channels.get n).thermal = .normal ∧ p.pullUp n = false ∧
           p.sourced n = max 0 (s.power.channels.get n).load.stored ∧
           (∀ k, ((p.channels.get n).conditions.get k).present = false) ∧
           (∀ k, (p.channels.get n).reports.get k = .clear)) ∧
     (s.power.supplyNormal = false →
       ∃ p, exec .supplyRecovered s = .next { s with power := p } ∧
         p = { s.power with supplyNormal := true, channels := p.channels } ∧
         ∀ n, (p.channels.get n).load = (s.power.channels.get n).load ∧
           (p.channels.get n).commanded
             = (s.power.enable && maskBit s.power.bits n && !s.power.tripped) ∧
           p.pullUp n = !(p.channels.get n).commanded ∧
           (p.channels.get n).blanking = some (s.now + 5000) ∧ (p.channels.get n).since = s.now ∧
           (∀ k, (p.channels.get n).reports.get k = .clear)) ∧
     (s.power.supplyNormal = false → exec .supplyLow s = .next s) ∧
     (s.power.supplyNormal = true → exec .supplyRecovered s = .next s))

/-- R133, R135, R136, R138 and R139: the electrical situation of one output changes, by itself or in a step
of the thermal cycle. The thermal state and the conditions follow; a condition's time restarts where it
changes; the commanded state, the blanking and the reports of the channel and everything of the other
channels stay. A conducting switch passes what the load draws, up to the current limit; OVERLOAD is present
while it holds its current there. Where the switch does not conduct, the current of an inductive load whose
energy is not spent flows on through the turn-off clamp, which holds the output 45 V below VBB. An output
that is OFF over a NORMAL supply is given the pull-up current. That a step of the thermal cycle moves the
junction to 160 °C or 140 °C is the model's choice (log entry 22), as are the one nominal pull-up current
and clamp voltage and a limit kept within its range (log entry 25), and what the environment gives of an
inductive load (log entry 43). -/
def Obligations.OutputSituation : Prop :=
  ∀ (s : State) (c : Fin 8) (load : Electrical), s.power.inReset = false →
    let before := s.power.channels.get c
    let limit : Int := max 2000000 (min 3200000 (Config.currentLimitMicroamps : Int))
    let volts (conducting : Bool) (shown : Electrical) : Int :=
      if conducting = true ∨ shown.stored ≤ 0 then shown.voltage else shown.supply - 45000
    let outcome (i : Instr) (shown : Electrical) : Prop :=
      ∃ p after, exec i s = .next { s with power := p } ∧
        p = { s.power with channels := s.power.channels.set c after } ∧
        after.load = shown ∧ after.commanded = before.commanded ∧ after.blanking = before.blanking ∧
        after.since = before.since ∧ after.reports = before.reports ∧
        after.output = volts (before.commanded && after.thermal == .normal) shown ∧
        after.sourced s.power.supplyNormal =
          (if before.commanded = true ∧ after.thermal = .normal then min shown.draw limit
           else max 0 shown.stored
             + if before.commanded = false ∧ s.power.supplyNormal = true then 60 else 0) ∧
        (before.commanded = true → after.thermal =
          (match before.thermal with
           | .normal => if 160 ≤ shown.junction then .shutdown else .normal
           | .shutdown => if shown.junction ≤ 140 then .normal else .shutdown)) ∧
        (before.commanded = false → after.thermal = before.thermal) ∧
        (∀ k, after.conditions.get k =
          if ((after.conditions.get k).present == (before.conditions.get k).present) = true then
            before.conditions.get k
          else { present := (after.conditions.get k).present, since := s.now }) ∧
        (s.power.supplyNormal = false → ∀ k, (after.conditions.get k).present = false) ∧
        (s.power.supplyNormal = true →
          (after.conditions.openOff.present = true ↔
            before.commanded = false ∧ 4500 ≤ volts false shown ∧ volts false shown ≤ 8500) ∧
          (after.conditions.shortSupply.present = true ↔
            before.commanded = false ∧ 8500 < volts false shown) ∧
          (after.conditions.openOn.present = true ↔ before.commanded = true ∧ after.thermal = .normal ∧
            min shown.draw limit * max 12000 (min 120000 (Config.olsetOhms : Int)) < 1200000000) ∧
          (after.conditions.overload.present = true ↔
            before.commanded = true ∧ after.thermal = .normal ∧ limit ≤ shown.draw) ∧
          (after.conditions.overtemp.present = true ↔
            before.commanded = true ∧ after.thermal = .shutdown))
    outcome (.conditionChange c load) load ∧
    outcome (.thermalShutdown c) { before.load with junction := max 160 before.load.junction } ∧
    outcome (.thermalRestart c) { before.load with junction := min 140 before.load.junction }

/-- R140, R141 and R143: the end of a report's filter, and of a channel's blanking. A report leaves CLEAR
after its condition has been present for the kind's filter, and returns to it after an absence as long;
during blanking and in the opposite state the end of a blanked kind's filter changes nothing. A SHORT-SUPPLY
report that does not end CLEAR leaves no OPEN-OFF report, and one that clears lets OPEN-OFF be judged at
once (R138). -/
def Obligations.ReportFilters : Prop :=
  ∀ (s : State) (c : Fin 8), s.power.inReset = false →
    let before := s.power.channels.get c
    let outcome (i : Instr) (facts : PowerChannel → Prop) : Prop :=
      ∃ after, exec i s = .next { s with
          power := { s.power with channels := s.power.channels.set c after } } ∧
        after = { before with reports := after.reports, blanking := after.blanking } ∧ facts after
    let judgedAs (r r' : Report) (x : Condition) (filter : Nat) : Prop :=
      (r = .clear → r' = if x.present = true ∧ filter ≤ s.now - x.since then .standing else .clear) ∧
      (r = .standing → r' = if x.present = false ∧ filter ≤ s.now - x.since then .clear else .standing)
    (∀ k, outcome (.reportFilterExpiry c k) fun after =>
      after.blanking = before.blanking ∧
      (∀ j, j ≠ unblankedKind k → after.reports.get j = before.reports.get j) ∧
      judgedAs (before.reports.get (unblankedKind k)) (after.reports.get (unblankedKind k))
        (before.conditions.get (unblankedKind k)) 40) ∧
    (∀ k, before.blanking ≠ none ∨ before.commanded ≠ ownState k →
      outcome (.blankedFilterExpiry c k) fun after => after = before) ∧
    (before.blanking = none → before.commanded = true →
      outcome (.blankedFilterExpiry c .openOn) fun after =>
        after.blanking = none ∧ (∀ j, j ≠ .openOn → after.reports.get j = before.reports.get j) ∧
        judgedAs before.reports.openOn after.reports.openOn before.conditions.openOn 2000) ∧
    (before.blanking = none → before.commanded = false →
      (outcome (.blankedFilterExpiry c .openOff) fun after =>
        after.blanking = none ∧ (∀ j, j ≠ .openOff → after.reports.get j = before.reports.get j) ∧
        (before.reports.shortSupply ≠ .clear → after.reports.openOff = .clear) ∧
        (before.reports.shortSupply = .clear →
          judgedAs before.reports.openOff after.reports.openOff before.conditions.openOff 2000)) ∧
      (outcome (.blankedFilterExpiry c .shortSupply) fun after =>
        after.blanking = none ∧
        (∀ j, j ≠ .openOff → j ≠ .shortSupply → after.reports.get j = before.reports.get j) ∧
        judgedAs before.reports.shortSupply after.reports.shortSupply before.conditions.shortSupply 1000 ∧
        (after.reports.shortSupply ≠ .clear → after.reports.openOff = .clear) ∧
        (before.reports.shortSupply ≠ .clear → after.reports.shortSupply = .clear →
          judgedAs before.reports.openOff after.reports.openOff before.conditions.openOff 2000) ∧
        (before.reports.shortSupply = .clear → after.reports.shortSupply = .clear →
          after.reports.openOff = before.reports.openOff))) ∧
    (before.blanking ≠ none →
      outcome (.blankingExpiry c) fun after =>
        after.blanking = none ∧ after.reports.overload = before.reports.overload ∧
        after.reports.overtemp = before.reports.overtemp ∧
        (before.commanded = true →
          judgedAs before.reports.openOn after.reports.openOn before.conditions.openOn 2000 ∧
          (before.reports.openOff = .prolonged → after.reports.openOff = .clear) ∧
          (before.reports.shortSupply = .prolonged → after.reports.shortSupply = .clear)) ∧
        (before.commanded = false →
          judgedAs before.reports.shortSupply after.reports.shortSupply before.conditions.shortSupply
            1000 ∧
          (after.reports.shortSupply = .clear →
            judgedAs before.reports.openOff after.reports.openOff before.conditions.openOff 2000) ∧
          (before.reports.openOn = .prolonged → after.reports.openOn = .clear)))

/-! ### Fault records and peers -/

/-- R99, R147, R149, R152 and R154: a FAULT, a FAULT-ACK or a STATUS that is taken. A FAULT joins the
network fault list, from which the oldest entry falls, counted, when it is full; a FAULT-ACK for the own
station acknowledges, one for another changes no record; a STATUS is kept for its source. -/
def Obligations.FaultFramesTaken : Prop :=
  ∀ (s : State) (source : Station) (a : Arrival) (c : Fin 8) (live sticky kinds : KindSet) (mark : Half)
    (target : Station) (channels : Byte) (flags : Bool) (info : StatusInfo),
    let outcome (i : Instr) (facts : State → Prop) : Prop :=
      ∃ t, exec i s = .next t ∧ t.zones = s.zones ∧ t.points = s.points ∧ t.marks = s.marks ∧
        s.sameSurroundings t ∧ t.bus.score = s.bus.score - 1 ∧ facts t
    (s.arrives (.fault c live sticky mark) source a →
      outcome (.faultTaken a) fun t =>
        let e : ListEntry := { source := source, channel := c, live := { live with failOn := false },
                               sticky := sticky, firstMark := mark, arrival := s.marks.number }
        s.sameChannels t ∧ (∀ d, (t.faultRec d).kinds = (s.faultRec d).kinds) ∧
        (s.faults.list.length < 16 → t.faults.list = s.faults.list ++ [e] ∧
          t.faults.overrun = s.faults.overrun) ∧
        (16 ≤ s.faults.list.length → t.faults.list = s.faults.list.drop 1 ++ [e] ∧
          t.faults.overrun = min 255 (s.faults.overrun + 1)) ∧ t.irq = !s.held) ∧
    (s.arrives (.faultAck target channels kinds flags) source a →
      outcome (.faultAckTaken a) fun t =>
        t.faults.list = s.faults.list ∧
        (target ≠ s.loader.station → s.sameChannels t ∧
          ∀ d, (t.faultRec d).kinds = (s.faultRec d).kinds) ∧
        (target = s.loader.station →
          (∀ c k, ((t.faultRec c).kinds.get k).count = ((s.faultRec c).kinds.get k).count ∧
            ((t.faultRec c).kinds.get k).sticky = (((s.faultRec c).kinds.get k).sticky &&
              (!(maskBit channels c && kinds.get k) || ((s.faultRec c).kinds.get k).live))) ∧
          (∀ c, if (maskBit channels c &&
                noLatchingSticky (s.cfg c).latchMask (t.faultRec c).sticky) = true then
              s.withdrawn t .fault c
            else s.sameChannel t c) ∧
          (∀ f, f ≠ .queueOverflow → (f = .busDegraded → s.staysMuted) →
            t.flagSticky f = (s.flagSticky f && (!flags || s.flagLive f))))) ∧
    (s.arrives (.status info) source a → outcome (.statusTaken a) fun t =>
      s.sameChannels t ∧ t.faults.list = s.faults.list ∧
      ∀ i : Fin 62, ∀ p, s.faults.peers[i.val]? = some p → t.faults.peers[i.val]? = some
        (if i.val = source.val - 1 then
          { p with present := true, silent := 0, status := some { info := info, arrival := s.marks.number } }
         else p))

/-! ### Start-up and the configuration image -/

/-- R52, R60, R79, R93, R100, R108, R111, R112, R121, R132, R144, R149, R152, R153, R155, R156, R162 and
R168: what power-on leaves. That a held logic die already has the reset response, and that no command waits,
are the model's choices (log entries 9 and 1). -/
def Obligations.AfterPowerOn : Prop :=
  let s := State.reset
  s.held = true ∧ s.power.inReset = true ∧ s.loader.nodeState = .loading ∧ s.loader.image = none ∧
  s.loader.reason = none ∧ s.loader.item = none ∧ (∀ a, Memory.read s.loader.staging a = 0) ∧
  s.channels.feedback = none ∧ s.groups = [] ∧ s.points = [] ∧ s.pubs.entries = [] ∧
  s.marks = { number := 0, timer := none, queued := false } ∧ s.zones.shutdown = false ∧
  s.bus.state = .disabled ∧ s.bus.phase = none ∧ s.bus.joinTimer = none ∧ s.bus.offLineTimer = none ∧
  s.bus.joinCounter = 0 ∧ s.bus.score = 0 ∧ s.bus.queue = [] ∧ s.bus.attempt = none ∧
  (∀ c k, (s.faultRec c).kinds.get k = { live := false, sticky := false, count := 0, firstMark := none }) ∧
  (∀ c, (s.faultRec c).newest = none ∧ (s.faultRec c).waiting = false) ∧
  (∀ f, s.flagLive f = decide (f = .linkDown) ∧ s.flagSticky f = decide (f = .linkDown)) ∧
  s.faults.list = [] ∧ s.faults.overrun = 0 ∧ s.faults.peers.length = 62 ∧
  (∀ p ∈ s.faults.peers, p = { present := false, silent := 0, signature := none, status := none }) ∧
  (∀ n, s.host.points.get n = false) ∧ s.host.transaction = none ∧
  s.host.response = { command := 0, status := .accepted, data := [] } ∧
  s.host.events = { zoneChange := false, lockChange := false, nodeFlag := true } ∧
  s.link.up = false ∧ s.link.goodRun = 0 ∧ s.link.slotCount = 0 ∧ s.link.guarantee = none ∧
  s.enable = false ∧ s.driveBits = 0 ∧ s.pathReady = false ∧ s.err = true ∧ s.irq = false ∧
  s.pending = []

/-- R155, with R2, R27, R52, R60, R72, R79, R85, R93, R100, R108, R111, R112, R121, R132, R144, R149, R152,
R153 and R168: a node reset, from the logic supply or from the RESET pin. The join counter and the SHUTDOWN
field start anew with the supply alone, the pins keep their levels, and the power die is not reached. R162
and R167: RESET NODE is the node reset and its end in the one event, and leaves the reset response in place
of an answer of its own. -/
def Obligations.NodeReset : Prop :=
  (∀ s : State,
     let isReset (t : State) : Prop :=
       t.held = true ∧ t.now = s.now ∧ t.power = s.power ∧ t.loader.nodeState = .loading ∧
       t.loader.image = none ∧ t.loader.reason = none ∧ t.loader.item = none ∧ t.loader.read = .idle ∧
       (∀ a, Memory.read t.loader.staging a = 0) ∧ t.channels.feedback = none ∧ t.channels.toGroups = [] ∧
       t.channels.toChannels = [] ∧ t.groups = [] ∧ t.points = [] ∧ t.pubs.entries = [] ∧
       t.marks = { number := 0, timer := none, queued := false } ∧
       (∀ n, (t.inputs.get n).pin = (s.inputs.get n).pin ∧ (t.inputs.get n).timer = none) ∧
       t.bus.state = .disabled ∧ t.bus.phase = none ∧ t.bus.joinTimer = none ∧ t.bus.offLineTimer = none ∧
       t.bus.score = 0 ∧ t.bus.queue = [] ∧ t.bus.attempt = none ∧
       (∀ c k, ((t.faultRec c).kinds.get k).live = false ∧ ((t.faultRec c).kinds.get k).sticky = false ∧
         ((t.faultRec c).kinds.get k).count = 0 ∧ ((t.faultRec c).kinds.get k).firstMark = none) ∧
       (∀ f, t.flagLive f = decide (f = .linkDown) ∧ t.flagSticky f = decide (f = .linkDown)) ∧
       t.faults.list = [] ∧ t.faults.overrun = 0 ∧ (∀ p ∈ t.faults.peers, p.present = false ∧ p.silent = 0) ∧
       (∀ n, t.host.points.get n = false) ∧ t.host.transaction = none ∧
       t.host.events = { zoneChange := false, lockChange := false, nodeFlag := true } ∧
       t.link.up = false ∧ t.link.goodRun = 0 ∧ t.link.slotCount = 0 ∧ t.link.guarantee = none ∧
       t.link.latest.feedback = none ∧ t.enable = false ∧ t.driveBits = 0 ∧ t.err = true ∧ t.irq = false
     (∃ t, exec .resetPinAsserted s = .next t ∧ isReset t ∧ t.bus.joinCounter = s.bus.joinCounter ∧
       t.zones.shutdown = s.zones.shutdown) ∧
     (∃ t, exec .logicSupplyPowerOn s = .next t ∧ isReset t ∧ t.bus.joinCounter = 0 ∧
       t.zones.shutdown = false)) ∧
  (∀ (s : State) (x : ResetSample), s.host.transaction ≠ none →
     ∃ u t, exec .resetPinAsserted s = .next u ∧ exec (.nodeResetEnd x) u = .next t ∧
       exec (.resetNode x) s = .next t ∧ t.held = false ∧ t.host.transaction = none ∧
       t.loader.station = x.station ∧ t.bus.joinCounter = s.bus.joinCounter ∧
       t.zones.shutdown = s.zones.shutdown ∧ t.power = s.power ∧
       t.host.response = { command := 0, status := .accepted, data := [] })

/-- R155, R157 and R162: the end of a node reset samples the straps and sets the reset response; with image
source MEMORY the memory is addressed, up to ten times, and ten attempts without an answer end in
MEMORY-ABSENT. That an end of a reset that is not on, and an attempt that is not waited for, change nothing
is the model's reading (log entry 31). -/
def Obligations.ResetEndAndAddressing : Prop :=
  ∀ s : State,
    (s.held = false → ∀ x, exec (.nodeResetEnd x) s = .next s) ∧
    (s.held = true → ∀ x, exec (.nodeResetEnd x) s = .next { s with
        held := false,
        loader := { nodeState := .loading, source := if x.cfgselHigh = true then .memory else .host,
                    station := x.station,
                    read := if x.cfgselHigh = false then .idle
                            else if x.memoryAcknowledges = true then .header else .retryWait 1,
                    staging := [], image := none, reason := none, item := none },
        host := { s.host with response := { command := 0, status := .accepted, data := [] } } }) ∧
    (∀ n, s.loader.read = .retryWait n →
      exec (.memoryAddressRetry true) s = .next { s with loader := { s.loader with read := .header } } ∧
      (n + 1 < 10 → exec (.memoryAddressRetry false) s
        = .next { s with loader := { s.loader with read := .retryWait (n + 1) } }) ∧
      (10 ≤ n + 1 → exec (.memoryAddressRetry false) s
        = .next { s with loader := { s.loader with nodeState := .configFault, read := .idle,
                                                   reason := some .memoryAbsent, item := some 0 } })) ∧
    ((∀ n, s.loader.read ≠ .retryWait n) → ∀ b, exec (.memoryAddressRetry b) s = .next s)

/-- R157, R159 and R160: the header gives the image length, which must hold a header and a check and fit the
staging area; a read that fails ends in MEMORY-READ at the byte being read. The bytes read stand in the
staging area, and no other address of it changes. The last byte of the image completes the reading, and the
image that the staging area then holds is checked in the same event: a refused one leaves CONFIG-FAULT with
its reason and item index, an accepted one is the held image of a RUNNING node. That a header, a body or a
failure while no memory is read changes nothing is the model's reading (log entry 31). -/
def Obligations.MemoryLoading : Prop :=
  (∀ (s : State) (bytes : List Byte), s.stagingSound = true →
     let staged (offset : Nat) (m : Memory) : Prop :=
       ∀ a, Memory.read m a = if offset ≤ a ∧ a < offset + bytes.length then bytes.getD (a - offset) 0
         else Memory.read s.loader.staging a
     let fails (offset : Nat) (reason : FaultReason) (item : Nat) (i : Instr) : Prop :=
       ∃ m, staged offset m ∧ exec i s = .next { s with
         loader := { s.loader with nodeState := .configFault, read := .idle, staging := m,
                                   reason := some reason, item := some item } }
     (s.loader.read = .header → bytes.length = 6 →
       let length := 256 * (bytes.getD 0 0).toNat + (bytes.getD 1 0).toNat
       (8 ≤ length ∧ length ≤ 2048 → ∃ m, staged 0 m ∧ exec (.memoryHeaderRead bytes) s
         = .next { s with loader := { s.loader with read := .body length, staging := m } }) ∧
       (length < 8 ∨ 2048 < length → fails 0 .imageLength 0 (.memoryHeaderRead bytes))) ∧
     (s.loader.read = .header → bytes.length < 6 →
       fails 0 .memoryRead bytes.length (.memoryReadFailure bytes)) ∧
     (∀ length, s.loader.read = .body length → 6 + bytes.length < length → length ≤ 2048 →
       fails 6 .memoryRead (6 + bytes.length) (.memoryReadFailure bytes)) ∧
     (s.loader.read = .idle → exec (.memoryHeaderRead bytes) s = .next s ∧
       exec (.memoryReadFailure bytes) s = .next s ∧ exec (.memoryReadComplete bytes) s = .next s)) ∧
  (∀ (s : State) (bytes : List Byte) (length : Nat), s.stagingSound = true → s.loader.read = .body length →
     6 + bytes.length = length → length ≤ 2048 →
     ∃ m, (∀ a, Memory.read m a = if 6 ≤ a ∧ a < length then bytes.getD (a - 6) 0
         else Memory.read s.loader.staging a) ∧
       (∀ reason item, checkImage s.loader.station m = .error (reason, item) →
         exec (.memoryReadComplete bytes) s = .next { s with
           loader := { s.loader with nodeState := .configFault, read := .idle, staging := m,
                                     reason := some reason, item := some item } }) ∧
       (∀ img, checkImage s.loader.station m = .ok img →
         ∃ t, exec (.memoryReadComplete bytes) s = .next t ∧
           t = enterRunning img { s with loader := { s.loader with staging := m } } ∧
           t.running = true ∧ t.loader.image = some img))

/-- R161, with R2, R19, R27, R52, R60, R61, R64, R75, R79, R85, R111, R112, R122, R144 and R146: what the
blocks hold in the event that accepts an image. The link, the power die, the host points, the latest
FEEDBACK reply and the SHUTDOWN field are as before. Every listed publication is pending, with its refresh
timer stopped and no last sent value. Each power kind live on a channel gives one occurrence with first mark
0: counted, sticky, and new stickiness makes a FAULT frame pending. A zone is tripped where a trip input's
first level is active; TRIP, SHUTDOWN and FAULT reach the channels they concern, which stand in LOCKED; the
others act on the demand that their sources give at once (R9). That the causes come before the first demand
is the model's order (log entry 19). -/
def Obligations.RunningEntry : Prop :=
  (∀ (img : Image) (s : State),
     let t := enterRunning img s
     t.loader = { s.loader with nodeState := .running, read := .idle, image := some img, reason := none,
                                item := none } ∧
     t.groups.length = img.memberships.length ∧
     (∀ x ∈ t.groups, x = { state := .unknown, holder := none, requests := [], claimChannel := none,
                            yielded := false, conflict := none, lapsed := false, releaseQueued := false,
                            hold := none, lifetime := none, window := none, dead := none,
                            lapse := none }) ∧
     t.marks = { number := 0, queued := false,
                 timer := some (s.now + 1000 * img.mark + 250 * s.loader.station.val) } ∧
     t.points.length = img.subscriptions.length ∧
     (∀ x ∈ t.points, x = { age := .unseen, value := none, timer := none, foreignCount := 0,
                            lastChange := none }) ∧
     t.pubs.entries.length = img.publications.length ∧ t.pubs.blocked = false ∧
     (∀ x ∈ t.pubs.entries, x = { waiting := true, timer := none, lastSent := none }) ∧
     t.faults.list = s.faults.list ∧ t.faults.overrun = s.faults.overrun ∧ t.faults.peers = s.faults.peers ∧
     (∀ c,
       let before := s.faultRec c
       let after := t.faultRec c
       let occurs (k : PowerKind) : Bool := (before.kinds.get k.kind).live
       let new (k : PowerKind) : Bool := occurs k && !(before.kinds.get k.kind).sticky
       let anyNew := new .openOff || new .shortSupply || new .openOn || new .overload || new .overtemp
       (∀ k, after.kinds.get k.kind = if occurs k = true then
           { live := true, sticky := true, count := min 255 ((before.kinds.get k.kind).count + 1),
             firstMark := if new k = true then some 0 else (before.kinds.get k.kind).firstMark }
         else before.kinds.get k.kind) ∧
       after.kinds.failOn = before.kinds.failOn ∧ after.kinds.stuckOn = before.kinds.stuckOn ∧
       after.newest = (if anyNew = true then some 0 else before.newest) ∧
       after.waiting = (before.waiting || anyNew)) ∧
     (∀ n, (t.inputs.get n).pin = (s.inputs.get n).pin ∧ (t.inputs.get n).timer = none ∧
       (t.inputs.get n).level = if (img.inputs.get n).role = .unused then !(img.inputs.get n).activeHigh
         else (s.inputs.get n).pin) ∧
     t.bus.state = .joining ∧ t.bus.phase = some .helloQueued ∧ t.bus.score = 0 ∧
     t.bus.queue = [{ frame := .hello s.bus.joinCounter img.signature, age := s.now, retries := 0,
                      onLine := false }] ∧
     t.flagLive .busDegraded = false ∧ t.channels.feedback = s.channels.feedback ∧
     t.host.points = s.host.points ∧ t.link = s.link ∧ t.power = s.power ∧
     t.zones.shutdown = s.zones.shutdown ∧ t.enable = !s.zones.shutdown) ∧
  (∀ (img : Image) (s : State),
     let t := enterRunning img s
     (∀ z, (t.zone z).tripped = (t.zone z).localActive ∧ ((t.zone z).tripped = true ↔
       ∃ n, (img.inputs.get n).role = .trip z ∧ (s.inputs.get n).pin = (img.inputs.get n).activeHigh)) ∧
     ∀ c,
       let cfg := img.channels.get c
       let trip := cfg.enabled && (match cfg.zone with | some z => (t.zone z).tripped | none => false)
       let latched (k : PowerKind) : Bool := ((s.faultRec c).kinds.get k.kind).live && cfg.latchMask.get k
       let fault := latched .openOff || latched .shortSupply || latched .openOn || latched .overload
         || latched .overtemp
       (t.chan c).causes = { trip := trip, shutdown := s.zones.shutdown, fault := fault } ∧
       (t.chan c).demand = evalDemand t c ∧ (t.chan c).rearm = false ∧ (t.chan c).handBack = false ∧
       ((trip || s.zones.shutdown || fault) = true → (t.chan c).state = .locked ∧ t.sentBy c = []) ∧
       ((trip || s.zones.shutdown || fault) = false → (evalDemand t c && t.pathReady) = false →
         (t.chan c).state = .off ∧ t.sentBy c = []) ∧
       ((trip || s.zones.shutdown || fault) = false → (evalDemand t c && t.pathReady) = true →
         (cfg.group ≠ none → (t.chan c).state = .waiting) ∧
         (cfg.group = none → (t.chan c).state = if cfg.timing = .marked then .armed else .energizing) ∧
         t.sentBy c = t.messageOf c .request))

/-- R26, R159 and R172: what an accepted image is known to hold. Whatever the staging area holds, an image
that passes the checks comes from a station 1 to 62, keeps every capacity and every range, names only what
it lists, and its group fields and member sets name each other. -/
def Obligations.AcceptedImages : Prop :=
  ∀ (station : Station) (m : Memory) (img : Image), checkImage station m = .ok img →
    1 ≤ station.val ∧ station.val ≤ 62 ∧
    img.subscriptions.length ≤ 48 ∧ img.publications.length ≤ 16 ∧ img.memberships.length ≤ 8 ∧
    2 ≤ img.hold ∧ img.hold ≤ 50 ∧ 2 ≤ img.claim ∧ img.claim ≤ 50 ∧ img.claim < 10 * img.hold ∧
    2 ≤ img.mark ∧ img.mark ≤ 250 ∧ 1 ≤ img.refresh ∧ img.refresh ≤ 40 ∧ 1 ≤ img.debounce ∧
    img.debounce ≤ 20 ∧
    (∀ c, 1 ≤ (img.channels.get c).terms.length ∧ (img.channels.get c).terms.length ≤ 4 ∧
      (img.channels.get c).holdOver ≤ 200 ∧
      (∀ x ∈ (img.channels.get c).terms, ∀ i, x.source = .subscription i → i < img.subscriptions.length) ∧
      (∀ e, (img.channels.get c).group = some e →
        ∃ x, img.memberships[e.val]? = some x ∧ maskBit x.members c = true)) ∧
    (∀ x ∈ img.subscriptions, 1 ≤ x.publisher.val ∧ x.publisher.val ≤ 62 ∧ 2 ≤ x.lifetime ∧
      x.lifetime ≤ 200) ∧
    (img.subscriptions.map SubscriptionConfig.point).Nodup ∧
    (img.publications.map PublicationConfig.point).Nodup ∧
    (img.memberships.map MembershipConfig.group).Nodup ∧
    (∀ (e : Fin 8) x, img.memberships[e.val]? = some x → x.members ≠ 0 ∧ x.dead ≤ 500 ∧
      ∀ c, maskBit x.members c = true → (img.channels.get c).group = some e) ∧
    (∀ n, ∀ mask, (img.inputs.get n).role = .clear mask → mask ≠ 0)

/-! ### The Local Host Port -/

/-- R162, R163 and R171: a transaction and its bytes. SCS falls outside reset and the response buffer starts
to shift out; SCS rises before a command byte and nothing is taken; a request that is incomplete or whose
bytes do not sum to 255 is answered CHECK-ERROR (with its command byte, log entry 17) and acts on nothing; a
command above 16, or an argument length other than its command's row gives, is answered REFUSED-ARGUMENT and
acts on nothing. A rise of SCS that ends no transaction takes no request and leaves the response buffer as
it is, and a fall during a transaction begins none (log entry 29). While a transaction lasts, SDO gives the
response's bytes in their order and then fill bytes of 0; that without a transaction nothing is shifted out
is the model's choice (log entry 29). That bytes after the check byte belong to no request is the model's
reading (log entry 27). -/
def Obligations.Transactions : Prop :=
  (∀ s : State,
     let answered (command : Byte) (status : Status) : State := { s with
       host := { s.host with response := { command := command, status := status, data := [] },
                             transaction := none } }
     let total (bytes : List Byte) : Nat := (bytes.map BitVec.toNat).sum % 256
     let fits (command length : Nat) : Prop :=
       (command ∈ [0, 1, 6, 8, 9, 14, 16] ∧ length = 0) ∨ (command ∈ [2, 3, 4, 5, 7, 12, 13] ∧ length = 1) ∨
         (command = 10 ∧ length = 2) ∨ (command = 11 ∧ length = 4) ∨
         (command = 15 ∧ 3 ≤ length ∧ length ≤ 34)
     (s.held = false → s.host.transaction = none → exec .transactionBegin s
       = .next { s with host := { s.host with transaction := some s.host.response.bytes } }) ∧
     (s.held = true ∨ s.host.transaction ≠ none → exec .transactionBegin s = .next s) ∧
     (∀ t, s.held = false → s.host.transaction = none → exec .transactionBegin s = .next t → ∀ k,
       (k < s.host.response.bytes.length → t.sdo k = s.host.response.bytes[k]?) ∧
       (s.host.response.bytes.length ≤ k → t.sdo k = some 0) ∧ s.sdo k = none) ∧
     (s.host.transaction ≠ none →
       exec .emptyTransaction s = .next { s with host := { s.host with transaction := none } } ∧
       (∀ x command, exec (.checkError [command] x) s = .next (answered command .checkError)) ∧
       (∀ x command length rest, rest.length ≤ BitVec.toNat length →
         exec (.checkError (command :: length :: rest) x) s = .next (answered command .checkError)) ∧
       (∀ x command length rest, BitVec.toNat length < rest.length →
         total ((command :: length :: rest).take (BitVec.toNat length + 3)) ≠ 255 →
         exec (.checkError (command :: length :: rest) x) s = .next (answered command .checkError)) ∧
       (∀ x command length rest, BitVec.toNat length < rest.length →
         total ((command :: length :: rest).take (BitVec.toNat length + 3)) = 255 →
         ¬ fits (BitVec.toNat command) (BitVec.toNat length) →
         exec (.checkError (command :: length :: rest) x) s = .next (answered command .refusedArgument)))) ∧
  (∀ s : State, s.host.transaction = none →
     exec .nop s = .next s ∧ exec .readNode s = .next s ∧ (∀ c, exec (.readChannel c) s = .next s) ∧
     (∀ i, exec (.readSubscription i) s = .next s ∧ exec (.readPublication i) s = .next s ∧
       exec (.readGroup i) s = .next s) ∧
     exec .readZones s = .next s ∧ (∀ p, exec (.readPeer p) s = .next s) ∧
     exec .popFaultList s = .next s ∧ exec .readEvents s = .next s ∧
     (∀ n v, exec (.setHostPoint n v) s = .next s) ∧ (∀ p c k n, exec (.ackFaults p c k n) s = .next s) ∧
     (∀ m, exec (.tripZones m) s = .next s ∧ exec (.clearZones m) s = .next s) ∧
     (∀ x, exec (.resetNode x) s = .next s) ∧ (∀ o d, exec (.writeConfigBlock o d) s = .next s) ∧
     exec .commitConfig s = .next s ∧ (∀ b x, exec (.checkError b x) s = .next s) ∧
     exec .emptyTransaction s = .next s)

/-- R171, section 13.3: the bytes of a request with its good check act as the request they spell, in every
state; the check byte makes the sum of all the bytes 255. Bytes shifted in after the check byte change
nothing, and good bytes brought by this command act as the request they spell (the model's reading, log
entry 27). A response as it is shifted out is command, status, data length, data, and the check byte that
makes the sum of all the bytes 255. -/
def Obligations.HostBytesReadBack : Prop :=
  (∀ (s : State) (x : ResetSample) (fill : List Byte),
     let spells (command : Byte) (arguments : List Byte) (c : Instr) : Prop :=
       exec (.checkError (command :: byteOf arguments.length :: arguments
         ++ [255 - (command + byteOf arguments.length + arguments.sum)] ++ fill) x) s = exec c s
     spells 0 [] .nop ∧ spells 1 [] .readNode ∧ (∀ c, spells 2 [c] (.readChannel c)) ∧
     (∀ i, spells 3 [i] (.readSubscription i)) ∧ (∀ i, spells 4 [i] (.readPublication i)) ∧
     (∀ i, spells 5 [i] (.readGroup i)) ∧ spells 6 [] .readZones ∧ (∀ p, spells 7 [p] (.readPeer p)) ∧
     spells 8 [] .popFaultList ∧ spells 9 [] .readEvents ∧
     (∀ n v, spells 10 [n, v] (.setHostPoint n v)) ∧
     (∀ p c k n, spells 11 [p, c, k, n] (.ackFaults p c k n)) ∧
     (∀ m, spells 12 [m] (.tripZones m)) ∧ (∀ m, spells 13 [m] (.clearZones m)) ∧
     spells 14 [] (.resetNode x) ∧
     (∀ hi lo data, data.length ≤ 253 →
       spells 15 (hi :: lo :: data) (.writeConfigBlock (BitVec.append hi lo) data)) ∧
     spells 16 [] .commitConfig) ∧
  (∀ r : Response, r.data.length < 65536 →
     (r.bytes.map BitVec.toNat).sum % 256 = 255 ∧ r.bytes.length = r.data.length + 5 ∧
     r.bytes.getD 0 0 = r.command ∧
     r.bytes.getD 1 0 = (match r.status with
       | .accepted => 0 | .refusedState => 1 | .refusedArgument => 2 | .busy => 3 | .checkError => 4) ∧
     256 * (r.bytes.getD 2 0).toNat + (r.bytes.getD 3 0).toNat = r.data.length ∧
     (r.bytes.drop 4).take r.data.length = r.data)

/-- R152, R163, R164 and R168: the requests that read. Each answers at once and changes no table; its answer
is ACCEPTED, or the refusal of the first step that fails, with no data. POP FAULT LIST returns the oldest
entry and removes it, with the number of entries left and the overrun count (one presence byte before the
entry, log entry 39; one byte for each number, log entry 44), the latter returning to 0; READ EVENTS returns
the host event set (as one byte, log entry 23) and empties it. -/
def Obligations.ReadRequests : Prop :=
  (∀ s : State, s.host.transaction ≠ none →
     let answers (c : Instr) (command : Byte) (status : Status) : Prop :=
       ∃ data, exec c s = .next { s with
           host := { s.host with response := { command := command, status := status, data := data },
                                 transaction := none } } ∧ (status ≠ .accepted → data = [])
     exec .nop s = .next { s with
       host := { s.host with response := { command := 0, status := .accepted, data := [] },
                             transaction := none } } ∧
     answers .readNode 1 .accepted ∧ answers .readZones 6 .accepted ∧
     (∀ c, answers (.readChannel c) 2 (if 8 ≤ BitVec.toNat c then .refusedArgument
       else if s.running = true then .accepted else .refusedState)) ∧
     (∀ p, answers (.readPeer p) 7 (if 1 ≤ BitVec.toNat p ∧ BitVec.toNat p ≤ 62 then .accepted
       else .refusedArgument)) ∧
     (∀ i, s.points.length = s.config.subscriptions.length →
       answers (.readSubscription i) 3 (if s.running = false then .refusedState
         else if s.config.subscriptions.length ≤ BitVec.toNat i then .refusedArgument else .accepted)) ∧
     (∀ i, s.pubs.entries.length = s.config.publications.length →
       answers (.readPublication i) 4 (if s.running = false then .refusedState
         else if s.config.publications.length ≤ BitVec.toNat i then .refusedArgument else .accepted)) ∧
     (∀ i, s.groups.length = s.config.memberships.length →
       answers (.readGroup i) 5 (if s.running = false then .refusedState
         else if s.config.memberships.length ≤ BitVec.toNat i then .refusedArgument else .accepted))) ∧
  (∀ s : State, s.host.transaction ≠ none →
     (s.faults.list = [] → exec .popFaultList s = .next { s with
       faults := { s.faults with overrun := 0 },
       host := { s.host with
         transaction := none,
         response := { command := 8, status := .accepted,
                       data := [0, 0, 0, 0, 0, 0, 0, 0, 0, 0, byteOf s.faults.overrun] } } }) ∧
     (∀ e es, s.faults.list = e :: es → exec .popFaultList s = .next { s with
       faults := { s.faults with list := es, overrun := 0 },
       host := { s.host with
         transaction := none,
         response := { command := 8, status := .accepted,
                       data := [1, byteOf e.source.val, byteOf e.channel.val, kindSetByte e.live,
                                kindSetByte e.sticky, byteOf (e.firstMark.toNat / 256),
                                byteOf e.firstMark.toNat, byteOf (e.arrival.toNat / 256),
                                byteOf e.arrival.toNat, byteOf es.length,
                                byteOf s.faults.overrun] } } }) ∧
     (exec .readEvents s = .next { s with host := { s.host with
       events := { zoneChange := false, lockChange := false, nodeFlag := false }, transaction := none,
       response := { command := 9, status := .accepted,
                     data := [(if s.host.events.zoneChange = true then 1 else 0)
                       + (if s.host.events.lockChange = true then 2 else 0)
                       + (if s.host.events.nodeFlag = true then 4 else 0)] } } }))

/-- R51, R57, R60, R77, R84, R92, R109, R120, R131, R154, R156, R164 and R171: the data of the read
requests, each given whole. READ NODE gives the loader's, the bus controller's, the mark timer's, the
link's, the inputs', the host points', the Publication Table's and the fault records' part, with a field
that does not exist as absent; READ ZONES gives the zone entries, while they exist, and the shutdown field;
READ PEER, READ SUBSCRIPTION, READ PUBLICATION, READ GROUP and READ CHANNEL give their entry. Named values
stand as their positions in the lists of their chapters (log entry 18), sets of events and of causes as one
byte (log entry 23). The model's layout are the node flags as two sets and the levels in two groups (log
entry 38), a term as three bytes with its usability and value in a list of their own, a publication's source
as two bytes, ONE presence byte before the drive word and before the FEEDBACK reply, FAIL-ON's live value as
the byte 0 (log entry 39), build blocked in every node state (log entry 40), and the widths of the plain
numbers (log entry 44). -/
def Obligations.ReadData : Prop :=
  ∀ s : State, s.host.transaction ≠ none →
    let flag (b : Bool) : Byte := if b = true then 1 else 0
    let two (n : Nat) : List Byte := [byteOf (n / 256), byteOf n]
    let maybe (o : Option Byte) : List Byte := match o with | some b => [1, b] | none => [0, 0]
    let maybeMark (o : Option Half) : List Byte := match o with | some m => 1 :: two m.toNat | none => [0, 0, 0]
    let number (c : Fin 8) : Byte := byteOf c.val
    let answers (c : Instr) (data : List Byte) : Prop :=
      ∃ t, exec c s = .next t ∧ t.host.response.data = data
    let eight (f : Fin 8 → List Byte) : List Byte := [0, 1, 2, 3, 4, 5, 6, 7].flatMap f
    let held (b : Byte) : List Byte := if s.running = true then [1, b] else [0, 0]
    let level (high : Bool) : Byte := if high = true then 0 else 1
    answers .readNode (
      ([match s.loader.nodeState with | .loading => 0 | .running => 1 | .configFault => 2,
        match s.loader.source with | .memory => 0 | .host => 1, byteOf s.loader.station.val] : List Byte)
      ++ maybe (s.loader.reason.map fun r => byteOf ([FaultReason.memoryAbsent, .memoryRead, .imageLength,
          .imageCheck, .formatVersion, .noStation, .fieldRange, .duplicateSubscription, .duplicatePublication,
          .duplicateGroup, .termReference, .groupMembership, .memberBacklink, .timeRange, .inputRole].idxOf r))
      ++ (match s.loader.item with | some i => 1 :: two i | none => [0, 0, 0])
      ++ maybeMark (s.loader.image.map Image.signature)
      ++ [byteOf ([BusState.disabled, .joining, .onLine, .muted, .offLine, .barred].idxOf s.bus.state),
          byteOf s.bus.score, byteOf s.bus.queue.length]
      ++ byteOf s.bus.queue.length :: s.bus.queue.map (fun q => byteOf q.frame.code)
      ++ maybe (s.bus.phase.map fun p =>
          byteOf ([JoinPhase.helloQueued, .joinWait, .helloHoldOff].idxOf p))
      ++ two s.marks.number.toNat ++ held (byteOf s.config.mark) ++ [flag s.marks.queued]
      ++ flag s.link.up :: (match s.link.driveWord with
          | some w => [1, flag (driveEnable w), driveBits w] | none => [0, 0, 0])
      ++ (match s.channels.feedback with
          | some f => [1, f.bits, flag f.supplyLow] | none => [0, 0, 0])
      ++ eight (fun n => [level (s.inputs.get n).pin]) ++ eight (fun n => held (level (s.inputs.get n).level))
      ++ eight (fun n => [flag (s.host.points.get n)]) ++ held (byteOf s.config.refresh)
      ++ [flag s.pubs.blocked] ++ two s.faults.flags.live.toNat ++ two s.faults.flags.sticky.toNat
      ++ [flag s.err, byteOf s.faults.list.length, byteOf s.faults.overrun,
          flag s.host.events.zoneChange + 2 * flag s.host.events.lockChange
            + 4 * flag s.host.events.nodeFlag]) ∧
    answers .readZones ((if s.running = true then eight (fun z =>
        flag (s.zone z).tripped :: maybe ((s.zone z).station.map fun n => byteOf n.val)
          ++ maybe ((s.zone z).cause.map fun k => match k with | .input => 1 | .host => 2 | .reassert => 3)
          ++ [flag (s.zone z).localActive])
      else []) ++ [if s.zones.shutdown = true then 0 else 1]) ∧
    (∀ (st : Station) (x : Peer), 1 ≤ st.val → st.val ≤ 62 → s.faults.peers[st.val - 1]? = some x →
      answers (.readPeer (byteOf st.val)) ([if x.present = true then 0 else 1, byteOf x.silent]
        ++ maybeMark x.signature
        ++ (match x.status with
            | some r => 1 :: two r.info.flags.toNat ++ [r.info.drive, r.info.locked, r.info.sticky,
                r.info.tripped] ++ two r.info.mark.toNat ++ two r.arrival.toNat
            | none => [0, 0, 0, 0, 0, 0, 0, 0, 0, 0, 0]))) ∧
    (s.running = true →
      (∀ (i : Byte) (cfg : SubscriptionConfig) (x : Subscription),
        s.config.subscriptions[i.toNat]? = some cfg → s.points[i.toNat]? = some x →
        answers (.readSubscription i) (two cfg.point.val ++ [byteOf cfg.publisher.val] ++ two cfg.lifetime
          ++ ([match x.age with | .unseen => 0 | .fresh => 1 | .stale => 2] : List Byte)
          ++ maybe (x.value.map flag) ++ [byteOf x.foreignCount] ++ maybeMark x.lastChange)) ∧
      (∀ (i : Byte) (cfg : PublicationConfig) (x : Publication),
        s.config.publications[i.toNat]? = some cfg → s.pubs.entries[i.toNat]? = some x →
        answers (.readPublication i) (two cfg.point.val
          ++ (match cfg.source with
              | .sense n => [0, number n] | .hostPoint n => [1, number n] | .feedback n => [2, number n]
              | .faultAny n => [3, number n] | .nodeError => [4, 0])
          ++ [flag (sourceValue s cfg.source), flag x.waiting] ++ maybe (x.lastSent.map flag))) ∧
      (∀ (i : Byte) (cfg : MembershipConfig) (x : Entry),
        s.config.memberships[i.toNat]? = some cfg → s.groups[i.toNat]? = some x →
        answers (.readGroup i) ([byteOf cfg.group.val, cfg.members] ++ two cfg.dead
          ++ [byteOf ([EntryState.unknown, .free, .dead, .heldRemote, .claiming, .claimed, .heldLocal,
                .releasingLocal].idxOf x.state)]
          ++ (match x.holder with
              | some h => [1, byteOf h.station.val, number h.channel] | none => [0, 0, 0])
          ++ byteOf x.requests.length :: x.requests.map number ++ maybe (x.claimChannel.map number)
          ++ [flag x.yielded] ++ maybe (x.conflict.map fun h => byteOf h.station.val)
          ++ [flag x.lapsed, flag x.releaseQueued])) ∧
      (∀ c : Fin 8,
        let cfg := s.cfg c
        let r := s.chan c
        let kind (k : FaultKind) : List Byte :=
          let x := (s.faultRec c).kinds.get k
          [flag x.live, flag x.sticky, byteOf x.count] ++ maybeMark x.firstMark
        answers (.readChannel (number c))
          (flag cfg.enabled :: byteOf cfg.terms.length :: cfg.terms.flatMap (fun x =>
              (match x.source with
               | .sense n => [0, number n] | .hostPoint n => [1, number n]
               | .subscription i => [2, byteOf i]) ++ [flag x.invert])
            ++ ([match cfg.combine with | .and => 0 | .or => 1] : List Byte)
            ++ maybe (cfg.group.map number) ++ maybe (cfg.zone.map number)
            ++ ([match cfg.timing with | .immediate => 0 | .marked => 1,
                 match cfg.failPolicy with | .failOff => 0 | .failHold => 1] : List Byte)
            ++ two cfg.holdOver ++ ([match cfg.restart with | .auto => 0 | .rearm => 1] : List Byte)
            ++ [flag cfg.latchMask.openOff + 2 * flag cfg.latchMask.shortSupply + 4 * flag cfg.latchMask.openOn
                + 8 * flag cfg.latchMask.overload + 16 * flag cfg.latchMask.overtemp]
            ++ [byteOf ([ChannelState.off, .waiting, .armed, .energizing, .on, .disarming, .releasing,
                  .suspended, .locked].idxOf r.state), flag r.demand,
                flag r.causes.trip + 2 * flag r.causes.shutdown + 4 * flag r.causes.fault,
                (match r.target with | .off => 0 | .suspended => 1 | .locked => 2), flag r.rearm,
                flag r.handBack, flag r.state.driven]
            ++ byteOf cfg.terms.length :: (termValues s c).flatMap (fun v => match v with
                | some b => [1, 1, flag b] | none => [0, 0, 0])
            ++ kind .openOff ++ kind .shortSupply ++ kind .openOn ++ kind .overload ++ kind .overtemp
            ++ kind .failOn ++ kind .stuckOn ++ maybeMark (s.faultRec c).newest
            ++ [flag (s.faultRec c).waiting])))

/-- R163: a request is judged on its arguments first, then on the node state and the bus state, and a
request that fails is answered and changes nothing else. -/
def Obligations.RefusedRequests : Prop :=
  ∀ s : State, s.host.transaction ≠ none →
    let refused (c : Instr) (command : Byte) (status : Status) : Prop :=
      exec c s = .next { s with
        host := { s.host with response := { command := command, status := status, data := [] },
                              transaction := none } }
    (∀ n v, (8 ≤ BitVec.toNat n ∨ 2 ≤ BitVec.toNat v) → refused (.setHostPoint n v) 10 .refusedArgument) ∧
    (∀ p c k n, (BitVec.toNat p = 0 ∨ 62 < BitVec.toNat p ∨ 128 ≤ BitVec.toNat k ∨ 2 ≤ BitVec.toNat n) →
      refused (.ackFaults p c k n) 11 .refusedArgument) ∧
    refused (.tripZones 0) 12 .refusedArgument ∧ refused (.clearZones 0) 13 .refusedArgument ∧
    (∀ o d, (d.length = 0 ∨ 32 < d.length ∨ 2048 < BitVec.toNat o + d.length) →
      refused (.writeConfigBlock o d) 15 .refusedArgument) ∧
    (s.running = false →
      (∀ n v, BitVec.toNat n < 8 → BitVec.toNat v < 2 → refused (.setHostPoint n v) 10 .refusedState) ∧
      (∀ p c k n, 1 ≤ BitVec.toNat p → BitVec.toNat p ≤ 62 → BitVec.toNat k < 128 → BitVec.toNat n < 2 →
        refused (.ackFaults p c k n) 11 .refusedState) ∧
      (∀ m, m ≠ 0 → refused (.tripZones m) 12 .refusedState ∧ refused (.clearZones m) 13 .refusedState)) ∧
    (s.running = true → s.bus.state ≠ .onLine →
      (∀ m, m ≠ 0 → refused (.clearZones m) 13 .refusedState) ∧
      (∀ p c k n, 1 ≤ BitVec.toNat p → BitVec.toNat p ≤ 62 → BitVec.toNat p ≠ s.loader.station.val →
        BitVec.toNat k < 128 → BitVec.toNat n < 2 → refused (.ackFaults p c k n) 11 .refusedState)) ∧
    (s.running = true ∨ (s.loader.nodeState = .loading ∧ s.loader.source = .memory) →
      refused .commitConfig 16 .refusedState ∧
      ∀ o d, 1 ≤ d.length → d.length ≤ 32 → BitVec.toNat o + d.length ≤ 2048 →
        refused (.writeConfigBlock o d) 15 .refusedState)

/-- R158 and R167: WRITE CONFIG BLOCK and COMMIT CONFIG, in LOADING with image source HOST and in
CONFIG-FAULT. A block replaces the bytes it covers and no others; a commit checks the staging area, and
takes the node to CONFIG-FAULT or to RUNNING: the accepted image's RUNNING entry (R161), with the answer
ACCEPTED. -/
def Obligations.ConfigurationRequests : Prop :=
  ∀ s : State, s.host.transaction ≠ none → s.stagingSound = true →
    s.loader.nodeState = .configFault ∨ (s.loader.nodeState = .loading ∧ s.loader.source = .host) →
    (∀ (o : Half) (d : List Byte), 1 ≤ d.length → d.length ≤ 32 → o.toNat + d.length ≤ 2048 →
      ∃ m, exec (.writeConfigBlock o d) s = .next { s with
          loader := { s.loader with staging := m },
          host := { s.host with transaction := none,
                                response := { command := 15, status := .accepted, data := [] } } } ∧
        ∀ a, Memory.read m a = if o.toNat ≤ a ∧ a < o.toNat + d.length then d.getD (a - o.toNat) 0
          else Memory.read s.loader.staging a) ∧
    (∀ reason item, checkImage s.loader.station s.loader.staging = .error (reason, item) →
      exec .commitConfig s = .next { s with
        loader := { s.loader with nodeState := .configFault, read := .idle, reason := some reason,
                                  item := some item },
        host := { s.host with transaction := none,
                              response := { command := 16, status := .refusedArgument, data := [] } } }) ∧
    (∀ img, checkImage s.loader.station s.loader.staging = .ok img →
      ∃ t, exec .commitConfig s = .next t ∧
        (let u := enterRunning img s
         t = { u with host := { u.host with
           transaction := none, response := { command := 16, status := .accepted, data := [] } } }) ∧
        t.running = true ∧ t.loader.image = some img ∧ t.bus.state = .joining)

/-- R5, R78, R86 and R165: SET HOST POINT. The point takes the value; every channel with a term on it
evaluates its demand again if the value changed, and acts on it; no other channel and no other point is
touched. -/
def Obligations.SetHostPoint : Prop :=
  ∀ (s : State) (n : Fin 8) (v : Bool), s.host.transaction ≠ none → s.running = true →
    ∃ t, exec (.setHostPoint (byteOf n.val) (boolByte v)) s = .next t ∧
      t.host.points = s.host.points.set n v ∧ t.host.transaction = none ∧
      t.host.response = { command := 10, status := .accepted, data := [] } ∧
      t.loader = s.loader ∧ t.zones = s.zones ∧ t.inputs = s.inputs ∧ t.points = s.points ∧
      t.marks = s.marks ∧ t.link = s.link ∧ t.power = s.power ∧ t.held = s.held ∧
      (∀ c, if (s.usesSource (fun x => x == .hostPoint n) c && s.host.points.get n != v) = true then
          s.evaluated t c
        else s.sameChannel t c) ∧
      (s.host.points.get n ≠ v → s.bus.state ≠ .onLine → ∀ i < s.pubs.entries.length,
        (s.config.publications.map PublicationConfig.source)[i]? = some (.hostPoint n) →
          (t.pubs.entries.map Publication.waiting)[i]? = some true)

/-- R20, R101, R102, R146, R147, R149 and R166: ACK FAULTS. Naming the own station, in every bus state: on
each channel of the mask the named kinds that are not live lose their sticky values, and FAULT is withdrawn
where no latching kind is left sticky; the counts, the live values and everything of the other channels
stay; with the node-flags bit the flags that are not live lose their sticky values. Naming another station
while ON-LINE it offers a FAULT-ACK: the answer is ACCEPTED if the queue takes it and BUSY if a full queue
of frames of lower or equal kind code refuses it, and this node's records and channels do not change; that
BUSY comes with the sticky QUEUE-OVERFLOW is the model's reading (log entry 28). -/
def Obligations.AckFaults : Prop :=
  (∀ (s : State) (channels : Byte) (kinds : Byte) (nodeFlags : Bool), s.host.transaction ≠ none →
     s.running = true → kinds.toNat < 128 → 1 ≤ s.loader.station.val → s.loader.station.val ≤ 62 →
     ∃ t, exec (.ackFaults (byteOf s.loader.station.val) channels kinds (boolByte nodeFlags)) s = .next t ∧
       t.host.transaction = none ∧ t.host.points = s.host.points ∧
       t.host.response = { command := 11, status := .accepted, data := [] } ∧
       t.loader = s.loader ∧ t.zones = s.zones ∧ t.inputs = s.inputs ∧ t.points = s.points ∧
       t.marks = s.marks ∧ t.link = s.link ∧ t.power = s.power ∧
       t.faults.flags.live = s.faults.flags.live ∧ t.faults.list = s.faults.list ∧
       (∀ c k, ((t.faultRec c).kinds.get k).count = ((s.faultRec c).kinds.get k).count ∧
         ((t.faultRec c).kinds.get k).firstMark = ((s.faultRec c).kinds.get k).firstMark ∧
         (k ≠ .stuckOn → ((t.faultRec c).kinds.get k).live = ((s.faultRec c).kinds.get k).live) ∧
         ((t.faultRec c).kinds.get k).sticky = (((s.faultRec c).kinds.get k).sticky &&
           (!(maskBit channels c && (kindSetOf kinds).get k) || ((s.faultRec c).kinds.get k).live))) ∧
       (∀ c, if (maskBit channels c && noLatchingSticky (s.cfg c).latchMask (t.faultRec c).sticky) = true then
           s.withdrawn t .fault c
         else s.sameChannel t c) ∧
       (∀ f, f ≠ .queueOverflow →
         t.flagSticky f = (s.flagSticky f && (!nodeFlags || s.flagLive f)))) ∧
  (∀ (s : State) (target : Station) (channels kinds : Byte) (nodeFlags : Bool),
     s.host.transaction ≠ none → s.running = true → s.bus.state = .onLine → kinds.toNat < 128 →
     1 ≤ target.val → target.val ≤ 62 → target ≠ s.loader.station →
     ∃ t, exec (.ackFaults (byteOf target.val) channels kinds (boolByte nodeFlags)) s = .next t ∧
       s.sameButTraffic { t with host := { t.host with response := s.host.response,
                                                       transaction := s.host.transaction } } ∧
       t.host.transaction = none ∧
       (s.bus.queue.length < 12 →
         t.host.response = { command := 11, status := .accepted, data := [] }) ∧
       (∀ last, s.bus.queue.getLast? = some last → s.bus.queue.length = 12 → last.frame.code ≤ 6 →
         t.host.response = { command := 11, status := .busy, data := [] } ∧
         t.flagSticky .queueOverflow = true) ∧
       (∀ last, s.bus.queue.getLast? = some last → s.bus.queue.length = 12 → 6 < last.frame.code →
         t.host.response = { command := 11, status := .accepted, data := [] } ∧
         t.flagSticky .queueOverflow = true) ∧
       (s.bus.queue.length + s.groups.length < 12 → ∃ q ∈ t.bus.queue,
         q.frame = .faultAck target channels (kindSetOf kinds) nodeFlags))

/-- R62 to R65, R67 and R165: TRIP ZONES in every bus state, and CLEAR ZONES while ON-LINE. Each zone of a
TRIP ZONES mask is TRIPPED with the own station and HOST, but for one held by a local input; TRIP reaches
the enabled channels of the zones that were clear; the zones leave the own queued CLEAR, and one TRIP is
queued while ON-LINE. CLEAR ZONES changes no zone and no channel: it queues a CLEAR for the zones of the
mask without an active local source, and none where no such zone is left. -/
def Obligations.TripAndClearZones : Prop :=
  (∀ (s : State) (mask : Byte), s.host.transaction ≠ none → s.running = true → mask ≠ 0 →
     ∃ t, exec (.tripZones mask) s = .next t ∧ t.host.transaction = none ∧
       t.host.response = { command := 12, status := .accepted, data := [] } ∧
       t.loader = s.loader ∧ t.inputs = s.inputs ∧ t.points = s.points ∧ t.marks = s.marks ∧
       t.link = s.link ∧ t.power = s.power ∧ t.zones.shutdown = s.zones.shutdown ∧
       t.host.points = s.host.points ∧
       (∀ z, maskBit mask z = false → t.zone z = s.zone z) ∧
       (∀ z, maskBit mask z = true → (t.zone z).tripped = true ∧
         (t.zone z).localActive = (s.zone z).localActive ∧
         ((s.zone z).localActive = false →
           (t.zone z).station = some s.loader.station ∧ (t.zone z).cause = some .host) ∧
         ((s.zone z).localActive = true → (s.zone z).station ≠ none → (s.zone z).cause ≠ none →
           (t.zone z).station = (s.zone z).station ∧ (t.zone z).cause = (s.zone z).cause)) ∧
       ((∃ z, maskBit mask z = true ∧ (s.zone z).tripped = false) → t.host.events.zoneChange = true) ∧
       (∀ c, match (s.cfg c).zone with
         | some z => if ((s.cfg c).enabled && maskBit mask z && !(s.zone z).tripped) = true then
             s.forced t .trip c else s.sameChannel t c
         | none => s.sameChannel t c) ∧
       (∀ q ∈ t.bus.queue, ∀ m, q.frame = .clear m → mask &&& m = 0) ∧
       (s.bus.state = .onLine → s.queueSound = true → s.queueOrdered = true →
         ∃ q ∈ t.bus.queue, ∃ m c, q.frame = .trip m c ∧ mask &&& m = mask)) ∧
  (∀ (s : State) (mask : Byte), s.host.transaction ≠ none → s.running = true → s.bus.state = .onLine →
     mask ≠ 0 →
     let asked := mask &&& ~~~zonesWhere Zone.localActive s
     ∃ t, exec (.clearZones mask) s = .next t ∧ t.host.transaction = none ∧
       t.host.response = { command := 13, status := .accepted, data := [] } ∧
       s.sameButTraffic { t with host := { t.host with response := s.host.response,
                                                       transaction := s.host.transaction } } ∧
       (asked = 0 → ∀ q ∈ t.bus.queue, isClear q.frame = true → q ∈ s.bus.queue) ∧
       (asked ≠ 0 → s.queueSound = true → s.queueOrdered = true →
         ∃ q ∈ t.bus.queue, ∃ m, q.frame = .clear m ∧ asked &&& m = asked))

/-! ### What every step keeps -/

/-- R100, R101, R108 and R116: a queue of at most 12 frames, at most one of them under each limit, in the
order of the kind codes, and a score below 96 in JOINING and ON-LINE. -/
def Obligations.BusInvariantKept : Prop :=
  ∀ s t : State, step s = .next t →
    (s.scoreSound = true → t.scoreSound = true) ∧ (s.queueSound = true → t.queueSound = true) ∧
    (s.queueSound = true → s.queueOrdered = true → t.queueOrdered = true)

/-- R9, R19 to R21 and R64, section 1.1.2: causes stand with a channel that is LOCKED or on its way there
and with no other; over a path that is not ready no channel waits, is armed or is driven; and the enabled
channels of a tripped zone are off with TRIP in their cause set. -/
def Obligations.ChannelInvariantKept : Prop :=
  ∀ s t : State, step s = .next t →
    (s.causesSound = true → t.causesSound = true) ∧ (s.pathSound = true → t.pathSound = true) ∧
    (s.causesSound = true → s.zonesSound = true → t.zonesSound = true)

/-- R28, R47, R111, R120, R144 to R149, R152, R155, R157, R161 and R162: the fault list holds at most 16
entries; a live kind of a RUNNING node is sticky and counted; BUS-DEGRADED and LINK-DOWN are live exactly in
the states they tell of; the staging area keeps its canonical form; an image is held, and the bus is not
DISABLED, exactly in RUNNING; a claim stands only ON-LINE, and no channel waits twice for its group. -/
def Obligations.RecordAndNodeInvariantKept : Prop :=
  (∀ s t : State, step s = .next t →
     (s.listSound = true → t.listSound = true) ∧
     (s.nodeSound = true → s.recordsSound = true → t.recordsSound = true) ∧
     (s.flagsSound = true → t.flagsSound = true)) ∧
  (∀ s t : State, step s = .next t →
     (s.stagingSound = true → t.stagingSound = true) ∧ (s.nodeSound = true → t.nodeSound = true) ∧
     (s.entriesSound = true → t.entriesSound = true))

/-- R133, R138 and R140: each channel of the power die is commanded as the words, the watchdog and the
supply say, and OPEN-OFF and SHORT-SUPPLY are never reported together. -/
def Obligations.PowerInvariantKept : Prop :=
  ∀ s t : State, step s = .next t →
    (s.commandsSound = true → t.commandsSound = true) ∧ (s.reportsSound = true → t.reportsSound = true)

/-- The promises of the five invariants hold at reset. -/
def Obligations.InvariantsAtReset : Prop :=
  let s := State.reset
  s.scoreSound = true ∧ s.queueSound = true ∧ s.queueOrdered = true ∧ s.causesSound = true ∧
  s.pathSound = true ∧ s.zonesSound = true ∧ s.listSound = true ∧ s.recordsSound = true ∧
  s.flagsSound = true ∧ s.stagingSound = true ∧ s.nodeSound = true ∧ s.entriesSound = true ∧
  s.commandsSound = true ∧ s.reportsSound = true
end

