-- ==== Sys2Proof/Laws/Collections.lean ====
section
/-! SUPPORT. Reading after writing, for the collections of fixed size, the masks and the lists. -/

namespace Sys2Proof.Machine

open Sys2Proof

@[simp] theorem Eight.get_set_same {α : Type} (e : Eight α) (n : Fin 8) (a : α) : (e.set n a).get n = a := by
  fin_cases n <;> rfl

theorem Eight.get_set_other {α : Type} (e : Eight α) (n m : Fin 8) (a : α) (h : m ≠ n) :
    (e.set n a).get m = e.get m := by
  fin_cases n <;> fin_cases m <;> first | rfl | exact absurd rfl h

/-- Reading position m after a write at position n. -/
theorem Eight.get_set {α : Type} (e : Eight α) (n m : Fin 8) (a : α) :
    (e.set n a).get m = if m = n then a else e.get m := by
  by_cases h : m = n
  · subst h; simp
  · simp [h, Eight.get_set_other e n m a h]

@[simp] theorem Eight.get_all {α : Type} (a : α) (n : Fin 8) : (Eight.all a).get n = a := by
  fin_cases n <;> rfl

@[simp] theorem Eight.get_of {α : Type} (f : Fin 8 → α) (n : Fin 8) : (Eight.of f).get n = f n := by
  fin_cases n <;> rfl

/-- Two collections that read alike everywhere are equal. -/
theorem Eight.ext_get {α : Type} (a b : Eight α) (h : ∀ n, a.get n = b.get n) : a = b := by
  cases a; cases b
  have h0 := h 0; have h1 := h 1; have h2 := h 2; have h3 := h 3
  have h4 := h 4; have h5 := h 5; have h6 := h 6; have h7 := h 7
  simp only [Eight.get] at *
  subst_vars
  rfl

@[simp] theorem Eight.set_get_same {α : Type} (e : Eight α) (n : Fin 8) : e.set n (e.get n) = e := by
  apply Eight.ext_get
  intro m
  rw [Eight.get_set]
  by_cases h : m = n <;> simp [h]

@[simp] theorem Four.get_set_same {α : Type} (e : Four α) (n : Fin 4) (a : α) : (e.set n a).get n = a := by
  fin_cases n <;> rfl

theorem Four.get_set {α : Type} (e : Four α) (n m : Fin 4) (a : α) :
    (e.set n a).get m = if m = n then a else e.get m := by
  fin_cases n <;> fin_cases m <;> rfl

@[simp] theorem Four.get_all {α : Type} (a : α) (n : Fin 4) : (Four.all a).get n = a := by
  fin_cases n <;> rfl

theorem PerKind.get_set {α : Type} (p : PerKind α) (k j : FaultKind) (a : α) :
    (p.set k a).get j = if j = k then a else p.get j := by
  cases k <;> cases j <;> rfl

@[simp] theorem PerKind.get_set_same {α : Type} (p : PerKind α) (k : FaultKind) (a : α) :
    (p.set k a).get k = a := by
  cases k <;> rfl

@[simp] theorem PerKind.get_all {α : Type} (a : α) (k : FaultKind) : (PerKind.all a).get k = a := by
  cases k <;> rfl

@[simp] theorem PerKind.get_of {α : Type} (f : FaultKind → α) (k : FaultKind) : (PerKind.of f).get k = f k := by
  cases k <;> rfl

theorem PerPower.get_set {α : Type} (p : PerPower α) (k j : PowerKind) (a : α) :
    (p.set k a).get j = if j = k then a else p.get j := by
  cases k <;> cases j <;> rfl

@[simp] theorem PerPower.get_all {α : Type} (a : α) (k : PowerKind) : (PerPower.all a).get k = a := by
  cases k <;> rfl

@[simp] theorem PerPower.get_of {α : Type} (f : PowerKind → α) (k : PowerKind) : (PerPower.of f).get k = f k := by
  cases k <;> rfl

theorem CauseSet.has_put (s : CauseSet) (c d : Cause) (b : Bool) :
    (s.put c b).has d = if d = c then b else s.has d := by
  cases c <;> cases d <;> rfl

/-- A set of causes is empty when it holds none of the three. -/
theorem CauseSet.eq_empty (s : CauseSet) : s = CauseSet.empty ↔ ∀ c, s.has c = false := by
  constructor
  · rintro rfl c; cases c <;> rfl
  · intro h
    have h1 := h .trip; have h2 := h .shutdown; have h3 := h .fault
    cases s
    simp_all [CauseSet.has, CauseSet.empty]

/-- Bit n of the mask of eight values is the nth value. -/
@[simp] theorem maskBit_maskOf (e : Eight Bool) (n : Fin 8) : maskBit (maskOf e) n = e.get n := by
  rcases e with ⟨a, b, c, d, e, f, g, h⟩
  fin_cases n <;> cases a <;> cases b <;> cases c <;> cases d <;> cases e <;> cases f <;> cases g <;>
    cases h <;> rfl

/-- A fault kind set comes back from its byte. -/
@[simp] theorem kindSetOf_byte (k : KindSet) : kindSetOf (kindSetByte k) = k := by
  rcases k with ⟨a, b, c, d, e, f, g⟩
  cases a <;> cases b <;> cases c <;> cases d <;> cases e <;> cases f <;> cases g <;> rfl

/-- The byte of a fault kind set names no eighth kind. -/
@[simp] theorem kindSetByte_bit7 (k : KindSet) : (kindSetByte k).getLsbD 7 = false := by
  rcases k with ⟨a, b, c, d, e, f, g⟩
  cases a <;> cases b <;> cases c <;> cases d <;> cases e <;> cases f <;> cases g <;> rfl

@[simp] theorem modifyAt_length {α : Type} (l : List α) (i : Nat) (f : α → α) :
    (modifyAt l i f).length = l.length := by
  induction l generalizing i with
  | nil => rfl
  | cons a as ih => cases i <;> simp [modifyAt, ih]

/-- Reading index j after a change at index i. -/
theorem modifyAt_getElem? {α : Type} (l : List α) (i j : Nat) (f : α → α) :
    (modifyAt l i f)[j]? = if j = i then l[j]?.map f else l[j]? := by
  induction l generalizing i j with
  | nil => simp [modifyAt]
  | cons a as ih =>
    cases i with
    | zero => cases j <;> simp [modifyAt]
    | succ i => cases j with
      | zero => simp [modifyAt]
      | succ j => simp [modifyAt, ih]

end Sys2Proof.Machine
end

