-- ==== Sys2Proof/Laws/State.lean ====
section
/-! SUPPORT. One lemma for each field of the state under each update, true by unfolding the update. -/

namespace Sys2Proof.Machine

open Sys2Proof

/-! `setBus` -/

@[simp] theorem setBus_now (b : Bus) (s : State) : (setBus b s).now = s.now := rfl
@[simp] theorem setBus_held (b : Bus) (s : State) : (setBus b s).held = s.held := rfl
@[simp] theorem setBus_loader (b : Bus) (s : State) : (setBus b s).loader = s.loader := rfl
@[simp] theorem setBus_channels (b : Bus) (s : State) : (setBus b s).channels = s.channels := rfl
@[simp] theorem setBus_groups (b : Bus) (s : State) : (setBus b s).groups = s.groups := rfl
@[simp] theorem setBus_marks (b : Bus) (s : State) : (setBus b s).marks = s.marks := rfl
@[simp] theorem setBus_zones (b : Bus) (s : State) : (setBus b s).zones = s.zones := rfl
@[simp] theorem setBus_inputs (b : Bus) (s : State) : (setBus b s).inputs = s.inputs := rfl
@[simp] theorem setBus_points (b : Bus) (s : State) : (setBus b s).points = s.points := rfl
@[simp] theorem setBus_pubs (b : Bus) (s : State) : (setBus b s).pubs = s.pubs := rfl
@[simp] theorem setBus_bus (b : Bus) (s : State) : (setBus b s).bus = b := rfl
@[simp] theorem setBus_faults (b : Bus) (s : State) : (setBus b s).faults = s.faults := rfl
@[simp] theorem setBus_host (b : Bus) (s : State) : (setBus b s).host = s.host := rfl
@[simp] theorem setBus_link (b : Bus) (s : State) : (setBus b s).link = s.link := rfl
@[simp] theorem setBus_power (b : Bus) (s : State) : (setBus b s).power = s.power := rfl
@[simp] theorem setBus_pending (b : Bus) (s : State) : (setBus b s).pending = s.pending := rfl

/-! `setQueue` -/

@[simp] theorem setQueue_now (q : List Queued) (s : State) : (setQueue q s).now = s.now := rfl
@[simp] theorem setQueue_held (q : List Queued) (s : State) : (setQueue q s).held = s.held := rfl
@[simp] theorem setQueue_loader (q : List Queued) (s : State) : (setQueue q s).loader = s.loader := rfl
@[simp] theorem setQueue_channels (q : List Queued) (s : State) : (setQueue q s).channels = s.channels := rfl
@[simp] theorem setQueue_groups (q : List Queued) (s : State) : (setQueue q s).groups = s.groups := rfl
@[simp] theorem setQueue_marks (q : List Queued) (s : State) : (setQueue q s).marks = s.marks := rfl
@[simp] theorem setQueue_zones (q : List Queued) (s : State) : (setQueue q s).zones = s.zones := rfl
@[simp] theorem setQueue_inputs (q : List Queued) (s : State) : (setQueue q s).inputs = s.inputs := rfl
@[simp] theorem setQueue_points (q : List Queued) (s : State) : (setQueue q s).points = s.points := rfl
@[simp] theorem setQueue_pubs (q : List Queued) (s : State) : (setQueue q s).pubs = s.pubs := rfl
@[simp] theorem setQueue_bus (q : List Queued) (s : State) :
    (setQueue q s).bus = { s.bus with queue := q } := rfl
@[simp] theorem setQueue_faults (q : List Queued) (s : State) : (setQueue q s).faults = s.faults := rfl
@[simp] theorem setQueue_host (q : List Queued) (s : State) : (setQueue q s).host = s.host := rfl
@[simp] theorem setQueue_link (q : List Queued) (s : State) : (setQueue q s).link = s.link := rfl
@[simp] theorem setQueue_power (q : List Queued) (s : State) : (setQueue q s).power = s.power := rfl
@[simp] theorem setQueue_pending (q : List Queued) (s : State) : (setQueue q s).pending = s.pending := rfl

/-! `setScore` -/

@[simp] theorem setScore_now (n : Nat) (s : State) : (setScore n s).now = s.now := rfl
@[simp] theorem setScore_held (n : Nat) (s : State) : (setScore n s).held = s.held := rfl
@[simp] theorem setScore_loader (n : Nat) (s : State) : (setScore n s).loader = s.loader := rfl
@[simp] theorem setScore_channels (n : Nat) (s : State) : (setScore n s).channels = s.channels := rfl
@[simp] theorem setScore_groups (n : Nat) (s : State) : (setScore n s).groups = s.groups := rfl
@[simp] theorem setScore_marks (n : Nat) (s : State) : (setScore n s).marks = s.marks := rfl
@[simp] theorem setScore_zones (n : Nat) (s : State) : (setScore n s).zones = s.zones := rfl
@[simp] theorem setScore_inputs (n : Nat) (s : State) : (setScore n s).inputs = s.inputs := rfl
@[simp] theorem setScore_points (n : Nat) (s : State) : (setScore n s).points = s.points := rfl
@[simp] theorem setScore_pubs (n : Nat) (s : State) : (setScore n s).pubs = s.pubs := rfl
@[simp] theorem setScore_bus (n : Nat) (s : State) : (setScore n s).bus = { s.bus with score := n } := rfl
@[simp] theorem setScore_faults (n : Nat) (s : State) : (setScore n s).faults = s.faults := rfl
@[simp] theorem setScore_host (n : Nat) (s : State) : (setScore n s).host = s.host := rfl
@[simp] theorem setScore_link (n : Nat) (s : State) : (setScore n s).link = s.link := rfl
@[simp] theorem setScore_power (n : Nat) (s : State) : (setScore n s).power = s.power := rfl
@[simp] theorem setScore_pending (n : Nat) (s : State) : (setScore n s).pending = s.pending := rfl

/-! `setRejecting` -/

@[simp] theorem setRejecting_now (b : Bool) (s : State) : (setRejecting b s).now = s.now := rfl
@[simp] theorem setRejecting_held (b : Bool) (s : State) : (setRejecting b s).held = s.held := rfl
@[simp] theorem setRejecting_loader (b : Bool) (s : State) : (setRejecting b s).loader = s.loader := rfl
@[simp] theorem setRejecting_channels (b : Bool) (s : State) : (setRejecting b s).channels = s.channels := rfl
@[simp] theorem setRejecting_groups (b : Bool) (s : State) : (setRejecting b s).groups = s.groups := rfl
@[simp] theorem setRejecting_marks (b : Bool) (s : State) : (setRejecting b s).marks = s.marks := rfl
@[simp] theorem setRejecting_zones (b : Bool) (s : State) : (setRejecting b s).zones = s.zones := rfl
@[simp] theorem setRejecting_inputs (b : Bool) (s : State) : (setRejecting b s).inputs = s.inputs := rfl
@[simp] theorem setRejecting_points (b : Bool) (s : State) : (setRejecting b s).points = s.points := rfl
@[simp] theorem setRejecting_pubs (b : Bool) (s : State) : (setRejecting b s).pubs = s.pubs := rfl
@[simp] theorem setRejecting_bus (b : Bool) (s : State) :
    (setRejecting b s).bus = { s.bus with rejecting := b } := rfl
@[simp] theorem setRejecting_faults (b : Bool) (s : State) : (setRejecting b s).faults = s.faults := rfl
@[simp] theorem setRejecting_host (b : Bool) (s : State) : (setRejecting b s).host = s.host := rfl
@[simp] theorem setRejecting_link (b : Bool) (s : State) : (setRejecting b s).link = s.link := rfl
@[simp] theorem setRejecting_power (b : Bool) (s : State) : (setRejecting b s).power = s.power := rfl
@[simp] theorem setRejecting_pending (b : Bool) (s : State) : (setRejecting b s).pending = s.pending := rfl

/-! `setLink` -/

@[simp] theorem setLink_now (l : Link) (s : State) : (setLink l s).now = s.now := rfl
@[simp] theorem setLink_held (l : Link) (s : State) : (setLink l s).held = s.held := rfl
@[simp] theorem setLink_loader (l : Link) (s : State) : (setLink l s).loader = s.loader := rfl
@[simp] theorem setLink_channels (l : Link) (s : State) : (setLink l s).channels = s.channels := rfl
@[simp] theorem setLink_groups (l : Link) (s : State) : (setLink l s).groups = s.groups := rfl
@[simp] theorem setLink_marks (l : Link) (s : State) : (setLink l s).marks = s.marks := rfl
@[simp] theorem setLink_zones (l : Link) (s : State) : (setLink l s).zones = s.zones := rfl
@[simp] theorem setLink_inputs (l : Link) (s : State) : (setLink l s).inputs = s.inputs := rfl
@[simp] theorem setLink_points (l : Link) (s : State) : (setLink l s).points = s.points := rfl
@[simp] theorem setLink_pubs (l : Link) (s : State) : (setLink l s).pubs = s.pubs := rfl
@[simp] theorem setLink_bus (l : Link) (s : State) : (setLink l s).bus = s.bus := rfl
@[simp] theorem setLink_faults (l : Link) (s : State) : (setLink l s).faults = s.faults := rfl
@[simp] theorem setLink_host (l : Link) (s : State) : (setLink l s).host = s.host := rfl
@[simp] theorem setLink_link (l : Link) (s : State) : (setLink l s).link = l := rfl
@[simp] theorem setLink_power (l : Link) (s : State) : (setLink l s).power = s.power := rfl
@[simp] theorem setLink_pending (l : Link) (s : State) : (setLink l s).pending = s.pending := rfl

/-! `setPower` -/

@[simp] theorem setPower_now (p : PowerDie) (s : State) : (setPower p s).now = s.now := rfl
@[simp] theorem setPower_held (p : PowerDie) (s : State) : (setPower p s).held = s.held := rfl
@[simp] theorem setPower_loader (p : PowerDie) (s : State) : (setPower p s).loader = s.loader := rfl
@[simp] theorem setPower_channels (p : PowerDie) (s : State) : (setPower p s).channels = s.channels := rfl
@[simp] theorem setPower_groups (p : PowerDie) (s : State) : (setPower p s).groups = s.groups := rfl
@[simp] theorem setPower_marks (p : PowerDie) (s : State) : (setPower p s).marks = s.marks := rfl
@[simp] theorem setPower_zones (p : PowerDie) (s : State) : (setPower p s).zones = s.zones := rfl
@[simp] theorem setPower_inputs (p : PowerDie) (s : State) : (setPower p s).inputs = s.inputs := rfl
@[simp] theorem setPower_points (p : PowerDie) (s : State) : (setPower p s).points = s.points := rfl
@[simp] theorem setPower_pubs (p : PowerDie) (s : State) : (setPower p s).pubs = s.pubs := rfl
@[simp] theorem setPower_bus (p : PowerDie) (s : State) : (setPower p s).bus = s.bus := rfl
@[simp] theorem setPower_faults (p : PowerDie) (s : State) : (setPower p s).faults = s.faults := rfl
@[simp] theorem setPower_host (p : PowerDie) (s : State) : (setPower p s).host = s.host := rfl
@[simp] theorem setPower_link (p : PowerDie) (s : State) : (setPower p s).link = s.link := rfl
@[simp] theorem setPower_power (p : PowerDie) (s : State) : (setPower p s).power = p := rfl
@[simp] theorem setPower_pending (p : PowerDie) (s : State) : (setPower p s).pending = s.pending := rfl

/-! `setLoader` -/

@[simp] theorem setLoader_now (l : Loader) (s : State) : (setLoader l s).now = s.now := rfl
@[simp] theorem setLoader_held (l : Loader) (s : State) : (setLoader l s).held = s.held := rfl
@[simp] theorem setLoader_loader (l : Loader) (s : State) : (setLoader l s).loader = l := rfl
@[simp] theorem setLoader_channels (l : Loader) (s : State) : (setLoader l s).channels = s.channels := rfl
@[simp] theorem setLoader_groups (l : Loader) (s : State) : (setLoader l s).groups = s.groups := rfl
@[simp] theorem setLoader_marks (l : Loader) (s : State) : (setLoader l s).marks = s.marks := rfl
@[simp] theorem setLoader_zones (l : Loader) (s : State) : (setLoader l s).zones = s.zones := rfl
@[simp] theorem setLoader_inputs (l : Loader) (s : State) : (setLoader l s).inputs = s.inputs := rfl
@[simp] theorem setLoader_points (l : Loader) (s : State) : (setLoader l s).points = s.points := rfl
@[simp] theorem setLoader_pubs (l : Loader) (s : State) : (setLoader l s).pubs = s.pubs := rfl
@[simp] theorem setLoader_bus (l : Loader) (s : State) : (setLoader l s).bus = s.bus := rfl
@[simp] theorem setLoader_faults (l : Loader) (s : State) : (setLoader l s).faults = s.faults := rfl
@[simp] theorem setLoader_host (l : Loader) (s : State) : (setLoader l s).host = s.host := rfl
@[simp] theorem setLoader_link (l : Loader) (s : State) : (setLoader l s).link = s.link := rfl
@[simp] theorem setLoader_power (l : Loader) (s : State) : (setLoader l s).power = s.power := rfl
@[simp] theorem setLoader_pending (l : Loader) (s : State) : (setLoader l s).pending = s.pending := rfl

/-! `setRead` -/

@[simp] theorem setRead_now (r : MemoryRead) (s : State) : (setRead r s).now = s.now := rfl
@[simp] theorem setRead_held (r : MemoryRead) (s : State) : (setRead r s).held = s.held := rfl
@[simp] theorem setRead_loader (r : MemoryRead) (s : State) :
    (setRead r s).loader = { s.loader with read := r } := rfl
@[simp] theorem setRead_channels (r : MemoryRead) (s : State) : (setRead r s).channels = s.channels := rfl
@[simp] theorem setRead_groups (r : MemoryRead) (s : State) : (setRead r s).groups = s.groups := rfl
@[simp] theorem setRead_marks (r : MemoryRead) (s : State) : (setRead r s).marks = s.marks := rfl
@[simp] theorem setRead_zones (r : MemoryRead) (s : State) : (setRead r s).zones = s.zones := rfl
@[simp] theorem setRead_inputs (r : MemoryRead) (s : State) : (setRead r s).inputs = s.inputs := rfl
@[simp] theorem setRead_points (r : MemoryRead) (s : State) : (setRead r s).points = s.points := rfl
@[simp] theorem setRead_pubs (r : MemoryRead) (s : State) : (setRead r s).pubs = s.pubs := rfl
@[simp] theorem setRead_bus (r : MemoryRead) (s : State) : (setRead r s).bus = s.bus := rfl
@[simp] theorem setRead_faults (r : MemoryRead) (s : State) : (setRead r s).faults = s.faults := rfl
@[simp] theorem setRead_host (r : MemoryRead) (s : State) : (setRead r s).host = s.host := rfl
@[simp] theorem setRead_link (r : MemoryRead) (s : State) : (setRead r s).link = s.link := rfl
@[simp] theorem setRead_power (r : MemoryRead) (s : State) : (setRead r s).power = s.power := rfl
@[simp] theorem setRead_pending (r : MemoryRead) (s : State) : (setRead r s).pending = s.pending := rfl

/-! `stageBytes` -/

@[simp] theorem stageBytes_now (o : Nat) (l : List Byte) (s : State) : (stageBytes o l s).now = s.now := rfl
@[simp] theorem stageBytes_held (o : Nat) (l : List Byte) (s : State) :
    (stageBytes o l s).held = s.held := rfl
@[simp] theorem stageBytes_loader (o : Nat) (l : List Byte) (s : State) :
    (stageBytes o l s).loader = { s.loader with staging := Memory.writeBytes s.loader.staging o l } := rfl
@[simp] theorem stageBytes_channels (o : Nat) (l : List Byte) (s : State) :
    (stageBytes o l s).channels = s.channels := rfl
@[simp] theorem stageBytes_groups (o : Nat) (l : List Byte) (s : State) :
    (stageBytes o l s).groups = s.groups := rfl
@[simp] theorem stageBytes_marks (o : Nat) (l : List Byte) (s : State) :
    (stageBytes o l s).marks = s.marks := rfl
@[simp] theorem stageBytes_zones (o : Nat) (l : List Byte) (s : State) :
    (stageBytes o l s).zones = s.zones := rfl
@[simp] theorem stageBytes_inputs (o : Nat) (l : List Byte) (s : State) :
    (stageBytes o l s).inputs = s.inputs := rfl
@[simp] theorem stageBytes_points (o : Nat) (l : List Byte) (s : State) :
    (stageBytes o l s).points = s.points := rfl
@[simp] theorem stageBytes_pubs (o : Nat) (l : List Byte) (s : State) :
    (stageBytes o l s).pubs = s.pubs := rfl
@[simp] theorem stageBytes_bus (o : Nat) (l : List Byte) (s : State) : (stageBytes o l s).bus = s.bus := rfl
@[simp] theorem stageBytes_faults (o : Nat) (l : List Byte) (s : State) :
    (stageBytes o l s).faults = s.faults := rfl
@[simp] theorem stageBytes_host (o : Nat) (l : List Byte) (s : State) :
    (stageBytes o l s).host = s.host := rfl
@[simp] theorem stageBytes_link (o : Nat) (l : List Byte) (s : State) :
    (stageBytes o l s).link = s.link := rfl
@[simp] theorem stageBytes_power (o : Nat) (l : List Byte) (s : State) :
    (stageBytes o l s).power = s.power := rfl
@[simp] theorem stageBytes_pending (o : Nat) (l : List Byte) (s : State) :
    (stageBytes o l s).pending = s.pending := rfl

/-! `enterConfigFault` -/

@[simp] theorem enterConfigFault_now (r : FaultReason) (i : Nat) (s : State) :
    (enterConfigFault r i s).now = s.now := rfl
@[simp] theorem enterConfigFault_held (r : FaultReason) (i : Nat) (s : State) :
    (enterConfigFault r i s).held = s.held := rfl
@[simp] theorem enterConfigFault_loader (r : FaultReason) (i : Nat) (s : State) :
    (enterConfigFault r i s).loader = { s.loader with nodeState := .configFault, read := .idle, reason := some r, item := some i } := rfl
@[simp] theorem enterConfigFault_channels (r : FaultReason) (i : Nat) (s : State) :
    (enterConfigFault r i s).channels = s.channels := rfl
@[simp] theorem enterConfigFault_groups (r : FaultReason) (i : Nat) (s : State) :
    (enterConfigFault r i s).groups = s.groups := rfl
@[simp] theorem enterConfigFault_marks (r : FaultReason) (i : Nat) (s : State) :
    (enterConfigFault r i s).marks = s.marks := rfl
@[simp] theorem enterConfigFault_zones (r : FaultReason) (i : Nat) (s : State) :
    (enterConfigFault r i s).zones = s.zones := rfl
@[simp] theorem enterConfigFault_inputs (r : FaultReason) (i : Nat) (s : State) :
    (enterConfigFault r i s).inputs = s.inputs := rfl
@[simp] theorem enterConfigFault_points (r : FaultReason) (i : Nat) (s : State) :
    (enterConfigFault r i s).points = s.points := rfl
@[simp] theorem enterConfigFault_pubs (r : FaultReason) (i : Nat) (s : State) :
    (enterConfigFault r i s).pubs = s.pubs := rfl
@[simp] theorem enterConfigFault_bus (r : FaultReason) (i : Nat) (s : State) :
    (enterConfigFault r i s).bus = s.bus := rfl
@[simp] theorem enterConfigFault_faults (r : FaultReason) (i : Nat) (s : State) :
    (enterConfigFault r i s).faults = s.faults := rfl
@[simp] theorem enterConfigFault_host (r : FaultReason) (i : Nat) (s : State) :
    (enterConfigFault r i s).host = s.host := rfl
@[simp] theorem enterConfigFault_link (r : FaultReason) (i : Nat) (s : State) :
    (enterConfigFault r i s).link = s.link := rfl
@[simp] theorem enterConfigFault_power (r : FaultReason) (i : Nat) (s : State) :
    (enterConfigFault r i s).power = s.power := rfl
@[simp] theorem enterConfigFault_pending (r : FaultReason) (i : Nat) (s : State) :
    (enterConfigFault r i s).pending = s.pending := rfl

/-! `setMarks` -/

@[simp] theorem setMarks_now (m : MarkTimer) (s : State) : (setMarks m s).now = s.now := rfl
@[simp] theorem setMarks_held (m : MarkTimer) (s : State) : (setMarks m s).held = s.held := rfl
@[simp] theorem setMarks_loader (m : MarkTimer) (s : State) : (setMarks m s).loader = s.loader := rfl
@[simp] theorem setMarks_channels (m : MarkTimer) (s : State) : (setMarks m s).channels = s.channels := rfl
@[simp] theorem setMarks_groups (m : MarkTimer) (s : State) : (setMarks m s).groups = s.groups := rfl
@[simp] theorem setMarks_marks (m : MarkTimer) (s : State) : (setMarks m s).marks = m := rfl
@[simp] theorem setMarks_zones (m : MarkTimer) (s : State) : (setMarks m s).zones = s.zones := rfl
@[simp] theorem setMarks_inputs (m : MarkTimer) (s : State) : (setMarks m s).inputs = s.inputs := rfl
@[simp] theorem setMarks_points (m : MarkTimer) (s : State) : (setMarks m s).points = s.points := rfl
@[simp] theorem setMarks_pubs (m : MarkTimer) (s : State) : (setMarks m s).pubs = s.pubs := rfl
@[simp] theorem setMarks_bus (m : MarkTimer) (s : State) : (setMarks m s).bus = s.bus := rfl
@[simp] theorem setMarks_faults (m : MarkTimer) (s : State) : (setMarks m s).faults = s.faults := rfl
@[simp] theorem setMarks_host (m : MarkTimer) (s : State) : (setMarks m s).host = s.host := rfl
@[simp] theorem setMarks_link (m : MarkTimer) (s : State) : (setMarks m s).link = s.link := rfl
@[simp] theorem setMarks_power (m : MarkTimer) (s : State) : (setMarks m s).power = s.power := rfl
@[simp] theorem setMarks_pending (m : MarkTimer) (s : State) : (setMarks m s).pending = s.pending := rfl

/-! `setChan` -/

@[simp] theorem setChan_now (c : Fin 8) (r : Channel) (s : State) : (setChan c r s).now = s.now := rfl
@[simp] theorem setChan_held (c : Fin 8) (r : Channel) (s : State) : (setChan c r s).held = s.held := rfl
@[simp] theorem setChan_loader (c : Fin 8) (r : Channel) (s : State) :
    (setChan c r s).loader = s.loader := rfl
@[simp] theorem setChan_channels (c : Fin 8) (r : Channel) (s : State) :
    (setChan c r s).channels = { s.channels with records := s.channels.records.set c r } := rfl
@[simp] theorem setChan_groups (c : Fin 8) (r : Channel) (s : State) :
    (setChan c r s).groups = s.groups := rfl
@[simp] theorem setChan_marks (c : Fin 8) (r : Channel) (s : State) : (setChan c r s).marks = s.marks := rfl
@[simp] theorem setChan_zones (c : Fin 8) (r : Channel) (s : State) : (setChan c r s).zones = s.zones := rfl
@[simp] theorem setChan_inputs (c : Fin 8) (r : Channel) (s : State) :
    (setChan c r s).inputs = s.inputs := rfl
@[simp] theorem setChan_points (c : Fin 8) (r : Channel) (s : State) :
    (setChan c r s).points = s.points := rfl
@[simp] theorem setChan_pubs (c : Fin 8) (r : Channel) (s : State) : (setChan c r s).pubs = s.pubs := rfl
@[simp] theorem setChan_bus (c : Fin 8) (r : Channel) (s : State) : (setChan c r s).bus = s.bus := rfl
@[simp] theorem setChan_faults (c : Fin 8) (r : Channel) (s : State) :
    (setChan c r s).faults = s.faults := rfl
@[simp] theorem setChan_host (c : Fin 8) (r : Channel) (s : State) : (setChan c r s).host = s.host := rfl
@[simp] theorem setChan_link (c : Fin 8) (r : Channel) (s : State) : (setChan c r s).link = s.link := rfl
@[simp] theorem setChan_power (c : Fin 8) (r : Channel) (s : State) : (setChan c r s).power = s.power := rfl
@[simp] theorem setChan_pending (c : Fin 8) (r : Channel) (s : State) :
    (setChan c r s).pending = s.pending := rfl

/-! `modChan` -/

@[simp] theorem modChan_now (c : Fin 8) (f : Channel → Channel) (s : State) :
    (modChan c f s).now = s.now := rfl
@[simp] theorem modChan_held (c : Fin 8) (f : Channel → Channel) (s : State) :
    (modChan c f s).held = s.held := rfl
@[simp] theorem modChan_loader (c : Fin 8) (f : Channel → Channel) (s : State) :
    (modChan c f s).loader = s.loader := rfl
@[simp] theorem modChan_channels (c : Fin 8) (f : Channel → Channel) (s : State) :
    (modChan c f s).channels = { s.channels with records := s.channels.records.set c (f (s.chan c)) } := rfl
@[simp] theorem modChan_groups (c : Fin 8) (f : Channel → Channel) (s : State) :
    (modChan c f s).groups = s.groups := rfl
@[simp] theorem modChan_marks (c : Fin 8) (f : Channel → Channel) (s : State) :
    (modChan c f s).marks = s.marks := rfl
@[simp] theorem modChan_zones (c : Fin 8) (f : Channel → Channel) (s : State) :
    (modChan c f s).zones = s.zones := rfl
@[simp] theorem modChan_inputs (c : Fin 8) (f : Channel → Channel) (s : State) :
    (modChan c f s).inputs = s.inputs := rfl
@[simp] theorem modChan_points (c : Fin 8) (f : Channel → Channel) (s : State) :
    (modChan c f s).points = s.points := rfl
@[simp] theorem modChan_pubs (c : Fin 8) (f : Channel → Channel) (s : State) :
    (modChan c f s).pubs = s.pubs := rfl
@[simp] theorem modChan_bus (c : Fin 8) (f : Channel → Channel) (s : State) :
    (modChan c f s).bus = s.bus := rfl
@[simp] theorem modChan_faults (c : Fin 8) (f : Channel → Channel) (s : State) :
    (modChan c f s).faults = s.faults := rfl
@[simp] theorem modChan_host (c : Fin 8) (f : Channel → Channel) (s : State) :
    (modChan c f s).host = s.host := rfl
@[simp] theorem modChan_link (c : Fin 8) (f : Channel → Channel) (s : State) :
    (modChan c f s).link = s.link := rfl
@[simp] theorem modChan_power (c : Fin 8) (f : Channel → Channel) (s : State) :
    (modChan c f s).power = s.power := rfl
@[simp] theorem modChan_pending (c : Fin 8) (f : Channel → Channel) (s : State) :
    (modChan c f s).pending = s.pending := rfl

/-! `setFeedback` -/

@[simp] theorem setFeedback_now (f : Feedback) (s : State) : (setFeedback f s).now = s.now := rfl
@[simp] theorem setFeedback_held (f : Feedback) (s : State) : (setFeedback f s).held = s.held := rfl
@[simp] theorem setFeedback_loader (f : Feedback) (s : State) : (setFeedback f s).loader = s.loader := rfl
@[simp] theorem setFeedback_channels (f : Feedback) (s : State) :
    (setFeedback f s).channels = { s.channels with feedback := some f } := rfl
@[simp] theorem setFeedback_groups (f : Feedback) (s : State) : (setFeedback f s).groups = s.groups := rfl
@[simp] theorem setFeedback_marks (f : Feedback) (s : State) : (setFeedback f s).marks = s.marks := rfl
@[simp] theorem setFeedback_zones (f : Feedback) (s : State) : (setFeedback f s).zones = s.zones := rfl
@[simp] theorem setFeedback_inputs (f : Feedback) (s : State) : (setFeedback f s).inputs = s.inputs := rfl
@[simp] theorem setFeedback_points (f : Feedback) (s : State) : (setFeedback f s).points = s.points := rfl
@[simp] theorem setFeedback_pubs (f : Feedback) (s : State) : (setFeedback f s).pubs = s.pubs := rfl
@[simp] theorem setFeedback_bus (f : Feedback) (s : State) : (setFeedback f s).bus = s.bus := rfl
@[simp] theorem setFeedback_faults (f : Feedback) (s : State) : (setFeedback f s).faults = s.faults := rfl
@[simp] theorem setFeedback_host (f : Feedback) (s : State) : (setFeedback f s).host = s.host := rfl
@[simp] theorem setFeedback_link (f : Feedback) (s : State) : (setFeedback f s).link = s.link := rfl
@[simp] theorem setFeedback_power (f : Feedback) (s : State) : (setFeedback f s).power = s.power := rfl
@[simp] theorem setFeedback_pending (f : Feedback) (s : State) : (setFeedback f s).pending = s.pending := rfl

/-! `sendToChannel` -/

@[simp] theorem sendToChannel_now (c : Fin 8) (m : ToChannelMsg) (s : State) :
    (sendToChannel c m s).now = s.now := rfl
@[simp] theorem sendToChannel_held (c : Fin 8) (m : ToChannelMsg) (s : State) :
    (sendToChannel c m s).held = s.held := rfl
@[simp] theorem sendToChannel_loader (c : Fin 8) (m : ToChannelMsg) (s : State) :
    (sendToChannel c m s).loader = s.loader := rfl
@[simp] theorem sendToChannel_channels (c : Fin 8) (m : ToChannelMsg) (s : State) :
    (sendToChannel c m s).channels = { s.channels with toChannels := s.channels.toChannels ++ [⟨c, m⟩] } := rfl
@[simp] theorem sendToChannel_groups (c : Fin 8) (m : ToChannelMsg) (s : State) :
    (sendToChannel c m s).groups = s.groups := rfl
@[simp] theorem sendToChannel_marks (c : Fin 8) (m : ToChannelMsg) (s : State) :
    (sendToChannel c m s).marks = s.marks := rfl
@[simp] theorem sendToChannel_zones (c : Fin 8) (m : ToChannelMsg) (s : State) :
    (sendToChannel c m s).zones = s.zones := rfl
@[simp] theorem sendToChannel_inputs (c : Fin 8) (m : ToChannelMsg) (s : State) :
    (sendToChannel c m s).inputs = s.inputs := rfl
@[simp] theorem sendToChannel_points (c : Fin 8) (m : ToChannelMsg) (s : State) :
    (sendToChannel c m s).points = s.points := rfl
@[simp] theorem sendToChannel_pubs (c : Fin 8) (m : ToChannelMsg) (s : State) :
    (sendToChannel c m s).pubs = s.pubs := rfl
@[simp] theorem sendToChannel_bus (c : Fin 8) (m : ToChannelMsg) (s : State) :
    (sendToChannel c m s).bus = s.bus := rfl
@[simp] theorem sendToChannel_faults (c : Fin 8) (m : ToChannelMsg) (s : State) :
    (sendToChannel c m s).faults = s.faults := rfl
@[simp] theorem sendToChannel_host (c : Fin 8) (m : ToChannelMsg) (s : State) :
    (sendToChannel c m s).host = s.host := rfl
@[simp] theorem sendToChannel_link (c : Fin 8) (m : ToChannelMsg) (s : State) :
    (sendToChannel c m s).link = s.link := rfl
@[simp] theorem sendToChannel_power (c : Fin 8) (m : ToChannelMsg) (s : State) :
    (sendToChannel c m s).power = s.power := rfl
@[simp] theorem sendToChannel_pending (c : Fin 8) (m : ToChannelMsg) (s : State) :
    (sendToChannel c m s).pending = s.pending := rfl

/-! `setEntry` -/

@[simp] theorem setEntry_now (e : Fin 8) (x : Entry) (s : State) : (setEntry e x s).now = s.now := rfl
@[simp] theorem setEntry_held (e : Fin 8) (x : Entry) (s : State) : (setEntry e x s).held = s.held := rfl
@[simp] theorem setEntry_loader (e : Fin 8) (x : Entry) (s : State) :
    (setEntry e x s).loader = s.loader := rfl
@[simp] theorem setEntry_channels (e : Fin 8) (x : Entry) (s : State) :
    (setEntry e x s).channels = s.channels := rfl
@[simp] theorem setEntry_groups (e : Fin 8) (x : Entry) (s : State) :
    (setEntry e x s).groups = modifyAt s.groups e.val fun _ => x := rfl
@[simp] theorem setEntry_marks (e : Fin 8) (x : Entry) (s : State) : (setEntry e x s).marks = s.marks := rfl
@[simp] theorem setEntry_zones (e : Fin 8) (x : Entry) (s : State) : (setEntry e x s).zones = s.zones := rfl
@[simp] theorem setEntry_inputs (e : Fin 8) (x : Entry) (s : State) :
    (setEntry e x s).inputs = s.inputs := rfl
@[simp] theorem setEntry_points (e : Fin 8) (x : Entry) (s : State) :
    (setEntry e x s).points = s.points := rfl
@[simp] theorem setEntry_pubs (e : Fin 8) (x : Entry) (s : State) : (setEntry e x s).pubs = s.pubs := rfl
@[simp] theorem setEntry_bus (e : Fin 8) (x : Entry) (s : State) : (setEntry e x s).bus = s.bus := rfl
@[simp] theorem setEntry_faults (e : Fin 8) (x : Entry) (s : State) :
    (setEntry e x s).faults = s.faults := rfl
@[simp] theorem setEntry_host (e : Fin 8) (x : Entry) (s : State) : (setEntry e x s).host = s.host := rfl
@[simp] theorem setEntry_link (e : Fin 8) (x : Entry) (s : State) : (setEntry e x s).link = s.link := rfl
@[simp] theorem setEntry_power (e : Fin 8) (x : Entry) (s : State) : (setEntry e x s).power = s.power := rfl
@[simp] theorem setEntry_pending (e : Fin 8) (x : Entry) (s : State) :
    (setEntry e x s).pending = s.pending := rfl

/-! `modEntry` -/

@[simp] theorem modEntry_now (e : Fin 8) (f : Entry → Entry) (s : State) : (modEntry e f s).now = s.now := rfl
@[simp] theorem modEntry_held (e : Fin 8) (f : Entry → Entry) (s : State) :
    (modEntry e f s).held = s.held := rfl
@[simp] theorem modEntry_loader (e : Fin 8) (f : Entry → Entry) (s : State) :
    (modEntry e f s).loader = s.loader := rfl
@[simp] theorem modEntry_channels (e : Fin 8) (f : Entry → Entry) (s : State) :
    (modEntry e f s).channels = s.channels := rfl
@[simp] theorem modEntry_groups (e : Fin 8) (f : Entry → Entry) (s : State) :
    (modEntry e f s).groups = modifyAt s.groups e.val f := rfl
@[simp] theorem modEntry_marks (e : Fin 8) (f : Entry → Entry) (s : State) :
    (modEntry e f s).marks = s.marks := rfl
@[simp] theorem modEntry_zones (e : Fin 8) (f : Entry → Entry) (s : State) :
    (modEntry e f s).zones = s.zones := rfl
@[simp] theorem modEntry_inputs (e : Fin 8) (f : Entry → Entry) (s : State) :
    (modEntry e f s).inputs = s.inputs := rfl
@[simp] theorem modEntry_points (e : Fin 8) (f : Entry → Entry) (s : State) :
    (modEntry e f s).points = s.points := rfl
@[simp] theorem modEntry_pubs (e : Fin 8) (f : Entry → Entry) (s : State) :
    (modEntry e f s).pubs = s.pubs := rfl
@[simp] theorem modEntry_bus (e : Fin 8) (f : Entry → Entry) (s : State) : (modEntry e f s).bus = s.bus := rfl
@[simp] theorem modEntry_faults (e : Fin 8) (f : Entry → Entry) (s : State) :
    (modEntry e f s).faults = s.faults := rfl
@[simp] theorem modEntry_host (e : Fin 8) (f : Entry → Entry) (s : State) :
    (modEntry e f s).host = s.host := rfl
@[simp] theorem modEntry_link (e : Fin 8) (f : Entry → Entry) (s : State) :
    (modEntry e f s).link = s.link := rfl
@[simp] theorem modEntry_power (e : Fin 8) (f : Entry → Entry) (s : State) :
    (modEntry e f s).power = s.power := rfl
@[simp] theorem modEntry_pending (e : Fin 8) (f : Entry → Entry) (s : State) :
    (modEntry e f s).pending = s.pending := rfl

/-! `setZone` -/

@[simp] theorem setZone_now (z : Fin 8) (x : Zone) (s : State) : (setZone z x s).now = s.now := rfl
@[simp] theorem setZone_held (z : Fin 8) (x : Zone) (s : State) : (setZone z x s).held = s.held := rfl
@[simp] theorem setZone_loader (z : Fin 8) (x : Zone) (s : State) : (setZone z x s).loader = s.loader := rfl
@[simp] theorem setZone_channels (z : Fin 8) (x : Zone) (s : State) :
    (setZone z x s).channels = s.channels := rfl
@[simp] theorem setZone_groups (z : Fin 8) (x : Zone) (s : State) : (setZone z x s).groups = s.groups := rfl
@[simp] theorem setZone_marks (z : Fin 8) (x : Zone) (s : State) : (setZone z x s).marks = s.marks := rfl
@[simp] theorem setZone_zones (z : Fin 8) (x : Zone) (s : State) :
    (setZone z x s).zones = { s.zones with zones := s.zones.zones.set z x } := rfl
@[simp] theorem setZone_inputs (z : Fin 8) (x : Zone) (s : State) : (setZone z x s).inputs = s.inputs := rfl
@[simp] theorem setZone_points (z : Fin 8) (x : Zone) (s : State) : (setZone z x s).points = s.points := rfl
@[simp] theorem setZone_pubs (z : Fin 8) (x : Zone) (s : State) : (setZone z x s).pubs = s.pubs := rfl
@[simp] theorem setZone_bus (z : Fin 8) (x : Zone) (s : State) : (setZone z x s).bus = s.bus := rfl
@[simp] theorem setZone_faults (z : Fin 8) (x : Zone) (s : State) : (setZone z x s).faults = s.faults := rfl
@[simp] theorem setZone_host (z : Fin 8) (x : Zone) (s : State) : (setZone z x s).host = s.host := rfl
@[simp] theorem setZone_link (z : Fin 8) (x : Zone) (s : State) : (setZone z x s).link = s.link := rfl
@[simp] theorem setZone_power (z : Fin 8) (x : Zone) (s : State) : (setZone z x s).power = s.power := rfl
@[simp] theorem setZone_pending (z : Fin 8) (x : Zone) (s : State) :
    (setZone z x s).pending = s.pending := rfl

/-! `setInput` -/

@[simp] theorem setInput_now (n : Fin 8) (x : SenseInput) (s : State) : (setInput n x s).now = s.now := rfl
@[simp] theorem setInput_held (n : Fin 8) (x : SenseInput) (s : State) : (setInput n x s).held = s.held := rfl
@[simp] theorem setInput_loader (n : Fin 8) (x : SenseInput) (s : State) :
    (setInput n x s).loader = s.loader := rfl
@[simp] theorem setInput_channels (n : Fin 8) (x : SenseInput) (s : State) :
    (setInput n x s).channels = s.channels := rfl
@[simp] theorem setInput_groups (n : Fin 8) (x : SenseInput) (s : State) :
    (setInput n x s).groups = s.groups := rfl
@[simp] theorem setInput_marks (n : Fin 8) (x : SenseInput) (s : State) :
    (setInput n x s).marks = s.marks := rfl
@[simp] theorem setInput_zones (n : Fin 8) (x : SenseInput) (s : State) :
    (setInput n x s).zones = s.zones := rfl
@[simp] theorem setInput_inputs (n : Fin 8) (x : SenseInput) (s : State) :
    (setInput n x s).inputs = s.inputs.set n x := rfl
@[simp] theorem setInput_points (n : Fin 8) (x : SenseInput) (s : State) :
    (setInput n x s).points = s.points := rfl
@[simp] theorem setInput_pubs (n : Fin 8) (x : SenseInput) (s : State) : (setInput n x s).pubs = s.pubs := rfl
@[simp] theorem setInput_bus (n : Fin 8) (x : SenseInput) (s : State) : (setInput n x s).bus = s.bus := rfl
@[simp] theorem setInput_faults (n : Fin 8) (x : SenseInput) (s : State) :
    (setInput n x s).faults = s.faults := rfl
@[simp] theorem setInput_host (n : Fin 8) (x : SenseInput) (s : State) : (setInput n x s).host = s.host := rfl
@[simp] theorem setInput_link (n : Fin 8) (x : SenseInput) (s : State) : (setInput n x s).link = s.link := rfl
@[simp] theorem setInput_power (n : Fin 8) (x : SenseInput) (s : State) :
    (setInput n x s).power = s.power := rfl
@[simp] theorem setInput_pending (n : Fin 8) (x : SenseInput) (s : State) :
    (setInput n x s).pending = s.pending := rfl

/-! `setPubs` -/

@[simp] theorem setPubs_now (l : List Publication) (s : State) : (setPubs l s).now = s.now := rfl
@[simp] theorem setPubs_held (l : List Publication) (s : State) : (setPubs l s).held = s.held := rfl
@[simp] theorem setPubs_loader (l : List Publication) (s : State) : (setPubs l s).loader = s.loader := rfl
@[simp] theorem setPubs_channels (l : List Publication) (s : State) :
    (setPubs l s).channels = s.channels := rfl
@[simp] theorem setPubs_groups (l : List Publication) (s : State) : (setPubs l s).groups = s.groups := rfl
@[simp] theorem setPubs_marks (l : List Publication) (s : State) : (setPubs l s).marks = s.marks := rfl
@[simp] theorem setPubs_zones (l : List Publication) (s : State) : (setPubs l s).zones = s.zones := rfl
@[simp] theorem setPubs_inputs (l : List Publication) (s : State) : (setPubs l s).inputs = s.inputs := rfl
@[simp] theorem setPubs_points (l : List Publication) (s : State) : (setPubs l s).points = s.points := rfl
@[simp] theorem setPubs_pubs (l : List Publication) (s : State) :
    (setPubs l s).pubs = { s.pubs with entries := l } := rfl
@[simp] theorem setPubs_bus (l : List Publication) (s : State) : (setPubs l s).bus = s.bus := rfl
@[simp] theorem setPubs_faults (l : List Publication) (s : State) : (setPubs l s).faults = s.faults := rfl
@[simp] theorem setPubs_host (l : List Publication) (s : State) : (setPubs l s).host = s.host := rfl
@[simp] theorem setPubs_link (l : List Publication) (s : State) : (setPubs l s).link = s.link := rfl
@[simp] theorem setPubs_power (l : List Publication) (s : State) : (setPubs l s).power = s.power := rfl
@[simp] theorem setPubs_pending (l : List Publication) (s : State) : (setPubs l s).pending = s.pending := rfl

/-! `setPubBlocked` -/

@[simp] theorem setPubBlocked_now (b : Bool) (s : State) : (setPubBlocked b s).now = s.now := rfl
@[simp] theorem setPubBlocked_held (b : Bool) (s : State) : (setPubBlocked b s).held = s.held := rfl
@[simp] theorem setPubBlocked_loader (b : Bool) (s : State) : (setPubBlocked b s).loader = s.loader := rfl
@[simp] theorem setPubBlocked_channels (b : Bool) (s : State) :
    (setPubBlocked b s).channels = s.channels := rfl
@[simp] theorem setPubBlocked_groups (b : Bool) (s : State) : (setPubBlocked b s).groups = s.groups := rfl
@[simp] theorem setPubBlocked_marks (b : Bool) (s : State) : (setPubBlocked b s).marks = s.marks := rfl
@[simp] theorem setPubBlocked_zones (b : Bool) (s : State) : (setPubBlocked b s).zones = s.zones := rfl
@[simp] theorem setPubBlocked_inputs (b : Bool) (s : State) : (setPubBlocked b s).inputs = s.inputs := rfl
@[simp] theorem setPubBlocked_points (b : Bool) (s : State) : (setPubBlocked b s).points = s.points := rfl
@[simp] theorem setPubBlocked_pubs (b : Bool) (s : State) :
    (setPubBlocked b s).pubs = { s.pubs with blocked := b } := rfl
@[simp] theorem setPubBlocked_bus (b : Bool) (s : State) : (setPubBlocked b s).bus = s.bus := rfl
@[simp] theorem setPubBlocked_faults (b : Bool) (s : State) : (setPubBlocked b s).faults = s.faults := rfl
@[simp] theorem setPubBlocked_host (b : Bool) (s : State) : (setPubBlocked b s).host = s.host := rfl
@[simp] theorem setPubBlocked_link (b : Bool) (s : State) : (setPubBlocked b s).link = s.link := rfl
@[simp] theorem setPubBlocked_power (b : Bool) (s : State) : (setPubBlocked b s).power = s.power := rfl
@[simp] theorem setPubBlocked_pending (b : Bool) (s : State) : (setPubBlocked b s).pending = s.pending := rfl

/-! `pendPublications` -/

@[simp] theorem pendPublications_now (p : PublicationConfig → Bool) (s : State) :
    (pendPublications p s).now = s.now := rfl
@[simp] theorem pendPublications_held (p : PublicationConfig → Bool) (s : State) :
    (pendPublications p s).held = s.held := rfl
@[simp] theorem pendPublications_loader (p : PublicationConfig → Bool) (s : State) :
    (pendPublications p s).loader = s.loader := rfl
@[simp] theorem pendPublications_channels (p : PublicationConfig → Bool) (s : State) :
    (pendPublications p s).channels = s.channels := rfl
@[simp] theorem pendPublications_groups (p : PublicationConfig → Bool) (s : State) :
    (pendPublications p s).groups = s.groups := rfl
@[simp] theorem pendPublications_marks (p : PublicationConfig → Bool) (s : State) :
    (pendPublications p s).marks = s.marks := rfl
@[simp] theorem pendPublications_zones (p : PublicationConfig → Bool) (s : State) :
    (pendPublications p s).zones = s.zones := rfl
@[simp] theorem pendPublications_inputs (p : PublicationConfig → Bool) (s : State) :
    (pendPublications p s).inputs = s.inputs := rfl
@[simp] theorem pendPublications_points (p : PublicationConfig → Bool) (s : State) :
    (pendPublications p s).points = s.points := rfl
@[simp] theorem pendPublications_pubs (p : PublicationConfig → Bool) (s : State) :
    (pendPublications p s).pubs = { s.pubs with entries := pendWhere p s.config.publications s.pubs.entries } := rfl
@[simp] theorem pendPublications_bus (p : PublicationConfig → Bool) (s : State) :
    (pendPublications p s).bus = s.bus := rfl
@[simp] theorem pendPublications_faults (p : PublicationConfig → Bool) (s : State) :
    (pendPublications p s).faults = s.faults := rfl
@[simp] theorem pendPublications_host (p : PublicationConfig → Bool) (s : State) :
    (pendPublications p s).host = s.host := rfl
@[simp] theorem pendPublications_link (p : PublicationConfig → Bool) (s : State) :
    (pendPublications p s).link = s.link := rfl
@[simp] theorem pendPublications_power (p : PublicationConfig → Bool) (s : State) :
    (pendPublications p s).power = s.power := rfl
@[simp] theorem pendPublications_pending (p : PublicationConfig → Bool) (s : State) :
    (pendPublications p s).pending = s.pending := rfl

/-! `setZoneChange` -/

@[simp] theorem setZoneChange_now (s : State) : (setZoneChange s).now = s.now := rfl
@[simp] theorem setZoneChange_held (s : State) : (setZoneChange s).held = s.held := rfl
@[simp] theorem setZoneChange_loader (s : State) : (setZoneChange s).loader = s.loader := rfl
@[simp] theorem setZoneChange_channels (s : State) : (setZoneChange s).channels = s.channels := rfl
@[simp] theorem setZoneChange_groups (s : State) : (setZoneChange s).groups = s.groups := rfl
@[simp] theorem setZoneChange_marks (s : State) : (setZoneChange s).marks = s.marks := rfl
@[simp] theorem setZoneChange_zones (s : State) : (setZoneChange s).zones = s.zones := rfl
@[simp] theorem setZoneChange_inputs (s : State) : (setZoneChange s).inputs = s.inputs := rfl
@[simp] theorem setZoneChange_points (s : State) : (setZoneChange s).points = s.points := rfl
@[simp] theorem setZoneChange_pubs (s : State) : (setZoneChange s).pubs = s.pubs := rfl
@[simp] theorem setZoneChange_bus (s : State) : (setZoneChange s).bus = s.bus := rfl
@[simp] theorem setZoneChange_faults (s : State) : (setZoneChange s).faults = s.faults := rfl
@[simp] theorem setZoneChange_host (s : State) :
    (setZoneChange s).host = { s.host with events := { s.host.events with zoneChange := true } } := rfl
@[simp] theorem setZoneChange_link (s : State) : (setZoneChange s).link = s.link := rfl
@[simp] theorem setZoneChange_power (s : State) : (setZoneChange s).power = s.power := rfl
@[simp] theorem setZoneChange_pending (s : State) : (setZoneChange s).pending = s.pending := rfl

/-! `setLockChange` -/

@[simp] theorem setLockChange_now (s : State) : (setLockChange s).now = s.now := rfl
@[simp] theorem setLockChange_held (s : State) : (setLockChange s).held = s.held := rfl
@[simp] theorem setLockChange_loader (s : State) : (setLockChange s).loader = s.loader := rfl
@[simp] theorem setLockChange_channels (s : State) : (setLockChange s).channels = s.channels := rfl
@[simp] theorem setLockChange_groups (s : State) : (setLockChange s).groups = s.groups := rfl
@[simp] theorem setLockChange_marks (s : State) : (setLockChange s).marks = s.marks := rfl
@[simp] theorem setLockChange_zones (s : State) : (setLockChange s).zones = s.zones := rfl
@[simp] theorem setLockChange_inputs (s : State) : (setLockChange s).inputs = s.inputs := rfl
@[simp] theorem setLockChange_points (s : State) : (setLockChange s).points = s.points := rfl
@[simp] theorem setLockChange_pubs (s : State) : (setLockChange s).pubs = s.pubs := rfl
@[simp] theorem setLockChange_bus (s : State) : (setLockChange s).bus = s.bus := rfl
@[simp] theorem setLockChange_faults (s : State) : (setLockChange s).faults = s.faults := rfl
@[simp] theorem setLockChange_host (s : State) :
    (setLockChange s).host = { s.host with events := { s.host.events with lockChange := true } } := rfl
@[simp] theorem setLockChange_link (s : State) : (setLockChange s).link = s.link := rfl
@[simp] theorem setLockChange_power (s : State) : (setLockChange s).power = s.power := rfl
@[simp] theorem setLockChange_pending (s : State) : (setLockChange s).pending = s.pending := rfl

/-! `setNodeFlagEvent` -/

@[simp] theorem setNodeFlagEvent_now (s : State) : (setNodeFlagEvent s).now = s.now := rfl
@[simp] theorem setNodeFlagEvent_held (s : State) : (setNodeFlagEvent s).held = s.held := rfl
@[simp] theorem setNodeFlagEvent_loader (s : State) : (setNodeFlagEvent s).loader = s.loader := rfl
@[simp] theorem setNodeFlagEvent_channels (s : State) : (setNodeFlagEvent s).channels = s.channels := rfl
@[simp] theorem setNodeFlagEvent_groups (s : State) : (setNodeFlagEvent s).groups = s.groups := rfl
@[simp] theorem setNodeFlagEvent_marks (s : State) : (setNodeFlagEvent s).marks = s.marks := rfl
@[simp] theorem setNodeFlagEvent_zones (s : State) : (setNodeFlagEvent s).zones = s.zones := rfl
@[simp] theorem setNodeFlagEvent_inputs (s : State) : (setNodeFlagEvent s).inputs = s.inputs := rfl
@[simp] theorem setNodeFlagEvent_points (s : State) : (setNodeFlagEvent s).points = s.points := rfl
@[simp] theorem setNodeFlagEvent_pubs (s : State) : (setNodeFlagEvent s).pubs = s.pubs := rfl
@[simp] theorem setNodeFlagEvent_bus (s : State) : (setNodeFlagEvent s).bus = s.bus := rfl
@[simp] theorem setNodeFlagEvent_faults (s : State) : (setNodeFlagEvent s).faults = s.faults := rfl
@[simp] theorem setNodeFlagEvent_host (s : State) :
    (setNodeFlagEvent s).host = { s.host with events := { s.host.events with nodeFlag := true } } := rfl
@[simp] theorem setNodeFlagEvent_link (s : State) : (setNodeFlagEvent s).link = s.link := rfl
@[simp] theorem setNodeFlagEvent_power (s : State) : (setNodeFlagEvent s).power = s.power := rfl
@[simp] theorem setNodeFlagEvent_pending (s : State) : (setNodeFlagEvent s).pending = s.pending := rfl

/-! `setFlags` -/

@[simp] theorem setFlags_now (f : NodeFlags) (s : State) : (setFlags f s).now = s.now := rfl
@[simp] theorem setFlags_held (f : NodeFlags) (s : State) : (setFlags f s).held = s.held := rfl
@[simp] theorem setFlags_loader (f : NodeFlags) (s : State) : (setFlags f s).loader = s.loader := rfl
@[simp] theorem setFlags_channels (f : NodeFlags) (s : State) : (setFlags f s).channels = s.channels := rfl
@[simp] theorem setFlags_groups (f : NodeFlags) (s : State) : (setFlags f s).groups = s.groups := rfl
@[simp] theorem setFlags_marks (f : NodeFlags) (s : State) : (setFlags f s).marks = s.marks := rfl
@[simp] theorem setFlags_zones (f : NodeFlags) (s : State) : (setFlags f s).zones = s.zones := rfl
@[simp] theorem setFlags_inputs (f : NodeFlags) (s : State) : (setFlags f s).inputs = s.inputs := rfl
@[simp] theorem setFlags_points (f : NodeFlags) (s : State) : (setFlags f s).points = s.points := rfl
@[simp] theorem setFlags_pubs (f : NodeFlags) (s : State) : (setFlags f s).pubs = s.pubs := rfl
@[simp] theorem setFlags_bus (f : NodeFlags) (s : State) : (setFlags f s).bus = s.bus := rfl
@[simp] theorem setFlags_faults (f : NodeFlags) (s : State) :
    (setFlags f s).faults = { s.faults with flags := f } := rfl
@[simp] theorem setFlags_host (f : NodeFlags) (s : State) : (setFlags f s).host = s.host := rfl
@[simp] theorem setFlags_link (f : NodeFlags) (s : State) : (setFlags f s).link = s.link := rfl
@[simp] theorem setFlags_power (f : NodeFlags) (s : State) : (setFlags f s).power = s.power := rfl
@[simp] theorem setFlags_pending (f : NodeFlags) (s : State) : (setFlags f s).pending = s.pending := rfl

/-! `setRecord` -/

@[simp] theorem setRecord_now (c : Fin 8) (r : FaultRecord) (s : State) : (setRecord c r s).now = s.now := rfl
@[simp] theorem setRecord_held (c : Fin 8) (r : FaultRecord) (s : State) :
    (setRecord c r s).held = s.held := rfl
@[simp] theorem setRecord_loader (c : Fin 8) (r : FaultRecord) (s : State) :
    (setRecord c r s).loader = s.loader := rfl
@[simp] theorem setRecord_channels (c : Fin 8) (r : FaultRecord) (s : State) :
    (setRecord c r s).channels = s.channels := rfl
@[simp] theorem setRecord_groups (c : Fin 8) (r : FaultRecord) (s : State) :
    (setRecord c r s).groups = s.groups := rfl
@[simp] theorem setRecord_marks (c : Fin 8) (r : FaultRecord) (s : State) :
    (setRecord c r s).marks = s.marks := rfl
@[simp] theorem setRecord_zones (c : Fin 8) (r : FaultRecord) (s : State) :
    (setRecord c r s).zones = s.zones := rfl
@[simp] theorem setRecord_inputs (c : Fin 8) (r : FaultRecord) (s : State) :
    (setRecord c r s).inputs = s.inputs := rfl
@[simp] theorem setRecord_points (c : Fin 8) (r : FaultRecord) (s : State) :
    (setRecord c r s).points = s.points := rfl
@[simp] theorem setRecord_pubs (c : Fin 8) (r : FaultRecord) (s : State) :
    (setRecord c r s).pubs = s.pubs := rfl
@[simp] theorem setRecord_bus (c : Fin 8) (r : FaultRecord) (s : State) : (setRecord c r s).bus = s.bus := rfl
@[simp] theorem setRecord_faults (c : Fin 8) (r : FaultRecord) (s : State) :
    (setRecord c r s).faults = { s.faults with records := s.faults.records.set c r } := rfl
@[simp] theorem setRecord_host (c : Fin 8) (r : FaultRecord) (s : State) :
    (setRecord c r s).host = s.host := rfl
@[simp] theorem setRecord_link (c : Fin 8) (r : FaultRecord) (s : State) :
    (setRecord c r s).link = s.link := rfl
@[simp] theorem setRecord_power (c : Fin 8) (r : FaultRecord) (s : State) :
    (setRecord c r s).power = s.power := rfl
@[simp] theorem setRecord_pending (c : Fin 8) (r : FaultRecord) (s : State) :
    (setRecord c r s).pending = s.pending := rfl

/-! `setFaultBlocked` -/

@[simp] theorem setFaultBlocked_now (b : Bool) (s : State) : (setFaultBlocked b s).now = s.now := rfl
@[simp] theorem setFaultBlocked_held (b : Bool) (s : State) : (setFaultBlocked b s).held = s.held := rfl
@[simp] theorem setFaultBlocked_loader (b : Bool) (s : State) : (setFaultBlocked b s).loader = s.loader := rfl
@[simp] theorem setFaultBlocked_channels (b : Bool) (s : State) :
    (setFaultBlocked b s).channels = s.channels := rfl
@[simp] theorem setFaultBlocked_groups (b : Bool) (s : State) : (setFaultBlocked b s).groups = s.groups := rfl
@[simp] theorem setFaultBlocked_marks (b : Bool) (s : State) : (setFaultBlocked b s).marks = s.marks := rfl
@[simp] theorem setFaultBlocked_zones (b : Bool) (s : State) : (setFaultBlocked b s).zones = s.zones := rfl
@[simp] theorem setFaultBlocked_inputs (b : Bool) (s : State) : (setFaultBlocked b s).inputs = s.inputs := rfl
@[simp] theorem setFaultBlocked_points (b : Bool) (s : State) : (setFaultBlocked b s).points = s.points := rfl
@[simp] theorem setFaultBlocked_pubs (b : Bool) (s : State) : (setFaultBlocked b s).pubs = s.pubs := rfl
@[simp] theorem setFaultBlocked_bus (b : Bool) (s : State) : (setFaultBlocked b s).bus = s.bus := rfl
@[simp] theorem setFaultBlocked_faults (b : Bool) (s : State) :
    (setFaultBlocked b s).faults = { s.faults with blocked := b } := rfl
@[simp] theorem setFaultBlocked_host (b : Bool) (s : State) : (setFaultBlocked b s).host = s.host := rfl
@[simp] theorem setFaultBlocked_link (b : Bool) (s : State) : (setFaultBlocked b s).link = s.link := rfl
@[simp] theorem setFaultBlocked_power (b : Bool) (s : State) : (setFaultBlocked b s).power = s.power := rfl
@[simp] theorem setFaultBlocked_pending (b : Bool) (s : State) :
    (setFaultBlocked b s).pending = s.pending := rfl

/-! `modPeer` -/

@[simp] theorem modPeer_now (n : Station) (f : Peer → Peer) (s : State) : (modPeer n f s).now = s.now := rfl
@[simp] theorem modPeer_held (n : Station) (f : Peer → Peer) (s : State) :
    (modPeer n f s).held = s.held := rfl
@[simp] theorem modPeer_loader (n : Station) (f : Peer → Peer) (s : State) :
    (modPeer n f s).loader = s.loader := rfl
@[simp] theorem modPeer_channels (n : Station) (f : Peer → Peer) (s : State) :
    (modPeer n f s).channels = s.channels := rfl
@[simp] theorem modPeer_groups (n : Station) (f : Peer → Peer) (s : State) :
    (modPeer n f s).groups = s.groups := rfl
@[simp] theorem modPeer_marks (n : Station) (f : Peer → Peer) (s : State) :
    (modPeer n f s).marks = s.marks := rfl
@[simp] theorem modPeer_zones (n : Station) (f : Peer → Peer) (s : State) :
    (modPeer n f s).zones = s.zones := rfl
@[simp] theorem modPeer_inputs (n : Station) (f : Peer → Peer) (s : State) :
    (modPeer n f s).inputs = s.inputs := rfl
@[simp] theorem modPeer_points (n : Station) (f : Peer → Peer) (s : State) :
    (modPeer n f s).points = s.points := rfl
@[simp] theorem modPeer_pubs (n : Station) (f : Peer → Peer) (s : State) :
    (modPeer n f s).pubs = s.pubs := rfl
@[simp] theorem modPeer_bus (n : Station) (f : Peer → Peer) (s : State) : (modPeer n f s).bus = s.bus := rfl
@[simp] theorem modPeer_faults (n : Station) (f : Peer → Peer) (s : State) :
    (modPeer n f s).faults = { s.faults with peers := modifyAt s.faults.peers (peerIndex n) f } := rfl
@[simp] theorem modPeer_host (n : Station) (f : Peer → Peer) (s : State) :
    (modPeer n f s).host = s.host := rfl
@[simp] theorem modPeer_link (n : Station) (f : Peer → Peer) (s : State) :
    (modPeer n f s).link = s.link := rfl
@[simp] theorem modPeer_power (n : Station) (f : Peer → Peer) (s : State) :
    (modPeer n f s).power = s.power := rfl
@[simp] theorem modPeer_pending (n : Station) (f : Peer → Peer) (s : State) :
    (modPeer n f s).pending = s.pending := rfl

/-! `peersMark` -/

@[simp] theorem peersMark_now (s : State) : (peersMark s).now = s.now := rfl
@[simp] theorem peersMark_held (s : State) : (peersMark s).held = s.held := rfl
@[simp] theorem peersMark_loader (s : State) : (peersMark s).loader = s.loader := rfl
@[simp] theorem peersMark_channels (s : State) : (peersMark s).channels = s.channels := rfl
@[simp] theorem peersMark_groups (s : State) : (peersMark s).groups = s.groups := rfl
@[simp] theorem peersMark_marks (s : State) : (peersMark s).marks = s.marks := rfl
@[simp] theorem peersMark_zones (s : State) : (peersMark s).zones = s.zones := rfl
@[simp] theorem peersMark_inputs (s : State) : (peersMark s).inputs = s.inputs := rfl
@[simp] theorem peersMark_points (s : State) : (peersMark s).points = s.points := rfl
@[simp] theorem peersMark_pubs (s : State) : (peersMark s).pubs = s.pubs := rfl
@[simp] theorem peersMark_bus (s : State) : (peersMark s).bus = s.bus := rfl
@[simp] theorem peersMark_faults (s : State) :
    (peersMark s).faults = { s.faults with peers := s.faults.peers.map Peer.markSilent } := rfl
@[simp] theorem peersMark_host (s : State) : (peersMark s).host = s.host := rfl
@[simp] theorem peersMark_link (s : State) : (peersMark s).link = s.link := rfl
@[simp] theorem peersMark_power (s : State) : (peersMark s).power = s.power := rfl
@[simp] theorem peersMark_pending (s : State) : (peersMark s).pending = s.pending := rfl

/-! `roomNotice` -/

@[simp] theorem roomNotice_now (s : State) : (roomNotice s).now = s.now := rfl
@[simp] theorem roomNotice_held (s : State) : (roomNotice s).held = s.held := rfl
@[simp] theorem roomNotice_loader (s : State) : (roomNotice s).loader = s.loader := rfl
@[simp] theorem roomNotice_channels (s : State) : (roomNotice s).channels = s.channels := rfl
@[simp] theorem roomNotice_groups (s : State) : (roomNotice s).groups = s.groups := rfl
@[simp] theorem roomNotice_marks (s : State) : (roomNotice s).marks = s.marks := rfl
@[simp] theorem roomNotice_zones (s : State) : (roomNotice s).zones = s.zones := rfl
@[simp] theorem roomNotice_inputs (s : State) : (roomNotice s).inputs = s.inputs := rfl
@[simp] theorem roomNotice_points (s : State) : (roomNotice s).points = s.points := rfl
@[simp] theorem roomNotice_pubs (s : State) : (roomNotice s).pubs = { s.pubs with blocked := false } := rfl
@[simp] theorem roomNotice_bus (s : State) : (roomNotice s).bus = s.bus := rfl
@[simp] theorem roomNotice_faults (s : State) :
    (roomNotice s).faults = { s.faults with blocked := false } := rfl
@[simp] theorem roomNotice_host (s : State) : (roomNotice s).host = s.host := rfl
@[simp] theorem roomNotice_link (s : State) : (roomNotice s).link = s.link := rfl
@[simp] theorem roomNotice_power (s : State) : (roomNotice s).power = s.power := rfl
@[simp] theorem roomNotice_pending (s : State) : (roomNotice s).pending = s.pending := rfl

/-! `respond` -/

@[simp] theorem respond_now (c : Byte) (st : Status) (d : List Byte) (s : State) :
    (respond c st d s).now = s.now := rfl
@[simp] theorem respond_held (c : Byte) (st : Status) (d : List Byte) (s : State) :
    (respond c st d s).held = s.held := rfl
@[simp] theorem respond_loader (c : Byte) (st : Status) (d : List Byte) (s : State) :
    (respond c st d s).loader = s.loader := rfl
@[simp] theorem respond_channels (c : Byte) (st : Status) (d : List Byte) (s : State) :
    (respond c st d s).channels = s.channels := rfl
@[simp] theorem respond_groups (c : Byte) (st : Status) (d : List Byte) (s : State) :
    (respond c st d s).groups = s.groups := rfl
@[simp] theorem respond_marks (c : Byte) (st : Status) (d : List Byte) (s : State) :
    (respond c st d s).marks = s.marks := rfl
@[simp] theorem respond_zones (c : Byte) (st : Status) (d : List Byte) (s : State) :
    (respond c st d s).zones = s.zones := rfl
@[simp] theorem respond_inputs (c : Byte) (st : Status) (d : List Byte) (s : State) :
    (respond c st d s).inputs = s.inputs := rfl
@[simp] theorem respond_points (c : Byte) (st : Status) (d : List Byte) (s : State) :
    (respond c st d s).points = s.points := rfl
@[simp] theorem respond_pubs (c : Byte) (st : Status) (d : List Byte) (s : State) :
    (respond c st d s).pubs = s.pubs := rfl
@[simp] theorem respond_bus (c : Byte) (st : Status) (d : List Byte) (s : State) :
    (respond c st d s).bus = s.bus := rfl
@[simp] theorem respond_faults (c : Byte) (st : Status) (d : List Byte) (s : State) :
    (respond c st d s).faults = s.faults := rfl
@[simp] theorem respond_host (c : Byte) (st : Status) (d : List Byte) (s : State) :
    (respond c st d s).host = { s.host with response := ⟨c, st, d⟩, transaction := none } := rfl
@[simp] theorem respond_link (c : Byte) (st : Status) (d : List Byte) (s : State) :
    (respond c st d s).link = s.link := rfl
@[simp] theorem respond_power (c : Byte) (st : Status) (d : List Byte) (s : State) :
    (respond c st d s).power = s.power := rfl
@[simp] theorem respond_pending (c : Byte) (st : Status) (d : List Byte) (s : State) :
    (respond c st d s).pending = s.pending := rfl

/-! `endTransaction` -/

@[simp] theorem endTransaction_now (s : State) : (endTransaction s).now = s.now := rfl
@[simp] theorem endTransaction_held (s : State) : (endTransaction s).held = s.held := rfl
@[simp] theorem endTransaction_loader (s : State) : (endTransaction s).loader = s.loader := rfl
@[simp] theorem endTransaction_channels (s : State) : (endTransaction s).channels = s.channels := rfl
@[simp] theorem endTransaction_groups (s : State) : (endTransaction s).groups = s.groups := rfl
@[simp] theorem endTransaction_marks (s : State) : (endTransaction s).marks = s.marks := rfl
@[simp] theorem endTransaction_zones (s : State) : (endTransaction s).zones = s.zones := rfl
@[simp] theorem endTransaction_inputs (s : State) : (endTransaction s).inputs = s.inputs := rfl
@[simp] theorem endTransaction_points (s : State) : (endTransaction s).points = s.points := rfl
@[simp] theorem endTransaction_pubs (s : State) : (endTransaction s).pubs = s.pubs := rfl
@[simp] theorem endTransaction_bus (s : State) : (endTransaction s).bus = s.bus := rfl
@[simp] theorem endTransaction_faults (s : State) : (endTransaction s).faults = s.faults := rfl
@[simp] theorem endTransaction_host (s : State) :
    (endTransaction s).host = { s.host with transaction := none } := rfl
@[simp] theorem endTransaction_link (s : State) : (endTransaction s).link = s.link := rfl
@[simp] theorem endTransaction_power (s : State) : (endTransaction s).power = s.power := rfl
@[simp] theorem endTransaction_pending (s : State) : (endTransaction s).pending = s.pending := rfl

/-! `tick` -/

@[simp] theorem tick_now (s : State) : (tick s).now = s.now + 1 := rfl
@[simp] theorem tick_held (s : State) : (tick s).held = s.held := rfl
@[simp] theorem tick_loader (s : State) : (tick s).loader = s.loader := rfl
@[simp] theorem tick_channels (s : State) : (tick s).channels = s.channels := rfl
@[simp] theorem tick_groups (s : State) : (tick s).groups = s.groups := rfl
@[simp] theorem tick_marks (s : State) : (tick s).marks = s.marks := rfl
@[simp] theorem tick_zones (s : State) : (tick s).zones = s.zones := rfl
@[simp] theorem tick_inputs (s : State) : (tick s).inputs = s.inputs := rfl
@[simp] theorem tick_points (s : State) : (tick s).points = s.points := rfl
@[simp] theorem tick_pubs (s : State) : (tick s).pubs = s.pubs := rfl
@[simp] theorem tick_bus (s : State) :
    (tick s).bus = { s.bus with joinCounter := s.bus.joinCounter + 1 } := rfl
@[simp] theorem tick_faults (s : State) : (tick s).faults = s.faults := rfl
@[simp] theorem tick_host (s : State) : (tick s).host = s.host := rfl
@[simp] theorem tick_link (s : State) : (tick s).link = s.link := rfl
@[simp] theorem tick_power (s : State) : (tick s).power = s.power := rfl
@[simp] theorem tick_pending (s : State) : (tick s).pending = s.pending := rfl

end Sys2Proof.Machine
end

