-- ==== Sys2Proof/Laws/Frame.lean ====
section
/-! SUPPORT. The frame of each shared operation: the blocks of the node that it leaves as they are. One lemma
for each operation, a conjunction over the blocks, so that simp takes every part of it. -/

namespace Sys2Proof.Machine

open Sys2Proof

/-- What each of the eight steps keeps, the eight together keep. -/
theorem each8_keeps {α : Type} (g : State → α) (f : Fin 8 → State → State) (h : ∀ n s, g (f n s) = g s)
    (s : State) : g (each8 f s) = g s := by
  simp [each8, h]

/-- What seven of the eight steps keep, the eight together change as the one step does, from a state that
agrees with the first in it. -/
theorem each8_focus {α : Type} (g : State → α) (f : Fin 8 → State → State) (c : Fin 8)
    (others : ∀ d, d ≠ c → ∀ s, g (f d s) = g s) (s : State) :
    ∃ t, g t = g s ∧ g (each8 f s) = g (f c t) := by
  have k : ∀ d s t, d ≠ c → g s = g t → g (f d s) = g t := fun d s t h e => (others d h s).trans e
  unfold each8
  fin_cases c
  · exact ⟨s, rfl, by repeat first | rfl | apply k _ _ _ (by decide)⟩
  · exact ⟨f 0 s, k _ _ _ (by decide) rfl, by repeat first | rfl | apply k _ _ _ (by decide)⟩
  · exact ⟨f 1 (f 0 s), by repeat first | rfl | apply k _ _ _ (by decide),
      by repeat first | rfl | apply k _ _ _ (by decide)⟩
  · exact ⟨f 2 (f 1 (f 0 s)), by repeat first | rfl | apply k _ _ _ (by decide),
      by repeat first | rfl | apply k _ _ _ (by decide)⟩
  · exact ⟨f 3 (f 2 (f 1 (f 0 s))), by repeat first | rfl | apply k _ _ _ (by decide),
      by repeat first | rfl | apply k _ _ _ (by decide)⟩
  · exact ⟨f 4 (f 3 (f 2 (f 1 (f 0 s)))), by repeat first | rfl | apply k _ _ _ (by decide),
      by repeat first | rfl | apply k _ _ _ (by decide)⟩
  · exact ⟨f 5 (f 4 (f 3 (f 2 (f 1 (f 0 s))))), by repeat first | rfl | apply k _ _ _ (by decide),
      by repeat first | rfl | apply k _ _ _ (by decide)⟩
  · exact ⟨f 6 (f 5 (f 4 (f 3 (f 2 (f 1 (f 0 s)))))), by repeat first | rfl | apply k _ _ _ (by decide),
      by repeat first | rfl | apply k _ _ _ (by decide)⟩

/-- What one of the eight steps brings about, and the other seven keep, holds after the eight. -/
theorem each8_at {α : Type} (g : State → α) (P : α → Prop) (f : Fin 8 → State → State) (c : Fin 8)
    (others : ∀ d, d ≠ c → ∀ s, g (f d s) = g s) (own : ∀ s, P (g (f c s))) (s : State) :
    P (g (each8 f s)) := by
  unfold each8
  fin_cases c
  all_goals
    repeat first
      | exact own _
      | rw [others _ (by decide)]

/-! ## Flags, live values, pending marks -/

@[simp] theorem pendSource_frame (p : PubSource) (s : State) :
    (pendSource p s).now = s.now ∧ (pendSource p s).held = s.held ∧
    (pendSource p s).loader = s.loader ∧ (pendSource p s).channels = s.channels ∧
    (pendSource p s).groups = s.groups ∧ (pendSource p s).marks = s.marks ∧
    (pendSource p s).zones = s.zones ∧ (pendSource p s).inputs = s.inputs ∧
    (pendSource p s).points = s.points ∧ (pendSource p s).bus = s.bus ∧
    (pendSource p s).faults = s.faults ∧ (pendSource p s).host = s.host ∧
    (pendSource p s).link = s.link ∧ (pendSource p s).power = s.power ∧
    (pendSource p s).pending = s.pending := by
  unfold pendSource
  try dsimp only
  simp

@[simp] theorem pendPairs_frame (l : List PointPair) (s : State) :
    (pendPairs l s).now = s.now ∧ (pendPairs l s).held = s.held ∧ (pendPairs l s).loader = s.loader ∧
    (pendPairs l s).channels = s.channels ∧ (pendPairs l s).groups = s.groups ∧
    (pendPairs l s).marks = s.marks ∧ (pendPairs l s).zones = s.zones ∧
    (pendPairs l s).inputs = s.inputs ∧ (pendPairs l s).points = s.points ∧
    (pendPairs l s).bus = s.bus ∧ (pendPairs l s).faults = s.faults ∧ (pendPairs l s).host = s.host ∧
    (pendPairs l s).link = s.link ∧ (pendPairs l s).power = s.power ∧
    (pendPairs l s).pending = s.pending := by
  unfold pendPairs
  try dsimp only
  simp

@[simp] theorem raiseFlag_frame (f : NodeFlag) (s : State) :
    (raiseFlag f s).now = s.now ∧ (raiseFlag f s).held = s.held ∧ (raiseFlag f s).loader = s.loader ∧
    (raiseFlag f s).channels = s.channels ∧ (raiseFlag f s).groups = s.groups ∧
    (raiseFlag f s).marks = s.marks ∧ (raiseFlag f s).zones = s.zones ∧
    (raiseFlag f s).inputs = s.inputs ∧ (raiseFlag f s).points = s.points ∧
    (raiseFlag f s).bus = s.bus ∧ (raiseFlag f s).link = s.link ∧ (raiseFlag f s).power = s.power ∧
    (raiseFlag f s).pending = s.pending := by
  unfold raiseFlag trackErr
  try dsimp only
  (repeat' split) <;> simp [*]

@[simp] theorem setFlagLive_frame (f : NodeFlag) (b : Bool) (s : State) :
    (setFlagLive f b s).now = s.now ∧ (setFlagLive f b s).held = s.held ∧
    (setFlagLive f b s).loader = s.loader ∧ (setFlagLive f b s).channels = s.channels ∧
    (setFlagLive f b s).groups = s.groups ∧ (setFlagLive f b s).marks = s.marks ∧
    (setFlagLive f b s).zones = s.zones ∧ (setFlagLive f b s).inputs = s.inputs ∧
    (setFlagLive f b s).points = s.points ∧ (setFlagLive f b s).bus = s.bus ∧
    (setFlagLive f b s).link = s.link ∧ (setFlagLive f b s).power = s.power ∧
    (setFlagLive f b s).pending = s.pending := by
  unfold setFlagLive
  try dsimp only
  (repeat' split) <;> simp [*]

@[simp] theorem setLive_frame (c : Fin 8) (k : FaultKind) (b : Bool) (s : State) :
    (setLive c k b s).now = s.now ∧ (setLive c k b s).held = s.held ∧
    (setLive c k b s).loader = s.loader ∧ (setLive c k b s).channels = s.channels ∧
    (setLive c k b s).groups = s.groups ∧ (setLive c k b s).marks = s.marks ∧
    (setLive c k b s).zones = s.zones ∧ (setLive c k b s).inputs = s.inputs ∧
    (setLive c k b s).points = s.points ∧ (setLive c k b s).bus = s.bus ∧
    (setLive c k b s).host = s.host ∧ (setLive c k b s).link = s.link ∧
    (setLive c k b s).power = s.power ∧ (setLive c k b s).pending = s.pending := by
  unfold setLive
  try dsimp only
  (repeat' split) <;> simp [*]

@[simp] theorem setFaultWaiting_frame (b : Bool) (c : Fin 8) (s : State) :
    (setFaultWaiting b c s).now = s.now ∧ (setFaultWaiting b c s).held = s.held ∧
    (setFaultWaiting b c s).loader = s.loader ∧ (setFaultWaiting b c s).channels = s.channels ∧
    (setFaultWaiting b c s).groups = s.groups ∧ (setFaultWaiting b c s).marks = s.marks ∧
    (setFaultWaiting b c s).zones = s.zones ∧ (setFaultWaiting b c s).inputs = s.inputs ∧
    (setFaultWaiting b c s).points = s.points ∧ (setFaultWaiting b c s).pubs = s.pubs ∧
    (setFaultWaiting b c s).bus = s.bus ∧ (setFaultWaiting b c s).host = s.host ∧
    (setFaultWaiting b c s).link = s.link ∧ (setFaultWaiting b c s).power = s.power ∧
    (setFaultWaiting b c s).pending = s.pending := by
  unfold setFaultWaiting
  try dsimp only
  simp

/-! ## The transmit queue -/

@[simp] theorem displacedNotice_frame (f : Frame) (s : State) :
    (displacedNotice f s).now = s.now ∧ (displacedNotice f s).held = s.held ∧
    (displacedNotice f s).loader = s.loader ∧ (displacedNotice f s).channels = s.channels ∧
    (displacedNotice f s).groups = s.groups ∧ (displacedNotice f s).marks = s.marks ∧
    (displacedNotice f s).zones = s.zones ∧ (displacedNotice f s).inputs = s.inputs ∧
    (displacedNotice f s).points = s.points ∧ (displacedNotice f s).bus = s.bus ∧
    (displacedNotice f s).host = s.host ∧ (displacedNotice f s).link = s.link ∧
    (displacedNotice f s).power = s.power ∧ (displacedNotice f s).pending = s.pending := by
  unfold displacedNotice
  try dsimp only
  (repeat' split) <;> simp [*]

@[simp] theorem offer_frame (f : Frame) (s : State) :
    ((offer f s).1).now = s.now ∧ ((offer f s).1).held = s.held ∧ ((offer f s).1).loader = s.loader ∧
    ((offer f s).1).channels = s.channels ∧ ((offer f s).1).groups = s.groups ∧
    ((offer f s).1).marks = s.marks ∧ ((offer f s).1).zones = s.zones ∧
    ((offer f s).1).inputs = s.inputs ∧ ((offer f s).1).points = s.points ∧
    ((offer f s).1).link = s.link ∧ ((offer f s).1).power = s.power ∧
    ((offer f s).1).pending = s.pending := by
  unfold offer
  try dsimp only
  (repeat' split) <;> simp [*]

@[simp] theorem offerOnly_frame (f : Frame) (s : State) :
    (offerOnly f s).now = s.now ∧ (offerOnly f s).held = s.held ∧ (offerOnly f s).loader = s.loader ∧
    (offerOnly f s).channels = s.channels ∧ (offerOnly f s).groups = s.groups ∧
    (offerOnly f s).marks = s.marks ∧ (offerOnly f s).zones = s.zones ∧
    (offerOnly f s).inputs = s.inputs ∧ (offerOnly f s).points = s.points ∧
    (offerOnly f s).link = s.link ∧ (offerOnly f s).power = s.power ∧
    (offerOnly f s).pending = s.pending := by
  unfold offerOnly
  try dsimp only
  simp

@[simp] theorem withdrawFrames_frame (p : Frame → Bool) (s : State) :
    (withdrawFrames p s).now = s.now ∧ (withdrawFrames p s).held = s.held ∧
    (withdrawFrames p s).loader = s.loader ∧ (withdrawFrames p s).channels = s.channels ∧
    (withdrawFrames p s).groups = s.groups ∧ (withdrawFrames p s).marks = s.marks ∧
    (withdrawFrames p s).zones = s.zones ∧ (withdrawFrames p s).inputs = s.inputs ∧
    (withdrawFrames p s).points = s.points ∧ (withdrawFrames p s).host = s.host ∧
    (withdrawFrames p s).link = s.link ∧ (withdrawFrames p s).power = s.power ∧
    (withdrawFrames p s).pending = s.pending := by
  unfold withdrawFrames
  try dsimp only
  (repeat' split) <;> simp [*]

@[simp] theorem editFrames_frame (g : Frame → Frame) (s : State) :
    (editFrames g s).now = s.now ∧ (editFrames g s).held = s.held ∧
    (editFrames g s).loader = s.loader ∧ (editFrames g s).channels = s.channels ∧
    (editFrames g s).groups = s.groups ∧ (editFrames g s).marks = s.marks ∧
    (editFrames g s).zones = s.zones ∧ (editFrames g s).inputs = s.inputs ∧
    (editFrames g s).points = s.points ∧ (editFrames g s).pubs = s.pubs ∧
    (editFrames g s).faults = s.faults ∧ (editFrames g s).host = s.host ∧
    (editFrames g s).link = s.link ∧ (editFrames g s).power = s.power ∧
    (editFrames g s).pending = s.pending := by
  unfold editFrames
  try dsimp only
  simp

@[simp] theorem removeFromTrip_frame (z : Fin 8) (s : State) :
    (removeFromTrip z s).now = s.now ∧ (removeFromTrip z s).held = s.held ∧
    (removeFromTrip z s).loader = s.loader ∧ (removeFromTrip z s).channels = s.channels ∧
    (removeFromTrip z s).groups = s.groups ∧ (removeFromTrip z s).marks = s.marks ∧
    (removeFromTrip z s).zones = s.zones ∧ (removeFromTrip z s).inputs = s.inputs ∧
    (removeFromTrip z s).points = s.points ∧ (removeFromTrip z s).host = s.host ∧
    (removeFromTrip z s).link = s.link ∧ (removeFromTrip z s).power = s.power ∧
    (removeFromTrip z s).pending = s.pending := by
  unfold removeFromTrip
  try dsimp only
  simp

@[simp] theorem removeFromClear_frame (z : Fin 8) (s : State) :
    (removeFromClear z s).now = s.now ∧ (removeFromClear z s).held = s.held ∧
    (removeFromClear z s).loader = s.loader ∧ (removeFromClear z s).channels = s.channels ∧
    (removeFromClear z s).groups = s.groups ∧ (removeFromClear z s).marks = s.marks ∧
    (removeFromClear z s).zones = s.zones ∧ (removeFromClear z s).inputs = s.inputs ∧
    (removeFromClear z s).points = s.points ∧ (removeFromClear z s).host = s.host ∧
    (removeFromClear z s).link = s.link ∧ (removeFromClear z s).power = s.power ∧
    (removeFromClear z s).pending = s.pending := by
  unfold removeFromClear
  try dsimp only
  simp

/-! ## Channel Logic -/

@[simp] theorem sendToGroup_frame (c : Fin 8) (m : ToGroupMsg) (s : State) :
    (sendToGroup c m s).now = s.now ∧ (sendToGroup c m s).held = s.held ∧
    (sendToGroup c m s).loader = s.loader ∧ (sendToGroup c m s).groups = s.groups ∧
    (sendToGroup c m s).marks = s.marks ∧ (sendToGroup c m s).zones = s.zones ∧
    (sendToGroup c m s).inputs = s.inputs ∧ (sendToGroup c m s).points = s.points ∧
    (sendToGroup c m s).pubs = s.pubs ∧ (sendToGroup c m s).bus = s.bus ∧
    (sendToGroup c m s).faults = s.faults ∧ (sendToGroup c m s).host = s.host ∧
    (sendToGroup c m s).link = s.link ∧ (sendToGroup c m s).power = s.power ∧
    (sendToGroup c m s).pending = s.pending := by
  unfold sendToGroup
  try dsimp only
  (repeat' split) <;> simp [*]

@[simp] theorem enterState_frame (x : ChannelState) (c : Fin 8) (s : State) :
    (enterState x c s).now = s.now ∧ (enterState x c s).held = s.held ∧
    (enterState x c s).loader = s.loader ∧ (enterState x c s).groups = s.groups ∧
    (enterState x c s).marks = s.marks ∧ (enterState x c s).zones = s.zones ∧
    (enterState x c s).inputs = s.inputs ∧ (enterState x c s).points = s.points ∧
    (enterState x c s).bus = s.bus ∧ (enterState x c s).link = s.link ∧
    (enterState x c s).power = s.power ∧ (enterState x c s).pending = s.pending := by
  unfold enterState
  try dsimp only
  (repeat' split) <;> simp [*]

@[simp] theorem startChannel_frame (c : Fin 8) (s : State) :
    (startChannel c s).now = s.now ∧ (startChannel c s).held = s.held ∧
    (startChannel c s).loader = s.loader ∧ (startChannel c s).groups = s.groups ∧
    (startChannel c s).marks = s.marks ∧ (startChannel c s).zones = s.zones ∧
    (startChannel c s).inputs = s.inputs ∧ (startChannel c s).points = s.points ∧
    (startChannel c s).bus = s.bus ∧ (startChannel c s).link = s.link ∧
    (startChannel c s).power = s.power ∧ (startChannel c s).pending = s.pending := by
  unfold startChannel
  try dsimp only
  (repeat' split) <;> simp [*]

@[simp] theorem startIfDue_frame (c : Fin 8) (s : State) :
    (startIfDue c s).now = s.now ∧ (startIfDue c s).held = s.held ∧
    (startIfDue c s).loader = s.loader ∧ (startIfDue c s).groups = s.groups ∧
    (startIfDue c s).marks = s.marks ∧ (startIfDue c s).zones = s.zones ∧
    (startIfDue c s).inputs = s.inputs ∧ (startIfDue c s).points = s.points ∧
    (startIfDue c s).bus = s.bus ∧ (startIfDue c s).link = s.link ∧ (startIfDue c s).power = s.power ∧
    (startIfDue c s).pending = s.pending := by
  unfold startIfDue
  try dsimp only
  (repeat' split) <;> simp [*]

@[simp] theorem seeDemandInOff_frame (c : Fin 8) (s : State) :
    (seeDemandInOff c s).now = s.now ∧ (seeDemandInOff c s).held = s.held ∧
    (seeDemandInOff c s).loader = s.loader ∧ (seeDemandInOff c s).groups = s.groups ∧
    (seeDemandInOff c s).marks = s.marks ∧ (seeDemandInOff c s).zones = s.zones ∧
    (seeDemandInOff c s).inputs = s.inputs ∧ (seeDemandInOff c s).points = s.points ∧
    (seeDemandInOff c s).bus = s.bus ∧ (seeDemandInOff c s).link = s.link ∧
    (seeDemandInOff c s).power = s.power ∧ (seeDemandInOff c s).pending = s.pending := by
  unfold seeDemandInOff
  try dsimp only
  (repeat' split) <;> simp [*]

@[simp] theorem enterOff_frame (c : Fin 8) (s : State) :
    (enterOff c s).now = s.now ∧ (enterOff c s).held = s.held ∧ (enterOff c s).loader = s.loader ∧
    (enterOff c s).groups = s.groups ∧ (enterOff c s).marks = s.marks ∧
    (enterOff c s).zones = s.zones ∧ (enterOff c s).inputs = s.inputs ∧
    (enterOff c s).points = s.points ∧ (enterOff c s).bus = s.bus ∧ (enterOff c s).link = s.link ∧
    (enterOff c s).power = s.power ∧ (enterOff c s).pending = s.pending := by
  unfold enterOff
  try dsimp only
  simp

@[simp] theorem enterReleasing_frame (x : Target) (c : Fin 8) (s : State) :
    (enterReleasing x c s).now = s.now ∧ (enterReleasing x c s).held = s.held ∧
    (enterReleasing x c s).loader = s.loader ∧ (enterReleasing x c s).groups = s.groups ∧
    (enterReleasing x c s).marks = s.marks ∧ (enterReleasing x c s).zones = s.zones ∧
    (enterReleasing x c s).inputs = s.inputs ∧ (enterReleasing x c s).points = s.points ∧
    (enterReleasing x c s).bus = s.bus ∧ (enterReleasing x c s).link = s.link ∧
    (enterReleasing x c s).power = s.power ∧ (enterReleasing x c s).pending = s.pending := by
  unfold enterReleasing
  try dsimp only
  simp

@[simp] theorem leaveSuspended_frame (c : Fin 8) (s : State) :
    (leaveSuspended c s).now = s.now ∧ (leaveSuspended c s).held = s.held ∧
    (leaveSuspended c s).loader = s.loader ∧ (leaveSuspended c s).groups = s.groups ∧
    (leaveSuspended c s).marks = s.marks ∧ (leaveSuspended c s).zones = s.zones ∧
    (leaveSuspended c s).inputs = s.inputs ∧ (leaveSuspended c s).points = s.points ∧
    (leaveSuspended c s).bus = s.bus ∧ (leaveSuspended c s).link = s.link ∧
    (leaveSuspended c s).power = s.power ∧ (leaveSuspended c s).pending = s.pending := by
  unfold leaveSuspended
  try dsimp only
  (repeat' split) <;> simp [*]

@[simp] theorem completeRelease_frame (c : Fin 8) (s : State) :
    (completeRelease c s).now = s.now ∧ (completeRelease c s).held = s.held ∧
    (completeRelease c s).loader = s.loader ∧ (completeRelease c s).groups = s.groups ∧
    (completeRelease c s).marks = s.marks ∧ (completeRelease c s).zones = s.zones ∧
    (completeRelease c s).inputs = s.inputs ∧ (completeRelease c s).points = s.points ∧
    (completeRelease c s).bus = s.bus ∧ (completeRelease c s).link = s.link ∧
    (completeRelease c s).power = s.power ∧ (completeRelease c s).pending = s.pending := by
  unfold completeRelease
  try dsimp only
  (repeat' split) <;> simp [*]

@[simp] theorem settleHandBack_frame (c : Fin 8) (s : State) :
    (settleHandBack c s).now = s.now ∧ (settleHandBack c s).held = s.held ∧
    (settleHandBack c s).loader = s.loader ∧ (settleHandBack c s).groups = s.groups ∧
    (settleHandBack c s).marks = s.marks ∧ (settleHandBack c s).zones = s.zones ∧
    (settleHandBack c s).inputs = s.inputs ∧ (settleHandBack c s).points = s.points ∧
    (settleHandBack c s).pubs = s.pubs ∧ (settleHandBack c s).bus = s.bus ∧
    (settleHandBack c s).faults = s.faults ∧ (settleHandBack c s).host = s.host ∧
    (settleHandBack c s).link = s.link ∧ (settleHandBack c s).power = s.power ∧
    (settleHandBack c s).pending = s.pending := by
  unfold settleHandBack
  try dsimp only
  (repeat' split) <;> simp [*]

@[simp] theorem fallFromOn_frame (c : Fin 8) (s : State) :
    (fallFromOn c s).now = s.now ∧ (fallFromOn c s).held = s.held ∧
    (fallFromOn c s).loader = s.loader ∧ (fallFromOn c s).groups = s.groups ∧
    (fallFromOn c s).marks = s.marks ∧ (fallFromOn c s).zones = s.zones ∧
    (fallFromOn c s).inputs = s.inputs ∧ (fallFromOn c s).points = s.points ∧
    (fallFromOn c s).bus = s.bus ∧ (fallFromOn c s).link = s.link ∧ (fallFromOn c s).power = s.power ∧
    (fallFromOn c s).pending = s.pending := by
  unfold fallFromOn
  try dsimp only
  (repeat' split) <;> simp [*]

@[simp] theorem enterOn_frame (c : Fin 8) (s : State) :
    (enterOn c s).now = s.now ∧ (enterOn c s).held = s.held ∧ (enterOn c s).loader = s.loader ∧
    (enterOn c s).groups = s.groups ∧ (enterOn c s).marks = s.marks ∧ (enterOn c s).zones = s.zones ∧
    (enterOn c s).inputs = s.inputs ∧ (enterOn c s).points = s.points ∧ (enterOn c s).bus = s.bus ∧
    (enterOn c s).link = s.link ∧ (enterOn c s).power = s.power ∧ (enterOn c s).pending = s.pending := by
  unfold enterOn
  try dsimp only
  (repeat' split) <;> simp [*]

@[simp] theorem oweHandBack_frame (c : Fin 8) (s : State) :
    (oweHandBack c s).now = s.now ∧ (oweHandBack c s).held = s.held ∧
    (oweHandBack c s).loader = s.loader ∧ (oweHandBack c s).groups = s.groups ∧
    (oweHandBack c s).marks = s.marks ∧ (oweHandBack c s).zones = s.zones ∧
    (oweHandBack c s).inputs = s.inputs ∧ (oweHandBack c s).points = s.points ∧
    (oweHandBack c s).pubs = s.pubs ∧ (oweHandBack c s).bus = s.bus ∧
    (oweHandBack c s).faults = s.faults ∧ (oweHandBack c s).host = s.host ∧
    (oweHandBack c s).link = s.link ∧ (oweHandBack c s).power = s.power ∧
    (oweHandBack c s).pending = s.pending := by
  unfold oweHandBack
  try dsimp only
  (repeat' split) <;> simp [*]

@[simp] theorem demandChange_frame (c : Fin 8) (d : Bool) (s : State) :
    (demandChange c d s).now = s.now ∧ (demandChange c d s).held = s.held ∧
    (demandChange c d s).loader = s.loader ∧ (demandChange c d s).groups = s.groups ∧
    (demandChange c d s).marks = s.marks ∧ (demandChange c d s).zones = s.zones ∧
    (demandChange c d s).inputs = s.inputs ∧ (demandChange c d s).points = s.points ∧
    (demandChange c d s).bus = s.bus ∧ (demandChange c d s).link = s.link ∧
    (demandChange c d s).power = s.power ∧ (demandChange c d s).pending = s.pending := by
  unfold demandChange
  try dsimp only
  (repeat' split) <;> simp [*]

@[simp] theorem evaluate_frame (c : Fin 8) (s : State) :
    (evaluate c s).now = s.now ∧ (evaluate c s).held = s.held ∧ (evaluate c s).loader = s.loader ∧
    (evaluate c s).groups = s.groups ∧ (evaluate c s).marks = s.marks ∧
    (evaluate c s).zones = s.zones ∧ (evaluate c s).inputs = s.inputs ∧
    (evaluate c s).points = s.points ∧ (evaluate c s).bus = s.bus ∧ (evaluate c s).link = s.link ∧
    (evaluate c s).power = s.power ∧ (evaluate c s).pending = s.pending := by
  unfold evaluate
  try dsimp only
  (repeat' split) <;> simp [*]

@[simp] theorem evaluateUsers_frame (p : TermSource → Bool) (s : State) :
    (evaluateUsers p s).now = s.now ∧ (evaluateUsers p s).held = s.held ∧
    (evaluateUsers p s).loader = s.loader ∧ (evaluateUsers p s).groups = s.groups ∧
    (evaluateUsers p s).marks = s.marks ∧ (evaluateUsers p s).zones = s.zones ∧
    (evaluateUsers p s).inputs = s.inputs ∧ (evaluateUsers p s).points = s.points ∧
    (evaluateUsers p s).bus = s.bus ∧ (evaluateUsers p s).link = s.link ∧
    (evaluateUsers p s).power = s.power ∧ (evaluateUsers p s).pending = s.pending := by
  refine ⟨each8_keeps State.now _ (fun n s => ?_) s,
    each8_keeps State.held _ (fun n s => ?_) s,
    each8_keeps State.loader _ (fun n s => ?_) s,
    each8_keeps State.groups _ (fun n s => ?_) s,
    each8_keeps State.marks _ (fun n s => ?_) s,
    each8_keeps State.zones _ (fun n s => ?_) s,
    each8_keeps State.inputs _ (fun n s => ?_) s,
    each8_keeps State.points _ (fun n s => ?_) s,
    each8_keeps State.bus _ (fun n s => ?_) s,
    each8_keeps State.link _ (fun n s => ?_) s,
    each8_keeps State.power _ (fun n s => ?_) s,
    each8_keeps State.pending _ (fun n s => ?_) s⟩ <;> split <;> simp

@[simp] theorem setHoldOvers_frame (p : Nat → Bool) (tm : Timer) (c : Fin 8) (s : State) :
    (setHoldOvers p tm c s).now = s.now ∧ (setHoldOvers p tm c s).held = s.held ∧
    (setHoldOvers p tm c s).loader = s.loader ∧ (setHoldOvers p tm c s).groups = s.groups ∧
    (setHoldOvers p tm c s).marks = s.marks ∧ (setHoldOvers p tm c s).zones = s.zones ∧
    (setHoldOvers p tm c s).inputs = s.inputs ∧ (setHoldOvers p tm c s).points = s.points ∧
    (setHoldOvers p tm c s).pubs = s.pubs ∧ (setHoldOvers p tm c s).bus = s.bus ∧
    (setHoldOvers p tm c s).faults = s.faults ∧ (setHoldOvers p tm c s).host = s.host ∧
    (setHoldOvers p tm c s).link = s.link ∧ (setHoldOvers p tm c s).power = s.power ∧
    (setHoldOvers p tm c s).pending = s.pending := by
  unfold setHoldOvers
  try dsimp only
  (repeat' split) <;> simp [*]

@[simp] theorem startHoldOvers_frame (p : Nat → Bool) (c : Fin 8) (s : State) :
    (startHoldOvers p c s).now = s.now ∧ (startHoldOvers p c s).held = s.held ∧
    (startHoldOvers p c s).loader = s.loader ∧ (startHoldOvers p c s).groups = s.groups ∧
    (startHoldOvers p c s).marks = s.marks ∧ (startHoldOvers p c s).zones = s.zones ∧
    (startHoldOvers p c s).inputs = s.inputs ∧ (startHoldOvers p c s).points = s.points ∧
    (startHoldOvers p c s).pubs = s.pubs ∧ (startHoldOvers p c s).bus = s.bus ∧
    (startHoldOvers p c s).faults = s.faults ∧ (startHoldOvers p c s).host = s.host ∧
    (startHoldOvers p c s).link = s.link ∧ (startHoldOvers p c s).power = s.power ∧
    (startHoldOvers p c s).pending = s.pending := by
  unfold startHoldOvers
  try dsimp only
  (repeat' split) <;> simp [*]

@[simp] theorem addCause_frame (k : Cause) (c : Fin 8) (s : State) :
    (addCause k c s).now = s.now ∧ (addCause k c s).held = s.held ∧
    (addCause k c s).loader = s.loader ∧ (addCause k c s).groups = s.groups ∧
    (addCause k c s).marks = s.marks ∧ (addCause k c s).zones = s.zones ∧
    (addCause k c s).inputs = s.inputs ∧ (addCause k c s).points = s.points ∧
    (addCause k c s).pubs = s.pubs ∧ (addCause k c s).bus = s.bus ∧
    (addCause k c s).faults = s.faults ∧ (addCause k c s).host = s.host ∧
    (addCause k c s).link = s.link ∧ (addCause k c s).power = s.power ∧
    (addCause k c s).pending = s.pending := by
  unfold addCause
  try dsimp only
  simp

@[simp] theorem forceCause_frame (k : Cause) (c : Fin 8) (s : State) :
    (forceCause k c s).now = s.now ∧ (forceCause k c s).held = s.held ∧
    (forceCause k c s).loader = s.loader ∧ (forceCause k c s).groups = s.groups ∧
    (forceCause k c s).marks = s.marks ∧ (forceCause k c s).zones = s.zones ∧
    (forceCause k c s).inputs = s.inputs ∧ (forceCause k c s).points = s.points ∧
    (forceCause k c s).bus = s.bus ∧ (forceCause k c s).link = s.link ∧
    (forceCause k c s).power = s.power ∧ (forceCause k c s).pending = s.pending := by
  unfold forceCause
  try dsimp only
  (repeat' split) <;> simp [*]

@[simp] theorem setRearm_frame (c : Fin 8) (s : State) :
    (setRearm c s).now = s.now ∧ (setRearm c s).held = s.held ∧ (setRearm c s).loader = s.loader ∧
    (setRearm c s).groups = s.groups ∧ (setRearm c s).marks = s.marks ∧
    (setRearm c s).zones = s.zones ∧ (setRearm c s).inputs = s.inputs ∧
    (setRearm c s).points = s.points ∧ (setRearm c s).pubs = s.pubs ∧ (setRearm c s).bus = s.bus ∧
    (setRearm c s).faults = s.faults ∧ (setRearm c s).host = s.host ∧ (setRearm c s).link = s.link ∧
    (setRearm c s).power = s.power ∧ (setRearm c s).pending = s.pending := by
  unfold setRearm
  try dsimp only
  simp

@[simp] theorem withdrawCause_frame (k : Cause) (c : Fin 8) (s : State) :
    (withdrawCause k c s).now = s.now ∧ (withdrawCause k c s).held = s.held ∧
    (withdrawCause k c s).loader = s.loader ∧ (withdrawCause k c s).groups = s.groups ∧
    (withdrawCause k c s).marks = s.marks ∧ (withdrawCause k c s).zones = s.zones ∧
    (withdrawCause k c s).inputs = s.inputs ∧ (withdrawCause k c s).points = s.points ∧
    (withdrawCause k c s).bus = s.bus ∧ (withdrawCause k c s).link = s.link ∧
    (withdrawCause k c s).power = s.power ∧ (withdrawCause k c s).pending = s.pending := by
  unfold withdrawCause
  try dsimp only
  (repeat' split) <;> simp [*]

@[simp] theorem pathLostAt_frame (c : Fin 8) (s : State) :
    (pathLostAt c s).now = s.now ∧ (pathLostAt c s).held = s.held ∧
    (pathLostAt c s).loader = s.loader ∧ (pathLostAt c s).groups = s.groups ∧
    (pathLostAt c s).marks = s.marks ∧ (pathLostAt c s).zones = s.zones ∧
    (pathLostAt c s).inputs = s.inputs ∧ (pathLostAt c s).points = s.points ∧
    (pathLostAt c s).bus = s.bus ∧ (pathLostAt c s).link = s.link ∧ (pathLostAt c s).power = s.power ∧
    (pathLostAt c s).pending = s.pending := by
  unfold pathLostAt
  try dsimp only
  (repeat' split) <;> simp [*]

@[simp] theorem pathLost_frame (s : State) :
    (pathLost s).now = s.now ∧ (pathLost s).held = s.held ∧ (pathLost s).loader = s.loader ∧
    (pathLost s).groups = s.groups ∧ (pathLost s).marks = s.marks ∧ (pathLost s).zones = s.zones ∧
    (pathLost s).inputs = s.inputs ∧ (pathLost s).points = s.points ∧ (pathLost s).bus = s.bus ∧
    (pathLost s).link = s.link ∧ (pathLost s).power = s.power ∧ (pathLost s).pending = s.pending := by
  unfold pathLost each8
  try dsimp only
  simp

@[simp] theorem pathReadyAt_frame (c : Fin 8) (s : State) :
    (pathReadyAt c s).now = s.now ∧ (pathReadyAt c s).held = s.held ∧
    (pathReadyAt c s).loader = s.loader ∧ (pathReadyAt c s).groups = s.groups ∧
    (pathReadyAt c s).marks = s.marks ∧ (pathReadyAt c s).zones = s.zones ∧
    (pathReadyAt c s).inputs = s.inputs ∧ (pathReadyAt c s).points = s.points ∧
    (pathReadyAt c s).bus = s.bus ∧ (pathReadyAt c s).link = s.link ∧
    (pathReadyAt c s).power = s.power ∧ (pathReadyAt c s).pending = s.pending := by
  unfold pathReadyAt
  try dsimp only
  (repeat' split) <;> simp [*]

@[simp] theorem pathReadyEvent_frame (s : State) :
    (pathReadyEvent s).now = s.now ∧ (pathReadyEvent s).held = s.held ∧
    (pathReadyEvent s).loader = s.loader ∧ (pathReadyEvent s).groups = s.groups ∧
    (pathReadyEvent s).marks = s.marks ∧ (pathReadyEvent s).zones = s.zones ∧
    (pathReadyEvent s).inputs = s.inputs ∧ (pathReadyEvent s).points = s.points ∧
    (pathReadyEvent s).bus = s.bus ∧ (pathReadyEvent s).link = s.link ∧
    (pathReadyEvent s).power = s.power ∧ (pathReadyEvent s).pending = s.pending := by
  unfold pathReadyEvent each8
  try dsimp only
  simp

@[simp] theorem confirmIfReleasing_frame (tm : Timer) (c : Fin 8) (s : State) :
    (confirmIfReleasing tm c s).now = s.now ∧ (confirmIfReleasing tm c s).held = s.held ∧
    (confirmIfReleasing tm c s).loader = s.loader ∧ (confirmIfReleasing tm c s).groups = s.groups ∧
    (confirmIfReleasing tm c s).marks = s.marks ∧ (confirmIfReleasing tm c s).zones = s.zones ∧
    (confirmIfReleasing tm c s).inputs = s.inputs ∧ (confirmIfReleasing tm c s).points = s.points ∧
    (confirmIfReleasing tm c s).pubs = s.pubs ∧ (confirmIfReleasing tm c s).bus = s.bus ∧
    (confirmIfReleasing tm c s).faults = s.faults ∧ (confirmIfReleasing tm c s).host = s.host ∧
    (confirmIfReleasing tm c s).link = s.link ∧ (confirmIfReleasing tm c s).power = s.power ∧
    (confirmIfReleasing tm c s).pending = s.pending := by
  unfold confirmIfReleasing
  try dsimp only
  (repeat' split) <;> simp [*]

@[simp] theorem setReleasingConfirm_frame (tm : Timer) (s : State) :
    (setReleasingConfirm tm s).now = s.now ∧ (setReleasingConfirm tm s).held = s.held ∧
    (setReleasingConfirm tm s).loader = s.loader ∧ (setReleasingConfirm tm s).groups = s.groups ∧
    (setReleasingConfirm tm s).marks = s.marks ∧ (setReleasingConfirm tm s).zones = s.zones ∧
    (setReleasingConfirm tm s).inputs = s.inputs ∧ (setReleasingConfirm tm s).points = s.points ∧
    (setReleasingConfirm tm s).pubs = s.pubs ∧ (setReleasingConfirm tm s).bus = s.bus ∧
    (setReleasingConfirm tm s).faults = s.faults ∧ (setReleasingConfirm tm s).host = s.host ∧
    (setReleasingConfirm tm s).link = s.link ∧ (setReleasingConfirm tm s).power = s.power ∧
    (setReleasingConfirm tm s).pending = s.pending := by
  unfold setReleasingConfirm each8
  try dsimp only
  (repeat' split) <;> simp [*]

@[simp] theorem feedbackInState_frame (on : Bool) (c : Fin 8) (s : State) :
    (feedbackInState on c s).now = s.now ∧ (feedbackInState on c s).held = s.held ∧
    (feedbackInState on c s).loader = s.loader ∧ (feedbackInState on c s).groups = s.groups ∧
    (feedbackInState on c s).marks = s.marks ∧ (feedbackInState on c s).zones = s.zones ∧
    (feedbackInState on c s).inputs = s.inputs ∧ (feedbackInState on c s).points = s.points ∧
    (feedbackInState on c s).bus = s.bus ∧ (feedbackInState on c s).link = s.link ∧
    (feedbackInState on c s).power = s.power ∧ (feedbackInState on c s).pending = s.pending := by
  unfold feedbackInState
  try dsimp only
  (repeat' split) <;> simp [*]

@[simp] theorem feedbackAt_frame (b : Byte) (c : Fin 8) (s : State) :
    (feedbackAt b c s).now = s.now ∧ (feedbackAt b c s).held = s.held ∧
    (feedbackAt b c s).loader = s.loader ∧ (feedbackAt b c s).groups = s.groups ∧
    (feedbackAt b c s).marks = s.marks ∧ (feedbackAt b c s).zones = s.zones ∧
    (feedbackAt b c s).inputs = s.inputs ∧ (feedbackAt b c s).points = s.points ∧
    (feedbackAt b c s).bus = s.bus ∧ (feedbackAt b c s).link = s.link ∧
    (feedbackAt b c s).power = s.power ∧ (feedbackAt b c s).pending = s.pending := by
  unfold feedbackAt
  try dsimp only
  (repeat' split) <;> simp [*]

@[simp] theorem offAssuredAt_frame (c : Fin 8) (s : State) :
    (offAssuredAt c s).now = s.now ∧ (offAssuredAt c s).held = s.held ∧
    (offAssuredAt c s).loader = s.loader ∧ (offAssuredAt c s).groups = s.groups ∧
    (offAssuredAt c s).marks = s.marks ∧ (offAssuredAt c s).zones = s.zones ∧
    (offAssuredAt c s).inputs = s.inputs ∧ (offAssuredAt c s).points = s.points ∧
    (offAssuredAt c s).bus = s.bus ∧ (offAssuredAt c s).link = s.link ∧
    (offAssuredAt c s).power = s.power ∧ (offAssuredAt c s).pending = s.pending := by
  unfold offAssuredAt
  try dsimp only
  (repeat' split) <;> simp [*]

@[simp] theorem markEventAt_frame (c : Fin 8) (s : State) :
    (markEventAt c s).now = s.now ∧ (markEventAt c s).held = s.held ∧
    (markEventAt c s).loader = s.loader ∧ (markEventAt c s).groups = s.groups ∧
    (markEventAt c s).marks = s.marks ∧ (markEventAt c s).zones = s.zones ∧
    (markEventAt c s).inputs = s.inputs ∧ (markEventAt c s).points = s.points ∧
    (markEventAt c s).bus = s.bus ∧ (markEventAt c s).link = s.link ∧
    (markEventAt c s).power = s.power ∧ (markEventAt c s).pending = s.pending := by
  unfold markEventAt
  try dsimp only
  (repeat' split) <;> simp [*]

@[simp] theorem revokeAt_frame (c : Fin 8) (s : State) :
    (revokeAt c s).now = s.now ∧ (revokeAt c s).held = s.held ∧ (revokeAt c s).loader = s.loader ∧
    (revokeAt c s).groups = s.groups ∧ (revokeAt c s).marks = s.marks ∧
    (revokeAt c s).zones = s.zones ∧ (revokeAt c s).inputs = s.inputs ∧
    (revokeAt c s).points = s.points ∧ (revokeAt c s).bus = s.bus ∧ (revokeAt c s).link = s.link ∧
    (revokeAt c s).power = s.power ∧ (revokeAt c s).pending = s.pending := by
  unfold revokeAt
  try dsimp only
  (repeat' split) <;> simp [*]

@[simp] theorem grantAt_frame (c : Fin 8) (s : State) :
    (grantAt c s).now = s.now ∧ (grantAt c s).held = s.held ∧ (grantAt c s).loader = s.loader ∧
    (grantAt c s).groups = s.groups ∧ (grantAt c s).marks = s.marks ∧ (grantAt c s).zones = s.zones ∧
    (grantAt c s).inputs = s.inputs ∧ (grantAt c s).points = s.points ∧ (grantAt c s).bus = s.bus ∧
    (grantAt c s).link = s.link ∧ (grantAt c s).power = s.power ∧ (grantAt c s).pending = s.pending := by
  unfold grantAt
  try dsimp only
  (repeat' split) <;> simp [*]

/-! ## Fault Records -/

@[simp] theorem occurrence_frame (k : FaultKind) (c : Fin 8) (s : State) :
    (occurrence k c s).now = s.now ∧ (occurrence k c s).held = s.held ∧
    (occurrence k c s).loader = s.loader ∧ (occurrence k c s).groups = s.groups ∧
    (occurrence k c s).marks = s.marks ∧ (occurrence k c s).zones = s.zones ∧
    (occurrence k c s).inputs = s.inputs ∧ (occurrence k c s).points = s.points ∧
    (occurrence k c s).bus = s.bus ∧ (occurrence k c s).link = s.link ∧
    (occurrence k c s).power = s.power ∧ (occurrence k c s).pending = s.pending := by
  unfold occurrence trackErr
  try dsimp only
  (repeat' split) <;> simp [*]

@[simp] theorem takeLive_frame (k : PowerKind) (b : Bool) (c : Fin 8) (s : State) :
    (takeLive k b c s).now = s.now ∧ (takeLive k b c s).held = s.held ∧
    (takeLive k b c s).loader = s.loader ∧ (takeLive k b c s).groups = s.groups ∧
    (takeLive k b c s).marks = s.marks ∧ (takeLive k b c s).zones = s.zones ∧
    (takeLive k b c s).inputs = s.inputs ∧ (takeLive k b c s).points = s.points ∧
    (takeLive k b c s).bus = s.bus ∧ (takeLive k b c s).link = s.link ∧
    (takeLive k b c s).power = s.power ∧ (takeLive k b c s).pending = s.pending := by
  unfold takeLive
  try dsimp only
  (repeat' split) <;> simp [*]

@[simp] theorem takeDiagnostic_frame (k : PowerKind) (b : Byte) (s : State) :
    (takeDiagnostic k b s).now = s.now ∧ (takeDiagnostic k b s).held = s.held ∧
    (takeDiagnostic k b s).loader = s.loader ∧ (takeDiagnostic k b s).groups = s.groups ∧
    (takeDiagnostic k b s).marks = s.marks ∧ (takeDiagnostic k b s).zones = s.zones ∧
    (takeDiagnostic k b s).inputs = s.inputs ∧ (takeDiagnostic k b s).points = s.points ∧
    (takeDiagnostic k b s).bus = s.bus ∧ (takeDiagnostic k b s).link = s.link ∧
    (takeDiagnostic k b s).power = s.power ∧ (takeDiagnostic k b s).pending = s.pending := by
  unfold takeDiagnostic each8
  try dsimp only
  simp

@[simp] theorem raiseFailOn_frame (c : Fin 8) (s : State) :
    (raiseFailOn c s).now = s.now ∧ (raiseFailOn c s).held = s.held ∧
    (raiseFailOn c s).loader = s.loader ∧ (raiseFailOn c s).groups = s.groups ∧
    (raiseFailOn c s).marks = s.marks ∧ (raiseFailOn c s).zones = s.zones ∧
    (raiseFailOn c s).inputs = s.inputs ∧ (raiseFailOn c s).points = s.points ∧
    (raiseFailOn c s).bus = s.bus ∧ (raiseFailOn c s).link = s.link ∧
    (raiseFailOn c s).power = s.power ∧ (raiseFailOn c s).pending = s.pending := by
  unfold raiseFailOn
  try dsimp only
  simp

@[simp] theorem confirmExpiryEnergizing_frame (c : Fin 8) (s : State) :
    (confirmExpiryEnergizing c s).now = s.now ∧ (confirmExpiryEnergizing c s).held = s.held ∧
    (confirmExpiryEnergizing c s).loader = s.loader ∧ (confirmExpiryEnergizing c s).groups = s.groups ∧
    (confirmExpiryEnergizing c s).marks = s.marks ∧ (confirmExpiryEnergizing c s).zones = s.zones ∧
    (confirmExpiryEnergizing c s).inputs = s.inputs ∧ (confirmExpiryEnergizing c s).points = s.points ∧
    (confirmExpiryEnergizing c s).bus = s.bus ∧ (confirmExpiryEnergizing c s).link = s.link ∧
    (confirmExpiryEnergizing c s).power = s.power ∧ (confirmExpiryEnergizing c s).pending = s.pending := by
  unfold confirmExpiryEnergizing
  try dsimp only
  (repeat' split) <;> simp [*]

@[simp] theorem confirmExpiryReleasing_frame (c : Fin 8) (s : State) :
    (confirmExpiryReleasing c s).now = s.now ∧ (confirmExpiryReleasing c s).held = s.held ∧
    (confirmExpiryReleasing c s).loader = s.loader ∧ (confirmExpiryReleasing c s).groups = s.groups ∧
    (confirmExpiryReleasing c s).marks = s.marks ∧ (confirmExpiryReleasing c s).zones = s.zones ∧
    (confirmExpiryReleasing c s).inputs = s.inputs ∧ (confirmExpiryReleasing c s).points = s.points ∧
    (confirmExpiryReleasing c s).bus = s.bus ∧ (confirmExpiryReleasing c s).link = s.link ∧
    (confirmExpiryReleasing c s).power = s.power ∧ (confirmExpiryReleasing c s).pending = s.pending := by
  unfold confirmExpiryReleasing
  try dsimp only
  (repeat' split) <;> simp [*]

@[simp] theorem offCheckExpiry_frame (c : Fin 8) (s : State) :
    (offCheckExpiry c s).now = s.now ∧ (offCheckExpiry c s).held = s.held ∧
    (offCheckExpiry c s).loader = s.loader ∧ (offCheckExpiry c s).groups = s.groups ∧
    (offCheckExpiry c s).marks = s.marks ∧ (offCheckExpiry c s).zones = s.zones ∧
    (offCheckExpiry c s).inputs = s.inputs ∧ (offCheckExpiry c s).points = s.points ∧
    (offCheckExpiry c s).bus = s.bus ∧ (offCheckExpiry c s).link = s.link ∧
    (offCheckExpiry c s).power = s.power ∧ (offCheckExpiry c s).pending = s.pending := by
  unfold offCheckExpiry
  try dsimp only
  (repeat' split) <;> simp [*]

@[simp] theorem holdOverExpiry_frame (c : Fin 8) (i : Fin 4) (s : State) :
    (holdOverExpiry c i s).now = s.now ∧ (holdOverExpiry c i s).held = s.held ∧
    (holdOverExpiry c i s).loader = s.loader ∧ (holdOverExpiry c i s).groups = s.groups ∧
    (holdOverExpiry c i s).marks = s.marks ∧ (holdOverExpiry c i s).zones = s.zones ∧
    (holdOverExpiry c i s).inputs = s.inputs ∧ (holdOverExpiry c i s).points = s.points ∧
    (holdOverExpiry c i s).bus = s.bus ∧ (holdOverExpiry c i s).link = s.link ∧
    (holdOverExpiry c i s).power = s.power ∧ (holdOverExpiry c i s).pending = s.pending := by
  unfold holdOverExpiry
  try dsimp only
  (repeat' split) <;> simp [*]

@[simp] theorem acknowledgeKinds_frame (m : Byte) (k : KindSet) (s : State) :
    (acknowledgeKinds m k s).now = s.now ∧ (acknowledgeKinds m k s).held = s.held ∧
    (acknowledgeKinds m k s).loader = s.loader ∧ (acknowledgeKinds m k s).channels = s.channels ∧
    (acknowledgeKinds m k s).groups = s.groups ∧ (acknowledgeKinds m k s).marks = s.marks ∧
    (acknowledgeKinds m k s).zones = s.zones ∧ (acknowledgeKinds m k s).inputs = s.inputs ∧
    (acknowledgeKinds m k s).points = s.points ∧ (acknowledgeKinds m k s).bus = s.bus ∧
    (acknowledgeKinds m k s).host = s.host ∧ (acknowledgeKinds m k s).link = s.link ∧
    (acknowledgeKinds m k s).power = s.power ∧ (acknowledgeKinds m k s).pending = s.pending := by
  refine ⟨?_, ?_, ?_, ?_, ?_, ?_, ?_, ?_, ?_, ?_, ?_, ?_, ?_, ?_⟩ <;> unfold acknowledgeKinds trackErr <;> dsimp only <;>
    split <;> (try simp only [pendSource_frame]) <;> first
    | exact each8_keeps State.now _ (fun n s => by split <;> simp) _
    | exact each8_keeps State.held _ (fun n s => by split <;> simp) _
    | exact each8_keeps State.loader _ (fun n s => by split <;> simp) _
    | exact each8_keeps State.channels _ (fun n s => by split <;> simp) _
    | exact each8_keeps State.groups _ (fun n s => by split <;> simp) _
    | exact each8_keeps State.marks _ (fun n s => by split <;> simp) _
    | exact each8_keeps State.zones _ (fun n s => by split <;> simp) _
    | exact each8_keeps State.inputs _ (fun n s => by split <;> simp) _
    | exact each8_keeps State.points _ (fun n s => by split <;> simp) _
    | exact each8_keeps State.bus _ (fun n s => by split <;> simp) _
    | exact each8_keeps State.host _ (fun n s => by split <;> simp) _
    | exact each8_keeps State.link _ (fun n s => by split <;> simp) _
    | exact each8_keeps State.power _ (fun n s => by split <;> simp) _
    | exact each8_keeps State.pending _ (fun n s => by split <;> simp) _

@[simp] theorem acknowledgeCauses_frame (m : Byte) (s : State) :
    (acknowledgeCauses m s).now = s.now ∧ (acknowledgeCauses m s).held = s.held ∧
    (acknowledgeCauses m s).loader = s.loader ∧ (acknowledgeCauses m s).groups = s.groups ∧
    (acknowledgeCauses m s).marks = s.marks ∧ (acknowledgeCauses m s).zones = s.zones ∧
    (acknowledgeCauses m s).inputs = s.inputs ∧ (acknowledgeCauses m s).points = s.points ∧
    (acknowledgeCauses m s).bus = s.bus ∧ (acknowledgeCauses m s).link = s.link ∧
    (acknowledgeCauses m s).power = s.power ∧ (acknowledgeCauses m s).pending = s.pending := by
  refine ⟨each8_keeps State.now _ (fun n s => ?_) s,
    each8_keeps State.held _ (fun n s => ?_) s,
    each8_keeps State.loader _ (fun n s => ?_) s,
    each8_keeps State.groups _ (fun n s => ?_) s,
    each8_keeps State.marks _ (fun n s => ?_) s,
    each8_keeps State.zones _ (fun n s => ?_) s,
    each8_keeps State.inputs _ (fun n s => ?_) s,
    each8_keeps State.points _ (fun n s => ?_) s,
    each8_keeps State.bus _ (fun n s => ?_) s,
    each8_keeps State.link _ (fun n s => ?_) s,
    each8_keeps State.power _ (fun n s => ?_) s,
    each8_keeps State.pending _ (fun n s => ?_) s⟩ <;> split <;> simp

@[simp] theorem acknowledgeFlags_frame (s : State) :
    (acknowledgeFlags s).now = s.now ∧ (acknowledgeFlags s).held = s.held ∧
    (acknowledgeFlags s).loader = s.loader ∧ (acknowledgeFlags s).channels = s.channels ∧
    (acknowledgeFlags s).groups = s.groups ∧ (acknowledgeFlags s).marks = s.marks ∧
    (acknowledgeFlags s).zones = s.zones ∧ (acknowledgeFlags s).inputs = s.inputs ∧
    (acknowledgeFlags s).points = s.points ∧ (acknowledgeFlags s).bus = s.bus ∧
    (acknowledgeFlags s).host = s.host ∧ (acknowledgeFlags s).link = s.link ∧
    (acknowledgeFlags s).power = s.power ∧ (acknowledgeFlags s).pending = s.pending := by
  unfold acknowledgeFlags trackErr
  try dsimp only
  (repeat' split) <;> simp [*]

@[simp] theorem acknowledge_frame (m : Byte) (k : KindSet) (b : Bool) (s : State) :
    (acknowledge m k b s).now = s.now ∧ (acknowledge m k b s).held = s.held ∧
    (acknowledge m k b s).loader = s.loader ∧ (acknowledge m k b s).groups = s.groups ∧
    (acknowledge m k b s).marks = s.marks ∧ (acknowledge m k b s).zones = s.zones ∧
    (acknowledge m k b s).inputs = s.inputs ∧ (acknowledge m k b s).points = s.points ∧
    (acknowledge m k b s).bus = s.bus ∧ (acknowledge m k b s).link = s.link ∧
    (acknowledge m k b s).power = s.power ∧ (acknowledge m k b s).pending = s.pending := by
  unfold acknowledge
  try dsimp only
  (repeat' split) <;> simp [*]

@[simp] theorem buildFault_frame (c : Fin 8) (s : State) :
    (buildFault c s).now = s.now ∧ (buildFault c s).held = s.held ∧
    (buildFault c s).loader = s.loader ∧ (buildFault c s).channels = s.channels ∧
    (buildFault c s).groups = s.groups ∧ (buildFault c s).marks = s.marks ∧
    (buildFault c s).zones = s.zones ∧ (buildFault c s).inputs = s.inputs ∧
    (buildFault c s).points = s.points ∧ (buildFault c s).link = s.link ∧
    (buildFault c s).power = s.power ∧ (buildFault c s).pending = s.pending := by
  unfold buildFault
  try dsimp only
  (repeat' split) <;> simp [*]

@[simp] theorem buildFaults_frame (s : State) :
    (buildFaults s).now = s.now ∧ (buildFaults s).held = s.held ∧ (buildFaults s).loader = s.loader ∧
    (buildFaults s).channels = s.channels ∧ (buildFaults s).groups = s.groups ∧
    (buildFaults s).marks = s.marks ∧ (buildFaults s).zones = s.zones ∧
    (buildFaults s).inputs = s.inputs ∧ (buildFaults s).points = s.points ∧
    (buildFaults s).link = s.link ∧ (buildFaults s).power = s.power ∧
    (buildFaults s).pending = s.pending := by
  unfold buildFaults each8
  try dsimp only
  simp

@[simp] theorem pendStickyFaults_frame (s : State) :
    (pendStickyFaults s).now = s.now ∧ (pendStickyFaults s).held = s.held ∧
    (pendStickyFaults s).loader = s.loader ∧ (pendStickyFaults s).channels = s.channels ∧
    (pendStickyFaults s).groups = s.groups ∧ (pendStickyFaults s).marks = s.marks ∧
    (pendStickyFaults s).zones = s.zones ∧ (pendStickyFaults s).inputs = s.inputs ∧
    (pendStickyFaults s).points = s.points ∧ (pendStickyFaults s).pubs = s.pubs ∧
    (pendStickyFaults s).bus = s.bus ∧ (pendStickyFaults s).host = s.host ∧
    (pendStickyFaults s).link = s.link ∧ (pendStickyFaults s).power = s.power ∧
    (pendStickyFaults s).pending = s.pending := by
  refine ⟨each8_keeps State.now _ (fun n s => ?_) s,
    each8_keeps State.held _ (fun n s => ?_) s,
    each8_keeps State.loader _ (fun n s => ?_) s,
    each8_keeps State.channels _ (fun n s => ?_) s,
    each8_keeps State.groups _ (fun n s => ?_) s,
    each8_keeps State.marks _ (fun n s => ?_) s,
    each8_keeps State.zones _ (fun n s => ?_) s,
    each8_keeps State.inputs _ (fun n s => ?_) s,
    each8_keeps State.points _ (fun n s => ?_) s,
    each8_keeps State.pubs _ (fun n s => ?_) s,
    each8_keeps State.bus _ (fun n s => ?_) s,
    each8_keeps State.host _ (fun n s => ?_) s,
    each8_keeps State.link _ (fun n s => ?_) s,
    each8_keeps State.power _ (fun n s => ?_) s,
    each8_keeps State.pending _ (fun n s => ?_) s⟩ <;> split <;> simp

@[simp] theorem sendStatus_frame (s : State) :
    (sendStatus s).now = s.now ∧ (sendStatus s).held = s.held ∧ (sendStatus s).loader = s.loader ∧
    (sendStatus s).channels = s.channels ∧ (sendStatus s).groups = s.groups ∧
    (sendStatus s).marks = s.marks ∧ (sendStatus s).zones = s.zones ∧
    (sendStatus s).inputs = s.inputs ∧ (sendStatus s).points = s.points ∧
    (sendStatus s).link = s.link ∧ (sendStatus s).power = s.power ∧ (sendStatus s).pending = s.pending := by
  unfold sendStatus
  try dsimp only
  simp

@[simp] theorem appendFault_frame (n : Station) (c : Fin 8) (l k : KindSet) (m : Half) (s : State) :
    (appendFault n c l k m s).now = s.now ∧ (appendFault n c l k m s).held = s.held ∧
    (appendFault n c l k m s).loader = s.loader ∧ (appendFault n c l k m s).channels = s.channels ∧
    (appendFault n c l k m s).groups = s.groups ∧ (appendFault n c l k m s).marks = s.marks ∧
    (appendFault n c l k m s).zones = s.zones ∧ (appendFault n c l k m s).inputs = s.inputs ∧
    (appendFault n c l k m s).points = s.points ∧ (appendFault n c l k m s).pubs = s.pubs ∧
    (appendFault n c l k m s).bus = s.bus ∧ (appendFault n c l k m s).host = s.host ∧
    (appendFault n c l k m s).link = s.link ∧ (appendFault n c l k m s).power = s.power ∧
    (appendFault n c l k m s).pending = s.pending := by
  unfold appendFault
  try dsimp only
  (repeat' split) <;> simp [*]

@[simp] theorem refreshPeer_frame (n : Station) (s : State) :
    (refreshPeer n s).now = s.now ∧ (refreshPeer n s).held = s.held ∧
    (refreshPeer n s).loader = s.loader ∧ (refreshPeer n s).channels = s.channels ∧
    (refreshPeer n s).groups = s.groups ∧ (refreshPeer n s).marks = s.marks ∧
    (refreshPeer n s).zones = s.zones ∧ (refreshPeer n s).inputs = s.inputs ∧
    (refreshPeer n s).points = s.points ∧ (refreshPeer n s).pubs = s.pubs ∧
    (refreshPeer n s).bus = s.bus ∧ (refreshPeer n s).host = s.host ∧ (refreshPeer n s).link = s.link ∧
    (refreshPeer n s).power = s.power ∧ (refreshPeer n s).pending = s.pending := by
  unfold refreshPeer
  try dsimp only
  simp

@[simp] theorem markEvent_frame (s : State) :
    (markEvent s).now = s.now ∧ (markEvent s).held = s.held ∧ (markEvent s).loader = s.loader ∧
    (markEvent s).groups = s.groups ∧ (markEvent s).marks = s.marks ∧ (markEvent s).zones = s.zones ∧
    (markEvent s).inputs = s.inputs ∧ (markEvent s).points = s.points ∧ (markEvent s).bus = s.bus ∧
    (markEvent s).link = s.link ∧ (markEvent s).power = s.power ∧ (markEvent s).pending = s.pending := by
  unfold markEvent each8
  try dsimp only
  simp

/-! ## The Group Table -/

@[simp] theorem enterUnknown_frame (e : Fin 8) (s : State) :
    (enterUnknown e s).now = s.now ∧ (enterUnknown e s).held = s.held ∧
    (enterUnknown e s).loader = s.loader ∧ (enterUnknown e s).channels = s.channels ∧
    (enterUnknown e s).marks = s.marks ∧ (enterUnknown e s).zones = s.zones ∧
    (enterUnknown e s).inputs = s.inputs ∧ (enterUnknown e s).points = s.points ∧
    (enterUnknown e s).pubs = s.pubs ∧ (enterUnknown e s).bus = s.bus ∧
    (enterUnknown e s).faults = s.faults ∧ (enterUnknown e s).host = s.host ∧
    (enterUnknown e s).link = s.link ∧ (enterUnknown e s).power = s.power ∧
    (enterUnknown e s).pending = s.pending := by
  unfold enterUnknown
  try dsimp only
  simp

@[simp] theorem enterUnknownLapsed_frame (e : Fin 8) (s : State) :
    (enterUnknownLapsed e s).now = s.now ∧ (enterUnknownLapsed e s).held = s.held ∧
    (enterUnknownLapsed e s).loader = s.loader ∧ (enterUnknownLapsed e s).channels = s.channels ∧
    (enterUnknownLapsed e s).marks = s.marks ∧ (enterUnknownLapsed e s).zones = s.zones ∧
    (enterUnknownLapsed e s).inputs = s.inputs ∧ (enterUnknownLapsed e s).points = s.points ∧
    (enterUnknownLapsed e s).pubs = s.pubs ∧ (enterUnknownLapsed e s).bus = s.bus ∧
    (enterUnknownLapsed e s).faults = s.faults ∧ (enterUnknownLapsed e s).host = s.host ∧
    (enterUnknownLapsed e s).link = s.link ∧ (enterUnknownLapsed e s).power = s.power ∧
    (enterUnknownLapsed e s).pending = s.pending := by
  unfold enterUnknownLapsed
  try dsimp only
  simp

@[simp] theorem enterFree_frame (e : Fin 8) (s : State) :
    (enterFree e s).now = s.now ∧ (enterFree e s).held = s.held ∧ (enterFree e s).loader = s.loader ∧
    (enterFree e s).channels = s.channels ∧ (enterFree e s).marks = s.marks ∧
    (enterFree e s).zones = s.zones ∧ (enterFree e s).inputs = s.inputs ∧
    (enterFree e s).points = s.points ∧ (enterFree e s).pubs = s.pubs ∧ (enterFree e s).bus = s.bus ∧
    (enterFree e s).faults = s.faults ∧ (enterFree e s).host = s.host ∧ (enterFree e s).link = s.link ∧
    (enterFree e s).power = s.power ∧ (enterFree e s).pending = s.pending := by
  unfold enterFree
  try dsimp only
  simp

@[simp] theorem enterFreeHoldOff_frame (e : Fin 8) (s : State) :
    (enterFreeHoldOff e s).now = s.now ∧ (enterFreeHoldOff e s).held = s.held ∧
    (enterFreeHoldOff e s).loader = s.loader ∧ (enterFreeHoldOff e s).channels = s.channels ∧
    (enterFreeHoldOff e s).marks = s.marks ∧ (enterFreeHoldOff e s).zones = s.zones ∧
    (enterFreeHoldOff e s).inputs = s.inputs ∧ (enterFreeHoldOff e s).points = s.points ∧
    (enterFreeHoldOff e s).pubs = s.pubs ∧ (enterFreeHoldOff e s).bus = s.bus ∧
    (enterFreeHoldOff e s).faults = s.faults ∧ (enterFreeHoldOff e s).host = s.host ∧
    (enterFreeHoldOff e s).link = s.link ∧ (enterFreeHoldOff e s).power = s.power ∧
    (enterFreeHoldOff e s).pending = s.pending := by
  unfold enterFreeHoldOff
  try dsimp only
  simp

@[simp] theorem enterDead_frame (e : Fin 8) (s : State) :
    (enterDead e s).now = s.now ∧ (enterDead e s).held = s.held ∧ (enterDead e s).loader = s.loader ∧
    (enterDead e s).channels = s.channels ∧ (enterDead e s).marks = s.marks ∧
    (enterDead e s).zones = s.zones ∧ (enterDead e s).inputs = s.inputs ∧
    (enterDead e s).points = s.points ∧ (enterDead e s).pubs = s.pubs ∧ (enterDead e s).bus = s.bus ∧
    (enterDead e s).faults = s.faults ∧ (enterDead e s).host = s.host ∧ (enterDead e s).link = s.link ∧
    (enterDead e s).power = s.power ∧ (enterDead e s).pending = s.pending := by
  unfold enterDead
  try dsimp only
  (repeat' split) <;> simp [*]

@[simp] theorem enterHeldRemote_frame (e : Fin 8) (h : Holder) (s : State) :
    (enterHeldRemote e h s).now = s.now ∧ (enterHeldRemote e h s).held = s.held ∧
    (enterHeldRemote e h s).loader = s.loader ∧ (enterHeldRemote e h s).channels = s.channels ∧
    (enterHeldRemote e h s).marks = s.marks ∧ (enterHeldRemote e h s).zones = s.zones ∧
    (enterHeldRemote e h s).inputs = s.inputs ∧ (enterHeldRemote e h s).points = s.points ∧
    (enterHeldRemote e h s).pubs = s.pubs ∧ (enterHeldRemote e h s).bus = s.bus ∧
    (enterHeldRemote e h s).faults = s.faults ∧ (enterHeldRemote e h s).host = s.host ∧
    (enterHeldRemote e h s).link = s.link ∧ (enterHeldRemote e h s).power = s.power ∧
    (enterHeldRemote e h s).pending = s.pending := by
  unfold enterHeldRemote
  try dsimp only
  simp

@[simp] theorem offerHold_frame (e c : Fin 8) (b : Bool) (s : State) :
    (offerHold e c b s).now = s.now ∧ (offerHold e c b s).held = s.held ∧
    (offerHold e c b s).loader = s.loader ∧ (offerHold e c b s).channels = s.channels ∧
    (offerHold e c b s).groups = s.groups ∧ (offerHold e c b s).marks = s.marks ∧
    (offerHold e c b s).zones = s.zones ∧ (offerHold e c b s).inputs = s.inputs ∧
    (offerHold e c b s).points = s.points ∧ (offerHold e c b s).link = s.link ∧
    (offerHold e c b s).power = s.power ∧ (offerHold e c b s).pending = s.pending := by
  unfold offerHold
  try dsimp only
  simp

@[simp] theorem offerRelease_frame (e c : Fin 8) (s : State) :
    (offerRelease e c s).now = s.now ∧ (offerRelease e c s).held = s.held ∧
    (offerRelease e c s).loader = s.loader ∧ (offerRelease e c s).channels = s.channels ∧
    (offerRelease e c s).marks = s.marks ∧ (offerRelease e c s).zones = s.zones ∧
    (offerRelease e c s).inputs = s.inputs ∧ (offerRelease e c s).points = s.points ∧
    (offerRelease e c s).link = s.link ∧ (offerRelease e c s).power = s.power ∧
    (offerRelease e c s).pending = s.pending := by
  unfold offerRelease
  try dsimp only
  (repeat' split) <;> simp [*]

@[simp] theorem withdrawClaim_frame (e : Fin 8) (s : State) :
    (withdrawClaim e s).now = s.now ∧ (withdrawClaim e s).held = s.held ∧
    (withdrawClaim e s).loader = s.loader ∧ (withdrawClaim e s).channels = s.channels ∧
    (withdrawClaim e s).groups = s.groups ∧ (withdrawClaim e s).marks = s.marks ∧
    (withdrawClaim e s).zones = s.zones ∧ (withdrawClaim e s).inputs = s.inputs ∧
    (withdrawClaim e s).points = s.points ∧ (withdrawClaim e s).host = s.host ∧
    (withdrawClaim e s).link = s.link ∧ (withdrawClaim e s).power = s.power ∧
    (withdrawClaim e s).pending = s.pending := by
  unfold withdrawClaim
  try dsimp only
  simp

@[simp] theorem withdrawHold_frame (e : Fin 8) (s : State) :
    (withdrawHold e s).now = s.now ∧ (withdrawHold e s).held = s.held ∧
    (withdrawHold e s).loader = s.loader ∧ (withdrawHold e s).channels = s.channels ∧
    (withdrawHold e s).groups = s.groups ∧ (withdrawHold e s).marks = s.marks ∧
    (withdrawHold e s).zones = s.zones ∧ (withdrawHold e s).inputs = s.inputs ∧
    (withdrawHold e s).points = s.points ∧ (withdrawHold e s).host = s.host ∧
    (withdrawHold e s).link = s.link ∧ (withdrawHold e s).power = s.power ∧
    (withdrawHold e s).pending = s.pending := by
  unfold withdrawHold
  try dsimp only
  simp

@[simp] theorem withdrawRelease_frame (e : Fin 8) (s : State) :
    (withdrawRelease e s).now = s.now ∧ (withdrawRelease e s).held = s.held ∧
    (withdrawRelease e s).loader = s.loader ∧ (withdrawRelease e s).channels = s.channels ∧
    (withdrawRelease e s).groups = s.groups ∧ (withdrawRelease e s).marks = s.marks ∧
    (withdrawRelease e s).zones = s.zones ∧ (withdrawRelease e s).inputs = s.inputs ∧
    (withdrawRelease e s).points = s.points ∧ (withdrawRelease e s).host = s.host ∧
    (withdrawRelease e s).link = s.link ∧ (withdrawRelease e s).power = s.power ∧
    (withdrawRelease e s).pending = s.pending := by
  unfold withdrawRelease
  try dsimp only
  simp

@[simp] theorem claimGroup_frame (e c : Fin 8) (s : State) :
    (claimGroup e c s).now = s.now ∧ (claimGroup e c s).held = s.held ∧
    (claimGroup e c s).loader = s.loader ∧ (claimGroup e c s).channels = s.channels ∧
    (claimGroup e c s).marks = s.marks ∧ (claimGroup e c s).zones = s.zones ∧
    (claimGroup e c s).inputs = s.inputs ∧ (claimGroup e c s).points = s.points ∧
    (claimGroup e c s).link = s.link ∧ (claimGroup e c s).power = s.power ∧
    (claimGroup e c s).pending = s.pending := by
  unfold claimGroup
  try dsimp only
  (repeat' split) <;> simp [*]

@[simp] theorem claimIfDue_frame (e : Fin 8) (s : State) :
    (claimIfDue e s).now = s.now ∧ (claimIfDue e s).held = s.held ∧
    (claimIfDue e s).loader = s.loader ∧ (claimIfDue e s).channels = s.channels ∧
    (claimIfDue e s).marks = s.marks ∧ (claimIfDue e s).zones = s.zones ∧
    (claimIfDue e s).inputs = s.inputs ∧ (claimIfDue e s).points = s.points ∧
    (claimIfDue e s).link = s.link ∧ (claimIfDue e s).power = s.power ∧
    (claimIfDue e s).pending = s.pending := by
  unfold claimIfDue
  try dsimp only
  (repeat' split) <;> simp [*]

@[simp] theorem sendRevoke_frame (x : Entry) (s : State) :
    (sendRevoke x s).now = s.now ∧ (sendRevoke x s).held = s.held ∧
    (sendRevoke x s).loader = s.loader ∧ (sendRevoke x s).groups = s.groups ∧
    (sendRevoke x s).marks = s.marks ∧ (sendRevoke x s).zones = s.zones ∧
    (sendRevoke x s).inputs = s.inputs ∧ (sendRevoke x s).points = s.points ∧
    (sendRevoke x s).pubs = s.pubs ∧ (sendRevoke x s).bus = s.bus ∧
    (sendRevoke x s).faults = s.faults ∧ (sendRevoke x s).host = s.host ∧
    (sendRevoke x s).link = s.link ∧ (sendRevoke x s).power = s.power ∧
    (sendRevoke x s).pending = s.pending := by
  unfold sendRevoke
  try dsimp only
  (repeat' split) <;> simp [*]

@[simp] theorem queueRelease_frame (e : Fin 8) (x : Entry) (s : State) :
    (queueRelease e x s).now = s.now ∧ (queueRelease e x s).held = s.held ∧
    (queueRelease e x s).loader = s.loader ∧ (queueRelease e x s).channels = s.channels ∧
    (queueRelease e x s).marks = s.marks ∧ (queueRelease e x s).zones = s.zones ∧
    (queueRelease e x s).inputs = s.inputs ∧ (queueRelease e x s).points = s.points ∧
    (queueRelease e x s).link = s.link ∧ (queueRelease e x s).power = s.power ∧
    (queueRelease e x s).pending = s.pending := by
  unfold queueRelease
  try dsimp only
  simp

@[simp] theorem settleDone_frame (e : Fin 8) (x : Entry) (s : State) :
    (settleDone e x s).now = s.now ∧ (settleDone e x s).held = s.held ∧
    (settleDone e x s).loader = s.loader ∧ (settleDone e x s).channels = s.channels ∧
    (settleDone e x s).marks = s.marks ∧ (settleDone e x s).zones = s.zones ∧
    (settleDone e x s).inputs = s.inputs ∧ (settleDone e x s).points = s.points ∧
    (settleDone e x s).link = s.link ∧ (settleDone e x s).power = s.power ∧
    (settleDone e x s).pending = s.pending := by
  unfold settleDone
  try dsimp only
  (repeat' split) <;> simp [*]

@[simp] theorem doneAt_frame (e c : Fin 8) (s : State) :
    (doneAt e c s).now = s.now ∧ (doneAt e c s).held = s.held ∧ (doneAt e c s).loader = s.loader ∧
    (doneAt e c s).channels = s.channels ∧ (doneAt e c s).marks = s.marks ∧
    (doneAt e c s).zones = s.zones ∧ (doneAt e c s).inputs = s.inputs ∧
    (doneAt e c s).points = s.points ∧ (doneAt e c s).link = s.link ∧ (doneAt e c s).power = s.power ∧
    (doneAt e c s).pending = s.pending := by
  unfold doneAt
  try dsimp only
  (repeat' split) <;> simp [*]

@[simp] theorem requestAt_frame (e c : Fin 8) (s : State) :
    (requestAt e c s).now = s.now ∧ (requestAt e c s).held = s.held ∧
    (requestAt e c s).loader = s.loader ∧ (requestAt e c s).channels = s.channels ∧
    (requestAt e c s).marks = s.marks ∧ (requestAt e c s).zones = s.zones ∧
    (requestAt e c s).inputs = s.inputs ∧ (requestAt e c s).points = s.points ∧
    (requestAt e c s).pubs = s.pubs ∧ (requestAt e c s).bus = s.bus ∧
    (requestAt e c s).faults = s.faults ∧ (requestAt e c s).host = s.host ∧
    (requestAt e c s).link = s.link ∧ (requestAt e c s).power = s.power ∧
    (requestAt e c s).pending = s.pending := by
  unfold requestAt
  try dsimp only
  simp

@[simp] theorem cancelAt_frame (e c : Fin 8) (s : State) :
    (cancelAt e c s).now = s.now ∧ (cancelAt e c s).held = s.held ∧
    (cancelAt e c s).loader = s.loader ∧ (cancelAt e c s).channels = s.channels ∧
    (cancelAt e c s).marks = s.marks ∧ (cancelAt e c s).zones = s.zones ∧
    (cancelAt e c s).inputs = s.inputs ∧ (cancelAt e c s).points = s.points ∧
    (cancelAt e c s).host = s.host ∧ (cancelAt e c s).link = s.link ∧
    (cancelAt e c s).power = s.power ∧ (cancelAt e c s).pending = s.pending := by
  unfold cancelAt
  try dsimp only
  (repeat' split) <;> simp [*]

@[simp] theorem yieldTo_frame (e : Fin 8) (x : Entry) (h : Holder) (s : State) :
    (yieldTo e x h s).now = s.now ∧ (yieldTo e x h s).held = s.held ∧
    (yieldTo e x h s).loader = s.loader ∧ (yieldTo e x h s).marks = s.marks ∧
    (yieldTo e x h s).zones = s.zones ∧ (yieldTo e x h s).inputs = s.inputs ∧
    (yieldTo e x h s).points = s.points ∧ (yieldTo e x h s).link = s.link ∧
    (yieldTo e x h s).power = s.power ∧ (yieldTo e x h s).pending = s.pending := by
  unfold yieldTo
  try dsimp only
  (repeat' split) <;> simp [*]

@[simp] theorem foreignClaim_frame (e : Fin 8) (h : Holder) (s : State) :
    (foreignClaim e h s).now = s.now ∧ (foreignClaim e h s).held = s.held ∧
    (foreignClaim e h s).loader = s.loader ∧ (foreignClaim e h s).channels = s.channels ∧
    (foreignClaim e h s).marks = s.marks ∧ (foreignClaim e h s).zones = s.zones ∧
    (foreignClaim e h s).inputs = s.inputs ∧ (foreignClaim e h s).points = s.points ∧
    (foreignClaim e h s).link = s.link ∧ (foreignClaim e h s).power = s.power ∧
    (foreignClaim e h s).pending = s.pending := by
  unfold foreignClaim
  try dsimp only
  (repeat' split) <;> simp [*]

@[simp] theorem ownClaim_frame (e : Fin 8) (s : State) :
    (ownClaim e s).now = s.now ∧ (ownClaim e s).held = s.held ∧ (ownClaim e s).loader = s.loader ∧
    (ownClaim e s).channels = s.channels ∧ (ownClaim e s).marks = s.marks ∧
    (ownClaim e s).zones = s.zones ∧ (ownClaim e s).inputs = s.inputs ∧
    (ownClaim e s).points = s.points ∧ (ownClaim e s).pubs = s.pubs ∧ (ownClaim e s).bus = s.bus ∧
    (ownClaim e s).faults = s.faults ∧ (ownClaim e s).host = s.host ∧ (ownClaim e s).link = s.link ∧
    (ownClaim e s).power = s.power ∧ (ownClaim e s).pending = s.pending := by
  unfold ownClaim
  try dsimp only
  (repeat' split) <;> simp [*]

@[simp] theorem foreignHold_frame (e : Fin 8) (h : Holder) (b : Bool) (s : State) :
    (foreignHold e h b s).now = s.now ∧ (foreignHold e h b s).held = s.held ∧
    (foreignHold e h b s).loader = s.loader ∧ (foreignHold e h b s).marks = s.marks ∧
    (foreignHold e h b s).zones = s.zones ∧ (foreignHold e h b s).inputs = s.inputs ∧
    (foreignHold e h b s).points = s.points ∧ (foreignHold e h b s).link = s.link ∧
    (foreignHold e h b s).power = s.power ∧ (foreignHold e h b s).pending = s.pending := by
  unfold foreignHold
  try dsimp only
  (repeat' split) <;> simp [*]

@[simp] theorem ownHold_frame (e : Fin 8) (s : State) :
    (ownHold e s).now = s.now ∧ (ownHold e s).held = s.held ∧ (ownHold e s).loader = s.loader ∧
    (ownHold e s).channels = s.channels ∧ (ownHold e s).marks = s.marks ∧
    (ownHold e s).zones = s.zones ∧ (ownHold e s).inputs = s.inputs ∧ (ownHold e s).points = s.points ∧
    (ownHold e s).pubs = s.pubs ∧ (ownHold e s).bus = s.bus ∧ (ownHold e s).faults = s.faults ∧
    (ownHold e s).host = s.host ∧ (ownHold e s).link = s.link ∧ (ownHold e s).power = s.power ∧
    (ownHold e s).pending = s.pending := by
  unfold ownHold
  try dsimp only
  (repeat' split) <;> simp [*]

@[simp] theorem foreignRelease_frame (e : Fin 8) (n : Station) (s : State) :
    (foreignRelease e n s).now = s.now ∧ (foreignRelease e n s).held = s.held ∧
    (foreignRelease e n s).loader = s.loader ∧ (foreignRelease e n s).channels = s.channels ∧
    (foreignRelease e n s).marks = s.marks ∧ (foreignRelease e n s).zones = s.zones ∧
    (foreignRelease e n s).inputs = s.inputs ∧ (foreignRelease e n s).points = s.points ∧
    (foreignRelease e n s).link = s.link ∧ (foreignRelease e n s).power = s.power ∧
    (foreignRelease e n s).pending = s.pending := by
  unfold foreignRelease
  try dsimp only
  (repeat' split) <;> simp [*]

@[simp] theorem ownRelease_frame (e : Fin 8) (s : State) :
    (ownRelease e s).now = s.now ∧ (ownRelease e s).held = s.held ∧
    (ownRelease e s).loader = s.loader ∧ (ownRelease e s).channels = s.channels ∧
    (ownRelease e s).marks = s.marks ∧ (ownRelease e s).zones = s.zones ∧
    (ownRelease e s).inputs = s.inputs ∧ (ownRelease e s).points = s.points ∧
    (ownRelease e s).pubs = s.pubs ∧ (ownRelease e s).bus = s.bus ∧
    (ownRelease e s).faults = s.faults ∧ (ownRelease e s).host = s.host ∧
    (ownRelease e s).link = s.link ∧ (ownRelease e s).power = s.power ∧
    (ownRelease e s).pending = s.pending := by
  unfold ownRelease
  try dsimp only
  (repeat' split) <;> simp [*]

@[simp] theorem claimAbandoned_frame (e : Fin 8) (s : State) :
    (claimAbandoned e s).now = s.now ∧ (claimAbandoned e s).held = s.held ∧
    (claimAbandoned e s).loader = s.loader ∧ (claimAbandoned e s).channels = s.channels ∧
    (claimAbandoned e s).marks = s.marks ∧ (claimAbandoned e s).zones = s.zones ∧
    (claimAbandoned e s).inputs = s.inputs ∧ (claimAbandoned e s).points = s.points ∧
    (claimAbandoned e s).pubs = s.pubs ∧ (claimAbandoned e s).bus = s.bus ∧
    (claimAbandoned e s).faults = s.faults ∧ (claimAbandoned e s).host = s.host ∧
    (claimAbandoned e s).link = s.link ∧ (claimAbandoned e s).power = s.power ∧
    (claimAbandoned e s).pending = s.pending := by
  unfold claimAbandoned
  try dsimp only
  (repeat' split) <;> simp [*]

@[simp] theorem releaseAbandoned_frame (e : Fin 8) (s : State) :
    (releaseAbandoned e s).now = s.now ∧ (releaseAbandoned e s).held = s.held ∧
    (releaseAbandoned e s).loader = s.loader ∧ (releaseAbandoned e s).channels = s.channels ∧
    (releaseAbandoned e s).marks = s.marks ∧ (releaseAbandoned e s).zones = s.zones ∧
    (releaseAbandoned e s).inputs = s.inputs ∧ (releaseAbandoned e s).points = s.points ∧
    (releaseAbandoned e s).pubs = s.pubs ∧ (releaseAbandoned e s).bus = s.bus ∧
    (releaseAbandoned e s).faults = s.faults ∧ (releaseAbandoned e s).host = s.host ∧
    (releaseAbandoned e s).link = s.link ∧ (releaseAbandoned e s).power = s.power ∧
    (releaseAbandoned e s).pending = s.pending := by
  unfold releaseAbandoned
  try dsimp only
  (repeat' split) <;> simp [*]

@[simp] theorem holdExpiry_frame (e : Fin 8) (s : State) :
    (holdExpiry e s).now = s.now ∧ (holdExpiry e s).held = s.held ∧
    (holdExpiry e s).loader = s.loader ∧ (holdExpiry e s).channels = s.channels ∧
    (holdExpiry e s).marks = s.marks ∧ (holdExpiry e s).zones = s.zones ∧
    (holdExpiry e s).inputs = s.inputs ∧ (holdExpiry e s).points = s.points ∧
    (holdExpiry e s).link = s.link ∧ (holdExpiry e s).power = s.power ∧
    (holdExpiry e s).pending = s.pending := by
  unfold holdExpiry
  try dsimp only
  (repeat' split) <;> simp [*]

@[simp] theorem retryExpiry_frame (e : Fin 8) (s : State) :
    (retryExpiry e s).now = s.now ∧ (retryExpiry e s).held = s.held ∧
    (retryExpiry e s).loader = s.loader ∧ (retryExpiry e s).channels = s.channels ∧
    (retryExpiry e s).marks = s.marks ∧ (retryExpiry e s).zones = s.zones ∧
    (retryExpiry e s).inputs = s.inputs ∧ (retryExpiry e s).points = s.points ∧
    (retryExpiry e s).pubs = s.pubs ∧ (retryExpiry e s).bus = s.bus ∧
    (retryExpiry e s).faults = s.faults ∧ (retryExpiry e s).host = s.host ∧
    (retryExpiry e s).link = s.link ∧ (retryExpiry e s).power = s.power ∧
    (retryExpiry e s).pending = s.pending := by
  unfold retryExpiry
  try dsimp only
  (repeat' split) <;> simp [*]

@[simp] theorem lifetimeExpiry_frame (e : Fin 8) (s : State) :
    (lifetimeExpiry e s).now = s.now ∧ (lifetimeExpiry e s).held = s.held ∧
    (lifetimeExpiry e s).loader = s.loader ∧ (lifetimeExpiry e s).channels = s.channels ∧
    (lifetimeExpiry e s).marks = s.marks ∧ (lifetimeExpiry e s).zones = s.zones ∧
    (lifetimeExpiry e s).inputs = s.inputs ∧ (lifetimeExpiry e s).points = s.points ∧
    (lifetimeExpiry e s).pubs = s.pubs ∧ (lifetimeExpiry e s).bus = s.bus ∧
    (lifetimeExpiry e s).faults = s.faults ∧ (lifetimeExpiry e s).host = s.host ∧
    (lifetimeExpiry e s).link = s.link ∧ (lifetimeExpiry e s).power = s.power ∧
    (lifetimeExpiry e s).pending = s.pending := by
  unfold lifetimeExpiry
  try dsimp only
  (repeat' split) <;> simp [*]

@[simp] theorem windowExpiry_frame (e : Fin 8) (s : State) :
    (windowExpiry e s).now = s.now ∧ (windowExpiry e s).held = s.held ∧
    (windowExpiry e s).loader = s.loader ∧ (windowExpiry e s).marks = s.marks ∧
    (windowExpiry e s).zones = s.zones ∧ (windowExpiry e s).inputs = s.inputs ∧
    (windowExpiry e s).points = s.points ∧ (windowExpiry e s).link = s.link ∧
    (windowExpiry e s).power = s.power ∧ (windowExpiry e s).pending = s.pending := by
  unfold windowExpiry
  try dsimp only
  (repeat' split) <;> simp [*]

@[simp] theorem deadExpiry_frame (e : Fin 8) (s : State) :
    (deadExpiry e s).now = s.now ∧ (deadExpiry e s).held = s.held ∧
    (deadExpiry e s).loader = s.loader ∧ (deadExpiry e s).channels = s.channels ∧
    (deadExpiry e s).marks = s.marks ∧ (deadExpiry e s).zones = s.zones ∧
    (deadExpiry e s).inputs = s.inputs ∧ (deadExpiry e s).points = s.points ∧
    (deadExpiry e s).pubs = s.pubs ∧ (deadExpiry e s).bus = s.bus ∧
    (deadExpiry e s).faults = s.faults ∧ (deadExpiry e s).host = s.host ∧
    (deadExpiry e s).link = s.link ∧ (deadExpiry e s).power = s.power ∧
    (deadExpiry e s).pending = s.pending := by
  unfold deadExpiry
  try dsimp only
  (repeat' split) <;> simp [*]

@[simp] theorem lapseExpiry_frame (e : Fin 8) (s : State) :
    (lapseExpiry e s).now = s.now ∧ (lapseExpiry e s).held = s.held ∧
    (lapseExpiry e s).loader = s.loader ∧ (lapseExpiry e s).marks = s.marks ∧
    (lapseExpiry e s).zones = s.zones ∧ (lapseExpiry e s).inputs = s.inputs ∧
    (lapseExpiry e s).points = s.points ∧ (lapseExpiry e s).pubs = s.pubs ∧
    (lapseExpiry e s).bus = s.bus ∧ (lapseExpiry e s).faults = s.faults ∧
    (lapseExpiry e s).host = s.host ∧ (lapseExpiry e s).link = s.link ∧
    (lapseExpiry e s).power = s.power ∧ (lapseExpiry e s).pending = s.pending := by
  unfold lapseExpiry
  try dsimp only
  (repeat' split) <;> simp [*]

@[simp] theorem groupLeaves_frame (e : Fin 8) (s : State) :
    (groupLeaves e s).now = s.now ∧ (groupLeaves e s).held = s.held ∧
    (groupLeaves e s).loader = s.loader ∧ (groupLeaves e s).marks = s.marks ∧
    (groupLeaves e s).zones = s.zones ∧ (groupLeaves e s).inputs = s.inputs ∧
    (groupLeaves e s).points = s.points ∧ (groupLeaves e s).pubs = s.pubs ∧
    (groupLeaves e s).bus = s.bus ∧ (groupLeaves e s).faults = s.faults ∧
    (groupLeaves e s).host = s.host ∧ (groupLeaves e s).link = s.link ∧
    (groupLeaves e s).power = s.power ∧ (groupLeaves e s).pending = s.pending := by
  unfold groupLeaves
  try dsimp only
  (repeat' split) <;> simp [*]

@[simp] theorem groupOnLine_frame (e : Fin 8) (s : State) :
    (groupOnLine e s).now = s.now ∧ (groupOnLine e s).held = s.held ∧
    (groupOnLine e s).loader = s.loader ∧ (groupOnLine e s).channels = s.channels ∧
    (groupOnLine e s).marks = s.marks ∧ (groupOnLine e s).zones = s.zones ∧
    (groupOnLine e s).inputs = s.inputs ∧ (groupOnLine e s).points = s.points ∧
    (groupOnLine e s).link = s.link ∧ (groupOnLine e s).power = s.power ∧
    (groupOnLine e s).pending = s.pending := by
  unfold groupOnLine
  try dsimp only
  (repeat' split) <;> simp [*]

@[simp] theorem groupHello_frame (e : Fin 8) (s : State) :
    (groupHello e s).now = s.now ∧ (groupHello e s).held = s.held ∧
    (groupHello e s).loader = s.loader ∧ (groupHello e s).channels = s.channels ∧
    (groupHello e s).groups = s.groups ∧ (groupHello e s).marks = s.marks ∧
    (groupHello e s).zones = s.zones ∧ (groupHello e s).inputs = s.inputs ∧
    (groupHello e s).points = s.points ∧ (groupHello e s).link = s.link ∧
    (groupHello e s).power = s.power ∧ (groupHello e s).pending = s.pending := by
  unfold groupHello
  try dsimp only
  (repeat' split) <;> simp [*]

/-! ## The Zone Table and the sense inputs -/

@[simp] theorem forceTrip_frame (z : Fin 8) (s : State) :
    (forceTrip z s).now = s.now ∧ (forceTrip z s).held = s.held ∧ (forceTrip z s).loader = s.loader ∧
    (forceTrip z s).groups = s.groups ∧ (forceTrip z s).marks = s.marks ∧
    (forceTrip z s).zones = s.zones ∧ (forceTrip z s).inputs = s.inputs ∧
    (forceTrip z s).points = s.points ∧ (forceTrip z s).bus = s.bus ∧ (forceTrip z s).link = s.link ∧
    (forceTrip z s).power = s.power ∧ (forceTrip z s).pending = s.pending := by
  refine ⟨each8_keeps State.now _ (fun n s => ?_) s,
    each8_keeps State.held _ (fun n s => ?_) s,
    each8_keeps State.loader _ (fun n s => ?_) s,
    each8_keeps State.groups _ (fun n s => ?_) s,
    each8_keeps State.marks _ (fun n s => ?_) s,
    each8_keeps State.zones _ (fun n s => ?_) s,
    each8_keeps State.inputs _ (fun n s => ?_) s,
    each8_keeps State.points _ (fun n s => ?_) s,
    each8_keeps State.bus _ (fun n s => ?_) s,
    each8_keeps State.link _ (fun n s => ?_) s,
    each8_keeps State.power _ (fun n s => ?_) s,
    each8_keeps State.pending _ (fun n s => ?_) s⟩ <;> split <;> simp

@[simp] theorem tripZone_frame (z : Fin 8) (n : Station) (k : TripCause) (s : State) :
    (tripZone z n k s).now = s.now ∧ (tripZone z n k s).held = s.held ∧
    (tripZone z n k s).loader = s.loader ∧ (tripZone z n k s).groups = s.groups ∧
    (tripZone z n k s).marks = s.marks ∧ (tripZone z n k s).inputs = s.inputs ∧
    (tripZone z n k s).points = s.points ∧ (tripZone z n k s).bus = s.bus ∧
    (tripZone z n k s).link = s.link ∧ (tripZone z n k s).power = s.power ∧
    (tripZone z n k s).pending = s.pending := by
  unfold tripZone
  try dsimp only
  (repeat' split) <;> simp [*]

@[simp] theorem queueTrip_frame (m : Byte) (k : TripCause) (s : State) :
    (queueTrip m k s).now = s.now ∧ (queueTrip m k s).held = s.held ∧
    (queueTrip m k s).loader = s.loader ∧ (queueTrip m k s).channels = s.channels ∧
    (queueTrip m k s).groups = s.groups ∧ (queueTrip m k s).marks = s.marks ∧
    (queueTrip m k s).zones = s.zones ∧ (queueTrip m k s).inputs = s.inputs ∧
    (queueTrip m k s).points = s.points ∧ (queueTrip m k s).link = s.link ∧
    (queueTrip m k s).power = s.power ∧ (queueTrip m k s).pending = s.pending := by
  unfold queueTrip
  try dsimp only
  (repeat' split) <;> simp [*]

@[simp] theorem tripInputActive_frame (z : Fin 8) (s : State) :
    (tripInputActive z s).now = s.now ∧ (tripInputActive z s).held = s.held ∧
    (tripInputActive z s).loader = s.loader ∧ (tripInputActive z s).groups = s.groups ∧
    (tripInputActive z s).marks = s.marks ∧ (tripInputActive z s).inputs = s.inputs ∧
    (tripInputActive z s).points = s.points ∧ (tripInputActive z s).link = s.link ∧
    (tripInputActive z s).power = s.power ∧ (tripInputActive z s).pending = s.pending := by
  unfold tripInputActive
  try dsimp only
  simp

@[simp] theorem tripInputInactive_frame (z : Fin 8) (s : State) :
    (tripInputInactive z s).now = s.now ∧ (tripInputInactive z s).held = s.held ∧
    (tripInputInactive z s).loader = s.loader ∧ (tripInputInactive z s).channels = s.channels ∧
    (tripInputInactive z s).groups = s.groups ∧ (tripInputInactive z s).marks = s.marks ∧
    (tripInputInactive z s).inputs = s.inputs ∧ (tripInputInactive z s).points = s.points ∧
    (tripInputInactive z s).pubs = s.pubs ∧ (tripInputInactive z s).bus = s.bus ∧
    (tripInputInactive z s).faults = s.faults ∧ (tripInputInactive z s).host = s.host ∧
    (tripInputInactive z s).link = s.link ∧ (tripInputInactive z s).power = s.power ∧
    (tripInputInactive z s).pending = s.pending := by
  unfold tripInputInactive
  try dsimp only
  simp

@[simp] theorem hostTripZone_frame (z : Fin 8) (s : State) :
    (hostTripZone z s).now = s.now ∧ (hostTripZone z s).held = s.held ∧
    (hostTripZone z s).loader = s.loader ∧ (hostTripZone z s).groups = s.groups ∧
    (hostTripZone z s).marks = s.marks ∧ (hostTripZone z s).inputs = s.inputs ∧
    (hostTripZone z s).points = s.points ∧ (hostTripZone z s).link = s.link ∧
    (hostTripZone z s).power = s.power ∧ (hostTripZone z s).pending = s.pending := by
  unfold hostTripZone
  try dsimp only
  (repeat' split) <;> simp [*]

theorem onZones_keeps {α : Type} (g : State → α) (m : Byte) (f : Fin 8 → State → State)
    (h : ∀ n s, g (f n s) = g s) (s : State) : g (onZones m f s) = g s := by
  refine each8_keeps g _ (fun n s => ?_) s
  split <;> simp [h]

@[simp] theorem hostTripZones_frame (m : Byte) (s : State) :
    (hostTripZones m s).now = s.now ∧ (hostTripZones m s).held = s.held ∧
    (hostTripZones m s).loader = s.loader ∧ (hostTripZones m s).groups = s.groups ∧
    (hostTripZones m s).marks = s.marks ∧ (hostTripZones m s).inputs = s.inputs ∧
    (hostTripZones m s).points = s.points ∧ (hostTripZones m s).link = s.link ∧
    (hostTripZones m s).power = s.power ∧ (hostTripZones m s).pending = s.pending := by
  unfold hostTripZones
  simp only [queueTrip_frame, true_and]
  exact ⟨onZones_keeps State.now _ _ (fun n s => by simp) s,
    onZones_keeps State.held _ _ (fun n s => by simp) s,
    onZones_keeps State.loader _ _ (fun n s => by simp) s,
    onZones_keeps State.groups _ _ (fun n s => by simp) s,
    onZones_keeps State.marks _ _ (fun n s => by simp) s,
    onZones_keeps State.inputs _ _ (fun n s => by simp) s,
    onZones_keeps State.points _ _ (fun n s => by simp) s,
    onZones_keeps State.link _ _ (fun n s => by simp) s,
    onZones_keeps State.power _ _ (fun n s => by simp) s,
    onZones_keeps State.pending _ _ (fun n s => by simp) s⟩

@[simp] theorem takenTripZone_frame (n : Station) (k : TripCause) (z : Fin 8) (s : State) :
    (takenTripZone n k z s).now = s.now ∧ (takenTripZone n k z s).held = s.held ∧
    (takenTripZone n k z s).loader = s.loader ∧ (takenTripZone n k z s).groups = s.groups ∧
    (takenTripZone n k z s).marks = s.marks ∧ (takenTripZone n k z s).inputs = s.inputs ∧
    (takenTripZone n k z s).points = s.points ∧ (takenTripZone n k z s).bus = s.bus ∧
    (takenTripZone n k z s).link = s.link ∧ (takenTripZone n k z s).power = s.power ∧
    (takenTripZone n k z s).pending = s.pending := by
  unfold takenTripZone
  try dsimp only
  (repeat' split) <;> simp [*]

@[simp] theorem queueClear_frame (m : Byte) (s : State) :
    (queueClear m s).now = s.now ∧ (queueClear m s).held = s.held ∧
    (queueClear m s).loader = s.loader ∧ (queueClear m s).channels = s.channels ∧
    (queueClear m s).groups = s.groups ∧ (queueClear m s).marks = s.marks ∧
    (queueClear m s).zones = s.zones ∧ (queueClear m s).inputs = s.inputs ∧
    (queueClear m s).points = s.points ∧ (queueClear m s).link = s.link ∧
    (queueClear m s).power = s.power ∧ (queueClear m s).pending = s.pending := by
  unfold queueClear
  try dsimp only
  (repeat' split) <;> simp [*]

@[simp] theorem withdrawTrip_frame (z : Fin 8) (s : State) :
    (withdrawTrip z s).now = s.now ∧ (withdrawTrip z s).held = s.held ∧
    (withdrawTrip z s).loader = s.loader ∧ (withdrawTrip z s).groups = s.groups ∧
    (withdrawTrip z s).marks = s.marks ∧ (withdrawTrip z s).zones = s.zones ∧
    (withdrawTrip z s).inputs = s.inputs ∧ (withdrawTrip z s).points = s.points ∧
    (withdrawTrip z s).bus = s.bus ∧ (withdrawTrip z s).link = s.link ∧
    (withdrawTrip z s).power = s.power ∧ (withdrawTrip z s).pending = s.pending := by
  refine ⟨each8_keeps State.now _ (fun n s => ?_) s,
    each8_keeps State.held _ (fun n s => ?_) s,
    each8_keeps State.loader _ (fun n s => ?_) s,
    each8_keeps State.groups _ (fun n s => ?_) s,
    each8_keeps State.marks _ (fun n s => ?_) s,
    each8_keeps State.zones _ (fun n s => ?_) s,
    each8_keeps State.inputs _ (fun n s => ?_) s,
    each8_keeps State.points _ (fun n s => ?_) s,
    each8_keeps State.bus _ (fun n s => ?_) s,
    each8_keeps State.link _ (fun n s => ?_) s,
    each8_keeps State.power _ (fun n s => ?_) s,
    each8_keeps State.pending _ (fun n s => ?_) s⟩ <;> split <;> simp

@[simp] theorem takenClearZone_frame (z : Fin 8) (s : State) :
    (takenClearZone z s).now = s.now ∧ (takenClearZone z s).held = s.held ∧
    (takenClearZone z s).loader = s.loader ∧ (takenClearZone z s).groups = s.groups ∧
    (takenClearZone z s).marks = s.marks ∧ (takenClearZone z s).inputs = s.inputs ∧
    (takenClearZone z s).points = s.points ∧ (takenClearZone z s).link = s.link ∧
    (takenClearZone z s).power = s.power ∧ (takenClearZone z s).pending = s.pending := by
  unfold takenClearZone
  try dsimp only
  (repeat' split) <;> simp [*]

@[simp] theorem zonesOnLine_frame (s : State) :
    (zonesOnLine s).now = s.now ∧ (zonesOnLine s).held = s.held ∧ (zonesOnLine s).loader = s.loader ∧
    (zonesOnLine s).channels = s.channels ∧ (zonesOnLine s).groups = s.groups ∧
    (zonesOnLine s).marks = s.marks ∧ (zonesOnLine s).zones = s.zones ∧
    (zonesOnLine s).inputs = s.inputs ∧ (zonesOnLine s).points = s.points ∧
    (zonesOnLine s).link = s.link ∧ (zonesOnLine s).power = s.power ∧
    (zonesOnLine s).pending = s.pending := by
  unfold zonesOnLine
  try dsimp only
  simp

@[simp] theorem zonesHello_frame (s : State) :
    (zonesHello s).now = s.now ∧ (zonesHello s).held = s.held ∧ (zonesHello s).loader = s.loader ∧
    (zonesHello s).channels = s.channels ∧ (zonesHello s).groups = s.groups ∧
    (zonesHello s).marks = s.marks ∧ (zonesHello s).zones = s.zones ∧
    (zonesHello s).inputs = s.inputs ∧ (zonesHello s).points = s.points ∧
    (zonesHello s).link = s.link ∧ (zonesHello s).power = s.power ∧ (zonesHello s).pending = s.pending := by
  unfold zonesHello
  try dsimp only
  simp

@[simp] theorem tripAbandoned_frame (m : Byte) (k : TripCause) (s : State) :
    (tripAbandoned m k s).now = s.now ∧ (tripAbandoned m k s).held = s.held ∧
    (tripAbandoned m k s).loader = s.loader ∧ (tripAbandoned m k s).channels = s.channels ∧
    (tripAbandoned m k s).groups = s.groups ∧ (tripAbandoned m k s).marks = s.marks ∧
    (tripAbandoned m k s).zones = s.zones ∧ (tripAbandoned m k s).inputs = s.inputs ∧
    (tripAbandoned m k s).points = s.points ∧ (tripAbandoned m k s).link = s.link ∧
    (tripAbandoned m k s).power = s.power ∧ (tripAbandoned m k s).pending = s.pending := by
  unfold tripAbandoned
  try dsimp only
  simp

@[simp] theorem forceShutdown_frame (s : State) :
    (forceShutdown s).now = s.now ∧ (forceShutdown s).held = s.held ∧
    (forceShutdown s).loader = s.loader ∧ (forceShutdown s).groups = s.groups ∧
    (forceShutdown s).marks = s.marks ∧ (forceShutdown s).zones = s.zones ∧
    (forceShutdown s).inputs = s.inputs ∧ (forceShutdown s).points = s.points ∧
    (forceShutdown s).bus = s.bus ∧ (forceShutdown s).link = s.link ∧
    (forceShutdown s).power = s.power ∧ (forceShutdown s).pending = s.pending := by
  unfold forceShutdown each8
  try dsimp only
  simp

@[simp] theorem withdrawShutdown_frame (s : State) :
    (withdrawShutdown s).now = s.now ∧ (withdrawShutdown s).held = s.held ∧
    (withdrawShutdown s).loader = s.loader ∧ (withdrawShutdown s).groups = s.groups ∧
    (withdrawShutdown s).marks = s.marks ∧ (withdrawShutdown s).zones = s.zones ∧
    (withdrawShutdown s).inputs = s.inputs ∧ (withdrawShutdown s).points = s.points ∧
    (withdrawShutdown s).bus = s.bus ∧ (withdrawShutdown s).link = s.link ∧
    (withdrawShutdown s).power = s.power ∧ (withdrawShutdown s).pending = s.pending := by
  unfold withdrawShutdown each8
  try dsimp only
  simp

@[simp] theorem shutdownChange_frame (b : Bool) (s : State) :
    (shutdownChange b s).now = s.now ∧ (shutdownChange b s).held = s.held ∧
    (shutdownChange b s).loader = s.loader ∧ (shutdownChange b s).groups = s.groups ∧
    (shutdownChange b s).marks = s.marks ∧ (shutdownChange b s).inputs = s.inputs ∧
    (shutdownChange b s).points = s.points ∧ (shutdownChange b s).bus = s.bus ∧
    (shutdownChange b s).link = s.link ∧ (shutdownChange b s).power = s.power ∧
    (shutdownChange b s).pending = s.pending := by
  unfold shutdownChange
  try dsimp only
  (repeat' split) <;> simp [*]

@[simp] theorem pinChange_frame (n : Fin 8) (s : State) :
    (pinChange n s).now = s.now ∧ (pinChange n s).held = s.held ∧ (pinChange n s).loader = s.loader ∧
    (pinChange n s).channels = s.channels ∧ (pinChange n s).groups = s.groups ∧
    (pinChange n s).marks = s.marks ∧ (pinChange n s).zones = s.zones ∧
    (pinChange n s).points = s.points ∧ (pinChange n s).pubs = s.pubs ∧ (pinChange n s).bus = s.bus ∧
    (pinChange n s).faults = s.faults ∧ (pinChange n s).host = s.host ∧ (pinChange n s).link = s.link ∧
    (pinChange n s).power = s.power ∧ (pinChange n s).pending = s.pending := by
  unfold pinChange
  try dsimp only
  (repeat' split) <;> simp [*]

@[simp] theorem inputToZones_frame (n : Fin 8) (s : State) :
    (inputToZones n s).now = s.now ∧ (inputToZones n s).held = s.held ∧
    (inputToZones n s).loader = s.loader ∧ (inputToZones n s).groups = s.groups ∧
    (inputToZones n s).marks = s.marks ∧ (inputToZones n s).inputs = s.inputs ∧
    (inputToZones n s).points = s.points ∧ (inputToZones n s).link = s.link ∧
    (inputToZones n s).power = s.power ∧ (inputToZones n s).pending = s.pending := by
  unfold inputToZones
  try dsimp only
  (repeat' split) <;> simp [*]

@[simp] theorem inputChanged_frame (n : Fin 8) (s : State) :
    (inputChanged n s).now = s.now ∧ (inputChanged n s).held = s.held ∧
    (inputChanged n s).loader = s.loader ∧ (inputChanged n s).groups = s.groups ∧
    (inputChanged n s).marks = s.marks ∧ (inputChanged n s).inputs = s.inputs ∧
    (inputChanged n s).points = s.points ∧ (inputChanged n s).link = s.link ∧
    (inputChanged n s).power = s.power ∧ (inputChanged n s).pending = s.pending := by
  unfold inputChanged
  try dsimp only
  simp

@[simp] theorem debounceExpires_frame (n : Fin 8) (s : State) :
    (debounceExpires n s).now = s.now ∧ (debounceExpires n s).held = s.held ∧
    (debounceExpires n s).loader = s.loader ∧ (debounceExpires n s).groups = s.groups ∧
    (debounceExpires n s).marks = s.marks ∧ (debounceExpires n s).points = s.points ∧
    (debounceExpires n s).link = s.link ∧ (debounceExpires n s).power = s.power ∧
    (debounceExpires n s).pending = s.pending := by
  unfold debounceExpires
  try dsimp only
  (repeat' split) <;> simp [*]

/-! ## Points, publications, marks -/

@[simp] theorem pointsAtImage_frame (n : Station) (l : List PointPair) (s : State) :
    (pointsAtImage n l s).now = s.now ∧ (pointsAtImage n l s).held = s.held ∧
    (pointsAtImage n l s).loader = s.loader ∧ (pointsAtImage n l s).groups = s.groups ∧
    (pointsAtImage n l s).marks = s.marks ∧ (pointsAtImage n l s).zones = s.zones ∧
    (pointsAtImage n l s).inputs = s.inputs ∧ (pointsAtImage n l s).bus = s.bus ∧
    (pointsAtImage n l s).link = s.link ∧ (pointsAtImage n l s).power = s.power ∧
    (pointsAtImage n l s).pending = s.pending := by
  unfold pointsAtImage each8
  try dsimp only
  (repeat' split) <;> simp [*]

@[simp] theorem ageExpiry_frame (i : Nat) (s : State) :
    (ageExpiry i s).now = s.now ∧ (ageExpiry i s).held = s.held ∧ (ageExpiry i s).loader = s.loader ∧
    (ageExpiry i s).groups = s.groups ∧ (ageExpiry i s).marks = s.marks ∧
    (ageExpiry i s).zones = s.zones ∧ (ageExpiry i s).inputs = s.inputs ∧ (ageExpiry i s).bus = s.bus ∧
    (ageExpiry i s).link = s.link ∧ (ageExpiry i s).power = s.power ∧
    (ageExpiry i s).pending = s.pending := by
  unfold ageExpiry each8
  try dsimp only
  (repeat' split) <;> simp [*]

@[simp] theorem buildPoints_frame (s : State) :
    (buildPoints s).now = s.now ∧ (buildPoints s).held = s.held ∧ (buildPoints s).loader = s.loader ∧
    (buildPoints s).channels = s.channels ∧ (buildPoints s).groups = s.groups ∧
    (buildPoints s).marks = s.marks ∧ (buildPoints s).zones = s.zones ∧
    (buildPoints s).inputs = s.inputs ∧ (buildPoints s).points = s.points ∧
    (buildPoints s).link = s.link ∧ (buildPoints s).power = s.power ∧
    (buildPoints s).pending = s.pending := by
  unfold buildPoints
  try dsimp only
  (repeat' split) <;> simp [*]

@[simp] theorem pointsSent_frame (l : List PointPair) (s : State) :
    (pointsSent l s).now = s.now ∧ (pointsSent l s).held = s.held ∧
    (pointsSent l s).loader = s.loader ∧ (pointsSent l s).channels = s.channels ∧
    (pointsSent l s).groups = s.groups ∧ (pointsSent l s).marks = s.marks ∧
    (pointsSent l s).zones = s.zones ∧ (pointsSent l s).inputs = s.inputs ∧
    (pointsSent l s).points = s.points ∧ (pointsSent l s).bus = s.bus ∧
    (pointsSent l s).faults = s.faults ∧ (pointsSent l s).host = s.host ∧
    (pointsSent l s).link = s.link ∧ (pointsSent l s).power = s.power ∧
    (pointsSent l s).pending = s.pending := by
  unfold pointsSent
  try dsimp only
  simp

@[simp] theorem pendAll_frame (s : State) :
    (pendAll s).now = s.now ∧ (pendAll s).held = s.held ∧ (pendAll s).loader = s.loader ∧
    (pendAll s).channels = s.channels ∧ (pendAll s).groups = s.groups ∧ (pendAll s).marks = s.marks ∧
    (pendAll s).zones = s.zones ∧ (pendAll s).inputs = s.inputs ∧ (pendAll s).points = s.points ∧
    (pendAll s).bus = s.bus ∧ (pendAll s).faults = s.faults ∧ (pendAll s).host = s.host ∧
    (pendAll s).link = s.link ∧ (pendAll s).power = s.power ∧ (pendAll s).pending = s.pending := by
  unfold pendAll
  try dsimp only
  simp

@[simp] theorem refreshExpiry_frame (i : Nat) (s : State) :
    (refreshExpiry i s).now = s.now ∧ (refreshExpiry i s).held = s.held ∧
    (refreshExpiry i s).loader = s.loader ∧ (refreshExpiry i s).channels = s.channels ∧
    (refreshExpiry i s).groups = s.groups ∧ (refreshExpiry i s).marks = s.marks ∧
    (refreshExpiry i s).zones = s.zones ∧ (refreshExpiry i s).inputs = s.inputs ∧
    (refreshExpiry i s).points = s.points ∧ (refreshExpiry i s).bus = s.bus ∧
    (refreshExpiry i s).faults = s.faults ∧ (refreshExpiry i s).host = s.host ∧
    (refreshExpiry i s).link = s.link ∧ (refreshExpiry i s).power = s.power ∧
    (refreshExpiry i s).pending = s.pending := by
  unfold refreshExpiry
  try dsimp only
  simp

@[simp] theorem takeMark_frame (n : Half) (s : State) :
    (takeMark n s).now = s.now ∧ (takeMark n s).held = s.held ∧ (takeMark n s).loader = s.loader ∧
    (takeMark n s).groups = s.groups ∧ (takeMark n s).zones = s.zones ∧
    (takeMark n s).inputs = s.inputs ∧ (takeMark n s).points = s.points ∧ (takeMark n s).bus = s.bus ∧
    (takeMark n s).link = s.link ∧ (takeMark n s).power = s.power ∧ (takeMark n s).pending = s.pending := by
  unfold takeMark
  try dsimp only
  simp

@[simp] theorem markAtTimer_frame (o : Bool) (n : Half) (s : State) :
    (markAtTimer o n s).now = s.now ∧ (markAtTimer o n s).held = s.held ∧
    (markAtTimer o n s).loader = s.loader ∧ (markAtTimer o n s).groups = s.groups ∧
    (markAtTimer o n s).zones = s.zones ∧ (markAtTimer o n s).inputs = s.inputs ∧
    (markAtTimer o n s).points = s.points ∧ (markAtTimer o n s).link = s.link ∧
    (markAtTimer o n s).power = s.power ∧ (markAtTimer o n s).pending = s.pending := by
  unfold markAtTimer
  try dsimp only
  (repeat' split) <;> simp [*]

@[simp] theorem markExpiry_frame (s : State) :
    (markExpiry s).now = s.now ∧ (markExpiry s).held = s.held ∧ (markExpiry s).loader = s.loader ∧
    (markExpiry s).groups = s.groups ∧ (markExpiry s).zones = s.zones ∧
    (markExpiry s).inputs = s.inputs ∧ (markExpiry s).points = s.points ∧
    (markExpiry s).link = s.link ∧ (markExpiry s).power = s.power ∧ (markExpiry s).pending = s.pending := by
  unfold markExpiry
  try dsimp only
  (repeat' split) <;> simp [*]

@[simp] theorem buildDue_frame (s : State) :
    (buildDue s).now = s.now ∧ (buildDue s).held = s.held ∧ (buildDue s).loader = s.loader ∧
    (buildDue s).channels = s.channels ∧ (buildDue s).marks = s.marks ∧ (buildDue s).zones = s.zones ∧
    (buildDue s).inputs = s.inputs ∧ (buildDue s).points = s.points ∧ (buildDue s).link = s.link ∧
    (buildDue s).power = s.power ∧ (buildDue s).pending = s.pending := by
  unfold buildDue each8
  try dsimp only
  simp

/-! ## The Peer Bus Controller -/

@[simp] theorem flushedNotice_frame (f : Frame) (s : State) :
    (flushedNotice f s).now = s.now ∧ (flushedNotice f s).held = s.held ∧
    (flushedNotice f s).loader = s.loader ∧ (flushedNotice f s).groups = s.groups ∧
    (flushedNotice f s).zones = s.zones ∧ (flushedNotice f s).inputs = s.inputs ∧
    (flushedNotice f s).points = s.points ∧ (flushedNotice f s).bus = s.bus ∧
    (flushedNotice f s).link = s.link ∧ (flushedNotice f s).power = s.power ∧
    (flushedNotice f s).pending = s.pending := by
  unfold flushedNotice
  try dsimp only
  (repeat' split) <;> simp [*]

@[simp] theorem helloAbandoned_frame (s : State) :
    (helloAbandoned s).now = s.now ∧ (helloAbandoned s).held = s.held ∧
    (helloAbandoned s).loader = s.loader ∧ (helloAbandoned s).channels = s.channels ∧
    (helloAbandoned s).groups = s.groups ∧ (helloAbandoned s).marks = s.marks ∧
    (helloAbandoned s).zones = s.zones ∧ (helloAbandoned s).inputs = s.inputs ∧
    (helloAbandoned s).points = s.points ∧ (helloAbandoned s).pubs = s.pubs ∧
    (helloAbandoned s).faults = s.faults ∧ (helloAbandoned s).host = s.host ∧
    (helloAbandoned s).link = s.link ∧ (helloAbandoned s).power = s.power ∧
    (helloAbandoned s).pending = s.pending := by
  unfold helloAbandoned
  try dsimp only
  (repeat' split) <;> simp [*]

theorem onGroup_keeps {α : Type} (g : State → α) (n : Fin 128) (f : Fin 8 → State → State)
    (h : ∀ n s, g (f n s) = g s) (s : State) : g (onGroup n f s) = g s := by
  refine each8_keeps g _ (fun n s => ?_) s
  split <;> simp [h]

@[simp] theorem abandonedNotice_frame (f : Frame) (s : State) :
    (abandonedNotice f s).now = s.now ∧ (abandonedNotice f s).held = s.held ∧
    (abandonedNotice f s).loader = s.loader ∧ (abandonedNotice f s).zones = s.zones ∧
    (abandonedNotice f s).inputs = s.inputs ∧ (abandonedNotice f s).points = s.points ∧
    (abandonedNotice f s).link = s.link ∧ (abandonedNotice f s).power = s.power ∧
    (abandonedNotice f s).pending = s.pending := by
  cases f with
  | claim g c =>
    exact
      ⟨onGroup_keeps State.now _ _ (fun e s => by simp) s, onGroup_keeps State.held _ _ (fun e s => by
      simp) s, onGroup_keeps State.loader _ _ (fun e s => by simp) s, onGroup_keeps State.zones _ _
      (fun e s => by simp) s, onGroup_keeps State.inputs _ _ (fun e s => by simp) s, onGroup_keeps
      State.points _ _ (fun e s => by simp) s, onGroup_keeps State.link _ _ (fun e s => by simp) s,
      onGroup_keeps State.power _ _ (fun e s => by simp) s, onGroup_keeps State.pending _ _ (fun e s =>
      by simp) s⟩
  | release g c =>
    exact
      ⟨onGroup_keeps State.now _ _ (fun e s => by simp) s, onGroup_keeps State.held _ _ (fun e s => by
      simp) s, onGroup_keeps State.loader _ _ (fun e s => by simp) s, onGroup_keeps State.zones _ _
      (fun e s => by simp) s, onGroup_keeps State.inputs _ _ (fun e s => by simp) s, onGroup_keeps
      State.points _ _ (fun e s => by simp) s, onGroup_keeps State.link _ _ (fun e s => by simp) s,
      onGroup_keeps State.power _ _ (fun e s => by simp) s, onGroup_keeps State.pending _ _ (fun e s =>
      by simp) s⟩
  | _ => simp [abandonedNotice]

@[simp] theorem flushedNotices_frame (l : List Queued) (s : State) :
    (flushedNotices l s).now = s.now ∧ (flushedNotices l s).held = s.held ∧ (flushedNotices l s).loader = s.loader ∧
    (flushedNotices l s).groups = s.groups ∧ (flushedNotices l s).zones = s.zones ∧
    (flushedNotices l s).inputs = s.inputs ∧ (flushedNotices l s).points = s.points ∧
    (flushedNotices l s).link = s.link ∧ (flushedNotices l s).power = s.power ∧ (flushedNotices l s).pending = s.pending := by
  induction l generalizing s with
  | nil => simp [flushedNotices]
  | cons q qs ih => simp [flushedNotices, ih]

@[simp] theorem flushQueue_frame (s : State) :
    (flushQueue s).now = s.now ∧ (flushQueue s).held = s.held ∧ (flushQueue s).loader = s.loader ∧
    (flushQueue s).groups = s.groups ∧ (flushQueue s).zones = s.zones ∧
    (flushQueue s).inputs = s.inputs ∧ (flushQueue s).points = s.points ∧
    (flushQueue s).link = s.link ∧ (flushQueue s).power = s.power ∧ (flushQueue s).pending = s.pending := by
  unfold flushQueue
  try dsimp only
  (repeat' split) <;> simp [*]

@[simp] theorem leaveTraffic_frame (s : State) :
    (leaveTraffic s).now = s.now ∧ (leaveTraffic s).held = s.held ∧
    (leaveTraffic s).loader = s.loader ∧ (leaveTraffic s).zones = s.zones ∧
    (leaveTraffic s).inputs = s.inputs ∧ (leaveTraffic s).points = s.points ∧
    (leaveTraffic s).link = s.link ∧ (leaveTraffic s).power = s.power ∧
    (leaveTraffic s).pending = s.pending := by
  unfold leaveTraffic each8
  try dsimp only
  simp

@[simp] theorem enterSilent_frame (b : BusState) (s : State) :
    (enterSilent b s).now = s.now ∧ (enterSilent b s).held = s.held ∧
    (enterSilent b s).loader = s.loader ∧ (enterSilent b s).zones = s.zones ∧
    (enterSilent b s).inputs = s.inputs ∧ (enterSilent b s).points = s.points ∧
    (enterSilent b s).link = s.link ∧ (enterSilent b s).power = s.power ∧
    (enterSilent b s).pending = s.pending := by
  unfold enterSilent
  try dsimp only
  (repeat' split) <;> simp [*]

@[simp] theorem offerHello_frame (s : State) :
    (offerHello s).now = s.now ∧ (offerHello s).held = s.held ∧ (offerHello s).loader = s.loader ∧
    (offerHello s).channels = s.channels ∧ (offerHello s).groups = s.groups ∧
    (offerHello s).marks = s.marks ∧ (offerHello s).zones = s.zones ∧
    (offerHello s).inputs = s.inputs ∧ (offerHello s).points = s.points ∧
    (offerHello s).link = s.link ∧ (offerHello s).power = s.power ∧ (offerHello s).pending = s.pending := by
  unfold offerHello
  try dsimp only
  simp

@[simp] theorem enterJoining_frame (s : State) :
    (enterJoining s).now = s.now ∧ (enterJoining s).held = s.held ∧
    (enterJoining s).loader = s.loader ∧ (enterJoining s).channels = s.channels ∧
    (enterJoining s).groups = s.groups ∧ (enterJoining s).marks = s.marks ∧
    (enterJoining s).zones = s.zones ∧ (enterJoining s).inputs = s.inputs ∧
    (enterJoining s).points = s.points ∧ (enterJoining s).link = s.link ∧
    (enterJoining s).power = s.power ∧ (enterJoining s).pending = s.pending := by
  unfold enterJoining
  try dsimp only
  simp

@[simp] theorem enterOnLine_frame (s : State) :
    (enterOnLine s).now = s.now ∧ (enterOnLine s).held = s.held ∧ (enterOnLine s).loader = s.loader ∧
    (enterOnLine s).channels = s.channels ∧ (enterOnLine s).marks = s.marks ∧
    (enterOnLine s).zones = s.zones ∧ (enterOnLine s).inputs = s.inputs ∧
    (enterOnLine s).points = s.points ∧ (enterOnLine s).link = s.link ∧
    (enterOnLine s).power = s.power ∧ (enterOnLine s).pending = s.pending := by
  unfold enterOnLine each8
  try dsimp only
  simp

@[simp] theorem judgeScore_frame (s : State) :
    (judgeScore s).now = s.now ∧ (judgeScore s).held = s.held ∧ (judgeScore s).loader = s.loader ∧
    (judgeScore s).zones = s.zones ∧ (judgeScore s).inputs = s.inputs ∧
    (judgeScore s).points = s.points ∧ (judgeScore s).link = s.link ∧ (judgeScore s).power = s.power ∧
    (judgeScore s).pending = s.pending := by
  unfold judgeScore
  try dsimp only
  (repeat' split) <;> simp [*]

@[simp] theorem raiseScore_frame (n : Nat) (s : State) :
    (raiseScore n s).now = s.now ∧ (raiseScore n s).held = s.held ∧
    (raiseScore n s).loader = s.loader ∧ (raiseScore n s).channels = s.channels ∧
    (raiseScore n s).groups = s.groups ∧ (raiseScore n s).marks = s.marks ∧
    (raiseScore n s).zones = s.zones ∧ (raiseScore n s).inputs = s.inputs ∧
    (raiseScore n s).points = s.points ∧ (raiseScore n s).pubs = s.pubs ∧
    (raiseScore n s).faults = s.faults ∧ (raiseScore n s).host = s.host ∧
    (raiseScore n s).link = s.link ∧ (raiseScore n s).power = s.power ∧
    (raiseScore n s).pending = s.pending := by
  unfold raiseScore
  try dsimp only
  simp

@[simp] theorem lowerScore_frame (s : State) :
    (lowerScore s).now = s.now ∧ (lowerScore s).held = s.held ∧ (lowerScore s).loader = s.loader ∧
    (lowerScore s).channels = s.channels ∧ (lowerScore s).groups = s.groups ∧
    (lowerScore s).marks = s.marks ∧ (lowerScore s).zones = s.zones ∧
    (lowerScore s).inputs = s.inputs ∧ (lowerScore s).points = s.points ∧
    (lowerScore s).pubs = s.pubs ∧ (lowerScore s).faults = s.faults ∧ (lowerScore s).host = s.host ∧
    (lowerScore s).link = s.link ∧ (lowerScore s).power = s.power ∧ (lowerScore s).pending = s.pending := by
  unfold lowerScore
  try dsimp only
  simp

@[simp] theorem atOwner_frame (o : Bool) (n : Station) (f : Frame) (s : State) :
    (atOwner o n f s).now = s.now ∧ (atOwner o n f s).held = s.held ∧
    (atOwner o n f s).loader = s.loader ∧ (atOwner o n f s).inputs = s.inputs ∧
    (atOwner o n f s).link = s.link ∧ (atOwner o n f s).power = s.power ∧
    (atOwner o n f s).pending = s.pending := by
  cases f with
  | claim g c =>
    cases o
    · simp only [atOwner, if_true, if_false, Bool.false_eq_true]
      split
      · exact
          ⟨onGroup_keeps State.now _ _ (fun e s => by simp) s, onGroup_keeps State.held _ _ (fun e s =>
          by simp) s, onGroup_keeps State.loader _ _ (fun e s => by simp) s, onGroup_keeps State.inputs
          _ _ (fun e s => by simp) s, onGroup_keeps State.link _ _ (fun e s => by simp) s,
          onGroup_keeps State.power _ _ (fun e s => by simp) s, onGroup_keeps State.pending _ _ (fun e
          s => by simp) s⟩
      · exact ⟨rfl, rfl, rfl, rfl, rfl, rfl, rfl⟩
    · simp only [atOwner, if_true, if_false, Bool.false_eq_true]
      split
      · exact
          ⟨onGroup_keeps State.now _ _ (fun e s => by simp) s, onGroup_keeps State.held _ _ (fun e s =>
          by simp) s, onGroup_keeps State.loader _ _ (fun e s => by simp) s, onGroup_keeps State.inputs
          _ _ (fun e s => by simp) s, onGroup_keeps State.link _ _ (fun e s => by simp) s,
          onGroup_keeps State.power _ _ (fun e s => by simp) s, onGroup_keeps State.pending _ _ (fun e
          s => by simp) s⟩
      · exact ⟨rfl, rfl, rfl, rfl, rfl, rfl, rfl⟩
  | hold g c b =>
    cases o
    · simp only [atOwner, if_true, if_false, Bool.false_eq_true]
      split
      · exact
          ⟨onGroup_keeps State.now _ _ (fun e s => by simp) s, onGroup_keeps State.held _ _ (fun e s =>
          by simp) s, onGroup_keeps State.loader _ _ (fun e s => by simp) s, onGroup_keeps State.inputs
          _ _ (fun e s => by simp) s, onGroup_keeps State.link _ _ (fun e s => by simp) s,
          onGroup_keeps State.power _ _ (fun e s => by simp) s, onGroup_keeps State.pending _ _ (fun e
          s => by simp) s⟩
      · exact ⟨rfl, rfl, rfl, rfl, rfl, rfl, rfl⟩
    · simp only [atOwner, if_true, if_false, Bool.false_eq_true]
      split
      · exact
          ⟨onGroup_keeps State.now _ _ (fun e s => by simp) s, onGroup_keeps State.held _ _ (fun e s =>
          by simp) s, onGroup_keeps State.loader _ _ (fun e s => by simp) s, onGroup_keeps State.inputs
          _ _ (fun e s => by simp) s, onGroup_keeps State.link _ _ (fun e s => by simp) s,
          onGroup_keeps State.power _ _ (fun e s => by simp) s, onGroup_keeps State.pending _ _ (fun e
          s => by simp) s⟩
      · exact ⟨rfl, rfl, rfl, rfl, rfl, rfl, rfl⟩
  | release g c =>
    cases o
    · simp only [atOwner, if_true, if_false, Bool.false_eq_true]
      split
      · exact
          ⟨onGroup_keeps State.now _ _ (fun e s => by simp) s, onGroup_keeps State.held _ _ (fun e s =>
          by simp) s, onGroup_keeps State.loader _ _ (fun e s => by simp) s, onGroup_keeps State.inputs
          _ _ (fun e s => by simp) s, onGroup_keeps State.link _ _ (fun e s => by simp) s,
          onGroup_keeps State.power _ _ (fun e s => by simp) s, onGroup_keeps State.pending _ _ (fun e
          s => by simp) s⟩
      · exact ⟨rfl, rfl, rfl, rfl, rfl, rfl, rfl⟩
    · simp only [atOwner, if_true, if_false, Bool.false_eq_true]
      split
      · exact
          ⟨onGroup_keeps State.now _ _ (fun e s => by simp) s, onGroup_keeps State.held _ _ (fun e s =>
          by simp) s, onGroup_keeps State.loader _ _ (fun e s => by simp) s, onGroup_keeps State.inputs
          _ _ (fun e s => by simp) s, onGroup_keeps State.link _ _ (fun e s => by simp) s,
          onGroup_keeps State.power _ _ (fun e s => by simp) s, onGroup_keeps State.pending _ _ (fun e
          s => by simp) s⟩
      · exact ⟨rfl, rfl, rfl, rfl, rfl, rfl, rfl⟩
  | trip m k =>
    exact
      ⟨onZones_keeps State.now _ _ (fun z s => by simp) s, onZones_keeps State.held _ _ (fun z s => by
      simp) s, onZones_keeps State.loader _ _ (fun z s => by simp) s, onZones_keeps State.inputs _ _
      (fun z s => by simp) s, onZones_keeps State.link _ _ (fun z s => by simp) s, onZones_keeps
      State.power _ _ (fun z s => by simp) s, onZones_keeps State.pending _ _ (fun z s => by simp) s⟩
  | clear m =>
    exact
      ⟨onZones_keeps State.now _ _ (fun z s => by simp) s, onZones_keeps State.held _ _ (fun z s => by
      simp) s, onZones_keeps State.loader _ _ (fun z s => by simp) s, onZones_keeps State.inputs _ _
      (fun z s => by simp) s, onZones_keeps State.link _ _ (fun z s => by simp) s, onZones_keeps
      State.power _ _ (fun z s => by simp) s, onZones_keeps State.pending _ _ (fun z s => by simp) s⟩
  | faultAck t m k b =>
    simp only [atOwner]
    split <;> simp
  | hello t c =>
    simp only [atOwner]
    split
    · simp only [modPeer_now, modPeer_held, modPeer_loader, modPeer_inputs, modPeer_link, modPeer_power,
        modPeer_pending, pendAll_frame, zonesHello_frame]
      exact
        ⟨each8_keeps State.now _ (fun e s => by simp) s, each8_keeps State.held _ (fun e s => by simp)
        s, each8_keeps State.loader _ (fun e s => by simp) s, each8_keeps State.inputs _ (fun e s => by
        simp) s, each8_keeps State.link _ (fun e s => by simp) s, each8_keeps State.power _ (fun e s =>
        by simp) s, each8_keeps State.pending _ (fun e s => by simp) s⟩
    · simp
  | _ => simp [atOwner]

@[simp] theorem dispatch_frame (o : Bool) (n : Station) (f : Frame) (s : State) :
    (dispatch o n f s).now = s.now ∧ (dispatch o n f s).held = s.held ∧
    (dispatch o n f s).loader = s.loader ∧ (dispatch o n f s).inputs = s.inputs ∧
    (dispatch o n f s).link = s.link ∧ (dispatch o n f s).power = s.power ∧
    (dispatch o n f s).pending = s.pending := by
  unfold dispatch
  try dsimp only
  simp

@[simp] theorem duplicateFound_frame (s : State) :
    (duplicateFound s).now = s.now ∧ (duplicateFound s).held = s.held ∧
    (duplicateFound s).loader = s.loader ∧ (duplicateFound s).zones = s.zones ∧
    (duplicateFound s).inputs = s.inputs ∧ (duplicateFound s).points = s.points ∧
    (duplicateFound s).link = s.link ∧ (duplicateFound s).power = s.power ∧
    (duplicateFound s).pending = s.pending := by
  unfold duplicateFound
  try dsimp only
  (repeat' split) <;> simp [*]

@[simp] theorem hear_frame (k : Nat) (n : Station) (p : List Byte) (s : State) :
    (hear k n p s).now = s.now ∧ (hear k n p s).held = s.held ∧ (hear k n p s).loader = s.loader ∧
    (hear k n p s).inputs = s.inputs ∧ (hear k n p s).link = s.link ∧ (hear k n p s).power = s.power ∧
    (hear k n p s).pending = s.pending := by
  unfold hear
  try dsimp only
  (repeat' split) <;> simp [*]

@[simp] theorem hearBad_frame (s : State) :
    (hearBad s).now = s.now ∧ (hearBad s).held = s.held ∧ (hearBad s).loader = s.loader ∧
    (hearBad s).zones = s.zones ∧ (hearBad s).inputs = s.inputs ∧ (hearBad s).points = s.points ∧
    (hearBad s).link = s.link ∧ (hearBad s).power = s.power ∧ (hearBad s).pending = s.pending := by
  unfold hearBad
  try dsimp only
  (repeat' split) <;> simp [*]

@[simp] theorem readFrame_frame (f : FrameRead) (s : State) :
    (readFrame f s).now = s.now ∧ (readFrame f s).held = s.held ∧ (readFrame f s).loader = s.loader ∧
    (readFrame f s).inputs = s.inputs ∧ (readFrame f s).link = s.link ∧
    (readFrame f s).power = s.power ∧ (readFrame f s).pending = s.pending := by
  unfold readFrame
  try dsimp only
  (repeat' split) <;> simp [*]

@[simp] theorem hearRejected_frame (s : State) :
    (hearRejected s).now = s.now ∧ (hearRejected s).held = s.held ∧
    (hearRejected s).loader = s.loader ∧ (hearRejected s).channels = s.channels ∧
    (hearRejected s).groups = s.groups ∧ (hearRejected s).marks = s.marks ∧
    (hearRejected s).zones = s.zones ∧ (hearRejected s).inputs = s.inputs ∧
    (hearRejected s).points = s.points ∧ (hearRejected s).pubs = s.pubs ∧
    (hearRejected s).faults = s.faults ∧ (hearRejected s).host = s.host ∧
    (hearRejected s).link = s.link ∧ (hearRejected s).power = s.power ∧
    (hearRejected s).pending = s.pending := by
  unfold hearRejected
  try dsimp only
  (repeat' split) <;> simp [*]

@[simp] theorem offerHead_frame (b : List Key) (s : State) :
    (offerHead b s).now = s.now ∧ (offerHead b s).held = s.held ∧ (offerHead b s).loader = s.loader ∧
    (offerHead b s).channels = s.channels ∧ (offerHead b s).groups = s.groups ∧
    (offerHead b s).marks = s.marks ∧ (offerHead b s).zones = s.zones ∧
    (offerHead b s).inputs = s.inputs ∧ (offerHead b s).points = s.points ∧
    (offerHead b s).pubs = s.pubs ∧ (offerHead b s).faults = s.faults ∧ (offerHead b s).host = s.host ∧
    (offerHead b s).link = s.link ∧ (offerHead b s).power = s.power ∧
    (offerHead b s).pending = s.pending := by
  unfold offerHead
  try dsimp only
  (repeat' split) <;> simp [*]

@[simp] theorem abandonDue_frame (s : State) :
    (abandonDue s).now = s.now ∧ (abandonDue s).held = s.held ∧ (abandonDue s).loader = s.loader ∧
    (abandonDue s).zones = s.zones ∧ (abandonDue s).inputs = s.inputs ∧
    (abandonDue s).points = s.points ∧ (abandonDue s).link = s.link ∧ (abandonDue s).power = s.power ∧
    (abandonDue s).pending = s.pending := by
  unfold abandonDue
  try dsimp only
  (repeat' split) <;> simp [*]

@[simp] theorem failAttempt_frame (s : State) :
    (failAttempt s).now = s.now ∧ (failAttempt s).held = s.held ∧ (failAttempt s).loader = s.loader ∧
    (failAttempt s).zones = s.zones ∧ (failAttempt s).inputs = s.inputs ∧
    (failAttempt s).points = s.points ∧ (failAttempt s).link = s.link ∧
    (failAttempt s).power = s.power ∧ (failAttempt s).pending = s.pending := by
  unfold failAttempt
  try dsimp only
  (repeat' split) <;> simp [*]

@[simp] theorem takenNotice_frame (f : Frame) (s : State) :
    (takenNotice f s).now = s.now ∧ (takenNotice f s).held = s.held ∧
    (takenNotice f s).loader = s.loader ∧ (takenNotice f s).channels = s.channels ∧
    (takenNotice f s).groups = s.groups ∧ (takenNotice f s).marks = s.marks ∧
    (takenNotice f s).zones = s.zones ∧ (takenNotice f s).inputs = s.inputs ∧
    (takenNotice f s).points = s.points ∧ (takenNotice f s).faults = s.faults ∧
    (takenNotice f s).host = s.host ∧ (takenNotice f s).link = s.link ∧
    (takenNotice f s).power = s.power ∧ (takenNotice f s).pending = s.pending := by
  unfold takenNotice
  try dsimp only
  (repeat' split) <;> simp [*]

@[simp] theorem completeAttempt_frame (f : Frame) (s : State) :
    (completeAttempt f s).now = s.now ∧ (completeAttempt f s).held = s.held ∧
    (completeAttempt f s).loader = s.loader ∧ (completeAttempt f s).inputs = s.inputs ∧
    (completeAttempt f s).link = s.link ∧ (completeAttempt f s).power = s.power ∧
    (completeAttempt f s).pending = s.pending := by
  unfold completeAttempt
  try dsimp only
  (repeat' split) <;> simp [*]

@[simp] theorem takeFrame_frame (k : Nat) (a : Arrival) (s : State) :
    (takeFrame k a s).now = s.now ∧ (takeFrame k a s).held = s.held ∧
    (takeFrame k a s).loader = s.loader ∧ (takeFrame k a s).inputs = s.inputs ∧
    (takeFrame k a s).link = s.link ∧ (takeFrame k a s).power = s.power ∧
    (takeFrame k a s).pending = s.pending := by
  unfold takeFrame
  try dsimp only
  (repeat' split) <;> simp [*]

@[simp] theorem joinWaitEnds_frame (s : State) :
    (joinWaitEnds s).now = s.now ∧ (joinWaitEnds s).held = s.held ∧
    (joinWaitEnds s).loader = s.loader ∧ (joinWaitEnds s).channels = s.channels ∧
    (joinWaitEnds s).marks = s.marks ∧ (joinWaitEnds s).zones = s.zones ∧
    (joinWaitEnds s).inputs = s.inputs ∧ (joinWaitEnds s).points = s.points ∧
    (joinWaitEnds s).link = s.link ∧ (joinWaitEnds s).power = s.power ∧
    (joinWaitEnds s).pending = s.pending := by
  unfold joinWaitEnds
  try dsimp only
  (repeat' split) <;> simp [*]

@[simp] theorem helloHoldOffEnds_frame (s : State) :
    (helloHoldOffEnds s).now = s.now ∧ (helloHoldOffEnds s).held = s.held ∧
    (helloHoldOffEnds s).loader = s.loader ∧ (helloHoldOffEnds s).channels = s.channels ∧
    (helloHoldOffEnds s).groups = s.groups ∧ (helloHoldOffEnds s).marks = s.marks ∧
    (helloHoldOffEnds s).zones = s.zones ∧ (helloHoldOffEnds s).inputs = s.inputs ∧
    (helloHoldOffEnds s).points = s.points ∧ (helloHoldOffEnds s).link = s.link ∧
    (helloHoldOffEnds s).power = s.power ∧ (helloHoldOffEnds s).pending = s.pending := by
  unfold helloHoldOffEnds
  try dsimp only
  (repeat' split) <;> simp [*]

@[simp] theorem offLineEnds_frame (s : State) :
    (offLineEnds s).now = s.now ∧ (offLineEnds s).held = s.held ∧ (offLineEnds s).loader = s.loader ∧
    (offLineEnds s).zones = s.zones ∧ (offLineEnds s).inputs = s.inputs ∧
    (offLineEnds s).points = s.points ∧ (offLineEnds s).link = s.link ∧
    (offLineEnds s).power = s.power ∧ (offLineEnds s).pending = s.pending := by
  unfold offLineEnds
  try dsimp only
  (repeat' split) <;> simp [*]

/-! ## The Barrier Link -/

@[simp] theorem startSlot_frame (s : State) :
    (startSlot s).now = s.now ∧ (startSlot s).held = s.held ∧ (startSlot s).loader = s.loader ∧
    (startSlot s).channels = s.channels ∧ (startSlot s).groups = s.groups ∧
    (startSlot s).marks = s.marks ∧ (startSlot s).zones = s.zones ∧ (startSlot s).inputs = s.inputs ∧
    (startSlot s).points = s.points ∧ (startSlot s).pubs = s.pubs ∧ (startSlot s).bus = s.bus ∧
    (startSlot s).faults = s.faults ∧ (startSlot s).host = s.host ∧ (startSlot s).power = s.power ∧
    (startSlot s).pending = s.pending := by
  unfold startSlot
  try dsimp only
  (repeat' split) <;> simp [*]

@[simp] theorem feedbackBits_frame (b : Byte) (s : State) :
    (feedbackBits b s).now = s.now ∧ (feedbackBits b s).held = s.held ∧
    (feedbackBits b s).loader = s.loader ∧ (feedbackBits b s).groups = s.groups ∧
    (feedbackBits b s).marks = s.marks ∧ (feedbackBits b s).zones = s.zones ∧
    (feedbackBits b s).inputs = s.inputs ∧ (feedbackBits b s).points = s.points ∧
    (feedbackBits b s).bus = s.bus ∧ (feedbackBits b s).link = s.link ∧
    (feedbackBits b s).power = s.power ∧ (feedbackBits b s).pending = s.pending := by
  unfold feedbackBits each8 whenRunning
  try dsimp only
  (repeat' split) <;> simp [*]

@[simp] theorem takeFeedback_frame (f : Feedback) (s : State) :
    (takeFeedback f s).now = s.now ∧ (takeFeedback f s).held = s.held ∧
    (takeFeedback f s).loader = s.loader ∧ (takeFeedback f s).groups = s.groups ∧
    (takeFeedback f s).marks = s.marks ∧ (takeFeedback f s).zones = s.zones ∧
    (takeFeedback f s).inputs = s.inputs ∧ (takeFeedback f s).points = s.points ∧
    (takeFeedback f s).bus = s.bus ∧ (takeFeedback f s).link = s.link ∧
    (takeFeedback f s).power = s.power ∧ (takeFeedback f s).pending = s.pending := by
  unfold takeFeedback whenRunning
  try dsimp only
  (repeat' split) <;> simp [*]

@[simp] theorem deliver_frame (r : GoodReply) (s : State) :
    (deliver r s).now = s.now ∧ (deliver r s).held = s.held ∧ (deliver r s).loader = s.loader ∧
    (deliver r s).groups = s.groups ∧ (deliver r s).marks = s.marks ∧ (deliver r s).zones = s.zones ∧
    (deliver r s).inputs = s.inputs ∧ (deliver r s).points = s.points ∧ (deliver r s).bus = s.bus ∧
    (deliver r s).link = s.link ∧ (deliver r s).power = s.power ∧ (deliver r s).pending = s.pending := by
  unfold deliver
  try dsimp only
  (repeat' split) <;> simp [*]

@[simp] theorem deliverLatest_frame (l : LatestReplies) (k : PowerKind) (s : State) :
    (deliverLatest l k s).now = s.now ∧ (deliverLatest l k s).held = s.held ∧
    (deliverLatest l k s).loader = s.loader ∧ (deliverLatest l k s).groups = s.groups ∧
    (deliverLatest l k s).marks = s.marks ∧ (deliverLatest l k s).zones = s.zones ∧
    (deliverLatest l k s).inputs = s.inputs ∧ (deliverLatest l k s).points = s.points ∧
    (deliverLatest l k s).bus = s.bus ∧ (deliverLatest l k s).link = s.link ∧
    (deliverLatest l k s).power = s.power ∧ (deliverLatest l k s).pending = s.pending := by
  unfold deliverLatest
  try dsimp only
  (repeat' split) <;> simp [*]

@[simp] theorem channelsUp_frame (l : LatestReplies) (s : State) :
    (channelsUp l s).now = s.now ∧ (channelsUp l s).held = s.held ∧
    (channelsUp l s).loader = s.loader ∧ (channelsUp l s).groups = s.groups ∧
    (channelsUp l s).marks = s.marks ∧ (channelsUp l s).zones = s.zones ∧
    (channelsUp l s).inputs = s.inputs ∧ (channelsUp l s).points = s.points ∧
    (channelsUp l s).bus = s.bus ∧ (channelsUp l s).link = s.link ∧ (channelsUp l s).power = s.power ∧
    (channelsUp l s).pending = s.pending := by
  unfold channelsUp whenRunning
  try dsimp only
  (repeat' split) <;> simp [*]

@[simp] theorem faultsUp_frame (l : LatestReplies) (s : State) :
    (faultsUp l s).now = s.now ∧ (faultsUp l s).held = s.held ∧ (faultsUp l s).loader = s.loader ∧
    (faultsUp l s).groups = s.groups ∧ (faultsUp l s).marks = s.marks ∧
    (faultsUp l s).zones = s.zones ∧ (faultsUp l s).inputs = s.inputs ∧
    (faultsUp l s).points = s.points ∧ (faultsUp l s).bus = s.bus ∧ (faultsUp l s).link = s.link ∧
    (faultsUp l s).power = s.power ∧ (faultsUp l s).pending = s.pending := by
  unfold faultsUp
  try dsimp only
  (repeat' split) <;> simp [*]

@[simp] theorem linkUp_frame (s : State) :
    (linkUp s).now = s.now ∧ (linkUp s).held = s.held ∧ (linkUp s).loader = s.loader ∧
    (linkUp s).groups = s.groups ∧ (linkUp s).marks = s.marks ∧ (linkUp s).zones = s.zones ∧
    (linkUp s).inputs = s.inputs ∧ (linkUp s).points = s.points ∧ (linkUp s).bus = s.bus ∧
    (linkUp s).power = s.power ∧ (linkUp s).pending = s.pending := by
  unfold linkUp
  try dsimp only
  simp

@[simp] theorem linkDown_frame (s : State) :
    (linkDown s).now = s.now ∧ (linkDown s).held = s.held ∧ (linkDown s).loader = s.loader ∧
    (linkDown s).groups = s.groups ∧ (linkDown s).marks = s.marks ∧ (linkDown s).zones = s.zones ∧
    (linkDown s).inputs = s.inputs ∧ (linkDown s).points = s.points ∧ (linkDown s).bus = s.bus ∧
    (linkDown s).power = s.power ∧ (linkDown s).pending = s.pending := by
  unfold linkDown whenRunning
  try dsimp only
  (repeat' split) <;> simp [*]

@[simp] theorem goodSlot_frame (r : GoodReply) (s : State) :
    (goodSlot r s).now = s.now ∧ (goodSlot r s).held = s.held ∧ (goodSlot r s).loader = s.loader ∧
    (goodSlot r s).groups = s.groups ∧ (goodSlot r s).marks = s.marks ∧
    (goodSlot r s).zones = s.zones ∧ (goodSlot r s).inputs = s.inputs ∧
    (goodSlot r s).points = s.points ∧ (goodSlot r s).bus = s.bus ∧ (goodSlot r s).power = s.power ∧
    (goodSlot r s).pending = s.pending := by
  unfold goodSlot
  try dsimp only
  (repeat' split) <;> simp [*]

@[simp] theorem failedSlot_frame (s : State) :
    (failedSlot s).now = s.now ∧ (failedSlot s).held = s.held ∧ (failedSlot s).loader = s.loader ∧
    (failedSlot s).groups = s.groups ∧ (failedSlot s).marks = s.marks ∧
    (failedSlot s).zones = s.zones ∧ (failedSlot s).inputs = s.inputs ∧
    (failedSlot s).points = s.points ∧ (failedSlot s).bus = s.bus ∧ (failedSlot s).power = s.power ∧
    (failedSlot s).pending = s.pending := by
  unfold failedSlot
  try dsimp only
  (repeat' split) <;> simp [*]

@[simp] theorem judgeSlot_frame (r : Option (BitVec 18)) (s : State) :
    (judgeSlot r s).now = s.now ∧ (judgeSlot r s).held = s.held ∧ (judgeSlot r s).loader = s.loader ∧
    (judgeSlot r s).marks = s.marks ∧ (judgeSlot r s).zones = s.zones ∧
    (judgeSlot r s).inputs = s.inputs ∧ (judgeSlot r s).points = s.points ∧
    (judgeSlot r s).power = s.power ∧ (judgeSlot r s).pending = s.pending := by
  unfold judgeSlot
  try dsimp only
  (repeat' split) <;> simp [*]

@[simp] theorem guaranteeEnds_frame (s : State) :
    (guaranteeEnds s).now = s.now ∧ (guaranteeEnds s).held = s.held ∧
    (guaranteeEnds s).loader = s.loader ∧ (guaranteeEnds s).groups = s.groups ∧
    (guaranteeEnds s).marks = s.marks ∧ (guaranteeEnds s).zones = s.zones ∧
    (guaranteeEnds s).inputs = s.inputs ∧ (guaranteeEnds s).points = s.points ∧
    (guaranteeEnds s).bus = s.bus ∧ (guaranteeEnds s).power = s.power ∧
    (guaranteeEnds s).pending = s.pending := by
  unfold guaranteeEnds each8 whenRunning
  try dsimp only
  (repeat' split) <;> simp [*]

end Sys2Proof.Machine
end

