-- ==== Sys2Proof/Laws/Channels.lean ====
section
/-! SUPPORT. Channel Logic: what each operation on one channel does to that channel's record and messages, and
that it leaves the other channels' records and messages, the latest FEEDBACK reply and the messages to channels
as they are. -/

namespace Sys2Proof.Machine

open Sys2Proof

/-! ## Records and messages under the plain updates -/

@[simp] theorem setChan_chan (c d : Fin 8) (r : Channel) (s : State) :
    (setChan c r s).chan d = if d = c then r else s.chan d := by
  simp [State.chan, setChan, Eight.get_set]

@[simp] theorem modChan_chan (c d : Fin 8) (f : Channel → Channel) (s : State) :
    (modChan c f s).chan d = if d = c then f (s.chan c) else s.chan d := by
  simp [modChan]

/-- A message joins the end of those under way to the groups. -/
@[simp] theorem sendToGroup_toGroups (c : Fin 8) (m : ToGroupMsg) (s : State) :
    (sendToGroup c m s).channels.toGroups = s.channels.toGroups ++ s.messageOf c m := by
  unfold sendToGroup State.messageOf
  cases (s.cfg c).group <;> simp

@[simp] theorem sendToGroup_chan (c d : Fin 8) (m : ToGroupMsg) (s : State) :
    (sendToGroup c m s).chan d = s.chan d := by
  unfold sendToGroup State.chan
  split <;> rfl

@[simp] theorem sendToGroup_streams (c : Fin 8) (m : ToGroupMsg) (s : State) :
    (sendToGroup c m s).channels.feedback = s.channels.feedback ∧
    (sendToGroup c m s).channels.toChannels = s.channels.toChannels := by
  unfold sendToGroup
  split <;> simp

theorem messageOf_channel {c : Fin 8} {m : ToGroupMsg} {s : State} {x : ToGroup}
    (h : x ∈ s.messageOf c m) : x.channel = c := by
  unfold State.messageOf at h
  split at h <;> simp_all

@[simp] theorem sendToGroup_sentBy (c : Fin 8) (m : ToGroupMsg) (s : State) :
    (sendToGroup c m s).sentBy c = s.sentBy c ++ s.messageOf c m := by
  simp only [State.sentBy, sendToGroup_toGroups, List.filter_append]
  congr 1
  rw [List.filter_eq_self]
  intro x hx
  simp [messageOf_channel hx]

theorem sendToGroup_sentBy_other {c d : Fin 8} (h : d ≠ c) (m : ToGroupMsg) (s : State) :
    (sendToGroup c m s).sentBy d = s.sentBy d := by
  simp only [State.sentBy, sendToGroup_toGroups, List.filter_append, List.append_right_eq_self,
    List.filter_eq_nil_iff]
  intro x hx
  simpa [messageOf_channel hx] using fun e : c = d => h e.symm

/-! ## Entry to a state -/

/-- The record at entry to a state: the state, the timers of R13, R15 and R17, and nothing else. -/
@[simp] theorem enterState_chan (x : ChannelState) (c d : Fin 8) (s : State) :
    (enterState x c s).chan d = if d = c then { s.chan c with
      state := x, confirm := confirmAtEntry x s,
      offCheck := if (s.chan c).state.confirmedOn && x.confirmedOn then (s.chan c).offCheck else none }
    else s.chan d := by
  have h : (enterState x c s).channels.records = s.channels.records.set c { s.chan c with
      state := x, confirm := confirmAtEntry x s,
      offCheck := if (s.chan c).state.confirmedOn && x.confirmedOn then (s.chan c).offCheck else none } := by
    unfold enterState
    dsimp only
    (repeat' split) <;> simp
  simp only [State.chan, h, Eight.get_set]

@[simp] theorem enterState_streams (x : ChannelState) (c : Fin 8) (s : State) :
    (enterState x c s).channels.feedback = s.channels.feedback ∧
    (enterState x c s).channels.toChannels = s.channels.toChannels ∧
    (enterState x c s).channels.toGroups = s.channels.toGroups := by
  unfold enterState
  dsimp only
  (repeat' split) <;> simp

/-- The path, the configuration and the messages of a channel read the same at entry to a state. -/
@[simp] theorem enterState_reads (x : ChannelState) (c d : Fin 8) (s : State) :
    (enterState x c s).cfg d = s.cfg d ∧ (enterState x c s).sentBy d = s.sentBy d ∧
    (enterState x c s).messageOf d = s.messageOf d := by
  refine ⟨?_, ?_, funext fun m => ?_⟩ <;>
    simp [State.cfg, State.config, State.sentBy, State.messageOf]

@[simp] theorem sendToGroup_reads (n d : Fin 8) (k : ToGroupMsg) (s : State) :
    (sendToGroup n k s).cfg d = s.cfg d ∧ (sendToGroup n k s).messageOf d = s.messageOf d := by
  refine ⟨?_, funext fun m => ?_⟩ <;> simp [State.cfg, State.config, State.messageOf]

@[simp] theorem modChan_reads (n d : Fin 8) (f : Channel → Channel) (s : State) :
    (modChan n f s).cfg d = s.cfg d ∧ (modChan n f s).sentBy d = s.sentBy d ∧
    (modChan n f s).messageOf d = s.messageOf d := by
  refine ⟨?_, ?_, funext fun m => ?_⟩ <;>
    simp [State.cfg, State.config, State.sentBy, State.messageOf]

/-! ## The output path reads the same -/

@[simp] theorem enterState_pathReady (x : ChannelState) (c : Fin 8) (s : State) :
    (enterState x c s).pathReady = s.pathReady := by
  simp [State.pathReady]

@[simp] theorem sendToGroup_pathReady (c : Fin 8) (m : ToGroupMsg) (s : State) :
    (sendToGroup c m s).pathReady = s.pathReady := by
  simp [State.pathReady]

@[simp] theorem modChan_pathReady (c : Fin 8) (f : Channel → Channel) (s : State) :
    (modChan c f s).pathReady = s.pathReady := by
  simp [State.pathReady]

@[simp] theorem setLive_pathReady (c : Fin 8) (k : FaultKind) (b : Bool) (s : State) :
    (setLive c k b s).pathReady = s.pathReady := by
  simp [State.pathReady]

@[simp] theorem setLockChange_pathReady (s : State) : (setLockChange s).pathReady = s.pathReady := by
  simp [State.pathReady]

/-! ## Operations that change no record and no message -/

@[simp] theorem setLive_channel (c d : Fin 8) (k : FaultKind) (b : Bool) (s : State) :
    (setLive c k b s).chan d = s.chan d ∧ (setLive c k b s).sentBy d = s.sentBy d ∧
    (setLive c k b s).cfg d = s.cfg d := by
  simp [State.chan, State.sentBy, State.cfg, State.config]

@[simp] theorem setLockChange_channel (d : Fin 8) (s : State) :
    (setLockChange s).chan d = s.chan d ∧ (setLockChange s).sentBy d = s.sentBy d ∧
    (setLockChange s).cfg d = s.cfg d := by
  simp [State.chan, State.sentBy, State.cfg, State.config]

@[simp] theorem trackRecord_channel (c d : Fin 8) (r : FaultRecord) (s : State) :
    (trackErr (setRecord c r) s).chan d = s.chan d ∧ (trackErr (setRecord c r) s).sentBy d = s.sentBy d ∧
    (trackErr (setRecord c r) s).cfg d = s.cfg d := by
  unfold trackErr
  dsimp only
  split <;> simp [State.chan, State.sentBy, State.cfg, State.config]

@[simp] theorem trackRecord_channels (c : Fin 8) (r : FaultRecord) (s : State) :
    (trackErr (setRecord c r) s).channels = s.channels := by
  unfold trackErr
  dsimp only
  split <;> simp

/-! ## Another channel's fault record -/

theorem setRecord_other {c d : Fin 8} (h : d ≠ c) (r : FaultRecord) (s : State) :
    (setRecord c r s).faults.records.get d = s.faults.records.get d := by
  simp [Eight.get_set, h]

@[simp] theorem setLive_other {c d : Fin 8} (h : d ≠ c) (k : FaultKind) (b : Bool) (s : State) :
    (setLive c k b s).faults.records.get d = s.faults.records.get d := by
  unfold setLive
  dsimp only
  split <;> simp [Eight.get_set, h]

@[simp] theorem trackRecord_other {c d : Fin 8} (h : d ≠ c) (r : FaultRecord) (s : State) :
    (trackErr (setRecord c r) s).faults.records.get d = s.faults.records.get d := by
  unfold trackErr
  dsimp only
  split <;> simp [Eight.get_set, h]

@[simp] theorem enterState_other {c d : Fin 8} (h : d ≠ c) (x : ChannelState) (s : State) :
    (enterState x c s).faults.records.get d = s.faults.records.get d := by
  unfold enterState
  dsimp only
  (repeat' split) <;> simp [h]

/-! ## One channel's operations leave the others -/

@[simp] theorem startChannel_local {c d : Fin 8} (h : d ≠ c) (s : State) :
    (startChannel c s).chan d = s.chan d ∧ (startChannel c s).sentBy d = s.sentBy d ∧
    (startChannel c s).faults.records.get d = s.faults.records.get d := by
  unfold startChannel
  try dsimp only
  (repeat' split) <;> simp [h, sendToGroup_sentBy_other]

@[simp] theorem startChannel_streams (c : Fin 8) (s : State) :
    (startChannel c s).channels.feedback = s.channels.feedback ∧
    (startChannel c s).channels.toChannels = s.channels.toChannels := by
  unfold startChannel
  try dsimp only
  (repeat' split) <;> simp

@[simp] theorem startIfDue_local {c d : Fin 8} (h : d ≠ c) (s : State) :
    (startIfDue c s).chan d = s.chan d ∧ (startIfDue c s).sentBy d = s.sentBy d ∧
    (startIfDue c s).faults.records.get d = s.faults.records.get d := by
  unfold startIfDue
  try dsimp only
  (repeat' split) <;> simp [h]

@[simp] theorem startIfDue_streams (c : Fin 8) (s : State) :
    (startIfDue c s).channels.feedback = s.channels.feedback ∧
    (startIfDue c s).channels.toChannels = s.channels.toChannels := by
  unfold startIfDue
  try dsimp only
  (repeat' split) <;> simp

@[simp] theorem seeDemandInOff_local {c d : Fin 8} (h : d ≠ c) (s : State) :
    (seeDemandInOff c s).chan d = s.chan d ∧ (seeDemandInOff c s).sentBy d = s.sentBy d ∧
    (seeDemandInOff c s).faults.records.get d = s.faults.records.get d := by
  unfold seeDemandInOff
  try dsimp only
  (repeat' split) <;> simp [h]

@[simp] theorem seeDemandInOff_streams (c : Fin 8) (s : State) :
    (seeDemandInOff c s).channels.feedback = s.channels.feedback ∧
    (seeDemandInOff c s).channels.toChannels = s.channels.toChannels := by
  unfold seeDemandInOff
  try dsimp only
  (repeat' split) <;> simp

@[simp] theorem enterOff_local {c d : Fin 8} (h : d ≠ c) (s : State) :
    (enterOff c s).chan d = s.chan d ∧ (enterOff c s).sentBy d = s.sentBy d ∧
    (enterOff c s).faults.records.get d = s.faults.records.get d := by
  unfold enterOff
  try dsimp only
  simp [h]

@[simp] theorem enterOff_streams (c : Fin 8) (s : State) :
    (enterOff c s).channels.feedback = s.channels.feedback ∧
    (enterOff c s).channels.toChannels = s.channels.toChannels := by
  unfold enterOff
  try dsimp only
  simp

@[simp] theorem enterReleasing_local (x : Target) {c d : Fin 8} (h : d ≠ c) (s : State) :
    (enterReleasing x c s).chan d = s.chan d ∧ (enterReleasing x c s).sentBy d = s.sentBy d ∧
    (enterReleasing x c s).faults.records.get d = s.faults.records.get d := by
  unfold enterReleasing
  try dsimp only
  simp [h]

@[simp] theorem enterReleasing_streams (x : Target) (c : Fin 8) (s : State) :
    (enterReleasing x c s).channels.feedback = s.channels.feedback ∧
    (enterReleasing x c s).channels.toChannels = s.channels.toChannels := by
  unfold enterReleasing
  try dsimp only
  simp

@[simp] theorem leaveSuspended_local {c d : Fin 8} (h : d ≠ c) (s : State) :
    (leaveSuspended c s).chan d = s.chan d ∧ (leaveSuspended c s).sentBy d = s.sentBy d ∧
    (leaveSuspended c s).faults.records.get d = s.faults.records.get d := by
  unfold leaveSuspended
  try dsimp only
  (repeat' split) <;> simp [h]

@[simp] theorem leaveSuspended_streams (c : Fin 8) (s : State) :
    (leaveSuspended c s).channels.feedback = s.channels.feedback ∧
    (leaveSuspended c s).channels.toChannels = s.channels.toChannels := by
  unfold leaveSuspended
  try dsimp only
  (repeat' split) <;> simp

@[simp] theorem completeRelease_local {c d : Fin 8} (h : d ≠ c) (s : State) :
    (completeRelease c s).chan d = s.chan d ∧ (completeRelease c s).sentBy d = s.sentBy d ∧
    (completeRelease c s).faults.records.get d = s.faults.records.get d := by
  unfold completeRelease
  try dsimp only
  (repeat' split) <;> simp [h, sendToGroup_sentBy_other]

@[simp] theorem completeRelease_streams (c : Fin 8) (s : State) :
    (completeRelease c s).channels.feedback = s.channels.feedback ∧
    (completeRelease c s).channels.toChannels = s.channels.toChannels := by
  unfold completeRelease
  try dsimp only
  (repeat' split) <;> simp

@[simp] theorem settleHandBack_local {c d : Fin 8} (h : d ≠ c) (s : State) :
    (settleHandBack c s).chan d = s.chan d ∧ (settleHandBack c s).sentBy d = s.sentBy d ∧
    (settleHandBack c s).faults.records.get d = s.faults.records.get d := by
  unfold settleHandBack
  try dsimp only
  (repeat' split) <;> simp [h, sendToGroup_sentBy_other]

@[simp] theorem settleHandBack_streams (c : Fin 8) (s : State) :
    (settleHandBack c s).channels.feedback = s.channels.feedback ∧
    (settleHandBack c s).channels.toChannels = s.channels.toChannels := by
  unfold settleHandBack
  try dsimp only
  (repeat' split) <;> simp

@[simp] theorem fallFromOn_local {c d : Fin 8} (h : d ≠ c) (s : State) :
    (fallFromOn c s).chan d = s.chan d ∧ (fallFromOn c s).sentBy d = s.sentBy d ∧
    (fallFromOn c s).faults.records.get d = s.faults.records.get d := by
  unfold fallFromOn
  try dsimp only
  (repeat' split) <;> simp [h]

@[simp] theorem fallFromOn_streams (c : Fin 8) (s : State) :
    (fallFromOn c s).channels.feedback = s.channels.feedback ∧
    (fallFromOn c s).channels.toChannels = s.channels.toChannels := by
  unfold fallFromOn
  try dsimp only
  (repeat' split) <;> simp

@[simp] theorem enterOn_local {c d : Fin 8} (h : d ≠ c) (s : State) :
    (enterOn c s).chan d = s.chan d ∧ (enterOn c s).sentBy d = s.sentBy d ∧
    (enterOn c s).faults.records.get d = s.faults.records.get d := by
  unfold enterOn
  try dsimp only
  (repeat' split) <;> simp [h]

@[simp] theorem enterOn_streams (c : Fin 8) (s : State) :
    (enterOn c s).channels.feedback = s.channels.feedback ∧
    (enterOn c s).channels.toChannels = s.channels.toChannels := by
  unfold enterOn
  try dsimp only
  (repeat' split) <;> simp

@[simp] theorem oweHandBack_local {c d : Fin 8} (h : d ≠ c) (s : State) :
    (oweHandBack c s).chan d = s.chan d ∧ (oweHandBack c s).sentBy d = s.sentBy d ∧
    (oweHandBack c s).faults.records.get d = s.faults.records.get d := by
  unfold oweHandBack
  try dsimp only
  (repeat' split) <;> simp [h]

@[simp] theorem oweHandBack_streams (c : Fin 8) (s : State) :
    (oweHandBack c s).channels.feedback = s.channels.feedback ∧
    (oweHandBack c s).channels.toChannels = s.channels.toChannels := by
  unfold oweHandBack
  try dsimp only
  (repeat' split) <;> simp

@[simp] theorem demandChange_local (b : Bool) {c d : Fin 8} (h : d ≠ c) (s : State) :
    (demandChange c b s).chan d = s.chan d ∧ (demandChange c b s).sentBy d = s.sentBy d ∧
    (demandChange c b s).faults.records.get d = s.faults.records.get d := by
  unfold demandChange
  try dsimp only
  (repeat' split) <;> simp [h, sendToGroup_sentBy_other]

@[simp] theorem demandChange_streams (b : Bool) (c : Fin 8) (s : State) :
    (demandChange c b s).channels.feedback = s.channels.feedback ∧
    (demandChange c b s).channels.toChannels = s.channels.toChannels := by
  unfold demandChange
  try dsimp only
  (repeat' split) <;> simp

@[simp] theorem evaluate_local {c d : Fin 8} (h : d ≠ c) (s : State) :
    (evaluate c s).chan d = s.chan d ∧ (evaluate c s).sentBy d = s.sentBy d ∧
    (evaluate c s).faults.records.get d = s.faults.records.get d := by
  unfold evaluate
  try dsimp only
  (repeat' split) <;> simp [h]

@[simp] theorem evaluate_streams (c : Fin 8) (s : State) :
    (evaluate c s).channels.feedback = s.channels.feedback ∧
    (evaluate c s).channels.toChannels = s.channels.toChannels := by
  unfold evaluate
  try dsimp only
  (repeat' split) <;> simp

@[simp] theorem setHoldOvers_local (p : Nat → Bool) (tm : Timer) {c d : Fin 8} (h : d ≠ c) (s : State) :
    (setHoldOvers p tm c s).chan d = s.chan d ∧ (setHoldOvers p tm c s).sentBy d = s.sentBy d ∧
    (setHoldOvers p tm c s).faults.records.get d = s.faults.records.get d := by
  unfold setHoldOvers
  try dsimp only
  (repeat' split) <;> simp [h]

@[simp] theorem setHoldOvers_streams (p : Nat → Bool) (tm : Timer) (c : Fin 8) (s : State) :
    (setHoldOvers p tm c s).channels.feedback = s.channels.feedback ∧
    (setHoldOvers p tm c s).channels.toChannels = s.channels.toChannels := by
  unfold setHoldOvers
  try dsimp only
  (repeat' split) <;> simp

@[simp] theorem startHoldOvers_local (p : Nat → Bool) {c d : Fin 8} (h : d ≠ c) (s : State) :
    (startHoldOvers p c s).chan d = s.chan d ∧ (startHoldOvers p c s).sentBy d = s.sentBy d ∧
    (startHoldOvers p c s).faults.records.get d = s.faults.records.get d := by
  unfold startHoldOvers
  try dsimp only
  (repeat' split) <;> simp [h]

@[simp] theorem startHoldOvers_streams (p : Nat → Bool) (c : Fin 8) (s : State) :
    (startHoldOvers p c s).channels.feedback = s.channels.feedback ∧
    (startHoldOvers p c s).channels.toChannels = s.channels.toChannels := by
  unfold startHoldOvers
  try dsimp only
  (repeat' split) <;> simp

@[simp] theorem addCause_local (k : Cause) {c d : Fin 8} (h : d ≠ c) (s : State) :
    (addCause k c s).chan d = s.chan d ∧ (addCause k c s).sentBy d = s.sentBy d ∧
    (addCause k c s).faults.records.get d = s.faults.records.get d := by
  unfold addCause
  try dsimp only
  simp [h]

@[simp] theorem addCause_streams (k : Cause) (c : Fin 8) (s : State) :
    (addCause k c s).channels.feedback = s.channels.feedback ∧
    (addCause k c s).channels.toChannels = s.channels.toChannels := by
  unfold addCause
  try dsimp only
  simp

@[simp] theorem forceCause_local (k : Cause) {c d : Fin 8} (h : d ≠ c) (s : State) :
    (forceCause k c s).chan d = s.chan d ∧ (forceCause k c s).sentBy d = s.sentBy d ∧
    (forceCause k c s).faults.records.get d = s.faults.records.get d := by
  unfold forceCause
  try dsimp only
  (repeat' split) <;> simp [h, sendToGroup_sentBy_other]

@[simp] theorem forceCause_streams (k : Cause) (c : Fin 8) (s : State) :
    (forceCause k c s).channels.feedback = s.channels.feedback ∧
    (forceCause k c s).channels.toChannels = s.channels.toChannels := by
  unfold forceCause
  try dsimp only
  (repeat' split) <;> simp

@[simp] theorem setRearm_local {c d : Fin 8} (h : d ≠ c) (s : State) :
    (setRearm c s).chan d = s.chan d ∧ (setRearm c s).sentBy d = s.sentBy d ∧
    (setRearm c s).faults.records.get d = s.faults.records.get d := by
  unfold setRearm
  try dsimp only
  simp [h]

@[simp] theorem setRearm_streams (c : Fin 8) (s : State) :
    (setRearm c s).channels.feedback = s.channels.feedback ∧
    (setRearm c s).channels.toChannels = s.channels.toChannels := by
  unfold setRearm
  try dsimp only
  simp

@[simp] theorem withdrawCause_local (k : Cause) {c d : Fin 8} (h : d ≠ c) (s : State) :
    (withdrawCause k c s).chan d = s.chan d ∧ (withdrawCause k c s).sentBy d = s.sentBy d ∧
    (withdrawCause k c s).faults.records.get d = s.faults.records.get d := by
  unfold withdrawCause
  try dsimp only
  (repeat' split) <;> simp [h]

@[simp] theorem withdrawCause_streams (k : Cause) (c : Fin 8) (s : State) :
    (withdrawCause k c s).channels.feedback = s.channels.feedback ∧
    (withdrawCause k c s).channels.toChannels = s.channels.toChannels := by
  unfold withdrawCause
  try dsimp only
  (repeat' split) <;> simp

@[simp] theorem pathLostAt_local {c d : Fin 8} (h : d ≠ c) (s : State) :
    (pathLostAt c s).chan d = s.chan d ∧ (pathLostAt c s).sentBy d = s.sentBy d ∧
    (pathLostAt c s).faults.records.get d = s.faults.records.get d := by
  unfold pathLostAt
  try dsimp only
  (repeat' split) <;> simp [h, sendToGroup_sentBy_other]

@[simp] theorem pathLostAt_streams (c : Fin 8) (s : State) :
    (pathLostAt c s).channels.feedback = s.channels.feedback ∧
    (pathLostAt c s).channels.toChannels = s.channels.toChannels := by
  unfold pathLostAt
  try dsimp only
  (repeat' split) <;> simp

@[simp] theorem pathReadyAt_local {c d : Fin 8} (h : d ≠ c) (s : State) :
    (pathReadyAt c s).chan d = s.chan d ∧ (pathReadyAt c s).sentBy d = s.sentBy d ∧
    (pathReadyAt c s).faults.records.get d = s.faults.records.get d := by
  unfold pathReadyAt
  try dsimp only
  (repeat' split) <;> simp [h]

@[simp] theorem pathReadyAt_streams (c : Fin 8) (s : State) :
    (pathReadyAt c s).channels.feedback = s.channels.feedback ∧
    (pathReadyAt c s).channels.toChannels = s.channels.toChannels := by
  unfold pathReadyAt
  try dsimp only
  (repeat' split) <;> simp

@[simp] theorem confirmIfReleasing_local (tm : Timer) {c d : Fin 8} (h : d ≠ c) (s : State) :
    (confirmIfReleasing tm c s).chan d = s.chan d ∧ (confirmIfReleasing tm c s).sentBy d = s.sentBy d ∧
    (confirmIfReleasing tm c s).faults.records.get d = s.faults.records.get d := by
  unfold confirmIfReleasing
  try dsimp only
  (repeat' split) <;> simp [h, sendToGroup_sentBy_other]

@[simp] theorem confirmIfReleasing_streams (tm : Timer) (c : Fin 8) (s : State) :
    (confirmIfReleasing tm c s).channels.feedback = s.channels.feedback ∧
    (confirmIfReleasing tm c s).channels.toChannels = s.channels.toChannels := by
  unfold confirmIfReleasing
  try dsimp only
  (repeat' split) <;> simp

@[simp] theorem feedbackInState_local (on : Bool) {c d : Fin 8} (h : d ≠ c) (s : State) :
    (feedbackInState on c s).chan d = s.chan d ∧ (feedbackInState on c s).sentBy d = s.sentBy d ∧
    (feedbackInState on c s).faults.records.get d = s.faults.records.get d := by
  unfold feedbackInState
  try dsimp only
  (repeat' split) <;> simp [h]

@[simp] theorem feedbackInState_streams (on : Bool) (c : Fin 8) (s : State) :
    (feedbackInState on c s).channels.feedback = s.channels.feedback ∧
    (feedbackInState on c s).channels.toChannels = s.channels.toChannels := by
  unfold feedbackInState
  try dsimp only
  (repeat' split) <;> simp

@[simp] theorem feedbackAt_local (b : Byte) {c d : Fin 8} (h : d ≠ c) (s : State) :
    (feedbackAt b c s).chan d = s.chan d ∧ (feedbackAt b c s).sentBy d = s.sentBy d ∧
    (feedbackAt b c s).faults.records.get d = s.faults.records.get d := by
  unfold feedbackAt
  try dsimp only
  (repeat' split) <;> simp [h]

@[simp] theorem feedbackAt_streams (b : Byte) (c : Fin 8) (s : State) :
    (feedbackAt b c s).channels.feedback = s.channels.feedback ∧
    (feedbackAt b c s).channels.toChannels = s.channels.toChannels := by
  unfold feedbackAt
  try dsimp only
  (repeat' split) <;> simp

@[simp] theorem offAssuredAt_local {c d : Fin 8} (h : d ≠ c) (s : State) :
    (offAssuredAt c s).chan d = s.chan d ∧ (offAssuredAt c s).sentBy d = s.sentBy d ∧
    (offAssuredAt c s).faults.records.get d = s.faults.records.get d := by
  unfold offAssuredAt
  try dsimp only
  (repeat' split) <;> simp [h]

@[simp] theorem offAssuredAt_streams (c : Fin 8) (s : State) :
    (offAssuredAt c s).channels.feedback = s.channels.feedback ∧
    (offAssuredAt c s).channels.toChannels = s.channels.toChannels := by
  unfold offAssuredAt
  try dsimp only
  (repeat' split) <;> simp

@[simp] theorem markEventAt_local {c d : Fin 8} (h : d ≠ c) (s : State) :
    (markEventAt c s).chan d = s.chan d ∧ (markEventAt c s).sentBy d = s.sentBy d ∧
    (markEventAt c s).faults.records.get d = s.faults.records.get d := by
  unfold markEventAt
  try dsimp only
  (repeat' split) <;> simp [h]

@[simp] theorem markEventAt_streams (c : Fin 8) (s : State) :
    (markEventAt c s).channels.feedback = s.channels.feedback ∧
    (markEventAt c s).channels.toChannels = s.channels.toChannels := by
  unfold markEventAt
  try dsimp only
  (repeat' split) <;> simp

@[simp] theorem revokeAt_local {c d : Fin 8} (h : d ≠ c) (s : State) :
    (revokeAt c s).chan d = s.chan d ∧ (revokeAt c s).sentBy d = s.sentBy d ∧
    (revokeAt c s).faults.records.get d = s.faults.records.get d := by
  unfold revokeAt
  try dsimp only
  (repeat' split) <;> simp [h, sendToGroup_sentBy_other]

@[simp] theorem revokeAt_streams (c : Fin 8) (s : State) :
    (revokeAt c s).channels.feedback = s.channels.feedback ∧
    (revokeAt c s).channels.toChannels = s.channels.toChannels := by
  unfold revokeAt
  try dsimp only
  (repeat' split) <;> simp

@[simp] theorem grantAt_local {c d : Fin 8} (h : d ≠ c) (s : State) :
    (grantAt c s).chan d = s.chan d ∧ (grantAt c s).sentBy d = s.sentBy d ∧
    (grantAt c s).faults.records.get d = s.faults.records.get d := by
  unfold grantAt
  try dsimp only
  (repeat' split) <;> simp [h, sendToGroup_sentBy_other]

@[simp] theorem grantAt_streams (c : Fin 8) (s : State) :
    (grantAt c s).channels.feedback = s.channels.feedback ∧
    (grantAt c s).channels.toChannels = s.channels.toChannels := by
  unfold grantAt
  try dsimp only
  (repeat' split) <;> simp

@[simp] theorem occurrence_local (k : FaultKind) {c d : Fin 8} (h : d ≠ c) (s : State) :
    (occurrence k c s).chan d = s.chan d ∧ (occurrence k c s).sentBy d = s.sentBy d ∧
    (occurrence k c s).faults.records.get d = s.faults.records.get d := by
  unfold occurrence
  try dsimp only
  (repeat' split) <;> simp [h]

@[simp] theorem occurrence_streams (k : FaultKind) (c : Fin 8) (s : State) :
    (occurrence k c s).channels.feedback = s.channels.feedback ∧
    (occurrence k c s).channels.toChannels = s.channels.toChannels := by
  unfold occurrence
  try dsimp only
  (repeat' split) <;> simp

@[simp] theorem takeLive_local (k : PowerKind) (b : Bool) {c d : Fin 8} (h : d ≠ c) (s : State) :
    (takeLive k b c s).chan d = s.chan d ∧ (takeLive k b c s).sentBy d = s.sentBy d ∧
    (takeLive k b c s).faults.records.get d = s.faults.records.get d := by
  unfold takeLive
  try dsimp only
  (repeat' split) <;> simp [h]

@[simp] theorem takeLive_streams (k : PowerKind) (b : Bool) (c : Fin 8) (s : State) :
    (takeLive k b c s).channels.feedback = s.channels.feedback ∧
    (takeLive k b c s).channels.toChannels = s.channels.toChannels := by
  unfold takeLive
  try dsimp only
  (repeat' split) <;> simp

@[simp] theorem raiseFailOn_local {c d : Fin 8} (h : d ≠ c) (s : State) :
    (raiseFailOn c s).chan d = s.chan d ∧ (raiseFailOn c s).sentBy d = s.sentBy d ∧
    (raiseFailOn c s).faults.records.get d = s.faults.records.get d := by
  unfold raiseFailOn
  try dsimp only
  simp [h]

@[simp] theorem raiseFailOn_streams (c : Fin 8) (s : State) :
    (raiseFailOn c s).channels.feedback = s.channels.feedback ∧
    (raiseFailOn c s).channels.toChannels = s.channels.toChannels := by
  unfold raiseFailOn
  try dsimp only
  simp

@[simp] theorem confirmExpiryEnergizing_local {c d : Fin 8} (h : d ≠ c) (s : State) :
    (confirmExpiryEnergizing c s).chan d = s.chan d ∧ (confirmExpiryEnergizing c s).sentBy d = s.sentBy d ∧
    (confirmExpiryEnergizing c s).faults.records.get d = s.faults.records.get d := by
  unfold confirmExpiryEnergizing
  try dsimp only
  (repeat' split) <;> simp [h]

@[simp] theorem confirmExpiryEnergizing_streams (c : Fin 8) (s : State) :
    (confirmExpiryEnergizing c s).channels.feedback = s.channels.feedback ∧
    (confirmExpiryEnergizing c s).channels.toChannels = s.channels.toChannels := by
  unfold confirmExpiryEnergizing
  try dsimp only
  (repeat' split) <;> simp

@[simp] theorem confirmExpiryReleasing_local {c d : Fin 8} (h : d ≠ c) (s : State) :
    (confirmExpiryReleasing c s).chan d = s.chan d ∧ (confirmExpiryReleasing c s).sentBy d = s.sentBy d ∧
    (confirmExpiryReleasing c s).faults.records.get d = s.faults.records.get d := by
  unfold confirmExpiryReleasing
  try dsimp only
  (repeat' split) <;> simp [h]

@[simp] theorem confirmExpiryReleasing_streams (c : Fin 8) (s : State) :
    (confirmExpiryReleasing c s).channels.feedback = s.channels.feedback ∧
    (confirmExpiryReleasing c s).channels.toChannels = s.channels.toChannels := by
  unfold confirmExpiryReleasing
  try dsimp only
  (repeat' split) <;> simp

@[simp] theorem offCheckExpiry_local {c d : Fin 8} (h : d ≠ c) (s : State) :
    (offCheckExpiry c s).chan d = s.chan d ∧ (offCheckExpiry c s).sentBy d = s.sentBy d ∧
    (offCheckExpiry c s).faults.records.get d = s.faults.records.get d := by
  unfold offCheckExpiry
  try dsimp only
  (repeat' split) <;> simp [h]

@[simp] theorem offCheckExpiry_streams (c : Fin 8) (s : State) :
    (offCheckExpiry c s).channels.feedback = s.channels.feedback ∧
    (offCheckExpiry c s).channels.toChannels = s.channels.toChannels := by
  unfold offCheckExpiry
  try dsimp only
  (repeat' split) <;> simp

@[simp] theorem holdOverExpiry_local (i : Fin 4) {c d : Fin 8} (h : d ≠ c) (s : State) :
    (holdOverExpiry c i s).chan d = s.chan d ∧ (holdOverExpiry c i s).sentBy d = s.sentBy d ∧
    (holdOverExpiry c i s).faults.records.get d = s.faults.records.get d := by
  unfold holdOverExpiry
  try dsimp only
  (repeat' split) <;> simp [h]

@[simp] theorem holdOverExpiry_streams (i : Fin 4) (c : Fin 8) (s : State) :
    (holdOverExpiry c i s).channels.feedback = s.channels.feedback ∧
    (holdOverExpiry c i s).channels.toChannels = s.channels.toChannels := by
  unfold holdOverExpiry
  try dsimp only
  (repeat' split) <;> simp

/-! ## What Channel Logic leaves of Fault Records and the Host Port -/

@[simp] theorem setLive_apart (c : Fin 8) (k : FaultKind) (b : Bool) (s : State) :
    (setLive c k b s).faults.flags = s.faults.flags ∧ (setLive c k b s).faults.list = s.faults.list ∧
    (setLive c k b s).faults.overrun = s.faults.overrun ∧ (setLive c k b s).faults.peers = s.faults.peers := by
  unfold setLive
  dsimp only
  split <;> simp

@[simp] theorem trackRecord_apart (c : Fin 8) (r : FaultRecord) (s : State) :
    (trackErr (setRecord c r) s).faults.flags = s.faults.flags ∧
    (trackErr (setRecord c r) s).faults.list = s.faults.list ∧
    (trackErr (setRecord c r) s).faults.overrun = s.faults.overrun ∧
    (trackErr (setRecord c r) s).faults.peers = s.faults.peers ∧
    (trackErr (setRecord c r) s).host = s.host := by
  unfold trackErr
  dsimp only
  split <;> simp

@[simp] theorem sendToGroup_apart (m : ToGroupMsg) (c : Fin 8) (s : State) :
    (sendToGroup c m s).faults.flags = s.faults.flags ∧
    (sendToGroup c m s).faults.list = s.faults.list ∧
    (sendToGroup c m s).faults.overrun = s.faults.overrun ∧
    (sendToGroup c m s).faults.peers = s.faults.peers ∧
    (sendToGroup c m s).host.points = s.host.points ∧
    (sendToGroup c m s).host.response = s.host.response ∧
    (sendToGroup c m s).host.transaction = s.host.transaction := by
  unfold sendToGroup
  try dsimp only
  (repeat' split) <;> simp

@[simp] theorem enterState_apart (x : ChannelState) (c : Fin 8) (s : State) :
    (enterState x c s).faults.flags = s.faults.flags ∧ (enterState x c s).faults.list = s.faults.list ∧
    (enterState x c s).faults.overrun = s.faults.overrun ∧
    (enterState x c s).faults.peers = s.faults.peers ∧ (enterState x c s).host.points = s.host.points ∧
    (enterState x c s).host.response = s.host.response ∧
    (enterState x c s).host.transaction = s.host.transaction := by
  unfold enterState
  try dsimp only
  (repeat' split) <;> simp

@[simp] theorem startChannel_apart (c : Fin 8) (s : State) :
    (startChannel c s).faults.flags = s.faults.flags ∧ (startChannel c s).faults.list = s.faults.list ∧
    (startChannel c s).faults.overrun = s.faults.overrun ∧
    (startChannel c s).faults.peers = s.faults.peers ∧ (startChannel c s).host.points = s.host.points ∧
    (startChannel c s).host.response = s.host.response ∧
    (startChannel c s).host.transaction = s.host.transaction := by
  unfold startChannel
  try dsimp only
  (repeat' split) <;> simp

@[simp] theorem startIfDue_apart (c : Fin 8) (s : State) :
    (startIfDue c s).faults.flags = s.faults.flags ∧ (startIfDue c s).faults.list = s.faults.list ∧
    (startIfDue c s).faults.overrun = s.faults.overrun ∧
    (startIfDue c s).faults.peers = s.faults.peers ∧ (startIfDue c s).host.points = s.host.points ∧
    (startIfDue c s).host.response = s.host.response ∧
    (startIfDue c s).host.transaction = s.host.transaction := by
  unfold startIfDue
  try dsimp only
  (repeat' split) <;> simp

@[simp] theorem seeDemandInOff_apart (c : Fin 8) (s : State) :
    (seeDemandInOff c s).faults.flags = s.faults.flags ∧
    (seeDemandInOff c s).faults.list = s.faults.list ∧
    (seeDemandInOff c s).faults.overrun = s.faults.overrun ∧
    (seeDemandInOff c s).faults.peers = s.faults.peers ∧
    (seeDemandInOff c s).host.points = s.host.points ∧
    (seeDemandInOff c s).host.response = s.host.response ∧
    (seeDemandInOff c s).host.transaction = s.host.transaction := by
  unfold seeDemandInOff
  try dsimp only
  (repeat' split) <;> simp

@[simp] theorem enterOff_apart (c : Fin 8) (s : State) :
    (enterOff c s).faults.flags = s.faults.flags ∧ (enterOff c s).faults.list = s.faults.list ∧
    (enterOff c s).faults.overrun = s.faults.overrun ∧ (enterOff c s).faults.peers = s.faults.peers ∧
    (enterOff c s).host.points = s.host.points ∧ (enterOff c s).host.response = s.host.response ∧
    (enterOff c s).host.transaction = s.host.transaction := by
  unfold enterOff
  try dsimp only
  simp

@[simp] theorem enterReleasing_apart (x : Target) (c : Fin 8) (s : State) :
    (enterReleasing x c s).faults.flags = s.faults.flags ∧
    (enterReleasing x c s).faults.list = s.faults.list ∧
    (enterReleasing x c s).faults.overrun = s.faults.overrun ∧
    (enterReleasing x c s).faults.peers = s.faults.peers ∧
    (enterReleasing x c s).host.points = s.host.points ∧
    (enterReleasing x c s).host.response = s.host.response ∧
    (enterReleasing x c s).host.transaction = s.host.transaction := by
  unfold enterReleasing
  try dsimp only
  simp

@[simp] theorem leaveSuspended_apart (c : Fin 8) (s : State) :
    (leaveSuspended c s).faults.flags = s.faults.flags ∧
    (leaveSuspended c s).faults.list = s.faults.list ∧
    (leaveSuspended c s).faults.overrun = s.faults.overrun ∧
    (leaveSuspended c s).faults.peers = s.faults.peers ∧
    (leaveSuspended c s).host.points = s.host.points ∧
    (leaveSuspended c s).host.response = s.host.response ∧
    (leaveSuspended c s).host.transaction = s.host.transaction := by
  unfold leaveSuspended
  try dsimp only
  (repeat' split) <;> simp

@[simp] theorem completeRelease_apart (c : Fin 8) (s : State) :
    (completeRelease c s).faults.flags = s.faults.flags ∧
    (completeRelease c s).faults.list = s.faults.list ∧
    (completeRelease c s).faults.overrun = s.faults.overrun ∧
    (completeRelease c s).faults.peers = s.faults.peers ∧
    (completeRelease c s).host.points = s.host.points ∧
    (completeRelease c s).host.response = s.host.response ∧
    (completeRelease c s).host.transaction = s.host.transaction := by
  unfold completeRelease
  try dsimp only
  (repeat' split) <;> simp

@[simp] theorem settleHandBack_apart (c : Fin 8) (s : State) :
    (settleHandBack c s).faults.flags = s.faults.flags ∧
    (settleHandBack c s).faults.list = s.faults.list ∧
    (settleHandBack c s).faults.overrun = s.faults.overrun ∧
    (settleHandBack c s).faults.peers = s.faults.peers ∧
    (settleHandBack c s).host.points = s.host.points ∧
    (settleHandBack c s).host.response = s.host.response ∧
    (settleHandBack c s).host.transaction = s.host.transaction := by
  unfold settleHandBack
  try dsimp only
  (repeat' split) <;> simp

@[simp] theorem fallFromOn_apart (c : Fin 8) (s : State) :
    (fallFromOn c s).faults.flags = s.faults.flags ∧ (fallFromOn c s).faults.list = s.faults.list ∧
    (fallFromOn c s).faults.overrun = s.faults.overrun ∧
    (fallFromOn c s).faults.peers = s.faults.peers ∧ (fallFromOn c s).host.points = s.host.points ∧
    (fallFromOn c s).host.response = s.host.response ∧
    (fallFromOn c s).host.transaction = s.host.transaction := by
  unfold fallFromOn
  try dsimp only
  (repeat' split) <;> simp

@[simp] theorem enterOn_apart (c : Fin 8) (s : State) :
    (enterOn c s).faults.flags = s.faults.flags ∧ (enterOn c s).faults.list = s.faults.list ∧
    (enterOn c s).faults.overrun = s.faults.overrun ∧ (enterOn c s).faults.peers = s.faults.peers ∧
    (enterOn c s).host.points = s.host.points ∧ (enterOn c s).host.response = s.host.response ∧
    (enterOn c s).host.transaction = s.host.transaction := by
  unfold enterOn
  try dsimp only
  (repeat' split) <;> simp

@[simp] theorem oweHandBack_apart (c : Fin 8) (s : State) :
    (oweHandBack c s).faults.flags = s.faults.flags ∧ (oweHandBack c s).faults.list = s.faults.list ∧
    (oweHandBack c s).faults.overrun = s.faults.overrun ∧
    (oweHandBack c s).faults.peers = s.faults.peers ∧ (oweHandBack c s).host.points = s.host.points ∧
    (oweHandBack c s).host.response = s.host.response ∧
    (oweHandBack c s).host.transaction = s.host.transaction := by
  unfold oweHandBack
  try dsimp only
  (repeat' split) <;> simp

@[simp] theorem demandChange_apart (b : Bool) (c : Fin 8) (s : State) :
    (demandChange c b s).faults.flags = s.faults.flags ∧
    (demandChange c b s).faults.list = s.faults.list ∧
    (demandChange c b s).faults.overrun = s.faults.overrun ∧
    (demandChange c b s).faults.peers = s.faults.peers ∧
    (demandChange c b s).host.points = s.host.points ∧
    (demandChange c b s).host.response = s.host.response ∧
    (demandChange c b s).host.transaction = s.host.transaction := by
  unfold demandChange
  try dsimp only
  (repeat' split) <;> simp

@[simp] theorem evaluate_apart (c : Fin 8) (s : State) :
    (evaluate c s).faults.flags = s.faults.flags ∧ (evaluate c s).faults.list = s.faults.list ∧
    (evaluate c s).faults.overrun = s.faults.overrun ∧ (evaluate c s).faults.peers = s.faults.peers ∧
    (evaluate c s).host.points = s.host.points ∧ (evaluate c s).host.response = s.host.response ∧
    (evaluate c s).host.transaction = s.host.transaction := by
  unfold evaluate
  try dsimp only
  (repeat' split) <;> simp

@[simp] theorem setHoldOvers_apart (p : Nat → Bool) (tm : Timer) (c : Fin 8) (s : State) :
    (setHoldOvers p tm c s).faults.flags = s.faults.flags ∧
    (setHoldOvers p tm c s).faults.list = s.faults.list ∧
    (setHoldOvers p tm c s).faults.overrun = s.faults.overrun ∧
    (setHoldOvers p tm c s).faults.peers = s.faults.peers ∧
    (setHoldOvers p tm c s).host.points = s.host.points ∧
    (setHoldOvers p tm c s).host.response = s.host.response ∧
    (setHoldOvers p tm c s).host.transaction = s.host.transaction := by
  unfold setHoldOvers
  try dsimp only
  (repeat' split) <;> simp

@[simp] theorem startHoldOvers_apart (p : Nat → Bool) (c : Fin 8) (s : State) :
    (startHoldOvers p c s).faults.flags = s.faults.flags ∧
    (startHoldOvers p c s).faults.list = s.faults.list ∧
    (startHoldOvers p c s).faults.overrun = s.faults.overrun ∧
    (startHoldOvers p c s).faults.peers = s.faults.peers ∧
    (startHoldOvers p c s).host.points = s.host.points ∧
    (startHoldOvers p c s).host.response = s.host.response ∧
    (startHoldOvers p c s).host.transaction = s.host.transaction := by
  unfold startHoldOvers
  try dsimp only
  (repeat' split) <;> simp

@[simp] theorem addCause_apart (k : Cause) (c : Fin 8) (s : State) :
    (addCause k c s).faults.flags = s.faults.flags ∧ (addCause k c s).faults.list = s.faults.list ∧
    (addCause k c s).faults.overrun = s.faults.overrun ∧
    (addCause k c s).faults.peers = s.faults.peers ∧ (addCause k c s).host.points = s.host.points ∧
    (addCause k c s).host.response = s.host.response ∧
    (addCause k c s).host.transaction = s.host.transaction := by
  unfold addCause
  try dsimp only
  simp

@[simp] theorem forceCause_apart (k : Cause) (c : Fin 8) (s : State) :
    (forceCause k c s).faults.flags = s.faults.flags ∧ (forceCause k c s).faults.list = s.faults.list ∧
    (forceCause k c s).faults.overrun = s.faults.overrun ∧
    (forceCause k c s).faults.peers = s.faults.peers ∧ (forceCause k c s).host.points = s.host.points ∧
    (forceCause k c s).host.response = s.host.response ∧
    (forceCause k c s).host.transaction = s.host.transaction := by
  unfold forceCause
  try dsimp only
  (repeat' split) <;> simp

@[simp] theorem setRearm_apart (c : Fin 8) (s : State) :
    (setRearm c s).faults.flags = s.faults.flags ∧ (setRearm c s).faults.list = s.faults.list ∧
    (setRearm c s).faults.overrun = s.faults.overrun ∧ (setRearm c s).faults.peers = s.faults.peers ∧
    (setRearm c s).host.points = s.host.points ∧ (setRearm c s).host.response = s.host.response ∧
    (setRearm c s).host.transaction = s.host.transaction := by
  unfold setRearm
  try dsimp only
  simp

@[simp] theorem withdrawCause_apart (k : Cause) (c : Fin 8) (s : State) :
    (withdrawCause k c s).faults.flags = s.faults.flags ∧
    (withdrawCause k c s).faults.list = s.faults.list ∧
    (withdrawCause k c s).faults.overrun = s.faults.overrun ∧
    (withdrawCause k c s).faults.peers = s.faults.peers ∧
    (withdrawCause k c s).host.points = s.host.points ∧
    (withdrawCause k c s).host.response = s.host.response ∧
    (withdrawCause k c s).host.transaction = s.host.transaction := by
  unfold withdrawCause
  try dsimp only
  (repeat' split) <;> simp

@[simp] theorem pathLostAt_apart (c : Fin 8) (s : State) :
    (pathLostAt c s).faults.flags = s.faults.flags ∧ (pathLostAt c s).faults.list = s.faults.list ∧
    (pathLostAt c s).faults.overrun = s.faults.overrun ∧
    (pathLostAt c s).faults.peers = s.faults.peers ∧ (pathLostAt c s).host.points = s.host.points ∧
    (pathLostAt c s).host.response = s.host.response ∧
    (pathLostAt c s).host.transaction = s.host.transaction := by
  unfold pathLostAt
  try dsimp only
  (repeat' split) <;> simp

@[simp] theorem pathReadyAt_apart (c : Fin 8) (s : State) :
    (pathReadyAt c s).faults.flags = s.faults.flags ∧ (pathReadyAt c s).faults.list = s.faults.list ∧
    (pathReadyAt c s).faults.overrun = s.faults.overrun ∧
    (pathReadyAt c s).faults.peers = s.faults.peers ∧ (pathReadyAt c s).host.points = s.host.points ∧
    (pathReadyAt c s).host.response = s.host.response ∧
    (pathReadyAt c s).host.transaction = s.host.transaction := by
  unfold pathReadyAt
  try dsimp only
  (repeat' split) <;> simp

@[simp] theorem confirmIfReleasing_apart (tm : Timer) (c : Fin 8) (s : State) :
    (confirmIfReleasing tm c s).faults.flags = s.faults.flags ∧
    (confirmIfReleasing tm c s).faults.list = s.faults.list ∧
    (confirmIfReleasing tm c s).faults.overrun = s.faults.overrun ∧
    (confirmIfReleasing tm c s).faults.peers = s.faults.peers ∧
    (confirmIfReleasing tm c s).host.points = s.host.points ∧
    (confirmIfReleasing tm c s).host.response = s.host.response ∧
    (confirmIfReleasing tm c s).host.transaction = s.host.transaction := by
  unfold confirmIfReleasing
  try dsimp only
  (repeat' split) <;> simp

@[simp] theorem feedbackInState_apart (on : Bool) (c : Fin 8) (s : State) :
    (feedbackInState on c s).faults.flags = s.faults.flags ∧
    (feedbackInState on c s).faults.list = s.faults.list ∧
    (feedbackInState on c s).faults.overrun = s.faults.overrun ∧
    (feedbackInState on c s).faults.peers = s.faults.peers ∧
    (feedbackInState on c s).host.points = s.host.points ∧
    (feedbackInState on c s).host.response = s.host.response ∧
    (feedbackInState on c s).host.transaction = s.host.transaction := by
  unfold feedbackInState
  try dsimp only
  (repeat' split) <;> simp

@[simp] theorem feedbackAt_apart (b : Byte) (c : Fin 8) (s : State) :
    (feedbackAt b c s).faults.flags = s.faults.flags ∧ (feedbackAt b c s).faults.list = s.faults.list ∧
    (feedbackAt b c s).faults.overrun = s.faults.overrun ∧
    (feedbackAt b c s).faults.peers = s.faults.peers ∧ (feedbackAt b c s).host.points = s.host.points ∧
    (feedbackAt b c s).host.response = s.host.response ∧
    (feedbackAt b c s).host.transaction = s.host.transaction := by
  unfold feedbackAt
  try dsimp only
  (repeat' split) <;> simp

@[simp] theorem offAssuredAt_apart (c : Fin 8) (s : State) :
    (offAssuredAt c s).faults.flags = s.faults.flags ∧ (offAssuredAt c s).faults.list = s.faults.list ∧
    (offAssuredAt c s).faults.overrun = s.faults.overrun ∧
    (offAssuredAt c s).faults.peers = s.faults.peers ∧ (offAssuredAt c s).host.points = s.host.points ∧
    (offAssuredAt c s).host.response = s.host.response ∧
    (offAssuredAt c s).host.transaction = s.host.transaction := by
  unfold offAssuredAt
  try dsimp only
  (repeat' split) <;> simp

@[simp] theorem markEventAt_apart (c : Fin 8) (s : State) :
    (markEventAt c s).faults.flags = s.faults.flags ∧ (markEventAt c s).faults.list = s.faults.list ∧
    (markEventAt c s).faults.overrun = s.faults.overrun ∧
    (markEventAt c s).faults.peers = s.faults.peers ∧ (markEventAt c s).host.points = s.host.points ∧
    (markEventAt c s).host.response = s.host.response ∧
    (markEventAt c s).host.transaction = s.host.transaction := by
  unfold markEventAt
  try dsimp only
  (repeat' split) <;> simp

@[simp] theorem revokeAt_apart (c : Fin 8) (s : State) :
    (revokeAt c s).faults.flags = s.faults.flags ∧ (revokeAt c s).faults.list = s.faults.list ∧
    (revokeAt c s).faults.overrun = s.faults.overrun ∧ (revokeAt c s).faults.peers = s.faults.peers ∧
    (revokeAt c s).host.points = s.host.points ∧ (revokeAt c s).host.response = s.host.response ∧
    (revokeAt c s).host.transaction = s.host.transaction := by
  unfold revokeAt
  try dsimp only
  (repeat' split) <;> simp

@[simp] theorem grantAt_apart (c : Fin 8) (s : State) :
    (grantAt c s).faults.flags = s.faults.flags ∧ (grantAt c s).faults.list = s.faults.list ∧
    (grantAt c s).faults.overrun = s.faults.overrun ∧ (grantAt c s).faults.peers = s.faults.peers ∧
    (grantAt c s).host.points = s.host.points ∧ (grantAt c s).host.response = s.host.response ∧
    (grantAt c s).host.transaction = s.host.transaction := by
  unfold grantAt
  try dsimp only
  (repeat' split) <;> simp

@[simp] theorem occurrence_apart (k : FaultKind) (c : Fin 8) (s : State) :
    (occurrence k c s).faults.flags = s.faults.flags ∧ (occurrence k c s).faults.list = s.faults.list ∧
    (occurrence k c s).faults.overrun = s.faults.overrun ∧
    (occurrence k c s).faults.peers = s.faults.peers ∧ (occurrence k c s).host.points = s.host.points ∧
    (occurrence k c s).host.response = s.host.response ∧
    (occurrence k c s).host.transaction = s.host.transaction := by
  unfold occurrence
  try dsimp only
  (repeat' split) <;> simp

@[simp] theorem takeLive_apart (k : PowerKind) (b : Bool) (c : Fin 8) (s : State) :
    (takeLive k b c s).faults.flags = s.faults.flags ∧ (takeLive k b c s).faults.list = s.faults.list ∧
    (takeLive k b c s).faults.overrun = s.faults.overrun ∧
    (takeLive k b c s).faults.peers = s.faults.peers ∧ (takeLive k b c s).host.points = s.host.points ∧
    (takeLive k b c s).host.response = s.host.response ∧
    (takeLive k b c s).host.transaction = s.host.transaction := by
  unfold takeLive
  try dsimp only
  (repeat' split) <;> simp

@[simp] theorem raiseFailOn_apart (c : Fin 8) (s : State) :
    (raiseFailOn c s).faults.flags = s.faults.flags ∧ (raiseFailOn c s).faults.list = s.faults.list ∧
    (raiseFailOn c s).faults.overrun = s.faults.overrun ∧
    (raiseFailOn c s).faults.peers = s.faults.peers ∧ (raiseFailOn c s).host.points = s.host.points ∧
    (raiseFailOn c s).host.response = s.host.response ∧
    (raiseFailOn c s).host.transaction = s.host.transaction := by
  unfold raiseFailOn
  try dsimp only
  simp

@[simp] theorem confirmExpiryEnergizing_apart (c : Fin 8) (s : State) :
    (confirmExpiryEnergizing c s).faults.flags = s.faults.flags ∧
    (confirmExpiryEnergizing c s).faults.list = s.faults.list ∧
    (confirmExpiryEnergizing c s).faults.overrun = s.faults.overrun ∧
    (confirmExpiryEnergizing c s).faults.peers = s.faults.peers ∧
    (confirmExpiryEnergizing c s).host.points = s.host.points ∧
    (confirmExpiryEnergizing c s).host.response = s.host.response ∧
    (confirmExpiryEnergizing c s).host.transaction = s.host.transaction := by
  unfold confirmExpiryEnergizing
  try dsimp only
  (repeat' split) <;> simp

@[simp] theorem confirmExpiryReleasing_apart (c : Fin 8) (s : State) :
    (confirmExpiryReleasing c s).faults.flags = s.faults.flags ∧
    (confirmExpiryReleasing c s).faults.list = s.faults.list ∧
    (confirmExpiryReleasing c s).faults.overrun = s.faults.overrun ∧
    (confirmExpiryReleasing c s).faults.peers = s.faults.peers ∧
    (confirmExpiryReleasing c s).host.points = s.host.points ∧
    (confirmExpiryReleasing c s).host.response = s.host.response ∧
    (confirmExpiryReleasing c s).host.transaction = s.host.transaction := by
  unfold confirmExpiryReleasing
  try dsimp only
  (repeat' split) <;> simp

@[simp] theorem offCheckExpiry_apart (c : Fin 8) (s : State) :
    (offCheckExpiry c s).faults.flags = s.faults.flags ∧
    (offCheckExpiry c s).faults.list = s.faults.list ∧
    (offCheckExpiry c s).faults.overrun = s.faults.overrun ∧
    (offCheckExpiry c s).faults.peers = s.faults.peers ∧
    (offCheckExpiry c s).host.points = s.host.points ∧
    (offCheckExpiry c s).host.response = s.host.response ∧
    (offCheckExpiry c s).host.transaction = s.host.transaction := by
  unfold offCheckExpiry
  try dsimp only
  (repeat' split) <;> simp

@[simp] theorem holdOverExpiry_apart (i : Fin 4) (c : Fin 8) (s : State) :
    (holdOverExpiry c i s).faults.flags = s.faults.flags ∧
    (holdOverExpiry c i s).faults.list = s.faults.list ∧
    (holdOverExpiry c i s).faults.overrun = s.faults.overrun ∧
    (holdOverExpiry c i s).faults.peers = s.faults.peers ∧
    (holdOverExpiry c i s).host.points = s.host.points ∧
    (holdOverExpiry c i s).host.response = s.host.response ∧
    (holdOverExpiry c i s).host.transaction = s.host.transaction := by
  unfold holdOverExpiry
  try dsimp only
  (repeat' split) <;> simp

/-- Those parts together. -/
def State.apart (s : State) : NodeFlags × List ListEntry × Nat × List Peer × Eight Bool × Response ×
    Option (List Byte) :=
  (s.faults.flags, s.faults.list, s.faults.overrun, s.faults.peers, s.host.points, s.host.response,
    s.host.transaction)

@[simp] theorem evaluateUsers_apart (p : TermSource → Bool) (s : State) :
    (evaluateUsers p s).faults.flags = s.faults.flags ∧
    (evaluateUsers p s).faults.list = s.faults.list ∧
    (evaluateUsers p s).faults.overrun = s.faults.overrun ∧
    (evaluateUsers p s).faults.peers = s.faults.peers ∧
    (evaluateUsers p s).host.points = s.host.points ∧
    (evaluateUsers p s).host.response = s.host.response ∧
    (evaluateUsers p s).host.transaction = s.host.transaction := by
  have h : (evaluateUsers p s).apart = s.apart :=
    each8_keeps State.apart _ (fun n s => by (repeat' split) <;> simp [State.apart]) s
  simpa [State.apart] using h

@[simp] theorem pathLost_apart (s : State) :
    (pathLost s).faults.flags = s.faults.flags ∧ (pathLost s).faults.list = s.faults.list ∧
    (pathLost s).faults.overrun = s.faults.overrun ∧ (pathLost s).faults.peers = s.faults.peers ∧
    (pathLost s).host.points = s.host.points ∧ (pathLost s).host.response = s.host.response ∧
    (pathLost s).host.transaction = s.host.transaction := by
  have h : (pathLost s).apart = s.apart :=
    each8_keeps State.apart _ (fun n s => by (repeat' split) <;> simp [State.apart]) s
  simpa [State.apart] using h

@[simp] theorem pathReadyEvent_apart (s : State) :
    (pathReadyEvent s).faults.flags = s.faults.flags ∧ (pathReadyEvent s).faults.list = s.faults.list ∧
    (pathReadyEvent s).faults.overrun = s.faults.overrun ∧
    (pathReadyEvent s).faults.peers = s.faults.peers ∧ (pathReadyEvent s).host.points = s.host.points ∧
    (pathReadyEvent s).host.response = s.host.response ∧
    (pathReadyEvent s).host.transaction = s.host.transaction := by
  have h : (pathReadyEvent s).apart = s.apart :=
    each8_keeps State.apart _ (fun n s => by (repeat' split) <;> simp [State.apart]) s
  simpa [State.apart] using h

@[simp] theorem takeDiagnostic_apart (k : PowerKind) (b : Byte) (s : State) :
    (takeDiagnostic k b s).faults.flags = s.faults.flags ∧
    (takeDiagnostic k b s).faults.list = s.faults.list ∧
    (takeDiagnostic k b s).faults.overrun = s.faults.overrun ∧
    (takeDiagnostic k b s).faults.peers = s.faults.peers ∧
    (takeDiagnostic k b s).host.points = s.host.points ∧
    (takeDiagnostic k b s).host.response = s.host.response ∧
    (takeDiagnostic k b s).host.transaction = s.host.transaction := by
  have h : (takeDiagnostic k b s).apart = s.apart :=
    each8_keeps State.apart _ (fun n s => by (repeat' split) <;> simp [State.apart]) s
  simpa [State.apart] using h

@[simp] theorem forceTrip_apart (z : Fin 8) (s : State) :
    (forceTrip z s).faults.flags = s.faults.flags ∧ (forceTrip z s).faults.list = s.faults.list ∧
    (forceTrip z s).faults.overrun = s.faults.overrun ∧ (forceTrip z s).faults.peers = s.faults.peers ∧
    (forceTrip z s).host.points = s.host.points ∧ (forceTrip z s).host.response = s.host.response ∧
    (forceTrip z s).host.transaction = s.host.transaction := by
  have h : (forceTrip z s).apart = s.apart :=
    each8_keeps State.apart _ (fun n s => by (repeat' split) <;> simp [State.apart]) s
  simpa [State.apart] using h

@[simp] theorem withdrawTrip_apart (z : Fin 8) (s : State) :
    (withdrawTrip z s).faults.flags = s.faults.flags ∧ (withdrawTrip z s).faults.list = s.faults.list ∧
    (withdrawTrip z s).faults.overrun = s.faults.overrun ∧
    (withdrawTrip z s).faults.peers = s.faults.peers ∧ (withdrawTrip z s).host.points = s.host.points ∧
    (withdrawTrip z s).host.response = s.host.response ∧
    (withdrawTrip z s).host.transaction = s.host.transaction := by
  have h : (withdrawTrip z s).apart = s.apart :=
    each8_keeps State.apart _ (fun n s => by (repeat' split) <;> simp [State.apart]) s
  simpa [State.apart] using h

@[simp] theorem forceShutdown_apart (s : State) :
    (forceShutdown s).faults.flags = s.faults.flags ∧ (forceShutdown s).faults.list = s.faults.list ∧
    (forceShutdown s).faults.overrun = s.faults.overrun ∧
    (forceShutdown s).faults.peers = s.faults.peers ∧ (forceShutdown s).host.points = s.host.points ∧
    (forceShutdown s).host.response = s.host.response ∧
    (forceShutdown s).host.transaction = s.host.transaction := by
  have h : (forceShutdown s).apart = s.apart :=
    each8_keeps State.apart _ (fun n s => by (repeat' split) <;> simp [State.apart]) s
  simpa [State.apart] using h

@[simp] theorem withdrawShutdown_apart (s : State) :
    (withdrawShutdown s).faults.flags = s.faults.flags ∧
    (withdrawShutdown s).faults.list = s.faults.list ∧
    (withdrawShutdown s).faults.overrun = s.faults.overrun ∧
    (withdrawShutdown s).faults.peers = s.faults.peers ∧
    (withdrawShutdown s).host.points = s.host.points ∧
    (withdrawShutdown s).host.response = s.host.response ∧
    (withdrawShutdown s).host.transaction = s.host.transaction := by
  have h : (withdrawShutdown s).apart = s.apart :=
    each8_keeps State.apart _ (fun n s => by (repeat' split) <;> simp [State.apart]) s
  simpa [State.apart] using h

end Sys2Proof.Machine
end

