-- ==== Sys2Proof/Laws/Alike.lean ====
section
/-! SUPPORT. What an event does to a channel when it acts on all eight, channel by channel: what it does to that
channel alone. Two states are alike for a channel when its record, its messages and everything its operations
read are the same in both. -/

namespace Sys2Proof.Machine

open Sys2Proof

/-- The two states are alike for channel c. -/
structure Alike (c : Fin 8) (s t : State) : Prop where
  now : t.now = s.now
  loader : t.loader = s.loader
  link : t.link = s.link
  feedback : t.channels.feedback = s.channels.feedback
  chan : t.chan c = s.chan c
  sent : t.sentBy c = s.sentBy c

namespace Alike

variable {c d : Fin 8} {s t u : State}

theorem refl (c : Fin 8) (s : State) : Alike c s s := ⟨rfl, rfl, rfl, rfl, rfl, rfl⟩

theorem trans (h : Alike c s t) (k : Alike c t u) : Alike c s u :=
  ⟨k.now.trans h.now, k.loader.trans h.loader, k.link.trans h.link, k.feedback.trans h.feedback,
    k.chan.trans h.chan, k.sent.trans h.sent⟩

theorem symm (h : Alike c s t) : Alike c t s :=
  ⟨h.now.symm, h.loader.symm, h.link.symm, h.feedback.symm, h.chan.symm, h.sent.symm⟩

theorem cfg (h : Alike c s t) (d : Fin 8) : t.cfg d = s.cfg d := by
  simp [State.cfg, State.config, h.loader]

theorem pathReady (h : Alike c s t) : t.pathReady = s.pathReady := by
  simp [State.pathReady, h.link, h.feedback]

theorem messageOf (h : Alike c s t) : t.messageOf c = s.messageOf c := by
  funext m
  simp [State.messageOf, h.cfg]

/-! ## The plain updates keep likeness -/

theorem modChan (h : Alike c s t) (f : Channel → Channel) :
    Alike c (Machine.modChan c f s) (Machine.modChan c f t) := by
  constructor <;> simp [h.now, h.loader, h.link, h.feedback, h.chan, h.sent]

theorem sendToGroup (h : Alike c s t) (m : ToGroupMsg) :
    Alike c (Machine.sendToGroup c m s) (Machine.sendToGroup c m t) := by
  constructor <;> simp [h.now, h.loader, h.link, h.feedback, h.chan, h.sent, h.messageOf]

theorem enterState (h : Alike c s t) (x : ChannelState) :
    Alike c (Machine.enterState x c s) (Machine.enterState x c t) := by
  constructor <;> simp [h.now, h.loader, h.link, h.feedback, h.chan, h.sent, confirmAtEntry]

theorem setLive (h : Alike c s t) (k : FaultKind) (b : Bool) :
    Alike c (Machine.setLive c k b s) (Machine.setLive c k b t) := by
  constructor <;> simp [h.now, h.loader, h.link, h.feedback, h.chan, h.sent]

theorem setLockChange (h : Alike c s t) : Alike c (Machine.setLockChange s) (Machine.setLockChange t) := by
  constructor <;> simp [h.now, h.loader, h.link, h.feedback, h.chan, h.sent]

/-! ## One channel's operations keep likeness -/

theorem startChannel (h : Alike c s t) : Alike c (Machine.startChannel c s) (Machine.startChannel c t) := by
  simp only [Machine.startChannel, h.cfg]
  (repeat' split) <;> first | exact (h.sendToGroup _).enterState _ | exact h.enterState _

theorem startIfDue (h : Alike c s t) : Alike c (Machine.startIfDue c s) (Machine.startIfDue c t) := by
  simp only [Machine.startIfDue, h.cfg, h.chan, h.pathReady]
  split
  · exact h.startChannel
  · exact h

theorem seeDemandInOff (h : Alike c s t) :
    Alike c (Machine.seeDemandInOff c s) (Machine.seeDemandInOff c t) := by
  simp only [Machine.seeDemandInOff, h.chan]
  split
  · exact h.startIfDue
  · exact h.modChan _

theorem enterOff (h : Alike c s t) : Alike c (Machine.enterOff c s) (Machine.enterOff c t) :=
  (h.enterState _).seeDemandInOff

theorem enterReleasing (h : Alike c s t) (x : Target) :
    Alike c (Machine.enterReleasing x c s) (Machine.enterReleasing x c t) :=
  (h.enterState _).modChan _

theorem leaveSuspended (h : Alike c s t) :
    Alike c (Machine.leaveSuspended c s) (Machine.leaveSuspended c t) := by
  simp only [Machine.leaveSuspended, h.cfg]
  split
  · exact (h.modChan _).enterOff
  · exact h.enterOff

theorem completeRelease (h : Alike c s t) :
    Alike c (Machine.completeRelease c s) (Machine.completeRelease c t) := by
  have k := h.sendToGroup .doneOffConfirmed
  simp only [Machine.completeRelease, h.chan]
  split
  · exact k.enterOff
  · have l := k.enterState .suspended
    rw [l.pathReady]
    split
    · exact l.leaveSuspended
    · exact l
  · exact k.enterState _

theorem settleHandBack (h : Alike c s t) :
    Alike c (Machine.settleHandBack c s) (Machine.settleHandBack c t) := by
  simp only [Machine.settleHandBack, h.chan]
  split
  · exact (h.modChan _).sendToGroup _
  · exact h

theorem fallFromOn (h : Alike c s t) : Alike c (Machine.fallFromOn c s) (Machine.fallFromOn c t) := by
  simp only [Machine.fallFromOn, h.cfg]
  split
  · exact h.enterState _
  · exact h.enterReleasing _

theorem enterOn (h : Alike c s t) : Alike c (Machine.enterOn c s) (Machine.enterOn c t) := by
  have k := h.enterState .on
  simp only [Machine.enterOn, k.chan]
  split
  · exact k
  · exact k.fallFromOn

theorem oweHandBack (h : Alike c s t) : Alike c (Machine.oweHandBack c s) (Machine.oweHandBack c t) := by
  simp only [Machine.oweHandBack, h.cfg]
  split
  · exact h.modChan _
  · exact h

theorem forceCause (h : Alike c s t) (k : Cause) :
    Alike c (Machine.forceCause k c s) (Machine.forceCause k c t) := by
  have l : Alike c (addCause k c s) (addCause k c t) := h.modChan _
  simp only [Machine.forceCause, h.chan]
  split
  · exact h
  · split
    · exact l.enterState _
    · exact l.enterState _
    · exact (l.sendToGroup _).enterState _
    · exact (l.sendToGroup _).enterState _
    · exact l.enterReleasing _
    · exact l.enterReleasing _
    · exact l.enterReleasing _
    · exact l.modChan _
    · exact l.setLockChange

theorem withdrawCause (h : Alike c s t) (k : Cause) :
    Alike c (Machine.withdrawCause k c s) (Machine.withdrawCause k c t) := by
  have l := h.modChan fun r => { r with causes := r.causes.put k false }
  simp only [Machine.withdrawCause, h.chan]
  split
  · exact h
  · split
    · split
      · exact (l.modChan _).enterOff
      · exact l.setLockChange
    · split
      · have e : t.pathReady = s.pathReady := h.pathReady
        simp only [e]
        exact (l.modChan _).modChan _
      · exact l
    · exact l

theorem pathLostAt (h : Alike c s t) : Alike c (Machine.pathLostAt c s) (Machine.pathLostAt c t) := by
  simp only [Machine.pathLostAt, h.chan]
  split
  · exact h
  · exact h
  · exact h
  · exact (h.sendToGroup _).enterState _
  · exact (h.sendToGroup _).enterState _
  · exact (h.enterState _).oweHandBack
  · exact (h.enterState _).oweHandBack
  · exact (h.enterState _).oweHandBack
  · exact h.modChan _

theorem pathReadyAt (h : Alike c s t) : Alike c (Machine.pathReadyAt c s) (Machine.pathReadyAt c t) := by
  simp only [Machine.pathReadyAt, h.chan]
  split
  · exact h.leaveSuspended
  · exact h.startIfDue
  · exact h

theorem feedbackInState (h : Alike c s t) (on : Bool) :
    Alike c (Machine.feedbackInState on c s) (Machine.feedbackInState on c t) := by
  simp only [Machine.feedbackInState, h.chan, h.now]
  (repeat' split) <;> first | exact h | exact h.enterOn | exact h.modChan _ | exact h.completeRelease

theorem feedbackAt (h : Alike c s t) (b : Byte) :
    Alike c (Machine.feedbackAt b c s) (Machine.feedbackAt b c t) := by
  simp only [Machine.feedbackAt]
  split
  · exact h.feedbackInState _
  · exact ((h.feedbackInState _).settleHandBack).setLive _ _

theorem offAssuredAt (h : Alike c s t) : Alike c (Machine.offAssuredAt c s) (Machine.offAssuredAt c t) := by
  have e : t.chan c = s.chan c := h.chan
  simp only [Machine.offAssuredAt, e]
  split
  · exact h.completeRelease.settleHandBack
  · exact h.settleHandBack

theorem markEventAt (h : Alike c s t) : Alike c (Machine.markEventAt c s) (Machine.markEventAt c t) := by
  simp only [Machine.markEventAt, h.chan]
  split
  · exact h.enterState _
  · exact h.enterReleasing _
  · exact h

theorem confirmIfReleasing (h : Alike c s t) (tm : Timer) :
    Alike c (Machine.confirmIfReleasing tm c s) (Machine.confirmIfReleasing tm c t) := by
  simp only [Machine.confirmIfReleasing, h.chan]
  split
  · exact h.modChan _
  · exact h

end Alike

/-- An event that acts on the channels one by one: each channel sees its own part alone. -/
theorem each8_alike (f : Fin 8 → State → State) (c : Fin 8)
    (own : ∀ s t, Alike c s t → Alike c (f c s) (f c t)) (others : ∀ d, c ≠ d → ∀ s, Alike c s (f d s))
    (s : State) : Alike c (f c s) (each8 f s) := by
  have step : ∀ d s t, c ≠ d → Alike c s t → Alike c s (f d t) := fun d s t h k => k.trans (others d h t)
  have r := Alike.refl c s
  have q : ∀ t, Alike c s t → Alike c (f c s) (f c t) := fun t h => own s t h
  unfold each8
  fin_cases c
  all_goals
    repeat first
      | exact r
      | exact q _ (by repeat first | exact r | apply step _ _ _ (by decide))
      | apply step _ _ _ (by decide)

/-- The eight parts of path loss, of path readiness, of a FEEDBACK reply, of off-assured, of a mark event, of a
forced cause and of a withdrawn one. -/
theorem pathLost_alike (c : Fin 8) (s : State) : Alike c (pathLostAt c s) (pathLost s) :=
  each8_alike _ c (fun _ _ h => h.pathLostAt) (fun d h s => by constructor <;> simp [h]) s

theorem pathReadyEvent_alike (c : Fin 8) (s : State) : Alike c (pathReadyAt c s) (pathReadyEvent s) :=
  each8_alike _ c (fun _ _ h => h.pathReadyAt) (fun d h s => by constructor <;> simp [h]) s

theorem feedback_alike (b : Byte) (c : Fin 8) (s : State) :
    Alike c (feedbackAt b c s) (each8 (feedbackAt b) s) :=
  each8_alike _ c (fun _ _ h => h.feedbackAt b) (fun d h s => by constructor <;> simp [h]) s

theorem setReleasingConfirm_alike (tm : Timer) (c : Fin 8) (s : State) :
    Alike c (confirmIfReleasing tm c s) (setReleasingConfirm tm s) :=
  each8_alike _ c (fun _ _ h => h.confirmIfReleasing tm) (fun d h s => by constructor <;> simp [h]) s

theorem offAssured_alike (c : Fin 8) (s : State) : Alike c (offAssuredAt c s) (each8 offAssuredAt s) :=
  each8_alike _ c (fun _ _ h => h.offAssuredAt) (fun d h s => by constructor <;> simp [h]) s

theorem markEvent_alike (c : Fin 8) (s : State) : Alike c (markEventAt c s) (each8 markEventAt s) :=
  each8_alike _ c (fun _ _ h => h.markEventAt) (fun d h s => by constructor <;> simp [h]) s

theorem forceShutdown_alike (c : Fin 8) (s : State) :
    Alike c (forceCause .shutdown c s) (forceShutdown s) :=
  each8_alike _ c (fun _ _ h => h.forceCause _) (fun d h s => by constructor <;> simp [h]) s

theorem withdrawShutdown_alike (c : Fin 8) (s : State) :
    Alike c (withdrawCause .shutdown c s) (withdrawShutdown s) :=
  each8_alike _ c (fun _ _ h => h.withdrawCause _) (fun d h s => by constructor <;> simp [h]) s

end Sys2Proof.Machine
end

