-- ==== Sys2Proof/Laws/Arbitration.lean ====
section
/-! SUPPORT. Arbitration bit by bit is a comparison of keys: the lowest key passes (R94). -/

namespace Sys2Proof.Machine

open Sys2Proof

/-- The number that bits hold, most significant first. -/
def bitsNat : List Bool → Nat
  | [] => 0
  | b :: bs => b.toNat * 2 ^ bs.length + bitsNat bs

theorem bitsNat_lt (l : List Bool) : bitsNat l < 2 ^ l.length := by
  induction l with
  | nil => simp [bitsNat]
  | cons b bs ih => cases b <;> simp [bitsNat, Nat.pow_succ] <;> omega

/-- One more key bit decides the comparison where it differs. -/
theorem bitsNat_cons_le (a b : Bool) (as bs : List Bool) (h : as.length = bs.length) :
    bitsNat (a :: as) ≤ bitsNat (b :: bs) ↔ (a = false ∧ b = true) ∨ (a = b ∧ bitsNat as ≤ bitsNat bs) := by
  have ha := bitsNat_lt as
  have hb := bitsNat_lt bs
  rw [h] at ha
  cases a <;> cases b <;> simp [bitsNat, h] <;> omega

/-- A station passes arbitration exactly where no other station's key is lower. -/
theorem passesArbitration_iff (own : List Bool) (others : List (List Bool))
    (h : ∀ o ∈ others, own.length = o.length) :
    passesArbitration own others = true ↔ ∀ o ∈ others, bitsNat own ≤ bitsNat o := by
  induction own generalizing others with
  | nil => simp [passesArbitration, bitsNat]
  | cons b bs ih =>
    have shape : ∀ o ∈ others, ∃ c cs, o = c :: cs ∧ bs.length = cs.length := by
      intro o ho
      have := h o ho
      cases o with
      | nil => simp at this
      | cons c cs => exact ⟨c, cs, rfl, by simpa using this⟩
    have rest : ∀ line, ∀ o ∈ stillSending line others, bs.length = o.length := by
      intro line o ho
      simp only [stillSending, List.mem_map, List.mem_filter] at ho
      obtain ⟨x, ⟨hx, -⟩, rfl⟩ := ho
      obtain ⟨c, cs, rfl, hc⟩ := shape x hx
      exact hc
    have goesOn : ∀ line, (∀ o ∈ stillSending line others, bitsNat bs ≤ bitsNat o) ↔
        ∀ c cs, c :: cs ∈ others → c = line → bitsNat bs ≤ bitsNat cs := by
      intro line
      simp only [stillSending, List.mem_map, List.mem_filter]
      constructor
      · intro hall c cs hc hl
        exact hall cs ⟨c :: cs, ⟨hc, by simp [hl]⟩, rfl⟩
      · rintro hall o ⟨x, ⟨hx, hl⟩, rfl⟩
        obtain ⟨c, cs, rfl, -⟩ := shape x hx
        exact hall c cs hx (by simpa using hl)
    have compare : (∀ o ∈ others, bitsNat (b :: bs) ≤ bitsNat o) ↔
        ∀ c cs, c :: cs ∈ others → (b = false ∧ c = true) ∨ (b = c ∧ bitsNat bs ≤ bitsNat cs) := by
      constructor
      · intro hall c cs hc
        obtain ⟨_, _, he, hl⟩ := shape _ hc
        obtain ⟨rfl, rfl⟩ := List.cons.inj he
        exact (bitsNat_cons_le b c bs cs hl).1 (hall _ hc)
      · intro hall o ho
        obtain ⟨c, cs, rfl, hl⟩ := shape o ho
        exact (bitsNat_cons_le b c bs cs hl).2 (hall c cs ho)
    rw [compare]
    cases b with
    | false =>
      simp only [passesArbitration, lineLevel, Bool.false_and, Bool.false_eq_true, if_false]
      rw [ih _ (rest false), goesOn]
      constructor
      · intro hall c cs hc
        cases c with
        | true => exact .inl ⟨trivial, rfl⟩
        | false => exact .inr ⟨rfl, hall _ _ hc rfl⟩
      · intro hall c cs hc hl
        rcases hall c cs hc with ⟨-, hc⟩ | ⟨-, hle⟩
        · simp [hc] at hl
        · exact hle
    | true =>
      by_cases hl : (others.all fun o => o.headD true) = true
      · simp only [passesArbitration, lineLevel, hl, Bool.and_self, Bool.not_true, Bool.and_false,
          Bool.false_eq_true, if_false]
        rw [ih _ (rest true), goesOn]
        constructor
        · intro hall c cs hc
          have : c = true := by simpa using List.all_eq_true.1 hl _ hc
          exact .inr ⟨this.symm, hall _ _ hc this⟩
        · intro hall c cs hc _
          rcases hall c cs hc with ⟨h, -⟩ | ⟨-, hle⟩
          · simp at h
          · exact hle
      · have hd : ∃ cs, false :: cs ∈ others := by
          simp only [List.all_eq_true, not_forall] at hl
          obtain ⟨o, ho, hn⟩ := hl
          obtain ⟨c, cs, rfl, -⟩ := shape o ho
          simp at hn
          exact ⟨cs, hn ▸ ho⟩
        obtain ⟨cs, hc⟩ := hd
        simp only [passesArbitration, lineLevel, Bool.true_and, hl, Bool.not_false, Bool.and_self, if_true,
          Bool.false_eq_true, false_iff]
        intro hall
        rcases hall false cs hc with ⟨h, -⟩ | ⟨h, -⟩ <;> simp at h

theorem bitsNat_key : ∀ k : Key, bitsNat (bitsOf k) = k.toNat := by decide +kernel

/-- Arbitration as a comparison of keys (R94). -/
theorem passes_iff (s : State) (f : Frame) (rivals : List Key) :
    s.passes f rivals = true ↔ ∀ r ∈ rivals, (f.key s.loader.station).toNat ≤ r.toNat := by
  unfold State.passes
  rw [passesArbitration_iff]
  · simp [bitsNat_key]
  · simp [bitsOf]

/-- The key as a number: the kind code in its upper four bits, the station below. -/
theorem key_toNat (source : Station) (f : Frame) : (f.key source).toNat = 64 * f.code + source.val := by
  have hs := source.isLt
  have hc : f.code < 16 := by cases f <;> simp [Frame.code]
  show (BitVec.append (BitVec.ofNat 4 f.code) (BitVec.ofFin source : BitVec 6)).toNat = _
  rw [show BitVec.append (BitVec.ofNat 4 f.code) (BitVec.ofFin source : BitVec 6)
    = BitVec.ofNat 4 f.code ++ (BitVec.ofFin source : BitVec 6) from rfl, BitVec.toNat_append]
  simp only [BitVec.toNat_ofNat, BitVec.toNat_ofFin, Nat.mod_eq_of_lt hc]
  rw [← Nat.shiftLeft_add_eq_or_of_lt hs, Nat.shiftLeft_eq]
  omega

end Sys2Proof.Machine
end

