-- ==== Sys2Proof/Laws/Commands.lean ====
section
/-! SUPPORT. What every command keeps: the clock and the waiting commands; and what the commands of the logic
die keep of the power die. -/

namespace Sys2Proof.Machine

open Sys2Proof

/-- The clock, the waiting commands and the power die are the same in both. -/
def SameOutside (s t : State) : Prop := t.now = s.now ∧ t.pending = s.pending ∧ t.power = s.power

namespace SameOutside

variable {s t u : State}

theorem refl (s : State) : SameOutside s s := ⟨rfl, rfl, rfl⟩

theorem trans (h : SameOutside s t) (k : SameOutside t u) : SameOutside s u :=
  ⟨k.1.trans h.1, k.2.1.trans h.2.1, k.2.2.trans h.2.2⟩

theorem buildDue (h : SameOutside s t) : SameOutside s (buildDue t) := by
  simpa [SameOutside] using h

theorem each8 {f : Fin 8 → State → State} (h : ∀ n s, SameOutside s (f n s)) (s : State) :
    SameOutside s (each8 f s) :=
  ((((((((h 0 s).trans (h 1 _)).trans (h 2 _)).trans (h 3 _)).trans (h 4 _)).trans (h 5 _)).trans
    (h 6 _)).trans (h 7 _))

theorem whenRunning {f : State → State} (h : SameOutside s (f s)) : SameOutside s (whenRunning f s) := by
  unfold Machine.whenRunning
  split
  · exact h
  · exact refl s

theorem whenTransaction {f : State → State} (h : SameOutside s (f s)) :
    SameOutside s (whenTransaction f s) := by
  unfold Machine.whenTransaction
  split
  · exact h
  · exact refl s

theorem respond (h : SameOutside s t) (c : Byte) (x : Status) (d : List Byte) :
    SameOutside s (respond c x d t) := h

end SameOutside

open SameOutside in
theorem enterRunning_outside (img : Image) (s : State) : SameOutside s (enterRunning img s) := by
  have h1 : SameOutside s (each8 firstInputToZones (takeImage img s)) := by
    refine SameOutside.trans (t := takeImage img s) ⟨rfl, rfl, rfl⟩ (SameOutside.each8 (fun n s => ?_) _)
    unfold firstInputToZones
    split
    · simp [SameOutside]
    · exact refl s
  have h2 : ∀ t, SameOutside s t → SameOutside s (startOccurrences t) := by
    intro t ht
    refine ht.trans (SameOutside.each8 (fun n s => ?_) t)
    simp only [SameOutside]
    (repeat' split) <;> simp
  have h3 : ∀ t, SameOutside s t → SameOutside s (buildDue (each8 evaluate (enterJoining (startOccurrences t)))) := by
    intro t ht
    refine SameOutside.buildDue ((h2 t ht).trans ?_)
    refine SameOutside.trans (t := enterJoining (startOccurrences t)) (by simp [SameOutside]) ?_
    exact SameOutside.each8 (fun n s => by simp [SameOutside]) _
  unfold enterRunning
  dsimp only
  apply h3
  split
  · exact h1.trans (by simp [SameOutside])
  · exact h1

theorem judgeImage_outside (s : State) : SameOutside s (judgeImage s) := by
  unfold judgeImage
  split
  · exact enterRunning_outside _ s
  · exact ⟨rfl, rfl, rfl⟩

theorem endReset_outside (x : ResetSample) (s : State) : SameOutside s (endReset x s) := by
  unfold endReset addressAnswer
  (repeat' split) <;> exact ⟨rfl, rfl, rfl⟩

theorem nodeReset_outside (s : State) : SameOutside s (nodeReset s) := ⟨rfl, rfl, rfl⟩

theorem takeBody_outside (bytes : List Byte) (s : State) : SameOutside s (takeBody bytes s) := by
  unfold takeBody
  (repeat' split) <;>
    first
    | exact SameOutside.refl s
    | exact SameOutside.trans (t := stageBytes headerSize bytes s) ⟨rfl, rfl, rfl⟩ (judgeImage_outside _)

theorem takeHeader_outside (bytes : List Byte) (s : State) : SameOutside s (takeHeader bytes s) := by
  unfold takeHeader
  dsimp only
  (repeat' split) <;> exact ⟨rfl, rfl, rfl⟩

theorem readFails_outside (bytes : List Byte) (s : State) : SameOutside s (readFails bytes s) := by
  unfold readFails
  (repeat' split) <;> exact ⟨rfl, rfl, rfl⟩

theorem retryAddress_outside (b : Bool) (s : State) : SameOutside s (retryAddress b s) := by
  unfold retryAddress addressAnswer
  (repeat' split) <;> exact ⟨rfl, rfl, rfl⟩

theorem judged_outside {c : Byte} {g : Bool} {a : State → Bool} {f : State → State}
    (h : ∀ s, SameOutside s (f s)) (s : State) : SameOutside s (judged c g a f s) := by
  unfold judged
  (repeat' split) <;> first | exact h s | exact ⟨rfl, rfl, rfl⟩

theorem judgedIndex_outside {c : Byte} {l : State → Nat} {i : Byte} {f : State → State}
    (h : ∀ s, SameOutside s (f s)) (s : State) : SameOutside s (judgedIndex c l i f s) := by
  unfold judgedIndex
  (repeat' split) <;> first | exact h s | exact ⟨rfl, rfl, rfl⟩

theorem hostPointChange_outside (n : Fin 8) (v : Bool) (s : State) :
    SameOutside s (hostPointChange n v s) := by
  unfold hostPointChange
  split
  · exact SameOutside.refl s
  · simp [SameOutside]

theorem takeCommitConfig_outside (s : State) : SameOutside s (takeCommitConfig s) := by
  unfold takeCommitConfig
  refine judged_outside (fun s => ?_) s
  have h := judgeImage_outside s
  dsimp only
  generalize judgeImage s = t at h
  exact h

theorem takeRequest_outside (r : Request) (x : ResetSample) (s : State) :
    SameOutside s (takeRequest r x s) := by
  cases r with
  | setHostPoint n v =>
    simp only [takeRequest, takeSetHostPoint]
    exact judged_outside (fun s => (SameOutside.buildDue (hostPointChange_outside _ _ s)).respond _ _ _) s
  | ackFaults st c k n =>
    simp only [takeRequest, takeAckFaults]
    (repeat' split) <;> try exact ⟨rfl, rfl, rfl⟩
    unfold ackFaults
    split
    · simp [SameOutside, respond]
    · split
      · exact ⟨rfl, rfl, rfl⟩
      · simp [SameOutside, respond]
  | tripZones m =>
    simp only [takeRequest, takeTripZones]
    exact judged_outside (fun s => by simp [SameOutside, respond]) s
  | clearZones m =>
    simp only [takeRequest, takeClearZones]
    exact judged_outside (fun s => by simp [SameOutside, respond]) s
  | resetNode =>
    simp only [takeRequest, takeResetNode]
    exact (nodeReset_outside s).trans (endReset_outside x _)
  | writeConfigBlock o d =>
    simp only [takeRequest, takeWriteConfigBlock]
    refine judged_outside (fun s => ?_) s
    exact ⟨rfl, rfl, rfl⟩
  | commitConfig =>
    simp only [takeRequest]
    exact takeCommitConfig_outside s
  | readChannel c =>
    simp only [takeRequest, takeReadChannel]
    refine judged_outside (fun s => ?_) s
    exact ⟨rfl, rfl, rfl⟩
  | readSubscription i =>
    simp only [takeRequest, takeReadSubscription]
    refine judgedIndex_outside (fun s => ?_) s
    split <;> exact ⟨rfl, rfl, rfl⟩
  | readPublication i =>
    simp only [takeRequest, takeReadPublication]
    refine judgedIndex_outside (fun s => ?_) s
    split <;> exact ⟨rfl, rfl, rfl⟩
  | readGroup i =>
    simp only [takeRequest, takeReadGroup]
    refine judgedIndex_outside (fun s => ?_) s
    split <;> exact ⟨rfl, rfl, rfl⟩
  | readPeer st =>
    simp only [takeRequest, takeReadPeer]
    split <;> exact ⟨rfl, rfl, rfl⟩
  | nop | readNode | readZones | popFaultList | readEvents => exact ⟨rfl, rfl, rfl⟩

theorem takeBytes_outside (bytes : List Byte) (x : ResetSample) (s : State) :
    SameOutside s (takeBytes bytes x s) := by
  unfold takeBytes
  (repeat' split) <;> first | exact takeRequest_outside _ x s | exact ⟨rfl, rfl, rfl⟩

theorem deliverToGroup_outside {c : Fin 8} {p : ToGroupMsg → Bool} {f : Fin 8 → State → State}
    (h : ∀ e s, SameOutside s (f e s)) (s : State) : SameOutside s (deliverToGroup c p f s) := by
  unfold deliverToGroup
  (repeat' split) <;> first | exact SameOutside.refl s | exact SameOutside.trans ⟨rfl, rfl, rfl⟩ (h _ _)

theorem deliverToChannel_outside {c : Fin 8} {p : ToChannelMsg → Bool} {f : State → State}
    (h : ∀ s, SameOutside s (f s)) (s : State) : SameOutside s (deliverToChannel c p f s) := by
  unfold deliverToChannel
  (repeat' split) <;> first | exact SameOutside.refl s | exact SameOutside.trans ⟨rfl, rfl, rfl⟩ (h _)

end Sys2Proof.Machine
end

