-- ==== Sys2Proof/Laws/Listening.lean ====
section
/-! SUPPORT. When a node takes what another station sends, with or without an attempt of its own on the line; what it
shifts out in a transaction; what a state with other hold-over timers shares with it; and the cause of a merged
TRIP. -/

namespace Sys2Proof.Machine

open Sys2Proof

theorem listens_of_hears {s : State} {source : Station} (h : s.hears source) : s.listens = true := by
  obtain ⟨-, gap, -, -, -, state⟩ := h
  unfold State.listens
  cases b : s.bus.state <;> simp_all [BusState.takesFrames]

theorem takesFrom_of_hears {s : State} {source : Station} (h : s.hears source) : s.takesFrom source = true := by
  have other : source ≠ s.loader.station := h.2.2.2.2.1
  simp [State.takesFrom, listens_of_hears h, other]

/-- With no own attempt on the line every source is taken from, the own number as well. -/
theorem takesFrom_without_attempt {s : State} (source : Station) (h : s.bus.attempt = none) :
    s.takesFrom source = s.listens := by simp [State.takesFrom, h]

/-- A frame that is not taken is read only without an own attempt on the line. -/
theorem reads_iff (s : State) : s.reads = true ↔ s.listens = true ∧ s.bus.attempt = none := by
  simp [State.reads]

@[simp] theorem sdo_of_transaction {s : State} {bytes : List Byte} (h : s.host.transaction = some bytes) (k : Nat) :
    s.sdo k = some (bytes.getD k 0) := by simp [State.sdo, h]

/-! ## A state with the hold-over timers of another -/

@[simp] theorem withHoldOvers_pathReady (s t : State) (c : Fin 8) :
    (s.withHoldOvers t c).pathReady = s.pathReady := rfl

@[simp] theorem withHoldOvers_cfg (s t : State) (c d : Fin 8) : (s.withHoldOvers t c).cfg d = s.cfg d := rfl

@[simp] theorem withHoldOvers_sentBy (s t : State) (c d : Fin 8) :
    (s.withHoldOvers t c).sentBy d = s.sentBy d := rfl

@[simp] theorem withHoldOvers_messageOf (s t : State) (c d : Fin 8) (m : ToGroupMsg) :
    (s.withHoldOvers t c).messageOf d m = s.messageOf d m := rfl

/-! ## Merged causes -/

/-- The cause of a merged TRIP is the one with the larger code (R101, section 13.1). -/
theorem higher_code (a b : TripCause) :
    a.code ≤ (a.higher b).code ∧ b.code ≤ (a.higher b).code ∧ (a.higher b = a ∨ a.higher b = b) := by
  cases a <;> cases b <;> decide

end Sys2Proof.Machine
end

