-- ==== Sys2Proof/Laws/Power.lean ====
section
/-! SUPPORT. What flows from the die into an output: the bounds of the current limit, the switch's current under it,
the turn-off clamp's, and when the pull-up is on. -/

namespace Sys2Proof.Machine

open Sys2Proof

theorem currentLimit_bounds : 2000000 ≤ currentLimit ∧ currentLimit ≤ 3200000 := by
  unfold currentLimit; omega

theorem switchCurrent_le_limit (p : PowerChannel) : p.switchCurrent ≤ currentLimit := by
  have := currentLimit_bounds
  unfold PowerChannel.switchCurrent; split <;> omega

theorem limiting_iff (p : PowerChannel) : p.limiting = true ↔ p.conducts = true ∧ p.switchCurrent = currentLimit := by
  unfold PowerChannel.limiting PowerChannel.switchCurrent
  cases p.conducts <;> simp

@[simp] theorem pullUp_off_in_low (p : PowerChannel) : p.pullUp false = false := by simp [PowerChannel.pullUp]

@[simp] theorem pullUp_off_when_commanded (p : PowerChannel) (normal : Bool) (h : p.commanded = true) :
    p.pullUp normal = false := by simp [PowerChannel.pullUp, h]

theorem clamps_iff (p : PowerChannel) : p.clamps = true ↔ p.conducts = false ∧ 0 < p.load.stored := by
  simp [PowerChannel.clamps]

@[simp] theorem clamps_off_when_conducting (p : PowerChannel) (h : p.conducts = true) : p.clamps = false := by
  simp [PowerChannel.clamps, h]

theorem clampCurrent_nonneg (p : PowerChannel) : 0 ≤ p.clampCurrent := by
  unfold PowerChannel.clampCurrent PowerChannel.clamps
  split <;> simp_all; omega

theorem output_when_clamping (p : PowerChannel) (h : p.clamps = true) :
    p.output = p.load.supply - clampVoltage := by simp [PowerChannel.output, h]

theorem output_when_not_clamping (p : PowerChannel) (h : p.clamps = false) : p.output = p.load.voltage := by
  simp [PowerChannel.output, h]

theorem switchCurrent_when_not_conducting (p : PowerChannel) (h : p.conducts = false) : p.switchCurrent = 0 := by
  simp [PowerChannel.switchCurrent, h]

theorem conducts_off_when_not_commanded (p : PowerChannel) (h : p.commanded = false) : p.conducts = false := by
  simp [PowerChannel.conducts, h]

theorem sourced_while_conducting (p : PowerChannel) (normal : Bool) (h : p.conducts = true) :
    p.sourced normal = p.switchCurrent := by
  have hc : p.commanded = true := by
    unfold PowerChannel.conducts at h; exact (Bool.and_eq_true_iff.mp h).1
  simp [PowerChannel.sourced, PowerChannel.clampCurrent, h, hc]

theorem sourced_while_off (p : PowerChannel) (normal : Bool) (h : p.commanded = false) :
    p.sourced normal = p.clampCurrent + if normal = true then pullUpCurrent else 0 := by
  simp [PowerChannel.sourced, PowerChannel.pullUp, switchCurrent_when_not_conducting,
    conducts_off_when_not_commanded, h]

end Sys2Proof.Machine
end

