-- ==== Sys2Proof/Laws/Quiet.lean ====
section
/-! SUPPORT. What the transmit queue's owners leave as it is when they offer, withdraw and build frames: the live
flags, the kinds of every fault record, the network fault list, the peer table, the host points, the response,
and every field of the Peer Bus Controller but the queue. -/

namespace Sys2Proof.Machine

open Sys2Proof

/-- Waiting or not, a record holds the same kinds. -/
@[simp] theorem setFaultWaiting_record (b : Bool) (c d : Fin 8) (s : State) :
    ((setFaultWaiting b c s).faults.records.get d).kinds = (s.faults.records.get d).kinds ∧
    ((setFaultWaiting b c s).faults.records.get d).newest = (s.faults.records.get d).newest := by
  by_cases h : d = c <;> simp [setFaultWaiting, Eight.get_set, State.faultRec, h]

@[simp] theorem pendSource_quiet (p : PubSource) (s : State) :
    (pendSource p s).faults.flags.live = s.faults.flags.live ∧
    (pendSource p s).faults.list = s.faults.list ∧ (pendSource p s).faults.overrun = s.faults.overrun ∧
    (pendSource p s).faults.peers = s.faults.peers ∧ (pendSource p s).host.points = s.host.points ∧
    (pendSource p s).host.response = s.host.response ∧
    (pendSource p s).host.transaction = s.host.transaction := by
  unfold pendSource
  try dsimp only
  simp [*]

@[simp] theorem pendSource_record (p : PubSource) (d : Fin 8) (s : State) :
    ((pendSource p s).faults.records.get d).kinds = (s.faults.records.get d).kinds ∧
    ((pendSource p s).faults.records.get d).newest = (s.faults.records.get d).newest := by
  unfold pendSource
  try dsimp only
  simp [*]

@[simp] theorem pendPairs_quiet (l : List PointPair) (s : State) :
    (pendPairs l s).faults.flags.live = s.faults.flags.live ∧
    (pendPairs l s).faults.list = s.faults.list ∧ (pendPairs l s).faults.overrun = s.faults.overrun ∧
    (pendPairs l s).faults.peers = s.faults.peers ∧ (pendPairs l s).host.points = s.host.points ∧
    (pendPairs l s).host.response = s.host.response ∧
    (pendPairs l s).host.transaction = s.host.transaction := by
  unfold pendPairs
  try dsimp only
  simp [*]

@[simp] theorem pendPairs_record (l : List PointPair) (d : Fin 8) (s : State) :
    ((pendPairs l s).faults.records.get d).kinds = (s.faults.records.get d).kinds ∧
    ((pendPairs l s).faults.records.get d).newest = (s.faults.records.get d).newest := by
  unfold pendPairs
  try dsimp only
  simp [*]

@[simp] theorem raiseFlag_quiet (f : NodeFlag) (s : State) :
    (raiseFlag f s).faults.flags.live = s.faults.flags.live ∧
    (raiseFlag f s).faults.list = s.faults.list ∧ (raiseFlag f s).faults.overrun = s.faults.overrun ∧
    (raiseFlag f s).faults.peers = s.faults.peers ∧ (raiseFlag f s).host.points = s.host.points ∧
    (raiseFlag f s).host.response = s.host.response ∧
    (raiseFlag f s).host.transaction = s.host.transaction := by
  unfold raiseFlag trackErr
  try dsimp only
  (repeat' split) <;> simp [*]

@[simp] theorem raiseFlag_record (f : NodeFlag) (d : Fin 8) (s : State) :
    ((raiseFlag f s).faults.records.get d).kinds = (s.faults.records.get d).kinds ∧
    ((raiseFlag f s).faults.records.get d).newest = (s.faults.records.get d).newest := by
  unfold raiseFlag trackErr
  try dsimp only
  (repeat' split) <;> simp [*]

@[simp] theorem displacedNotice_quiet (f : Frame) (s : State) :
    (displacedNotice f s).faults.flags.live = s.faults.flags.live ∧
    (displacedNotice f s).faults.list = s.faults.list ∧
    (displacedNotice f s).faults.overrun = s.faults.overrun ∧
    (displacedNotice f s).faults.peers = s.faults.peers ∧
    (displacedNotice f s).host.points = s.host.points ∧
    (displacedNotice f s).host.response = s.host.response ∧
    (displacedNotice f s).host.transaction = s.host.transaction := by
  unfold displacedNotice setFaultWaiting
  try dsimp only
  (repeat' split) <;> simp [*]

@[simp] theorem displacedNotice_record (f : Frame) (d : Fin 8) (s : State) :
    ((displacedNotice f s).faults.records.get d).kinds = (s.faults.records.get d).kinds ∧
    ((displacedNotice f s).faults.records.get d).newest = (s.faults.records.get d).newest := by
  unfold displacedNotice
  try dsimp only
  (repeat' split) <;> simp [*]

@[simp] theorem offer_quiet (f : Frame) (s : State) :
    ((offer f s).1).faults.flags.live = s.faults.flags.live ∧
    ((offer f s).1).faults.list = s.faults.list ∧ ((offer f s).1).faults.overrun = s.faults.overrun ∧
    ((offer f s).1).faults.peers = s.faults.peers ∧ ((offer f s).1).host.points = s.host.points ∧
    ((offer f s).1).host.response = s.host.response ∧
    ((offer f s).1).host.transaction = s.host.transaction := by
  unfold offer
  try dsimp only
  (repeat' split) <;> simp [*]

@[simp] theorem offer_line (f : Frame) (s : State) :
    ((offer f s).1).bus.state = s.bus.state ∧ ((offer f s).1).bus.phase = s.bus.phase ∧
    ((offer f s).1).bus.joinTimer = s.bus.joinTimer ∧
    ((offer f s).1).bus.offLineTimer = s.bus.offLineTimer ∧
    ((offer f s).1).bus.joinCounter = s.bus.joinCounter ∧ ((offer f s).1).bus.score = s.bus.score ∧
    ((offer f s).1).bus.attempt = s.bus.attempt ∧ ((offer f s).1).bus.gapSeen = s.bus.gapSeen ∧
    ((offer f s).1).bus.rejecting = s.bus.rejecting := by
  unfold offer
  try dsimp only
  (repeat' split) <;> simp [*]

@[simp] theorem offer_record (f : Frame) (d : Fin 8) (s : State) :
    (((offer f s).1).faults.records.get d).kinds = (s.faults.records.get d).kinds ∧
    (((offer f s).1).faults.records.get d).newest = (s.faults.records.get d).newest := by
  unfold offer
  try dsimp only
  (repeat' split) <;> simp [*]

@[simp] theorem offerOnly_quiet (f : Frame) (s : State) :
    (offerOnly f s).faults.flags.live = s.faults.flags.live ∧
    (offerOnly f s).faults.list = s.faults.list ∧ (offerOnly f s).faults.overrun = s.faults.overrun ∧
    (offerOnly f s).faults.peers = s.faults.peers ∧ (offerOnly f s).host.points = s.host.points ∧
    (offerOnly f s).host.response = s.host.response ∧
    (offerOnly f s).host.transaction = s.host.transaction := by
  unfold offerOnly
  try dsimp only
  simp [*]

@[simp] theorem offerOnly_line (f : Frame) (s : State) :
    (offerOnly f s).bus.state = s.bus.state ∧ (offerOnly f s).bus.phase = s.bus.phase ∧
    (offerOnly f s).bus.joinTimer = s.bus.joinTimer ∧
    (offerOnly f s).bus.offLineTimer = s.bus.offLineTimer ∧
    (offerOnly f s).bus.joinCounter = s.bus.joinCounter ∧ (offerOnly f s).bus.score = s.bus.score ∧
    (offerOnly f s).bus.attempt = s.bus.attempt ∧ (offerOnly f s).bus.gapSeen = s.bus.gapSeen ∧
    (offerOnly f s).bus.rejecting = s.bus.rejecting := by
  unfold offerOnly
  try dsimp only
  simp [*]

@[simp] theorem offerOnly_record (f : Frame) (d : Fin 8) (s : State) :
    ((offerOnly f s).faults.records.get d).kinds = (s.faults.records.get d).kinds ∧
    ((offerOnly f s).faults.records.get d).newest = (s.faults.records.get d).newest := by
  unfold offerOnly
  try dsimp only
  simp [*]

@[simp] theorem withdrawFrames_quiet (p : Frame → Bool) (s : State) :
    (withdrawFrames p s).faults.flags.live = s.faults.flags.live ∧
    (withdrawFrames p s).faults.list = s.faults.list ∧
    (withdrawFrames p s).faults.overrun = s.faults.overrun ∧
    (withdrawFrames p s).faults.peers = s.faults.peers ∧
    (withdrawFrames p s).host.points = s.host.points ∧
    (withdrawFrames p s).host.response = s.host.response ∧
    (withdrawFrames p s).host.transaction = s.host.transaction := by
  unfold withdrawFrames
  try dsimp only
  (repeat' split) <;> simp [*]

@[simp] theorem withdrawFrames_line (p : Frame → Bool) (s : State) :
    (withdrawFrames p s).bus.state = s.bus.state ∧ (withdrawFrames p s).bus.phase = s.bus.phase ∧
    (withdrawFrames p s).bus.joinTimer = s.bus.joinTimer ∧
    (withdrawFrames p s).bus.offLineTimer = s.bus.offLineTimer ∧
    (withdrawFrames p s).bus.joinCounter = s.bus.joinCounter ∧
    (withdrawFrames p s).bus.score = s.bus.score ∧ (withdrawFrames p s).bus.attempt = s.bus.attempt ∧
    (withdrawFrames p s).bus.gapSeen = s.bus.gapSeen ∧
    (withdrawFrames p s).bus.rejecting = s.bus.rejecting := by
  unfold withdrawFrames
  try dsimp only
  (repeat' split) <;> simp [*]

@[simp] theorem withdrawFrames_record (p : Frame → Bool) (d : Fin 8) (s : State) :
    ((withdrawFrames p s).faults.records.get d).kinds = (s.faults.records.get d).kinds ∧
    ((withdrawFrames p s).faults.records.get d).newest = (s.faults.records.get d).newest := by
  unfold withdrawFrames
  try dsimp only
  (repeat' split) <;> simp [*]

@[simp] theorem editFrames_quiet (g : Frame → Frame) (s : State) :
    (editFrames g s).faults.flags.live = s.faults.flags.live ∧
    (editFrames g s).faults.list = s.faults.list ∧ (editFrames g s).faults.overrun = s.faults.overrun ∧
    (editFrames g s).faults.peers = s.faults.peers ∧ (editFrames g s).host.points = s.host.points ∧
    (editFrames g s).host.response = s.host.response ∧
    (editFrames g s).host.transaction = s.host.transaction := by
  unfold editFrames
  try dsimp only
  simp [*]

@[simp] theorem editFrames_line (g : Frame → Frame) (s : State) :
    (editFrames g s).bus.state = s.bus.state ∧ (editFrames g s).bus.phase = s.bus.phase ∧
    (editFrames g s).bus.joinTimer = s.bus.joinTimer ∧
    (editFrames g s).bus.offLineTimer = s.bus.offLineTimer ∧
    (editFrames g s).bus.joinCounter = s.bus.joinCounter ∧ (editFrames g s).bus.score = s.bus.score ∧
    (editFrames g s).bus.attempt = s.bus.attempt ∧ (editFrames g s).bus.gapSeen = s.bus.gapSeen ∧
    (editFrames g s).bus.rejecting = s.bus.rejecting := by
  unfold editFrames
  try dsimp only
  simp [*]

@[simp] theorem editFrames_record (g : Frame → Frame) (d : Fin 8) (s : State) :
    ((editFrames g s).faults.records.get d).kinds = (s.faults.records.get d).kinds ∧
    ((editFrames g s).faults.records.get d).newest = (s.faults.records.get d).newest := by
  unfold editFrames
  try dsimp only
  simp [*]

@[simp] theorem removeFromTrip_quiet (z : Fin 8) (s : State) :
    (removeFromTrip z s).faults.flags.live = s.faults.flags.live ∧
    (removeFromTrip z s).faults.list = s.faults.list ∧
    (removeFromTrip z s).faults.overrun = s.faults.overrun ∧
    (removeFromTrip z s).faults.peers = s.faults.peers ∧
    (removeFromTrip z s).host.points = s.host.points ∧
    (removeFromTrip z s).host.response = s.host.response ∧
    (removeFromTrip z s).host.transaction = s.host.transaction := by
  unfold removeFromTrip
  try dsimp only
  simp [*]

@[simp] theorem removeFromTrip_line (z : Fin 8) (s : State) :
    (removeFromTrip z s).bus.state = s.bus.state ∧ (removeFromTrip z s).bus.phase = s.bus.phase ∧
    (removeFromTrip z s).bus.joinTimer = s.bus.joinTimer ∧
    (removeFromTrip z s).bus.offLineTimer = s.bus.offLineTimer ∧
    (removeFromTrip z s).bus.joinCounter = s.bus.joinCounter ∧
    (removeFromTrip z s).bus.score = s.bus.score ∧ (removeFromTrip z s).bus.attempt = s.bus.attempt ∧
    (removeFromTrip z s).bus.gapSeen = s.bus.gapSeen ∧
    (removeFromTrip z s).bus.rejecting = s.bus.rejecting := by
  unfold removeFromTrip
  try dsimp only
  simp [*]

@[simp] theorem removeFromTrip_record (z : Fin 8) (d : Fin 8) (s : State) :
    ((removeFromTrip z s).faults.records.get d).kinds = (s.faults.records.get d).kinds ∧
    ((removeFromTrip z s).faults.records.get d).newest = (s.faults.records.get d).newest := by
  unfold removeFromTrip
  try dsimp only
  simp [*]

@[simp] theorem removeFromClear_quiet (z : Fin 8) (s : State) :
    (removeFromClear z s).faults.flags.live = s.faults.flags.live ∧
    (removeFromClear z s).faults.list = s.faults.list ∧
    (removeFromClear z s).faults.overrun = s.faults.overrun ∧
    (removeFromClear z s).faults.peers = s.faults.peers ∧
    (removeFromClear z s).host.points = s.host.points ∧
    (removeFromClear z s).host.response = s.host.response ∧
    (removeFromClear z s).host.transaction = s.host.transaction := by
  unfold removeFromClear
  try dsimp only
  simp [*]

@[simp] theorem removeFromClear_line (z : Fin 8) (s : State) :
    (removeFromClear z s).bus.state = s.bus.state ∧ (removeFromClear z s).bus.phase = s.bus.phase ∧
    (removeFromClear z s).bus.joinTimer = s.bus.joinTimer ∧
    (removeFromClear z s).bus.offLineTimer = s.bus.offLineTimer ∧
    (removeFromClear z s).bus.joinCounter = s.bus.joinCounter ∧
    (removeFromClear z s).bus.score = s.bus.score ∧ (removeFromClear z s).bus.attempt = s.bus.attempt ∧
    (removeFromClear z s).bus.gapSeen = s.bus.gapSeen ∧
    (removeFromClear z s).bus.rejecting = s.bus.rejecting := by
  unfold removeFromClear
  try dsimp only
  simp [*]

@[simp] theorem removeFromClear_record (z : Fin 8) (d : Fin 8) (s : State) :
    ((removeFromClear z s).faults.records.get d).kinds = (s.faults.records.get d).kinds ∧
    ((removeFromClear z s).faults.records.get d).newest = (s.faults.records.get d).newest := by
  unfold removeFromClear
  try dsimp only
  simp [*]

@[simp] theorem buildFault_quiet (e : Fin 8) (s : State) :
    (buildFault e s).faults.flags.live = s.faults.flags.live ∧
    (buildFault e s).faults.list = s.faults.list ∧ (buildFault e s).faults.overrun = s.faults.overrun ∧
    (buildFault e s).faults.peers = s.faults.peers ∧ (buildFault e s).host.points = s.host.points ∧
    (buildFault e s).host.response = s.host.response ∧
    (buildFault e s).host.transaction = s.host.transaction := by
  unfold buildFault setFaultWaiting
  try dsimp only
  (repeat' split) <;> simp [*]

@[simp] theorem buildFault_line (e : Fin 8) (s : State) :
    (buildFault e s).bus.state = s.bus.state ∧ (buildFault e s).bus.phase = s.bus.phase ∧
    (buildFault e s).bus.joinTimer = s.bus.joinTimer ∧
    (buildFault e s).bus.offLineTimer = s.bus.offLineTimer ∧
    (buildFault e s).bus.joinCounter = s.bus.joinCounter ∧ (buildFault e s).bus.score = s.bus.score ∧
    (buildFault e s).bus.attempt = s.bus.attempt ∧ (buildFault e s).bus.gapSeen = s.bus.gapSeen ∧
    (buildFault e s).bus.rejecting = s.bus.rejecting := by
  unfold buildFault setFaultWaiting
  try dsimp only
  (repeat' split) <;> simp [*]

@[simp] theorem buildFault_record (e : Fin 8) (d : Fin 8) (s : State) :
    ((buildFault e s).faults.records.get d).kinds = (s.faults.records.get d).kinds ∧
    ((buildFault e s).faults.records.get d).newest = (s.faults.records.get d).newest := by
  unfold buildFault
  try dsimp only
  (repeat' split) <;> simp [*]

@[simp] theorem buildFaults_quiet (s : State) :
    (buildFaults s).faults.flags.live = s.faults.flags.live ∧
    (buildFaults s).faults.list = s.faults.list ∧ (buildFaults s).faults.overrun = s.faults.overrun ∧
    (buildFaults s).faults.peers = s.faults.peers ∧ (buildFaults s).host.points = s.host.points ∧
    (buildFaults s).host.response = s.host.response ∧
    (buildFaults s).host.transaction = s.host.transaction := by
  unfold buildFaults each8
  try dsimp only
  simp [*]

@[simp] theorem buildFaults_line (s : State) :
    (buildFaults s).bus.state = s.bus.state ∧ (buildFaults s).bus.phase = s.bus.phase ∧
    (buildFaults s).bus.joinTimer = s.bus.joinTimer ∧
    (buildFaults s).bus.offLineTimer = s.bus.offLineTimer ∧
    (buildFaults s).bus.joinCounter = s.bus.joinCounter ∧ (buildFaults s).bus.score = s.bus.score ∧
    (buildFaults s).bus.attempt = s.bus.attempt ∧ (buildFaults s).bus.gapSeen = s.bus.gapSeen ∧
    (buildFaults s).bus.rejecting = s.bus.rejecting := by
  unfold buildFaults each8
  try dsimp only
  simp [*]

@[simp] theorem buildFaults_record (d : Fin 8) (s : State) :
    ((buildFaults s).faults.records.get d).kinds = (s.faults.records.get d).kinds ∧
    ((buildFaults s).faults.records.get d).newest = (s.faults.records.get d).newest := by
  unfold buildFaults each8
  try dsimp only
  simp [*]

@[simp] theorem sendStatus_quiet (s : State) :
    (sendStatus s).faults.flags.live = s.faults.flags.live ∧
    (sendStatus s).faults.list = s.faults.list ∧ (sendStatus s).faults.overrun = s.faults.overrun ∧
    (sendStatus s).faults.peers = s.faults.peers ∧ (sendStatus s).host.points = s.host.points ∧
    (sendStatus s).host.response = s.host.response ∧
    (sendStatus s).host.transaction = s.host.transaction := by
  unfold sendStatus
  try dsimp only
  simp [*]

@[simp] theorem sendStatus_line (s : State) :
    (sendStatus s).bus.state = s.bus.state ∧ (sendStatus s).bus.phase = s.bus.phase ∧
    (sendStatus s).bus.joinTimer = s.bus.joinTimer ∧
    (sendStatus s).bus.offLineTimer = s.bus.offLineTimer ∧
    (sendStatus s).bus.joinCounter = s.bus.joinCounter ∧ (sendStatus s).bus.score = s.bus.score ∧
    (sendStatus s).bus.attempt = s.bus.attempt ∧ (sendStatus s).bus.gapSeen = s.bus.gapSeen ∧
    (sendStatus s).bus.rejecting = s.bus.rejecting := by
  unfold sendStatus
  try dsimp only
  simp [*]

@[simp] theorem sendStatus_record (d : Fin 8) (s : State) :
    ((sendStatus s).faults.records.get d).kinds = (s.faults.records.get d).kinds ∧
    ((sendStatus s).faults.records.get d).newest = (s.faults.records.get d).newest := by
  unfold sendStatus
  try dsimp only
  simp [*]

@[simp] theorem offerHold_quiet (e c : Fin 8) (b : Bool) (s : State) :
    (offerHold e c b s).faults.flags.live = s.faults.flags.live ∧
    (offerHold e c b s).faults.list = s.faults.list ∧
    (offerHold e c b s).faults.overrun = s.faults.overrun ∧
    (offerHold e c b s).faults.peers = s.faults.peers ∧
    (offerHold e c b s).host.points = s.host.points ∧
    (offerHold e c b s).host.response = s.host.response ∧
    (offerHold e c b s).host.transaction = s.host.transaction := by
  unfold offerHold
  try dsimp only
  simp [*]

@[simp] theorem offerHold_line (e c : Fin 8) (b : Bool) (s : State) :
    (offerHold e c b s).bus.state = s.bus.state ∧ (offerHold e c b s).bus.phase = s.bus.phase ∧
    (offerHold e c b s).bus.joinTimer = s.bus.joinTimer ∧
    (offerHold e c b s).bus.offLineTimer = s.bus.offLineTimer ∧
    (offerHold e c b s).bus.joinCounter = s.bus.joinCounter ∧
    (offerHold e c b s).bus.score = s.bus.score ∧ (offerHold e c b s).bus.attempt = s.bus.attempt ∧
    (offerHold e c b s).bus.gapSeen = s.bus.gapSeen ∧
    (offerHold e c b s).bus.rejecting = s.bus.rejecting := by
  unfold offerHold
  try dsimp only
  simp [*]

@[simp] theorem offerHold_record (e c : Fin 8) (b : Bool) (d : Fin 8) (s : State) :
    ((offerHold e c b s).faults.records.get d).kinds = (s.faults.records.get d).kinds ∧
    ((offerHold e c b s).faults.records.get d).newest = (s.faults.records.get d).newest := by
  unfold offerHold
  try dsimp only
  simp [*]

@[simp] theorem offerRelease_quiet (e c : Fin 8) (s : State) :
    (offerRelease e c s).faults.flags.live = s.faults.flags.live ∧
    (offerRelease e c s).faults.list = s.faults.list ∧
    (offerRelease e c s).faults.overrun = s.faults.overrun ∧
    (offerRelease e c s).faults.peers = s.faults.peers ∧
    (offerRelease e c s).host.points = s.host.points ∧
    (offerRelease e c s).host.response = s.host.response ∧
    (offerRelease e c s).host.transaction = s.host.transaction := by
  unfold offerRelease enterDead
  try dsimp only
  (repeat' split) <;> simp [*]

@[simp] theorem offerRelease_line (e c : Fin 8) (s : State) :
    (offerRelease e c s).bus.state = s.bus.state ∧ (offerRelease e c s).bus.phase = s.bus.phase ∧
    (offerRelease e c s).bus.joinTimer = s.bus.joinTimer ∧
    (offerRelease e c s).bus.offLineTimer = s.bus.offLineTimer ∧
    (offerRelease e c s).bus.joinCounter = s.bus.joinCounter ∧
    (offerRelease e c s).bus.score = s.bus.score ∧ (offerRelease e c s).bus.attempt = s.bus.attempt ∧
    (offerRelease e c s).bus.gapSeen = s.bus.gapSeen ∧
    (offerRelease e c s).bus.rejecting = s.bus.rejecting := by
  unfold offerRelease enterDead
  try dsimp only
  (repeat' split) <;> simp [*]

@[simp] theorem offerRelease_record (e c : Fin 8) (d : Fin 8) (s : State) :
    ((offerRelease e c s).faults.records.get d).kinds = (s.faults.records.get d).kinds ∧
    ((offerRelease e c s).faults.records.get d).newest = (s.faults.records.get d).newest := by
  unfold offerRelease enterDead
  try dsimp only
  (repeat' split) <;> simp [*]

@[simp] theorem withdrawClaim_quiet (e : Fin 8) (s : State) :
    (withdrawClaim e s).faults.flags.live = s.faults.flags.live ∧
    (withdrawClaim e s).faults.list = s.faults.list ∧
    (withdrawClaim e s).faults.overrun = s.faults.overrun ∧
    (withdrawClaim e s).faults.peers = s.faults.peers ∧
    (withdrawClaim e s).host.points = s.host.points ∧
    (withdrawClaim e s).host.response = s.host.response ∧
    (withdrawClaim e s).host.transaction = s.host.transaction := by
  unfold withdrawClaim
  try dsimp only
  simp [*]

@[simp] theorem withdrawClaim_line (e : Fin 8) (s : State) :
    (withdrawClaim e s).bus.state = s.bus.state ∧ (withdrawClaim e s).bus.phase = s.bus.phase ∧
    (withdrawClaim e s).bus.joinTimer = s.bus.joinTimer ∧
    (withdrawClaim e s).bus.offLineTimer = s.bus.offLineTimer ∧
    (withdrawClaim e s).bus.joinCounter = s.bus.joinCounter ∧
    (withdrawClaim e s).bus.score = s.bus.score ∧ (withdrawClaim e s).bus.attempt = s.bus.attempt ∧
    (withdrawClaim e s).bus.gapSeen = s.bus.gapSeen ∧
    (withdrawClaim e s).bus.rejecting = s.bus.rejecting := by
  unfold withdrawClaim
  try dsimp only
  simp [*]

@[simp] theorem withdrawClaim_record (e : Fin 8) (d : Fin 8) (s : State) :
    ((withdrawClaim e s).faults.records.get d).kinds = (s.faults.records.get d).kinds ∧
    ((withdrawClaim e s).faults.records.get d).newest = (s.faults.records.get d).newest := by
  unfold withdrawClaim
  try dsimp only
  simp [*]

@[simp] theorem withdrawHold_quiet (e : Fin 8) (s : State) :
    (withdrawHold e s).faults.flags.live = s.faults.flags.live ∧
    (withdrawHold e s).faults.list = s.faults.list ∧
    (withdrawHold e s).faults.overrun = s.faults.overrun ∧
    (withdrawHold e s).faults.peers = s.faults.peers ∧ (withdrawHold e s).host.points = s.host.points ∧
    (withdrawHold e s).host.response = s.host.response ∧
    (withdrawHold e s).host.transaction = s.host.transaction := by
  unfold withdrawHold
  try dsimp only
  simp [*]

@[simp] theorem withdrawHold_line (e : Fin 8) (s : State) :
    (withdrawHold e s).bus.state = s.bus.state ∧ (withdrawHold e s).bus.phase = s.bus.phase ∧
    (withdrawHold e s).bus.joinTimer = s.bus.joinTimer ∧
    (withdrawHold e s).bus.offLineTimer = s.bus.offLineTimer ∧
    (withdrawHold e s).bus.joinCounter = s.bus.joinCounter ∧
    (withdrawHold e s).bus.score = s.bus.score ∧ (withdrawHold e s).bus.attempt = s.bus.attempt ∧
    (withdrawHold e s).bus.gapSeen = s.bus.gapSeen ∧ (withdrawHold e s).bus.rejecting = s.bus.rejecting := by
  unfold withdrawHold
  try dsimp only
  simp [*]

@[simp] theorem withdrawHold_record (e : Fin 8) (d : Fin 8) (s : State) :
    ((withdrawHold e s).faults.records.get d).kinds = (s.faults.records.get d).kinds ∧
    ((withdrawHold e s).faults.records.get d).newest = (s.faults.records.get d).newest := by
  unfold withdrawHold
  try dsimp only
  simp [*]

@[simp] theorem withdrawRelease_quiet (e : Fin 8) (s : State) :
    (withdrawRelease e s).faults.flags.live = s.faults.flags.live ∧
    (withdrawRelease e s).faults.list = s.faults.list ∧
    (withdrawRelease e s).faults.overrun = s.faults.overrun ∧
    (withdrawRelease e s).faults.peers = s.faults.peers ∧
    (withdrawRelease e s).host.points = s.host.points ∧
    (withdrawRelease e s).host.response = s.host.response ∧
    (withdrawRelease e s).host.transaction = s.host.transaction := by
  unfold withdrawRelease
  try dsimp only
  simp [*]

@[simp] theorem withdrawRelease_line (e : Fin 8) (s : State) :
    (withdrawRelease e s).bus.state = s.bus.state ∧ (withdrawRelease e s).bus.phase = s.bus.phase ∧
    (withdrawRelease e s).bus.joinTimer = s.bus.joinTimer ∧
    (withdrawRelease e s).bus.offLineTimer = s.bus.offLineTimer ∧
    (withdrawRelease e s).bus.joinCounter = s.bus.joinCounter ∧
    (withdrawRelease e s).bus.score = s.bus.score ∧ (withdrawRelease e s).bus.attempt = s.bus.attempt ∧
    (withdrawRelease e s).bus.gapSeen = s.bus.gapSeen ∧
    (withdrawRelease e s).bus.rejecting = s.bus.rejecting := by
  unfold withdrawRelease
  try dsimp only
  simp [*]

@[simp] theorem withdrawRelease_record (e : Fin 8) (d : Fin 8) (s : State) :
    ((withdrawRelease e s).faults.records.get d).kinds = (s.faults.records.get d).kinds ∧
    ((withdrawRelease e s).faults.records.get d).newest = (s.faults.records.get d).newest := by
  unfold withdrawRelease
  try dsimp only
  simp [*]

@[simp] theorem claimGroup_quiet (e c : Fin 8) (s : State) :
    (claimGroup e c s).faults.flags.live = s.faults.flags.live ∧
    (claimGroup e c s).faults.list = s.faults.list ∧
    (claimGroup e c s).faults.overrun = s.faults.overrun ∧
    (claimGroup e c s).faults.peers = s.faults.peers ∧ (claimGroup e c s).host.points = s.host.points ∧
    (claimGroup e c s).host.response = s.host.response ∧
    (claimGroup e c s).host.transaction = s.host.transaction := by
  unfold claimGroup enterFreeHoldOff
  try dsimp only
  (repeat' split) <;> simp [*]

@[simp] theorem claimGroup_line (e c : Fin 8) (s : State) :
    (claimGroup e c s).bus.state = s.bus.state ∧ (claimGroup e c s).bus.phase = s.bus.phase ∧
    (claimGroup e c s).bus.joinTimer = s.bus.joinTimer ∧
    (claimGroup e c s).bus.offLineTimer = s.bus.offLineTimer ∧
    (claimGroup e c s).bus.joinCounter = s.bus.joinCounter ∧
    (claimGroup e c s).bus.score = s.bus.score ∧ (claimGroup e c s).bus.attempt = s.bus.attempt ∧
    (claimGroup e c s).bus.gapSeen = s.bus.gapSeen ∧ (claimGroup e c s).bus.rejecting = s.bus.rejecting := by
  unfold claimGroup enterFreeHoldOff
  try dsimp only
  (repeat' split) <;> simp [*]

@[simp] theorem claimGroup_record (e c : Fin 8) (d : Fin 8) (s : State) :
    ((claimGroup e c s).faults.records.get d).kinds = (s.faults.records.get d).kinds ∧
    ((claimGroup e c s).faults.records.get d).newest = (s.faults.records.get d).newest := by
  unfold claimGroup enterFreeHoldOff
  try dsimp only
  (repeat' split) <;> simp [*]

@[simp] theorem claimIfDue_quiet (e : Fin 8) (s : State) :
    (claimIfDue e s).faults.flags.live = s.faults.flags.live ∧
    (claimIfDue e s).faults.list = s.faults.list ∧ (claimIfDue e s).faults.overrun = s.faults.overrun ∧
    (claimIfDue e s).faults.peers = s.faults.peers ∧ (claimIfDue e s).host.points = s.host.points ∧
    (claimIfDue e s).host.response = s.host.response ∧
    (claimIfDue e s).host.transaction = s.host.transaction := by
  unfold claimIfDue
  try dsimp only
  (repeat' split) <;> simp [*]

@[simp] theorem claimIfDue_line (e : Fin 8) (s : State) :
    (claimIfDue e s).bus.state = s.bus.state ∧ (claimIfDue e s).bus.phase = s.bus.phase ∧
    (claimIfDue e s).bus.joinTimer = s.bus.joinTimer ∧
    (claimIfDue e s).bus.offLineTimer = s.bus.offLineTimer ∧
    (claimIfDue e s).bus.joinCounter = s.bus.joinCounter ∧ (claimIfDue e s).bus.score = s.bus.score ∧
    (claimIfDue e s).bus.attempt = s.bus.attempt ∧ (claimIfDue e s).bus.gapSeen = s.bus.gapSeen ∧
    (claimIfDue e s).bus.rejecting = s.bus.rejecting := by
  unfold claimIfDue
  try dsimp only
  (repeat' split) <;> simp [*]

@[simp] theorem claimIfDue_record (e : Fin 8) (d : Fin 8) (s : State) :
    ((claimIfDue e s).faults.records.get d).kinds = (s.faults.records.get d).kinds ∧
    ((claimIfDue e s).faults.records.get d).newest = (s.faults.records.get d).newest := by
  unfold claimIfDue
  try dsimp only
  (repeat' split) <;> simp [*]

@[simp] theorem queueRelease_quiet (e : Fin 8) (x : Entry) (s : State) :
    (queueRelease e x s).faults.flags.live = s.faults.flags.live ∧
    (queueRelease e x s).faults.list = s.faults.list ∧
    (queueRelease e x s).faults.overrun = s.faults.overrun ∧
    (queueRelease e x s).faults.peers = s.faults.peers ∧
    (queueRelease e x s).host.points = s.host.points ∧
    (queueRelease e x s).host.response = s.host.response ∧
    (queueRelease e x s).host.transaction = s.host.transaction := by
  unfold queueRelease
  try dsimp only
  simp [*]

@[simp] theorem queueRelease_line (e : Fin 8) (x : Entry) (s : State) :
    (queueRelease e x s).bus.state = s.bus.state ∧ (queueRelease e x s).bus.phase = s.bus.phase ∧
    (queueRelease e x s).bus.joinTimer = s.bus.joinTimer ∧
    (queueRelease e x s).bus.offLineTimer = s.bus.offLineTimer ∧
    (queueRelease e x s).bus.joinCounter = s.bus.joinCounter ∧
    (queueRelease e x s).bus.score = s.bus.score ∧ (queueRelease e x s).bus.attempt = s.bus.attempt ∧
    (queueRelease e x s).bus.gapSeen = s.bus.gapSeen ∧
    (queueRelease e x s).bus.rejecting = s.bus.rejecting := by
  unfold queueRelease
  try dsimp only
  simp [*]

@[simp] theorem queueRelease_record (e : Fin 8) (x : Entry) (d : Fin 8) (s : State) :
    ((queueRelease e x s).faults.records.get d).kinds = (s.faults.records.get d).kinds ∧
    ((queueRelease e x s).faults.records.get d).newest = (s.faults.records.get d).newest := by
  unfold queueRelease
  try dsimp only
  simp [*]

@[simp] theorem settleDone_quiet (e : Fin 8) (x : Entry) (s : State) :
    (settleDone e x s).faults.flags.live = s.faults.flags.live ∧
    (settleDone e x s).faults.list = s.faults.list ∧
    (settleDone e x s).faults.overrun = s.faults.overrun ∧
    (settleDone e x s).faults.peers = s.faults.peers ∧ (settleDone e x s).host.points = s.host.points ∧
    (settleDone e x s).host.response = s.host.response ∧
    (settleDone e x s).host.transaction = s.host.transaction := by
  unfold settleDone
  try dsimp only
  (repeat' split) <;> simp [*]

@[simp] theorem settleDone_line (e : Fin 8) (x : Entry) (s : State) :
    (settleDone e x s).bus.state = s.bus.state ∧ (settleDone e x s).bus.phase = s.bus.phase ∧
    (settleDone e x s).bus.joinTimer = s.bus.joinTimer ∧
    (settleDone e x s).bus.offLineTimer = s.bus.offLineTimer ∧
    (settleDone e x s).bus.joinCounter = s.bus.joinCounter ∧
    (settleDone e x s).bus.score = s.bus.score ∧ (settleDone e x s).bus.attempt = s.bus.attempt ∧
    (settleDone e x s).bus.gapSeen = s.bus.gapSeen ∧ (settleDone e x s).bus.rejecting = s.bus.rejecting := by
  unfold settleDone
  try dsimp only
  (repeat' split) <;> simp [*]

@[simp] theorem settleDone_record (e : Fin 8) (x : Entry) (d : Fin 8) (s : State) :
    ((settleDone e x s).faults.records.get d).kinds = (s.faults.records.get d).kinds ∧
    ((settleDone e x s).faults.records.get d).newest = (s.faults.records.get d).newest := by
  unfold settleDone
  try dsimp only
  (repeat' split) <;> simp [*]

@[simp] theorem doneAt_quiet (e c : Fin 8) (s : State) :
    (doneAt e c s).faults.flags.live = s.faults.flags.live ∧
    (doneAt e c s).faults.list = s.faults.list ∧ (doneAt e c s).faults.overrun = s.faults.overrun ∧
    (doneAt e c s).faults.peers = s.faults.peers ∧ (doneAt e c s).host.points = s.host.points ∧
    (doneAt e c s).host.response = s.host.response ∧
    (doneAt e c s).host.transaction = s.host.transaction := by
  unfold doneAt
  try dsimp only
  (repeat' split) <;> simp [*]

@[simp] theorem doneAt_line (e c : Fin 8) (s : State) :
    (doneAt e c s).bus.state = s.bus.state ∧ (doneAt e c s).bus.phase = s.bus.phase ∧
    (doneAt e c s).bus.joinTimer = s.bus.joinTimer ∧
    (doneAt e c s).bus.offLineTimer = s.bus.offLineTimer ∧
    (doneAt e c s).bus.joinCounter = s.bus.joinCounter ∧ (doneAt e c s).bus.score = s.bus.score ∧
    (doneAt e c s).bus.attempt = s.bus.attempt ∧ (doneAt e c s).bus.gapSeen = s.bus.gapSeen ∧
    (doneAt e c s).bus.rejecting = s.bus.rejecting := by
  unfold doneAt
  try dsimp only
  (repeat' split) <;> simp [*]

@[simp] theorem doneAt_record (e c : Fin 8) (d : Fin 8) (s : State) :
    ((doneAt e c s).faults.records.get d).kinds = (s.faults.records.get d).kinds ∧
    ((doneAt e c s).faults.records.get d).newest = (s.faults.records.get d).newest := by
  unfold doneAt
  try dsimp only
  (repeat' split) <;> simp [*]

@[simp] theorem requestAt_quiet (e c : Fin 8) (s : State) :
    (requestAt e c s).faults.flags.live = s.faults.flags.live ∧
    (requestAt e c s).faults.list = s.faults.list ∧
    (requestAt e c s).faults.overrun = s.faults.overrun ∧
    (requestAt e c s).faults.peers = s.faults.peers ∧ (requestAt e c s).host.points = s.host.points ∧
    (requestAt e c s).host.response = s.host.response ∧
    (requestAt e c s).host.transaction = s.host.transaction := by
  unfold requestAt
  try dsimp only
  simp [*]

@[simp] theorem requestAt_record (e c : Fin 8) (d : Fin 8) (s : State) :
    ((requestAt e c s).faults.records.get d).kinds = (s.faults.records.get d).kinds ∧
    ((requestAt e c s).faults.records.get d).newest = (s.faults.records.get d).newest := by
  unfold requestAt
  try dsimp only
  simp [*]

@[simp] theorem cancelAt_quiet (e c : Fin 8) (s : State) :
    (cancelAt e c s).faults.flags.live = s.faults.flags.live ∧
    (cancelAt e c s).faults.list = s.faults.list ∧ (cancelAt e c s).faults.overrun = s.faults.overrun ∧
    (cancelAt e c s).faults.peers = s.faults.peers ∧ (cancelAt e c s).host.points = s.host.points ∧
    (cancelAt e c s).host.response = s.host.response ∧
    (cancelAt e c s).host.transaction = s.host.transaction := by
  unfold cancelAt
  try dsimp only
  (repeat' split) <;> simp [*]

@[simp] theorem cancelAt_line (e c : Fin 8) (s : State) :
    (cancelAt e c s).bus.state = s.bus.state ∧ (cancelAt e c s).bus.phase = s.bus.phase ∧
    (cancelAt e c s).bus.joinTimer = s.bus.joinTimer ∧
    (cancelAt e c s).bus.offLineTimer = s.bus.offLineTimer ∧
    (cancelAt e c s).bus.joinCounter = s.bus.joinCounter ∧ (cancelAt e c s).bus.score = s.bus.score ∧
    (cancelAt e c s).bus.attempt = s.bus.attempt ∧ (cancelAt e c s).bus.gapSeen = s.bus.gapSeen ∧
    (cancelAt e c s).bus.rejecting = s.bus.rejecting := by
  unfold cancelAt
  try dsimp only
  (repeat' split) <;> simp [*]

@[simp] theorem cancelAt_record (e c : Fin 8) (d : Fin 8) (s : State) :
    ((cancelAt e c s).faults.records.get d).kinds = (s.faults.records.get d).kinds ∧
    ((cancelAt e c s).faults.records.get d).newest = (s.faults.records.get d).newest := by
  unfold cancelAt
  try dsimp only
  (repeat' split) <;> simp [*]

@[simp] theorem yieldTo_quiet (e : Fin 8) (x : Entry) (h : Holder) (s : State) :
    (yieldTo e x h s).faults.flags.live = s.faults.flags.live ∧
    (yieldTo e x h s).faults.list = s.faults.list ∧
    (yieldTo e x h s).faults.overrun = s.faults.overrun ∧
    (yieldTo e x h s).faults.peers = s.faults.peers ∧ (yieldTo e x h s).host.points = s.host.points ∧
    (yieldTo e x h s).host.response = s.host.response ∧
    (yieldTo e x h s).host.transaction = s.host.transaction := by
  unfold yieldTo
  try dsimp only
  (repeat' split) <;> simp [*]

@[simp] theorem yieldTo_line (e : Fin 8) (x : Entry) (h : Holder) (s : State) :
    (yieldTo e x h s).bus.state = s.bus.state ∧ (yieldTo e x h s).bus.phase = s.bus.phase ∧
    (yieldTo e x h s).bus.joinTimer = s.bus.joinTimer ∧
    (yieldTo e x h s).bus.offLineTimer = s.bus.offLineTimer ∧
    (yieldTo e x h s).bus.joinCounter = s.bus.joinCounter ∧ (yieldTo e x h s).bus.score = s.bus.score ∧
    (yieldTo e x h s).bus.attempt = s.bus.attempt ∧ (yieldTo e x h s).bus.gapSeen = s.bus.gapSeen ∧
    (yieldTo e x h s).bus.rejecting = s.bus.rejecting := by
  unfold yieldTo
  try dsimp only
  (repeat' split) <;> simp [*]

@[simp] theorem yieldTo_record (e : Fin 8) (x : Entry) (h : Holder) (d : Fin 8) (s : State) :
    ((yieldTo e x h s).faults.records.get d).kinds = (s.faults.records.get d).kinds ∧
    ((yieldTo e x h s).faults.records.get d).newest = (s.faults.records.get d).newest := by
  unfold yieldTo
  try dsimp only
  (repeat' split) <;> simp [*]

@[simp] theorem foreignClaim_quiet (e : Fin 8) (h : Holder) (s : State) :
    (foreignClaim e h s).faults.flags.live = s.faults.flags.live ∧
    (foreignClaim e h s).faults.list = s.faults.list ∧
    (foreignClaim e h s).faults.overrun = s.faults.overrun ∧
    (foreignClaim e h s).faults.peers = s.faults.peers ∧
    (foreignClaim e h s).host.points = s.host.points ∧
    (foreignClaim e h s).host.response = s.host.response ∧
    (foreignClaim e h s).host.transaction = s.host.transaction := by
  unfold foreignClaim
  try dsimp only
  (repeat' split) <;> simp [*]

@[simp] theorem foreignClaim_line (e : Fin 8) (h : Holder) (s : State) :
    (foreignClaim e h s).bus.state = s.bus.state ∧ (foreignClaim e h s).bus.phase = s.bus.phase ∧
    (foreignClaim e h s).bus.joinTimer = s.bus.joinTimer ∧
    (foreignClaim e h s).bus.offLineTimer = s.bus.offLineTimer ∧
    (foreignClaim e h s).bus.joinCounter = s.bus.joinCounter ∧
    (foreignClaim e h s).bus.score = s.bus.score ∧ (foreignClaim e h s).bus.attempt = s.bus.attempt ∧
    (foreignClaim e h s).bus.gapSeen = s.bus.gapSeen ∧
    (foreignClaim e h s).bus.rejecting = s.bus.rejecting := by
  unfold foreignClaim
  try dsimp only
  (repeat' split) <;> simp [*]

@[simp] theorem foreignClaim_record (e : Fin 8) (h : Holder) (d : Fin 8) (s : State) :
    ((foreignClaim e h s).faults.records.get d).kinds = (s.faults.records.get d).kinds ∧
    ((foreignClaim e h s).faults.records.get d).newest = (s.faults.records.get d).newest := by
  unfold foreignClaim
  try dsimp only
  (repeat' split) <;> simp [*]

@[simp] theorem ownClaim_quiet (e : Fin 8) (s : State) :
    (ownClaim e s).faults.flags.live = s.faults.flags.live ∧
    (ownClaim e s).faults.list = s.faults.list ∧ (ownClaim e s).faults.overrun = s.faults.overrun ∧
    (ownClaim e s).faults.peers = s.faults.peers ∧ (ownClaim e s).host.points = s.host.points ∧
    (ownClaim e s).host.response = s.host.response ∧
    (ownClaim e s).host.transaction = s.host.transaction := by
  unfold ownClaim
  try dsimp only
  (repeat' split) <;> simp [*]

@[simp] theorem ownClaim_record (e : Fin 8) (d : Fin 8) (s : State) :
    ((ownClaim e s).faults.records.get d).kinds = (s.faults.records.get d).kinds ∧
    ((ownClaim e s).faults.records.get d).newest = (s.faults.records.get d).newest := by
  unfold ownClaim
  try dsimp only
  (repeat' split) <;> simp [*]

@[simp] theorem foreignHold_quiet (e : Fin 8) (h : Holder) (b : Bool) (s : State) :
    (foreignHold e h b s).faults.flags.live = s.faults.flags.live ∧
    (foreignHold e h b s).faults.list = s.faults.list ∧
    (foreignHold e h b s).faults.overrun = s.faults.overrun ∧
    (foreignHold e h b s).faults.peers = s.faults.peers ∧
    (foreignHold e h b s).host.points = s.host.points ∧
    (foreignHold e h b s).host.response = s.host.response ∧
    (foreignHold e h b s).host.transaction = s.host.transaction := by
  unfold foreignHold
  try dsimp only
  (repeat' split) <;> simp [*]

@[simp] theorem foreignHold_line (e : Fin 8) (h : Holder) (b : Bool) (s : State) :
    (foreignHold e h b s).bus.state = s.bus.state ∧ (foreignHold e h b s).bus.phase = s.bus.phase ∧
    (foreignHold e h b s).bus.joinTimer = s.bus.joinTimer ∧
    (foreignHold e h b s).bus.offLineTimer = s.bus.offLineTimer ∧
    (foreignHold e h b s).bus.joinCounter = s.bus.joinCounter ∧
    (foreignHold e h b s).bus.score = s.bus.score ∧ (foreignHold e h b s).bus.attempt = s.bus.attempt ∧
    (foreignHold e h b s).bus.gapSeen = s.bus.gapSeen ∧
    (foreignHold e h b s).bus.rejecting = s.bus.rejecting := by
  unfold foreignHold
  try dsimp only
  (repeat' split) <;> simp [*]

@[simp] theorem foreignHold_record (e : Fin 8) (h : Holder) (b : Bool) (d : Fin 8) (s : State) :
    ((foreignHold e h b s).faults.records.get d).kinds = (s.faults.records.get d).kinds ∧
    ((foreignHold e h b s).faults.records.get d).newest = (s.faults.records.get d).newest := by
  unfold foreignHold
  try dsimp only
  (repeat' split) <;> simp [*]

@[simp] theorem ownHold_quiet (e : Fin 8) (s : State) :
    (ownHold e s).faults.flags.live = s.faults.flags.live ∧ (ownHold e s).faults.list = s.faults.list ∧
    (ownHold e s).faults.overrun = s.faults.overrun ∧ (ownHold e s).faults.peers = s.faults.peers ∧
    (ownHold e s).host.points = s.host.points ∧ (ownHold e s).host.response = s.host.response ∧
    (ownHold e s).host.transaction = s.host.transaction := by
  unfold ownHold
  try dsimp only
  (repeat' split) <;> simp [*]

@[simp] theorem ownHold_record (e : Fin 8) (d : Fin 8) (s : State) :
    ((ownHold e s).faults.records.get d).kinds = (s.faults.records.get d).kinds ∧
    ((ownHold e s).faults.records.get d).newest = (s.faults.records.get d).newest := by
  unfold ownHold
  try dsimp only
  (repeat' split) <;> simp [*]

@[simp] theorem foreignRelease_quiet (e : Fin 8) (n : Station) (s : State) :
    (foreignRelease e n s).faults.flags.live = s.faults.flags.live ∧
    (foreignRelease e n s).faults.list = s.faults.list ∧
    (foreignRelease e n s).faults.overrun = s.faults.overrun ∧
    (foreignRelease e n s).faults.peers = s.faults.peers ∧
    (foreignRelease e n s).host.points = s.host.points ∧
    (foreignRelease e n s).host.response = s.host.response ∧
    (foreignRelease e n s).host.transaction = s.host.transaction := by
  unfold foreignRelease
  try dsimp only
  (repeat' split) <;> simp [*]

@[simp] theorem foreignRelease_line (e : Fin 8) (n : Station) (s : State) :
    (foreignRelease e n s).bus.state = s.bus.state ∧ (foreignRelease e n s).bus.phase = s.bus.phase ∧
    (foreignRelease e n s).bus.joinTimer = s.bus.joinTimer ∧
    (foreignRelease e n s).bus.offLineTimer = s.bus.offLineTimer ∧
    (foreignRelease e n s).bus.joinCounter = s.bus.joinCounter ∧
    (foreignRelease e n s).bus.score = s.bus.score ∧
    (foreignRelease e n s).bus.attempt = s.bus.attempt ∧
    (foreignRelease e n s).bus.gapSeen = s.bus.gapSeen ∧
    (foreignRelease e n s).bus.rejecting = s.bus.rejecting := by
  unfold foreignRelease
  try dsimp only
  (repeat' split) <;> simp [*]

@[simp] theorem foreignRelease_record (e : Fin 8) (n : Station) (d : Fin 8) (s : State) :
    ((foreignRelease e n s).faults.records.get d).kinds = (s.faults.records.get d).kinds ∧
    ((foreignRelease e n s).faults.records.get d).newest = (s.faults.records.get d).newest := by
  unfold foreignRelease
  try dsimp only
  (repeat' split) <;> simp [*]

@[simp] theorem ownRelease_quiet (e : Fin 8) (s : State) :
    (ownRelease e s).faults.flags.live = s.faults.flags.live ∧
    (ownRelease e s).faults.list = s.faults.list ∧ (ownRelease e s).faults.overrun = s.faults.overrun ∧
    (ownRelease e s).faults.peers = s.faults.peers ∧ (ownRelease e s).host.points = s.host.points ∧
    (ownRelease e s).host.response = s.host.response ∧
    (ownRelease e s).host.transaction = s.host.transaction := by
  unfold ownRelease
  try dsimp only
  (repeat' split) <;> simp [*]

@[simp] theorem ownRelease_record (e : Fin 8) (d : Fin 8) (s : State) :
    ((ownRelease e s).faults.records.get d).kinds = (s.faults.records.get d).kinds ∧
    ((ownRelease e s).faults.records.get d).newest = (s.faults.records.get d).newest := by
  unfold ownRelease
  try dsimp only
  (repeat' split) <;> simp [*]

@[simp] theorem holdExpiry_quiet (e : Fin 8) (s : State) :
    (holdExpiry e s).faults.flags.live = s.faults.flags.live ∧
    (holdExpiry e s).faults.list = s.faults.list ∧ (holdExpiry e s).faults.overrun = s.faults.overrun ∧
    (holdExpiry e s).faults.peers = s.faults.peers ∧ (holdExpiry e s).host.points = s.host.points ∧
    (holdExpiry e s).host.response = s.host.response ∧
    (holdExpiry e s).host.transaction = s.host.transaction := by
  unfold holdExpiry
  try dsimp only
  (repeat' split) <;> simp [*]

@[simp] theorem holdExpiry_line (e : Fin 8) (s : State) :
    (holdExpiry e s).bus.state = s.bus.state ∧ (holdExpiry e s).bus.phase = s.bus.phase ∧
    (holdExpiry e s).bus.joinTimer = s.bus.joinTimer ∧
    (holdExpiry e s).bus.offLineTimer = s.bus.offLineTimer ∧
    (holdExpiry e s).bus.joinCounter = s.bus.joinCounter ∧ (holdExpiry e s).bus.score = s.bus.score ∧
    (holdExpiry e s).bus.attempt = s.bus.attempt ∧ (holdExpiry e s).bus.gapSeen = s.bus.gapSeen ∧
    (holdExpiry e s).bus.rejecting = s.bus.rejecting := by
  unfold holdExpiry
  try dsimp only
  (repeat' split) <;> simp [*]

@[simp] theorem holdExpiry_record (e : Fin 8) (d : Fin 8) (s : State) :
    ((holdExpiry e s).faults.records.get d).kinds = (s.faults.records.get d).kinds ∧
    ((holdExpiry e s).faults.records.get d).newest = (s.faults.records.get d).newest := by
  unfold holdExpiry
  try dsimp only
  (repeat' split) <;> simp [*]

@[simp] theorem windowExpiry_quiet (e : Fin 8) (s : State) :
    (windowExpiry e s).faults.flags.live = s.faults.flags.live ∧
    (windowExpiry e s).faults.list = s.faults.list ∧
    (windowExpiry e s).faults.overrun = s.faults.overrun ∧
    (windowExpiry e s).faults.peers = s.faults.peers ∧ (windowExpiry e s).host.points = s.host.points ∧
    (windowExpiry e s).host.response = s.host.response ∧
    (windowExpiry e s).host.transaction = s.host.transaction := by
  unfold windowExpiry
  try dsimp only
  (repeat' split) <;> simp [*]

@[simp] theorem windowExpiry_line (e : Fin 8) (s : State) :
    (windowExpiry e s).bus.state = s.bus.state ∧ (windowExpiry e s).bus.phase = s.bus.phase ∧
    (windowExpiry e s).bus.joinTimer = s.bus.joinTimer ∧
    (windowExpiry e s).bus.offLineTimer = s.bus.offLineTimer ∧
    (windowExpiry e s).bus.joinCounter = s.bus.joinCounter ∧
    (windowExpiry e s).bus.score = s.bus.score ∧ (windowExpiry e s).bus.attempt = s.bus.attempt ∧
    (windowExpiry e s).bus.gapSeen = s.bus.gapSeen ∧ (windowExpiry e s).bus.rejecting = s.bus.rejecting := by
  unfold windowExpiry
  try dsimp only
  (repeat' split) <;> simp [*]

@[simp] theorem windowExpiry_record (e : Fin 8) (d : Fin 8) (s : State) :
    ((windowExpiry e s).faults.records.get d).kinds = (s.faults.records.get d).kinds ∧
    ((windowExpiry e s).faults.records.get d).newest = (s.faults.records.get d).newest := by
  unfold windowExpiry
  try dsimp only
  (repeat' split) <;> simp [*]

@[simp] theorem groupOnLine_quiet (e : Fin 8) (s : State) :
    (groupOnLine e s).faults.flags.live = s.faults.flags.live ∧
    (groupOnLine e s).faults.list = s.faults.list ∧
    (groupOnLine e s).faults.overrun = s.faults.overrun ∧
    (groupOnLine e s).faults.peers = s.faults.peers ∧ (groupOnLine e s).host.points = s.host.points ∧
    (groupOnLine e s).host.response = s.host.response ∧
    (groupOnLine e s).host.transaction = s.host.transaction := by
  unfold groupOnLine
  try dsimp only
  (repeat' split) <;> simp [*]

@[simp] theorem groupOnLine_line (e : Fin 8) (s : State) :
    (groupOnLine e s).bus.state = s.bus.state ∧ (groupOnLine e s).bus.phase = s.bus.phase ∧
    (groupOnLine e s).bus.joinTimer = s.bus.joinTimer ∧
    (groupOnLine e s).bus.offLineTimer = s.bus.offLineTimer ∧
    (groupOnLine e s).bus.joinCounter = s.bus.joinCounter ∧ (groupOnLine e s).bus.score = s.bus.score ∧
    (groupOnLine e s).bus.attempt = s.bus.attempt ∧ (groupOnLine e s).bus.gapSeen = s.bus.gapSeen ∧
    (groupOnLine e s).bus.rejecting = s.bus.rejecting := by
  unfold groupOnLine
  try dsimp only
  (repeat' split) <;> simp [*]

@[simp] theorem groupOnLine_record (e : Fin 8) (d : Fin 8) (s : State) :
    ((groupOnLine e s).faults.records.get d).kinds = (s.faults.records.get d).kinds ∧
    ((groupOnLine e s).faults.records.get d).newest = (s.faults.records.get d).newest := by
  unfold groupOnLine
  try dsimp only
  (repeat' split) <;> simp [*]

@[simp] theorem groupHello_quiet (e : Fin 8) (s : State) :
    (groupHello e s).faults.flags.live = s.faults.flags.live ∧
    (groupHello e s).faults.list = s.faults.list ∧ (groupHello e s).faults.overrun = s.faults.overrun ∧
    (groupHello e s).faults.peers = s.faults.peers ∧ (groupHello e s).host.points = s.host.points ∧
    (groupHello e s).host.response = s.host.response ∧
    (groupHello e s).host.transaction = s.host.transaction := by
  unfold groupHello
  try dsimp only
  (repeat' split) <;> simp [*]

@[simp] theorem groupHello_line (e : Fin 8) (s : State) :
    (groupHello e s).bus.state = s.bus.state ∧ (groupHello e s).bus.phase = s.bus.phase ∧
    (groupHello e s).bus.joinTimer = s.bus.joinTimer ∧
    (groupHello e s).bus.offLineTimer = s.bus.offLineTimer ∧
    (groupHello e s).bus.joinCounter = s.bus.joinCounter ∧ (groupHello e s).bus.score = s.bus.score ∧
    (groupHello e s).bus.attempt = s.bus.attempt ∧ (groupHello e s).bus.gapSeen = s.bus.gapSeen ∧
    (groupHello e s).bus.rejecting = s.bus.rejecting := by
  unfold groupHello
  try dsimp only
  (repeat' split) <;> simp [*]

@[simp] theorem groupHello_record (e : Fin 8) (d : Fin 8) (s : State) :
    ((groupHello e s).faults.records.get d).kinds = (s.faults.records.get d).kinds ∧
    ((groupHello e s).faults.records.get d).newest = (s.faults.records.get d).newest := by
  unfold groupHello
  try dsimp only
  (repeat' split) <;> simp [*]

@[simp] theorem queueTrip_quiet (m : Byte) (k : TripCause) (s : State) :
    (queueTrip m k s).faults.flags.live = s.faults.flags.live ∧
    (queueTrip m k s).faults.list = s.faults.list ∧
    (queueTrip m k s).faults.overrun = s.faults.overrun ∧
    (queueTrip m k s).faults.peers = s.faults.peers ∧ (queueTrip m k s).host.points = s.host.points ∧
    (queueTrip m k s).host.response = s.host.response ∧
    (queueTrip m k s).host.transaction = s.host.transaction := by
  unfold queueTrip
  try dsimp only
  (repeat' split) <;> simp [*]

@[simp] theorem queueTrip_line (m : Byte) (k : TripCause) (s : State) :
    (queueTrip m k s).bus.state = s.bus.state ∧ (queueTrip m k s).bus.phase = s.bus.phase ∧
    (queueTrip m k s).bus.joinTimer = s.bus.joinTimer ∧
    (queueTrip m k s).bus.offLineTimer = s.bus.offLineTimer ∧
    (queueTrip m k s).bus.joinCounter = s.bus.joinCounter ∧ (queueTrip m k s).bus.score = s.bus.score ∧
    (queueTrip m k s).bus.attempt = s.bus.attempt ∧ (queueTrip m k s).bus.gapSeen = s.bus.gapSeen ∧
    (queueTrip m k s).bus.rejecting = s.bus.rejecting := by
  unfold queueTrip
  try dsimp only
  (repeat' split) <;> simp [*]

@[simp] theorem queueTrip_record (m : Byte) (k : TripCause) (d : Fin 8) (s : State) :
    ((queueTrip m k s).faults.records.get d).kinds = (s.faults.records.get d).kinds ∧
    ((queueTrip m k s).faults.records.get d).newest = (s.faults.records.get d).newest := by
  unfold queueTrip
  try dsimp only
  (repeat' split) <;> simp [*]

@[simp] theorem queueClear_quiet (m : Byte) (s : State) :
    (queueClear m s).faults.flags.live = s.faults.flags.live ∧
    (queueClear m s).faults.list = s.faults.list ∧ (queueClear m s).faults.overrun = s.faults.overrun ∧
    (queueClear m s).faults.peers = s.faults.peers ∧ (queueClear m s).host.points = s.host.points ∧
    (queueClear m s).host.response = s.host.response ∧
    (queueClear m s).host.transaction = s.host.transaction := by
  unfold queueClear
  try dsimp only
  (repeat' split) <;> simp [*]

@[simp] theorem queueClear_line (m : Byte) (s : State) :
    (queueClear m s).bus.state = s.bus.state ∧ (queueClear m s).bus.phase = s.bus.phase ∧
    (queueClear m s).bus.joinTimer = s.bus.joinTimer ∧
    (queueClear m s).bus.offLineTimer = s.bus.offLineTimer ∧
    (queueClear m s).bus.joinCounter = s.bus.joinCounter ∧ (queueClear m s).bus.score = s.bus.score ∧
    (queueClear m s).bus.attempt = s.bus.attempt ∧ (queueClear m s).bus.gapSeen = s.bus.gapSeen ∧
    (queueClear m s).bus.rejecting = s.bus.rejecting := by
  unfold queueClear
  try dsimp only
  (repeat' split) <;> simp [*]

@[simp] theorem queueClear_record (m : Byte) (d : Fin 8) (s : State) :
    ((queueClear m s).faults.records.get d).kinds = (s.faults.records.get d).kinds ∧
    ((queueClear m s).faults.records.get d).newest = (s.faults.records.get d).newest := by
  unfold queueClear
  try dsimp only
  (repeat' split) <;> simp [*]

@[simp] theorem zonesOnLine_quiet (s : State) :
    (zonesOnLine s).faults.flags.live = s.faults.flags.live ∧
    (zonesOnLine s).faults.list = s.faults.list ∧ (zonesOnLine s).faults.overrun = s.faults.overrun ∧
    (zonesOnLine s).faults.peers = s.faults.peers ∧ (zonesOnLine s).host.points = s.host.points ∧
    (zonesOnLine s).host.response = s.host.response ∧
    (zonesOnLine s).host.transaction = s.host.transaction := by
  unfold zonesOnLine
  try dsimp only
  simp [*]

@[simp] theorem zonesOnLine_line (s : State) :
    (zonesOnLine s).bus.state = s.bus.state ∧ (zonesOnLine s).bus.phase = s.bus.phase ∧
    (zonesOnLine s).bus.joinTimer = s.bus.joinTimer ∧
    (zonesOnLine s).bus.offLineTimer = s.bus.offLineTimer ∧
    (zonesOnLine s).bus.joinCounter = s.bus.joinCounter ∧ (zonesOnLine s).bus.score = s.bus.score ∧
    (zonesOnLine s).bus.attempt = s.bus.attempt ∧ (zonesOnLine s).bus.gapSeen = s.bus.gapSeen ∧
    (zonesOnLine s).bus.rejecting = s.bus.rejecting := by
  unfold zonesOnLine
  try dsimp only
  simp [*]

@[simp] theorem zonesOnLine_record (d : Fin 8) (s : State) :
    ((zonesOnLine s).faults.records.get d).kinds = (s.faults.records.get d).kinds ∧
    ((zonesOnLine s).faults.records.get d).newest = (s.faults.records.get d).newest := by
  unfold zonesOnLine
  try dsimp only
  simp [*]

@[simp] theorem zonesHello_quiet (s : State) :
    (zonesHello s).faults.flags.live = s.faults.flags.live ∧
    (zonesHello s).faults.list = s.faults.list ∧ (zonesHello s).faults.overrun = s.faults.overrun ∧
    (zonesHello s).faults.peers = s.faults.peers ∧ (zonesHello s).host.points = s.host.points ∧
    (zonesHello s).host.response = s.host.response ∧
    (zonesHello s).host.transaction = s.host.transaction := by
  unfold zonesHello
  try dsimp only
  simp [*]

@[simp] theorem zonesHello_line (s : State) :
    (zonesHello s).bus.state = s.bus.state ∧ (zonesHello s).bus.phase = s.bus.phase ∧
    (zonesHello s).bus.joinTimer = s.bus.joinTimer ∧
    (zonesHello s).bus.offLineTimer = s.bus.offLineTimer ∧
    (zonesHello s).bus.joinCounter = s.bus.joinCounter ∧ (zonesHello s).bus.score = s.bus.score ∧
    (zonesHello s).bus.attempt = s.bus.attempt ∧ (zonesHello s).bus.gapSeen = s.bus.gapSeen ∧
    (zonesHello s).bus.rejecting = s.bus.rejecting := by
  unfold zonesHello
  try dsimp only
  simp [*]

@[simp] theorem zonesHello_record (d : Fin 8) (s : State) :
    ((zonesHello s).faults.records.get d).kinds = (s.faults.records.get d).kinds ∧
    ((zonesHello s).faults.records.get d).newest = (s.faults.records.get d).newest := by
  unfold zonesHello
  try dsimp only
  simp [*]

@[simp] theorem tripAbandoned_quiet (m : Byte) (k : TripCause) (s : State) :
    (tripAbandoned m k s).faults.flags.live = s.faults.flags.live ∧
    (tripAbandoned m k s).faults.list = s.faults.list ∧
    (tripAbandoned m k s).faults.overrun = s.faults.overrun ∧
    (tripAbandoned m k s).faults.peers = s.faults.peers ∧
    (tripAbandoned m k s).host.points = s.host.points ∧
    (tripAbandoned m k s).host.response = s.host.response ∧
    (tripAbandoned m k s).host.transaction = s.host.transaction := by
  unfold tripAbandoned
  try dsimp only
  simp [*]

@[simp] theorem tripAbandoned_line (m : Byte) (k : TripCause) (s : State) :
    (tripAbandoned m k s).bus.state = s.bus.state ∧ (tripAbandoned m k s).bus.phase = s.bus.phase ∧
    (tripAbandoned m k s).bus.joinTimer = s.bus.joinTimer ∧
    (tripAbandoned m k s).bus.offLineTimer = s.bus.offLineTimer ∧
    (tripAbandoned m k s).bus.joinCounter = s.bus.joinCounter ∧
    (tripAbandoned m k s).bus.score = s.bus.score ∧ (tripAbandoned m k s).bus.attempt = s.bus.attempt ∧
    (tripAbandoned m k s).bus.gapSeen = s.bus.gapSeen ∧
    (tripAbandoned m k s).bus.rejecting = s.bus.rejecting := by
  unfold tripAbandoned
  try dsimp only
  simp [*]

@[simp] theorem tripAbandoned_record (m : Byte) (k : TripCause) (d : Fin 8) (s : State) :
    ((tripAbandoned m k s).faults.records.get d).kinds = (s.faults.records.get d).kinds ∧
    ((tripAbandoned m k s).faults.records.get d).newest = (s.faults.records.get d).newest := by
  unfold tripAbandoned
  try dsimp only
  simp [*]

@[simp] theorem buildPoints_quiet (s : State) :
    (buildPoints s).faults.flags.live = s.faults.flags.live ∧
    (buildPoints s).faults.list = s.faults.list ∧ (buildPoints s).faults.overrun = s.faults.overrun ∧
    (buildPoints s).faults.peers = s.faults.peers ∧ (buildPoints s).host.points = s.host.points ∧
    (buildPoints s).host.response = s.host.response ∧
    (buildPoints s).host.transaction = s.host.transaction := by
  unfold buildPoints
  try dsimp only
  (repeat' split) <;> simp [*]

@[simp] theorem buildPoints_line (s : State) :
    (buildPoints s).bus.state = s.bus.state ∧ (buildPoints s).bus.phase = s.bus.phase ∧
    (buildPoints s).bus.joinTimer = s.bus.joinTimer ∧
    (buildPoints s).bus.offLineTimer = s.bus.offLineTimer ∧
    (buildPoints s).bus.joinCounter = s.bus.joinCounter ∧ (buildPoints s).bus.score = s.bus.score ∧
    (buildPoints s).bus.attempt = s.bus.attempt ∧ (buildPoints s).bus.gapSeen = s.bus.gapSeen ∧
    (buildPoints s).bus.rejecting = s.bus.rejecting := by
  unfold buildPoints
  try dsimp only
  (repeat' split) <;> simp [*]

@[simp] theorem buildPoints_record (d : Fin 8) (s : State) :
    ((buildPoints s).faults.records.get d).kinds = (s.faults.records.get d).kinds ∧
    ((buildPoints s).faults.records.get d).newest = (s.faults.records.get d).newest := by
  unfold buildPoints
  try dsimp only
  (repeat' split) <;> simp [*]

@[simp] theorem buildDue_quiet (s : State) :
    (buildDue s).faults.flags.live = s.faults.flags.live ∧ (buildDue s).faults.list = s.faults.list ∧
    (buildDue s).faults.overrun = s.faults.overrun ∧ (buildDue s).faults.peers = s.faults.peers ∧
    (buildDue s).host.points = s.host.points ∧ (buildDue s).host.response = s.host.response ∧
    (buildDue s).host.transaction = s.host.transaction := by
  unfold buildDue each8
  try dsimp only
  simp [*]

@[simp] theorem buildDue_line (s : State) :
    (buildDue s).bus.state = s.bus.state ∧ (buildDue s).bus.phase = s.bus.phase ∧
    (buildDue s).bus.joinTimer = s.bus.joinTimer ∧ (buildDue s).bus.offLineTimer = s.bus.offLineTimer ∧
    (buildDue s).bus.joinCounter = s.bus.joinCounter ∧ (buildDue s).bus.score = s.bus.score ∧
    (buildDue s).bus.attempt = s.bus.attempt ∧ (buildDue s).bus.gapSeen = s.bus.gapSeen ∧
    (buildDue s).bus.rejecting = s.bus.rejecting := by
  unfold buildDue each8
  try dsimp only
  simp [*]

@[simp] theorem buildDue_record (d : Fin 8) (s : State) :
    ((buildDue s).faults.records.get d).kinds = (s.faults.records.get d).kinds ∧
    ((buildDue s).faults.records.get d).newest = (s.faults.records.get d).newest := by
  unfold buildDue each8
  try dsimp only
  simp [*]

/-! ## Node flags -/

/-- A node flag's bit is in no other flag's set. -/
theorem NodeFlag.mask_bit (f g : NodeFlag) : f.mask.getLsbD g.bit = decide (g = f) := by
  cases f <;> cases g <;> rfl

/-- The live value a block gives is the flag's live value, and the other flags' live values stay (R149). -/
@[simp] theorem setFlagLive_flagLive (f g : NodeFlag) (b : Bool) (s : State) :
    (setFlagLive f b s).flagLive g = if g = f then b else s.flagLive g := by
  have hb : g.bit < 9 := by cases g <;> decide
  unfold setFlagLive
  split
  · rename_i h
    split
    · rename_i e
      subst e
      simpa using h
    · rfl
  · split <;>
      simp only [State.flagLive, raiseFlag_quiet, setFlags_faults, setNodeFlagEvent_faults,
        BitVec.getLsbD_or, BitVec.getLsbD_and, BitVec.getLsbD_not, NodeFlag.mask_bit, hb] <;>
      by_cases e : g = f <;> simp_all

end Sys2Proof.Machine
end

