-- ==== Sys2Proof/Laws/Staging.lean ====
section
/-! SUPPORT. The staging area: reads after writes, and the canonical form that every operation keeps. -/

namespace Sys2Proof.Machine

open Sys2Proof

theorem Memory.wfFrom_mono {low low' : Nat} {m : Memory} (hl : low' ≤ low) (h : Memory.wfFrom low m = true) :
    Memory.wfFrom low' m = true := by
  cases m with
  | nil => rfl
  | cons c rest =>
    obtain ⟨a, b⟩ := c
    simp only [Memory.wfFrom, Bool.and_eq_true, decide_eq_true_eq, bne_iff_ne] at *
    exact ⟨⟨⟨by omega, h.1.1.2⟩, h.1.2⟩, h.2⟩

/-- Below a canonical list's first address every byte is the blank one. -/
theorem Memory.read_below {low : Nat} {m : Memory} (h : Memory.wfFrom low m = true) {x : Nat} (hx : x < low) :
    Memory.read m x = stagingBlank := by
  induction m generalizing low with
  | nil => rfl
  | cons c rest ih =>
    obtain ⟨a, b⟩ := c
    simp only [Memory.wfFrom, Bool.and_eq_true, decide_eq_true_eq] at h
    have hne : a ≠ x := by omega
    simp only [Memory.read, hne, if_false]
    exact ih h.2 (by omega)

theorem Memory.put_wfFrom {low : Nat} {m : Memory} (h : Memory.wfFrom low m = true) {addr : Nat} {b : Byte}
    (hlow : low ≤ addr) (haddr : addr < stagingSize) : Memory.wfFrom low (Memory.put m addr b) = true := by
  induction m generalizing low with
  | nil =>
    by_cases hb : b = stagingBlank
    · simp [Memory.put, hb, Memory.wfFrom]
    · simp [Memory.put, hb, Memory.wfFrom, hlow, haddr]
  | cons c rest ih =>
    obtain ⟨a, c⟩ := c
    simp only [Memory.wfFrom, Bool.and_eq_true, decide_eq_true_eq, bne_iff_ne] at h
    obtain ⟨⟨⟨h1, h2⟩, h3⟩, h4⟩ := h
    unfold Memory.put
    split
    · split
      · simp [Memory.wfFrom, h1, h2, h3, h4]
      · rename_i hb
        simp only [Memory.wfFrom, Bool.and_eq_true, decide_eq_true_eq, bne_iff_ne]
        exact ⟨⟨⟨hlow, haddr⟩, hb⟩, ⟨⟨by omega, h2⟩, h3⟩, h4⟩
    · split
      · rename_i heq
        subst heq
        split
        · exact Memory.wfFrom_mono (by omega) h4
        · rename_i hb
          simp only [Memory.wfFrom, Bool.and_eq_true, decide_eq_true_eq, bne_iff_ne]
          exact ⟨⟨⟨h1, h2⟩, hb⟩, h4⟩
      · simp only [Memory.wfFrom, Bool.and_eq_true, decide_eq_true_eq, bne_iff_ne]
        exact ⟨⟨⟨h1, h2⟩, h3⟩, ih h4 (by omega)⟩

/-- A write keeps the canonical form. -/
theorem Memory.write_wf {m : Memory} (h : m.wf = true) (addr : Nat) (b : Byte) :
    (Memory.write m addr b).wf = true := by
  unfold Memory.write
  split
  · exact Memory.put_wfFrom h (Nat.zero_le _) ‹_›
  · exact h

/-- Writing bytes keeps the canonical form. -/
theorem Memory.writeBytes_wf {m : Memory} (h : m.wf = true) (addr : Nat) (bytes : List Byte) :
    (Memory.writeBytes m addr bytes).wf = true := by
  induction bytes generalizing m addr with
  | nil => exact h
  | cons b bs ih => exact ih (Memory.write_wf h addr b) (addr + 1)

/-- The staging area at reset is in the canonical form. -/
theorem reset_staging_wf : State.reset.loader.staging.wf = true := rfl

theorem Memory.put_read {low : Nat} {m : Memory} (h : Memory.wfFrom low m = true) (addr x : Nat) (b : Byte) :
    Memory.read (Memory.put m addr b) x = if x = addr then b else Memory.read m x := by
  induction m generalizing low with
  | nil =>
    unfold Memory.put
    by_cases hb : b = stagingBlank
    · by_cases hx : x = addr <;> simp [hb, hx, Memory.read]
    · by_cases hx : x = addr
      · simp [hb, hx, Memory.read]
      · have : ¬addr = x := fun e => hx e.symm
        simp [hb, hx, Memory.read, this]
  | cons c rest ih =>
    obtain ⟨a, c⟩ := c
    simp only [Memory.wfFrom, Bool.and_eq_true, decide_eq_true_eq, bne_iff_ne] at h
    obtain ⟨⟨⟨h1, h2⟩, h3⟩, h4⟩ := h
    unfold Memory.put
    split
    · rename_i hlt
      by_cases hb : b = stagingBlank
      · by_cases hx : x = addr
        · subst hx
          have hne : ¬a = x := by omega
          simp only [hb, if_true, Memory.read, hne, if_false]
          exact Memory.read_below h4 (by omega)
        · simp [hb, hx]
      · by_cases hx : x = addr
        · simp [hb, hx, Memory.read]
        · have : ¬addr = x := fun e => hx e.symm
          simp [hb, hx, Memory.read, this]
    · split
      · rename_i heq
        subst heq
        by_cases hb : b = stagingBlank
        · by_cases hx : x = addr
          · subst hx
            simp only [hb, if_true]
            exact Memory.read_below h4 (by omega)
          · have : ¬addr = x := fun e => hx e.symm
            simp [hb, hx, Memory.read, this]
        · by_cases hx : x = addr
          · simp [hb, hx, Memory.read]
          · have : ¬addr = x := fun e => hx e.symm
            simp [hb, hx, Memory.read, this]
      · rename_i hlt hne
        by_cases hxa : a = x
        · subst hxa
          have : ¬a = addr := fun e => hne e.symm
          simp [Memory.read, this]
        · simp only [Memory.read, hxa, if_false]
          exact ih h4

/-- Reading after a write: the byte written at its address, the old byte elsewhere. -/
theorem Memory.read_write {m : Memory} (h : m.wf = true) (addr x : Nat) (b : Byte) :
    Memory.read (Memory.write m addr b) x = if x = addr ∧ addr < stagingSize then b else Memory.read m x := by
  unfold Memory.write
  split
  · rename_i hlt
    rw [Memory.put_read h]
    simp [hlt]
  · rename_i hlt
    simp [hlt]

/-- Bytes written inside the area are read back, and every other address reads as before. -/
theorem Memory.read_writeBytes {m : Memory} (h : m.wf = true) (addr : Nat) (bytes : List Byte)
    (hfit : addr + bytes.length ≤ stagingSize) (x : Nat) :
    Memory.read (Memory.writeBytes m addr bytes) x
      = if addr ≤ x ∧ x < addr + bytes.length then bytes.getD (x - addr) 0 else Memory.read m x := by
  induction bytes generalizing m addr with
  | nil =>
    have : ¬ (addr ≤ x ∧ x < addr) := by omega
    simp [Memory.writeBytes, this]
  | cons b bs ih =>
    simp only [List.length_cons] at hfit ⊢
    simp only [Memory.writeBytes]
    rw [ih (Memory.write_wf h addr b) (addr + 1) (by omega), Memory.read_write h]
    by_cases hx : x = addr
    · subst hx
      have : ¬ (x + 1 ≤ x ∧ x < x + 1 + bs.length) := by omega
      simp [this, show x < stagingSize by omega]
    · by_cases hr : addr + 1 ≤ x ∧ x < addr + 1 + bs.length
      · obtain ⟨k, hk⟩ : ∃ k, x - addr = k + 1 := ⟨x - addr - 1, by omega⟩
        have hk' : x - (addr + 1) = k := by omega
        have hr' : addr ≤ x ∧ x < addr + (bs.length + 1) := by omega
        simp [hr, hr', hk, hk']
      · have hr' : ¬ (addr ≤ x ∧ x < addr + (bs.length + 1)) := by omega
        simp only [hr, hr', hx, false_and, if_false]

end Sys2Proof.Machine
end

