-- ==== Sys2Proof/WellFormed.lean ====
section
/-! DEFINITION. The commands that the outside can bring: the checks on a command's operands that its types
do not make. `exec` answers every term; the checks say which terms stand for an event of the manual. -/

namespace Sys2Proof

open Sys2Proof.Machine

/-- A payload that a frame can carry (section 13.2). -/
def payloadFits (payload : List Byte) : Bool := decide (payload.length ≤ 16)

/-- A taken frame's payload fits (section 13.2). -/
def Arrival.wf (a : Arrival) : Bool :=
  match a with
  | .own => true
  | .heard _ payload => payloadFits payload

/-- A frame as read: no more payload bytes than the length field gives, and a check only after all of them. -/
def FrameRead.wf (f : FrameRead) : Bool :=
  decide (f.payload.length ≤ f.length.toNat)
    && (f.check.isNone || decide (f.payload.length = f.length.toNat))

/-- The operands stand for an event of the command's row. -/
def Instr.wf (i : Instr) : Bool :=
  match i with
  -- an argument length is one byte, two of the arguments being the offset (section 13.3)
  | .writeConfigBlock _ data => decide (data.length ≤ 253)
  -- a transaction without a byte is an EMPTY_TRANSACTION (R162)
  | .checkError bytes _ => !bytes.isEmpty
  -- the header has six bytes, the image at most 2048 (R157, section 13.4)
  | .memoryHeaderRead bytes => decide (bytes.length = 6)
  | .memoryReadComplete bytes => decide (2 ≤ bytes.length ∧ bytes.length ≤ 2042)
  | .memoryReadFailure bytes => decide (bytes.length < 2042)
  -- a bad frame (R96)
  | .badFrameReceived f => FrameRead.wf f && Machine.FrameRead.isBad f
  -- a kind code that names no kind (R98)
  | .undefinedKindTaken kind _ payload => decide (11 ≤ kind.toNat) && payloadFits payload
  -- a good reply, and a slot without one (R125)
  | .replyReceived w => (judgeReply w).isSome
  | .slotFailed reply => (reply.bind judgeReply).isNone
  | .markTaken a | .tripTaken a | .clearTaken a | .claimTaken a | .holdTaken a | .releaseTaken a
  | .pointsTaken a | .faultTaken a | .faultAckTaken a | .statusTaken a | .helloTaken a => a.wf
  | .nop | .readNode | .readChannel _ | .readSubscription _ | .readPublication _ | .readGroup _
  | .readZones | .readPeer _ | .popFaultList | .readEvents | .setHostPoint _ _ | .ackFaults _ _ _ _
  | .tripZones _ | .clearZones _ | .resetNode _ | .commitConfig | .emptyTransaction
  | .logicSupplyPowerOn | .resetPinAsserted | .nodeResetEnd _ | .memoryAddressRetry _
  | .shutdownAsserted | .shutdownReleased | .sensePinChange _ | .debounceExpiry _
  | .confirmTimerExpiryEnergizing _ | .confirmTimerExpiryReleasing _ | .offCheckExpiry _
  | .holdOverExpiry _ _ | .request _ | .cancel _ | .grant _ | .revoke _ | .done _
  | .holdTimerExpiry _ | .retryHoldOffExpiry _ | .lifetimeTimerExpiry _ | .claimWindowExpiry _
  | .deadTimerExpiry _ | .lapseTimerExpiry _ | .markTimerExpiry | .ageTimerExpiry _
  | .refreshTimerExpiry _ | .frameOffer _ | .attemptCollision | .attemptRejected
  | .frameRejectedByOther | .offLineTimerExpiry | .joinWaitExpiry | .helloHoldOffExpiry | .slotStart
  | .driveWordReceived _ | .watchdogExpiry | .replyWordFormed | .offGuaranteeExpiry | .powerDieReset
  | .powerDieResetEnd | .supplyLow | .supplyRecovered | .thermalShutdown _ | .thermalRestart _
  | .conditionChange _ _ | .reportFilterExpiry _ _ | .blankedFilterExpiry _ _ | .blankingExpiry _
  | .transactionBegin => true

end Sys2Proof
end

