-- ==== Sys2Proof/Tests/Slice0.lean ====
section
/-! SUPPORT. Tests: ill-formed terms that the checks refuse, words and images written out from the manual's
encodings (their checks computed outside the model), single steps of the manual's worked sequences, and for each
statement a state and operands that meet its hypotheses. -/

open Sys2Proof Sys2Proof.Machine
namespace Sys2Proof.Tests

-- one theorem after another: the checks by the kernel take a thread each
set_option Elab.async false

/-! ## Ill-formed terms -/

theorem wf_block_too_long : Instr.wf (.writeConfigBlock 0 (List.replicate 254 0)) = false := by decide +kernel
theorem wf_transaction_without_bytes : Instr.wf (.checkError [] ⟨1, false, false⟩) = false := by decide +kernel
theorem wf_short_header : Instr.wf (.memoryHeaderRead [0, 163, 1, 0, 0]) = false := by decide +kernel
theorem wf_short_body : Instr.wf (.memoryReadComplete [1]) = false := by decide +kernel
theorem wf_long_body : Instr.wf (.memoryReadComplete (List.replicate 2043 0)) = false := by decide +kernel
theorem wf_long_failure : Instr.wf (.memoryReadFailure (List.replicate 2042 0)) = false := by decide +kernel
theorem wf_good_frame_as_bad : Instr.wf (.badFrameReceived ((Frame.mark 387).onLine 2)) = false := by
  decide +kernel
theorem wf_check_before_payload :
    Instr.wf (.badFrameReceived ⟨0, 2, 2, [1], some 0⟩) = false := by decide +kernel
theorem wf_payload_past_length :
    Instr.wf (.badFrameReceived ⟨0, 2, 1, [1, 2], none⟩) = false := by decide +kernel
theorem wf_defined_kind : Instr.wf (.undefinedKindTaken 10 2 []) = false := by decide +kernel
theorem wf_undefined_kind_payload :
    Instr.wf (.undefinedKindTaken 11 2 (List.replicate 17 0)) = false := by decide +kernel
theorem wf_heard_payload : Instr.wf (.pointsTaken (.heard 2 (List.replicate 17 0))) = false := by decide +kernel
theorem wf_bad_reply : Instr.wf (.replyReceived 0x0020d) = false := by decide +kernel
theorem wf_good_reply_as_failed : Instr.wf (.slotFailed (some 0x0020c)) = false := by decide +kernel
theorem wf_longest_terms :
    Instr.wf (.writeConfigBlock 0 (List.replicate 253 0)) = true ∧
    Instr.wf (.pointsTaken (.heard 2 (List.replicate 16 0))) = true ∧
    Instr.wf (.undefinedKindTaken 11 2 []) = true ∧ Instr.wf (.replyReceived 0x0020c) = true ∧
    Instr.wf (.slotFailed none) = true := by decide +kernel

/-! ## Words, frames and images from the manual's encodings -/

/-- Section 13.5: enable on, drive bit 2, slot count 1. -/
theorem test_drive_word : driveWordOf true 0x04 1 = 0x8237 := by decide +kernel

/-- Section 13.5: FEEDBACK with bit 2, and OVERLOAD with bit 3. -/
theorem test_reply_words :
    judgeReply 0x0020c = some ⟨.feedback, 0x04, false⟩ ∧
    judgeReply 0x2840b = some ⟨.diagnostic .overload, 0x08, false⟩ := by decide +kernel

/-- R169: MARK 387 from station 2. -/
theorem test_frame_check : ((Frame.mark 387).onLine 2).check = some 0xa377 := by decide +kernel

/-- Section 13.2: TRIP {2} with INPUT, HOLD for group 12 with the objection flag, point 130 ON, a station 63
target. -/
theorem test_frames :
    Frame.parse 1 [4, 1] = some (.trip 4 .input) ∧ Frame.parse 4 [12, 1, 1] = some (.hold 12 1 true) ∧
    Frame.parse 8 [1, 0x80, 130] = some (.points [⟨130, true⟩]) ∧ Frame.parse 6 [63, 0, 0, 0] = none := by
  decide +kernel

/-- A channel of the test image. -/
def channelOn (source : TermSource) (group : Option (Fin 8)) (timing : Timing) : ChannelConfig :=
  { enabled := true, terms := [{ source := source, invert := false }], combine := .and, group := group,
    zone := some 0, timing := timing, failPolicy := .failHold, holdOver := 2, restart := .auto,
    latchMask := PerPower.all true }

/-- A channel that is not in use. -/
def spare : ChannelConfig := { ChannelConfig.blank with terms := [{ source := .hostPoint 0, invert := false }] }

/-- The test image: channel 0 in group 5, MARKED, on host point 0; channel 1 IMMEDIATE on subscription 0; both in
zone 0. Input 0 trips zone 0, input 1 publishes, input 2 clears zone 1. -/
def image : Image :=
  { bitRate := .k125, hold := 10, claim := 20, mark := 100, refresh := 4, debounce := 5,
    channels := { Eight.all spare with
      c0 := channelOn (.hostPoint 0) (some 0) .marked
      c1 := channelOn (.subscription 0) none .immediate },
    subscriptions := [{ point := 7, publisher := 9, lifetime := 2 }],
    publications := [{ point := 3, source := .hostPoint 0 }],
    memberships := [{ group := 5, members := 1, dead := 5 }],
    inputs := { Eight.all { activeHigh := true, role := .unused } with
      c0 := { activeHigh := true, role := .trip 0 }
      c1 := { activeHigh := true, role := .publish }
      c2 := { activeHigh := true, role := .clear 2 } },
    signature := 0xc680 }

/-- The bytes of a channel record that is not in use. -/
def spareBytes : List Byte := [0, 1, 2, 0, 0, 0, 0, 0, 0, 0, 255, 255, 0, 0, 0]

/-- The test image byte by byte, as section 13.4 lays it out; its check was computed outside the model. -/
def imageBytes : List Byte :=
  [0, 163, 1, 1, 1, 1] ++ [0, 10, 20, 100, 4, 5]
    ++ [13, 1, 2, 0, 0, 0, 0, 0, 0, 0, 0, 0, 0, 2, 31] ++ [9, 1, 0, 0, 0, 0, 0, 0, 0, 0, 255, 0, 0, 2, 31]
    ++ spareBytes ++ spareBytes ++ spareBytes ++ spareBytes ++ spareBytes ++ spareBytes
    ++ [0, 7, 9, 0, 2] ++ [0, 3, 1, 0] ++ [5, 1, 0, 5]
    ++ [0x82, 0, 0x81, 0, 0x83, 2, 0x80, 0, 0x80, 0, 0x80, 0, 0x80, 0, 0x80, 0] ++ [0xc6, 0x80]

/-- What a check of the staging area gives: the image, or the reason and the item index. -/
def verdictOf (station : Station) (m : Memory) : Image ⊕ (FaultReason × Nat) :=
  match checkImage station m with
  | .ok img => .inl img
  | .error f => .inr f

def verdict (station : Station) (bytes : List Byte) : Image ⊕ (FaultReason × Nat) :=
  verdictOf station (Memory.writeBytes [] 0 bytes)

set_option maxRecDepth 20000 in
theorem test_image : verdict 3 imageBytes = .inl image := by decide +kernel
set_option maxRecDepth 20000 in
theorem test_image_without_station : verdict 63 imageBytes = .inr (.noStation, 63) := by decide +kernel
set_option maxRecDepth 20000 in
theorem test_image_bad_check : verdict 3 (imageBytes.set 7 11) = .inr (.imageCheck, 161) := by decide +kernel

/-! ## Single steps -/

/-- Where a command leaves the node. -/
def after (i : Instr) (s : State) : State :=
  match exec i s with
  | .next t => t
  | .fault _ | .refused _ => s

/-- A node of station 3 with the test image, RUNNING and ON-LINE over a link that is UP, with nothing going on. -/
def node : State :=
  { State.reset with
    now := 1000, held := false,
    loader := { Loader.reset .host 3 with nodeState := .running, image := some image },
    groups := [{ Entry.start with state := .free }],
    points := [Subscription.start],
    pubs := { entries := [{ Publication.start with waiting := false }], blocked := false },
    channels := { ChannelLogic.reset with feedback := some { bits := 0, supplyLow := false } },
    bus := { Bus.reset 0 with state := .onLine, gapSeen := true },
    link := { Link.reset with up := true, lastGood := some 990 },
    faults := { FaultTable.reset with flags := { sticky := 0, live := 0 } },
    power := PowerDie.reset false 0 (Eight.all Electrical.rest) }

/-- The node with a change of channel 0, of its membership entry, of its bus. -/
def withChannel (f : Channel → Channel) (s : State) : State := modChan 0 f s
def withEntry (f : Entry → Entry) (s : State) : State := modEntry 0 f s
def withBus (f : Bus → Bus) (s : State) : State := { s with bus := f s.bus }
def withQueue (q : List Queued) (s : State) : State := withBus (fun b => { b with queue := q }) s
def withTransaction (s : State) : State := { s with host := { s.host with transaction := some [] } }
def withFeedback (f : Feedback) (s : State) : State :=
  { s with channels := { s.channels with feedback := some f } }
/-- A frame as it waits in the queue. -/
def waitingFrame (f : Frame) : Queued := { frame := f, age := 0, retries := 0, onLine := false }
/-- The node with a frame of its own on the line. -/
def sending (f : Frame) (s : State) : State :=
  withBus (fun b => { b with attempt := some f, queue := [{ waitingFrame f with onLine := true }] }) s
def withLoader (f : Loader → Loader) (s : State) : State := { s with loader := f s.loader }
def withKind (c : Fin 8) (k : FaultKind) (f : KindRecord → KindRecord) (s : State) : State :=
  setRecord c { s.faultRec c with kinds := (s.faultRec c).kinds.set k (f ((s.faultRec c).kinds.get k)) } s

/-- Section 1.12: a TRIP taken while a channel is ENERGIZING, and the FEEDBACK that then shows it off. -/
theorem test_trip_in_energizing :
    let s := after (.tripTaken (.heard 9 [1, 1])) (withChannel (fun r => { r with
      state := .energizing, demand := true, confirm := some 6000 }) node)
    (s.chan 0).state = .releasing ∧ (s.chan 0).target = .locked ∧ (s.chan 0).causes = ⟨true, false, false⟩ ∧
      (s.chan 0).confirm = some 6000 ∧ s.zone 0 = ⟨true, some 9, some .input, false⟩ := by decide +kernel
theorem test_off_confirmed_to_locked :
    let s := after (.replyReceived (replyWordOf .feedback 0 false false)) (withChannel (fun r => { r with
      state := .releasing, target := .locked, causes := ⟨true, false, false⟩ }) node)
    (s.chan 0).state = .locked ∧ s.host.events.lockChange = true ∧
      s.channels.toGroups = [⟨0, 0, .doneOffConfirmed⟩] := by decide +kernel

/-- Section 1.12: with the last cause withdrawn and demand still ON, OFF with rearm pending. -/
theorem test_clear_leaves_rearm :
    let s := after (.clearTaken (.heard 9 [1])) { withChannel (fun r => { r with
      state := .locked, demand := true, causes := ⟨true, false, false⟩ }) node with
      zones := { node.zones with zones := { node.zones.zones with c0 := ⟨true, some 9, some .input, false⟩ } } }
    (s.chan 0).state = .off ∧ (s.chan 0).rearm = true ∧ (s.zone 0).tripped = false := by decide +kernel

/-- Section 2.8: a demand in FREE claims; the claim taken opens the window; its end grants and announces. -/
theorem test_request_claims :
    let s := after (.request 0) { node with
      channels := { node.channels with toGroups := [⟨0, 0, .request⟩] } }
    (s.entry 0).map Entry.state = some .claiming ∧ s.bus.queue = [{ waitingFrame (.claim 5 0) with age := 1000 }] := by
  decide +kernel
theorem test_own_claim_taken :
    ((after (.claimTaken .own) (sending (.claim 5 0) (withEntry (fun x => { x with
      state := .claiming, requests := [0], claimChannel := some 0 }) node))).entry 0).map
        (fun x => (x.state, x.window, x.lapse)) = some (.claimed, some 21000, some 201000) := by decide +kernel
theorem test_window_grants :
    let s := after (.claimWindowExpiry 0) (withEntry (fun x => { x with
      state := .claimed, requests := [0], window := some 5, lapse := some 9 }) node)
    (s.entry 0).map (fun x => (x.state, x.holder, x.requests, x.hold)) =
        some (.heldLocal, some ⟨3, 0⟩, [], some 101000) ∧
      s.channels.toChannels = [⟨0, .grant⟩] ∧ s.bus.queue.map Queued.frame = [.hold 5 0 false] := by
  decide +kernel
theorem test_release_of_holder :
    ((after (.releaseTaken (.heard 9 [5, 4])) (withEntry (fun x => { x with
      state := .heldRemote, holder := some ⟨9, 4⟩, lifetime := some 7 }) node)).entry 0).map
        (fun x => (x.state, x.holder, x.dead)) = some (.dead, none, some 51000) := by decide +kernel

/-- Section 3.7: MARK 389 taken at a station whose number modulo 32 is 5 makes a STATUS due there. -/
theorem test_status_due :
    (after (.markTaken (.heard 9 [1, 0x85])) (withLoader (fun l => { l with station := 5 }) node)).bus.queue.map
      (fun q => q.frame.code) = [9] := by decide +kernel
theorem test_marked_channel_driven :
    let s := after (.markTaken (.heard 9 [1, 0x84])) (withChannel (fun r => { r with state := .armed }) node)
    (s.chan 0).state = .energizing ∧ s.marks.number = 388 ∧ s.marks.timer = some 101750 := by decide +kernel

/-- Section 4.5: a CLEAR taken while the local source is active trips the zone again. -/
theorem test_retrip :
    let s := after (.clearTaken (.heard 9 [1])) { node with
      zones := { node.zones with zones := { node.zones.zones with c0 := ⟨true, some 3, some .input, true⟩ } } }
    s.zone 0 = ⟨true, some 3, some .input, true⟩ ∧ s.bus.queue.map Queued.frame = [.trip 1 .input] := by
  decide +kernel

/-- Section 6.5, event 3: an objection merged into the queued HOLD keeps its place ahead of a CLAIM. -/
theorem test_objection_merges :
    (after (.claimTaken (.heard 9 [5, 2])) (withQueue [waitingFrame (.hold 5 0 false), waitingFrame (.claim 20 1)]
      (withEntry (fun x => { x with state := .heldLocal, holder := some ⟨3, 0⟩ }) node))).bus.queue.map
        Queued.frame = [.hold 5 0 true, .claim 20 1] := by decide +kernel

/-- Section 8.8: at the eighth failed slot an ON channel that holds a group is SUSPENDED and owes its hand-back. -/
theorem test_link_loss :
    let s := after (.slotFailed none) { withChannel (fun r => { r with state := .on, demand := true }) node with
      link := { node.link with failedRun := 7 } }
    (s.chan 0).state = .suspended ∧ (s.chan 0).handBack = true ∧ s.link.guarantee = some 1240 := by
  decide +kernel

/-- Section 10.9: the OVERLOAD reply that rises forces FAULT and builds the FAULT frame. -/
theorem test_overload_latches :
    let s := after (.replyReceived 0x2840b) { node with
      loader := { node.loader with image := some { image with
        channels := { image.channels with c3 := channelOn (.hostPoint 0) none .immediate } } },
      channels := { node.channels with records := { node.channels.records with
        c3 := { Channel.start with state := .on, demand := true } } },
      marks := { node.marks with number := 1200 } }
    (s.chan 3).state = .releasing ∧ (s.chan 3).causes = ⟨false, false, true⟩ ∧
      (s.faultRec 3).kinds.overload = ⟨true, true, 1, some 1200⟩ ∧
      s.bus.queue.map Queued.frame = [.fault 3 { PerKind.all false with overload := true }
        { PerKind.all false with overload := true } 1200] ∧ s.err = true := by decide +kernel

/-- Section 9.5: an edge to ON with OPEN-OFF STANDING makes the report PROLONGED; the condition does not end it. -/
theorem test_open_off_prolonged :
    let die := { node.power with supplyNormal := true, channels := { node.power.channels with
      c0 := { node.power.channels.c0 with reports := { PerPower.all Report.clear with openOff := .standing } } } }
    ((after (.driveWordReceived (driveWordOf true 1 0)) { node with power := die }).power.channels.get 0).reports
      = { PerPower.all Report.clear with openOff := .prolonged } := by decide +kernel

/-- R101, section 13.1: a REASSERT merged into a queued TRIP of an INPUT. -/
theorem test_merged_cause :
    (offer (.trip 2 .reassert) (withQueue [waitingFrame (.trip 1 .input)] node)).1.bus.queue.map Queued.frame
      = [.trip 3 .reassert] := by decide +kernel

/-- R3, R5: the demand of a FAIL-HOLD channel over a STALE entry, with its hold-over timer and without it. -/
theorem test_stale_demand :
    let s := { node with points := [⟨.stale, some true, none, 0, none⟩] }
    evalDemand s 1 = false ∧ evalDemand (modChan 1 (fun r => { r with holdOvers := ⟨some 7, none, none, none⟩ }) s) 1
      = true := by decide +kernel

/-- R140: an OVERLOAD condition of 39 µs raises no report, one of 40 µs does. -/
theorem test_overload_filter :
    let s (since : Nat) := { node with power := { node.power with channels := { node.power.channels with
      c0 := { node.power.channels.c0 with conditions :=
        { node.power.channels.c0.conditions with overload := ⟨true, since⟩ } } } } }
    ((after (.reportFilterExpiry 0 .overload) (s 961)).power.channels.get 0).reports.overload = .clear ∧
    ((after (.reportFilterExpiry 0 .overload) (s 960)).power.channels.get 0).reports.overload = .standing := by
  decide +kernel

/-- R137, R138: the pull-up is on at an output that is OFF over a NORMAL supply, and off in LOW. -/
theorem test_pull_up :
    (after .supplyRecovered node).power.pullUp 0 = true ∧ node.power.pullUp 0 = false := by decide +kernel

/-- A die whose supply is NORMAL and whose channel 0 is ON with a load; by default a contactor coil at 24 V. -/
def dieWithLoad (load : Electrical := ⟨24000, 500000, 25, 400000, 24000⟩) : State :=
  { node with power := { node.power with supplyNormal := true, channels := { node.power.channels with
      c0 := { node.power.channels.c0 with commanded := true, load := load } } } }

/-- R133, R134: a coil's current flows on through the turn-off clamp 45 V below VBB, and is measured off. -/
theorem test_turn_off_clamp :
    let before := dieWithLoad.power.channels.c0
    let off := (after (.thermalShutdown 0) dieWithLoad).power.channels.c0
    (before.clampCurrent, before.output, before.measuredOn) = (0, 24000, true) ∧
      (off.clampCurrent, off.output, off.measuredOn) = (400000, -21000, false) := by decide +kernel

/-- R133: the clamp carries nothing once the energy is spent; OFF, it joins the pull-up's current (log entry 43). -/
theorem test_energy_spent :
    let off := after .watchdogExpiry { dieWithLoad with power := { dieWithLoad.power with watchdog := some 5 } }
    let spent := after (.conditionChange 0 ⟨0, 500000, 25, 0, 24000⟩) off
    (off.power.sourced 0, spent.power.sourced 0) = (400060, 60) ∧ (spent.power.channels.get 0).output = 0 := by
  decide +kernel

/-- R69: a CLEAR taken while the own TRIP is on the line clears the zone, and the taking of that TRIP trips it. -/
theorem test_clear_before_own_trip :
    let s := after (.clearTaken (.heard 9 [1])) (setZone 0 ⟨true, some 3, some .host, false⟩ (sending (.trip 1 .host) node))
    (s.zone 0).tripped = false ∧ (after (.tripTaken .own) s).zone 0 = ⟨true, some 3, some .host, false⟩ := by
  decide +kernel

/-- R169: the check with which MARK 387 of station 2 goes out. -/
theorem test_sent_check :
    ((after (.frameOffer []) (withLoader (fun l => { l with station := 2 })
      (withQueue [waitingFrame (.mark 387)] node))).bus.sent.bind FrameRead.check) = some 0xa377 := by decide +kernel

/-- R94: TRIP of station 3 has the key 67. It passes against 68 and its own key, and loses to 66, the TRIP of
station 2, with the frame, its retry count and the score as they were. -/
theorem test_arbitration :
    let s := withQueue [{ waitingFrame (.trip 1 .host) with retries := 4 }] node
    (Frame.trip 1 .host).key 3 = 67 ∧ (after (.frameOffer [68, 67]) s).bus.attempt = some (.trip 1 .host) ∧
      (after (.frameOffer [68, 66]) s).bus = s.bus := by decide +kernel

/-- R159: an empty CLEAR mask is found at the second byte of its record (log entry 12). -/
theorem test_input_role : inputRoleFault (imageBytes.set 150 0) = some 150 ∧ inputRoleFault imageBytes = none := by
  decide +kernel

/-- R163, R171: a good check over an argument length that is not the command's row's. -/
theorem test_wrong_length :
    (after (.checkError [10, 1, 0, 244] ⟨3, false, false⟩) (withTransaction node)).host.response
      = ⟨10, .refusedArgument, []⟩ ∧
    (after (.checkError [15, 2, 0, 0, 238] ⟨3, false, false⟩) (withTransaction node)).host.response
      = ⟨15, .refusedArgument, []⟩ := by decide +kernel

/-- Section 13.3: the reset response, and the fill bytes after it. -/
theorem test_fill_bytes :
    (List.range 6).map (after .transactionBegin node).sdo
      = [some 0, some 0, some 0, some 0, some 255, some 0] := by decide +kernel

/-- R163, R171: a NODE request byte by byte; the sum of the response's bytes. -/
theorem test_read_node_bytes :
    (after (.checkError [1, 0, 254] ⟨3, false, false⟩) (withTransaction node)).host.response.command = 1 ∧
    (after (.checkError [1, 0, 253] ⟨3, false, false⟩) (withTransaction node)).host.response.status
      = .checkError := by decide +kernel
/-- R171: SET HOST POINT with a value byte above 1 fails step 2. -/
theorem test_host_point_argument :
    (after (.setHostPoint 0 2) (withTransaction node)).host.response.status = .refusedArgument := by decide +kernel
theorem test_host_point_requests :
    let s := after (.setHostPoint 0 1) (withTransaction node)
    (s.chan 0).state = .waiting ∧ s.channels.toGroups = [⟨0, 0, .request⟩] := by decide +kernel
set_option maxRecDepth 20000 in
theorem test_commit_runs :
    let s := after .commitConfig (withTransaction { State.reset with
      held := false, loader := { Loader.reset .host 3 with staging := Memory.writeBytes [] 0 imageBytes } })
    s.running = true ∧ s.bus.state = .joining ∧ s.bus.queue.map Queued.frame = [.hello 0 0xc680] := by
  decide +kernel

/-! ## Witnesses

For each statement with hypotheses, in the statements' order: concrete states and operands that meet them, clause by
clause, at the boundary values of the ranges that the clauses name. -/

/-- An entry in a state, and the node with it. -/
def entryIn (st : EntryState) : Entry := { Entry.start with state := st }
def nodeWith (x : Entry) : State := setEntry 0 x node
/-- The node in a state of channel 0. -/
def channelIn (st : ChannelState) : State := withChannel (fun r => { r with state := st, confirm := some 2000 }) node
def inBusState (b : BusState) (s : State) : State := withBus (fun x => { x with state := b }) s
/-- A node that is not RUNNING. -/
def idle : State := { State.reset with held := false }
def badFrame : FrameRead := { kind := 0, source := 2, length := 17, payload := [], check := none }
/-- A FEEDBACK reply word, and an OVERLOAD one. -/
def feedbackWord (bits : Byte) (low : Bool) : BitVec 18 := replyWordOf .feedback bits low false

theorem witness_StepRunsTheFrontCommand :
    { node with pending := [.nop] }.pending = .nop :: [] ∧ node.pending = [] := by decide +kernel

theorem witness_EveryCommandCompletes :
    (∃ t, exec .watchdogExpiry node = .next t ∧ Instr.onPowerDie .watchdogExpiry = true) ∧
    (∃ t, exec .nop node = .next t ∧ Instr.onPowerDie .nop = false) := ⟨⟨_, rfl, rfl⟩, _, rfl, rfl⟩

theorem witness_NothingBeforeRunning :
    idle.running = false ∧ idle.bus.state = .disabled ∧ idle.bus.attempt = none := by decide +kernel

theorem witness_ConfirmAndOffCheckExpiry :
    node.running = true ∧ (channelIn .energizing).running = true ∧
    ((channelIn .energizing).chan 0).state = .energizing ∧ ((channelIn .energizing).chan 0).confirm ≠ none ∧
    ((channelIn .releasing).chan 0).state = .releasing ∧ ((channelIn .releasing).chan 0).confirm ≠ none ∧
    (channelIn .releasing).running = true ∧ (node.chan 0).confirm = none ∧
    (let s := withChannel (fun r => { r with state := .on, offCheck := some 1100 }) node
     s.running = true ∧ (s.chan 0).offCheck ≠ none ∧
       ¬ ((s.faultRec 0).kinds.overtemp.live || s.supplyLowSeen) = true ∧
       (withFeedback ⟨0, true⟩ s).supplyLowSeen = true ∧ ((withFeedback ⟨0, true⟩ s).chan 0).state = .on) ∧
    (let s := withChannel (fun r => { r with state := .disarming, offCheck := some 1100 }) node
     s.running = true ∧ (s.chan 0).state = .disarming ∧ (s.chan 0).offCheck ≠ none) ∧
    (node.chan 0).state ≠ .on ∧ (node.chan 0).state ≠ .disarming := by decide +kernel

/-- The node with its one subscription FRESH. -/
def freshNode : State := { node with points := [⟨.fresh, some true, some 2000, 0, none⟩] }
def withConfig (f : ChannelConfig → ChannelConfig) (s : State) : State :=
  withLoader (fun l => { l with image := some { image with channels := { image.channels with
    c1 := f image.channels.c1 } } }) s

theorem witness_AgeAndHoldOver :
    freshNode.running = true ∧ freshNode.points[0]? = some ⟨.fresh, some true, some 2000, 0, none⟩ ∧
    freshNode.usesSource (fun y => y == .subscription 0) 0 = false ∧
    freshNode.usesSource (fun y => y == .subscription 0) 1 = true ∧
    (freshNode.cfg 1).failPolicy = .failHold ∧ (freshNode.cfg 1).holdOver ≠ 0 ∧
    ((freshNode.cfg 1).terms[0]?).map Term.source = some (.subscription 0) ∧
    ((freshNode.cfg 1).terms[3]?).map Term.source ≠ some (.subscription 0) ∧
    ((withConfig (fun c => { c with failPolicy := .failOff }) freshNode).cfg 1).failPolicy = .failOff ∧
    (withConfig (fun c => { c with failPolicy := .failOff }) freshNode).usesSource
      (fun y => y == .subscription 0) 1 = true ∧
    ((withConfig (fun c => { c with holdOver := 0 }) freshNode).cfg 1).holdOver = 0 ∧
    (freshNode.chan 1).holdOvers = Four.all none ∧
    ((withChannel (fun r => { r with holdOvers := ⟨some 7, none, none, none⟩ }) node).chan 0).holdOvers.get 0
      ≠ none := by decide +kernel

/-- A message under way to channel 0, in a state of the channel. -/
def towardChannel (m : ToChannelMsg) (st : ChannelState) (demand rearm : Bool) : State :=
  sendToChannel 0 m (withChannel (fun r => { r with state := st, demand := demand, rearm := rearm }) node)

theorem witness_GrantAndRevoke :
    (towardChannel .grant .waiting true false).channels.toChannels = [] ++ ⟨0, .grant⟩ :: [] ∧
    (towardChannel .grant .waiting true false).running = true ∧
    ((towardChannel .grant .waiting true false).chan 0).state = .waiting ∧
    ((towardChannel .grant .locked true false).chan 0).state = .locked ∧
    (towardChannel .revoke .armed false false).channels.toChannels = [] ++ ⟨0, .revoke⟩ :: [] ∧
    ((towardChannel .revoke .armed false false).chan 0).demand = false ∧
    ((towardChannel .revoke .armed true true).chan 0).rearm = true ∧
    (let s := towardChannel .revoke .armed true false
     (s.chan 0).state = .armed ∧ (s.chan 0).demand = true ∧ (s.chan 0).rearm = false ∧ s.pathReady = true ∧
       (s.cfg 0).enabled = true ∧ (s.cfg 0).group ≠ none) ∧
    (withFeedback ⟨0, true⟩ (towardChannel .revoke .armed true false)).pathReady = false ∧
    ((towardChannel .revoke .on true false).chan 0).state = .on ∧
    ((towardChannel .revoke .releasing true false).chan 0).state = .releasing := by decide +kernel

/-- A message under way to entry 0, in a state of the entry. -/
def towardEntry (m : ToGroupMsg) (x : Entry) : State :=
  { nodeWith x with channels := { node.channels with toGroups := [⟨0, 0, m⟩] } }
/-- Entry 0 held by the own channel 0. -/
def heldHere : Entry := { entryIn .heldLocal with holder := some ⟨3, 0⟩, hold := some 5, lapse := some 6 }
def releasingHere : Entry := { heldHere with state := .releasingLocal }
/-- The group of entry 0 is no other listed entry's. -/
def oneEntry (s : State) : Prop :=
  ∀ d : Fin 8, d ≠ 0 → s.entry d ≠ none → (s.member d).group ≠ (s.member 0).group

/-- Of group 5, and of group 0, which an unlisted entry's fields give as well. -/
theorem witness_oneEntry :
    oneEntry node ∧ oneEntry (withLoader (fun l => { l with image := some { image with
      memberships := [{ group := 0, members := 1, dead := 5 }] } }) node) := by
  unfold oneEntry; decide +kernel

theorem witness_MessagesAtTheEntry :
    (let s := towardEntry .request (entryIn .free)
     s.running = true ∧ (s.cfg 0).group = some 0 ∧ s.entry 0 = some (entryIn .free) ∧
       s.channels.toGroups = [] ++ ⟨0, 0, .request⟩ :: [] ∧ s.bus.state = .onLine ∧
       s.bus.queue.length + s.groups.length ≤ 12 ∧ (∀ q ∈ s.bus.queue, q.frame.group ≠ some (s.member 0).group) ∧
       (entryIn .free).hold = none ∧ [] ++ [(0 : Fin 8)] = 0 :: []) ∧
    (let x := { entryIn .claiming with requests := [0], claimChannel := some 0 }
     let s := towardEntry .cancel x
     s.entry 0 = some x ∧ s.channels.toGroups = [] ++ ⟨0, 0, .cancel⟩ :: [] ∧
       x.requests.filter (fun d => d != 0) = []) ∧
    (let s := towardEntry .doneOffConfirmed heldHere
     s.running = true ∧ s.entry 0 = some heldHere ∧ heldHere.holder.map Holder.channel = some 0 ∧
       s.bus.state = .onLine ∧ s.channels.toGroups = [] ++ ⟨0, 0, .doneOffConfirmed⟩ :: [] ∧
       heldHere.yielded = false ∧ heldHere.lapsed = false ∧ s.bus.queue.length < 12 ∧
       (∀ q ∈ s.bus.queue, isClaimOf 5 q.frame = false ∧ isReleaseOf 5 q.frame = false)) ∧
    (inBusState .muted (towardEntry .doneNeverDriven releasingHere)).bus.state ≠ .onLine ∧
    (let x := { releasingHere with yielded := true, conflict := some ⟨9, 1⟩ }
     (towardEntry .doneOffConfirmed x).entry 0 = some x ∧ x.releaseQueued = false ∧ x.conflict = some ⟨9, 1⟩) ∧
    (towardEntry .doneOffConfirmed { releasingHere with lapsed := true }).entry 0
      = some { releasingHere with lapsed := true } ∧
    (let x := { entryIn .heldRemote with holder := some ⟨9, 0⟩ }
     (towardEntry .doneNeverDriven x).entry 0 = some x ∧ x.state ≠ .heldLocal) := by decide +kernel

theorem witness_EntryTimers :
    (nodeWith heldHere).running = true ∧ (nodeWith heldHere).entry 0 = some heldHere ∧
    (nodeWith heldHere).bus.queue.length < 12 ∧
    (∀ q ∈ (nodeWith heldHere).bus.queue, sameLimit q.frame (.hold 5 0 false) = false) ∧
    heldHere.hold ≠ none ∧ heldHere.lapse ≠ none ∧ heldHere.holder = some ⟨3, 0⟩ ∧
    (nodeWith releasingHere).entry 0 = some releasingHere ∧ releasingHere.yielded = false ∧
    releasingHere.releaseQueued = false ∧ releasingHere.lapse ≠ none ∧
    (let x := { entryIn .free with hold := some 5 }
     (nodeWith x).entry 0 = some x) ∧
    (let x := { entryIn .unknown with lifetime := some 5 }
     (nodeWith x).entry 0 = some x ∧ x.lifetime ≠ none) ∧
    (let x := { entryIn .dead with dead := some 5 }
     (nodeWith x).entry 0 = some x ∧ x.dead ≠ none) ∧
    (let x := { entryIn .claimed with window := some 5, requests := [0], claimChannel := some 0 }
     (nodeWith x).entry 0 = some x ∧ x.window ≠ none ∧ x.requests = 0 :: []) ∧
    (let x := { entryIn .claimed with window := some 5, claimChannel := some 0 }
     (nodeWith x).entry 0 = some x ∧ x.window ≠ none ∧ x.requests = []) ∧
    (entryIn .free).window = none ∧ (entryIn .free).lapse = none := by decide +kernel

/-- The node in a bus state that takes frames, at a score, with an own frame on the line where one may be. -/
def listening (b : BusState) (score : Nat) : State := withBus (fun x => { x with state := b, score := score }) node

theorem witness_hears :
    node.hears 9 ∧ (listening .onLine 96).hears 62 ∧ (listening .joining 96).hears 9 ∧
    (listening .muted 200).hears 9 ∧ (listening .barred 255).hears 9 ∧ (sending (.mark 1) node).hears 9 ∧
    (listening .muted 200).staysMuted ∧ (listening .muted 34).staysMuted ∧ (listening .barred 0).staysMuted ∧
    node.learns = true ∧ (listening .joining 96).learns = true ∧ (listening .muted 34).learns = false := by
  refine ⟨⟨rfl, rfl, ?_, ?_, ?_, Nat.zero_le _⟩, ⟨rfl, rfl, ?_, ?_, ?_, Nat.le_refl _⟩,
    ⟨rfl, rfl, ?_, ?_, ?_, Nat.le_refl _⟩, ⟨rfl, rfl, ?_, ?_, ?_, Nat.le_refl _⟩, ⟨rfl, rfl, ?_, ?_, ?_, trivial⟩,
    ⟨rfl, rfl, ?_, ?_, ?_, Nat.zero_le _⟩, ?_, ?_, ?_, ?_⟩
  all_goals first | decide +kernel | (unfold State.staysMuted; decide +kernel)

theorem witness_ForeignGroupFrames :
    node.hears 9 ∧ oneEntry node ∧
    (∀ st ∈ [EntryState.unknown, .free, .dead, .heldRemote, .claiming, .claimed],
      (nodeWith (entryIn st)).entry 0 = some (entryIn st) ∧ (nodeWith (entryIn st)).bus = node.bus) ∧
    (let x := { entryIn .heldRemote with holder := some ⟨9, 4⟩ }
     (nodeWith x).entry 0 = some x ∧ x.holder = some ⟨9, 4⟩) ∧
    node.bus.queue.length < 12 ∧ (nodeWith heldHere).entry 0 = some heldHere ∧
    (nodeWith { releasingHere with releaseQueued := true }).entry 0
      = some { releasingHere with releaseQueued := true } ∧
    (nodeWith { releasingHere with yielded := true, conflict := some ⟨9, 1⟩ }).entry 0
      = some { releasingHere with yielded := true, conflict := some ⟨9, 1⟩ } := by
  refine ⟨witness_hears.1, witness_oneEntry.1, ?_⟩
  decide +kernel

theorem witness_OwnGroupFrames :
    (∀ f ∈ [Frame.claim 5 0, .hold 5 0 true, .release 5 0],
      (sending f node).running = true ∧ (sending f node).bus.state = .onLine ∧
      (sending f node).bus.attempt = some f ∧ (sending f node).bus.score ≤ 96) ∧
    (sending (.claim 5 0) (nodeWith (entryIn .claiming))).entry 0 = some (entryIn .claiming) ∧
    (sending (.hold 5 0 false) (nodeWith heldHere)).entry 0 = some heldHere ∧
    (sending (.release 5 0) (nodeWith { releasingHere with releaseQueued := true })).entry 0
      = some { releasingHere with releaseQueued := true } ∧ oneEntry node := by
  refine ⟨by decide +kernel, by decide +kernel, by decide +kernel, by decide +kernel, witness_oneEntry.1⟩

theorem witness_MarkTimerExpiry :
    let s := { node with marks := { number := 65535, timer := some 5, queued := false } }
    node.marks.timer = none ∧ s.running = true ∧ s.marks.timer ≠ none ∧ s.bus.state = .onLine ∧
    (∀ q ∈ s.bus.queue, isMark q.frame = false) ∧
    (∀ b ∈ [BusState.joining, .muted, .offLine, .barred], (inBusState b s).bus.state ≠ .onLine) := by
  decide +kernel

theorem witness_MarksTaken :
    node.arrives (.mark 35) 9 (.heard 9 [0, 35]) ∧ (sending (.mark 35) node).arrives (.mark 35) 3 .own ∧
    { node with marks := { node.marks with queued := true } }.marks.queued = true ∧
    (35 : Half).toNat % 32 = node.loader.station.val % 32 ∧ node.bus.queue.length + node.groups.length < 3 ∧
    (∃ p, node.faults.peers[61]? = some p) := by
  refine ⟨⟨rfl, by decide +kernel, rfl, witness_hears.1⟩, ⟨?_, rfl⟩, by decide +kernel, by decide +kernel,
    by decide +kernel, _, rfl⟩
  unfold State.sends; decide +kernel

theorem witness_TripsAndClearsTaken :
    node.arrives (.trip 1 .input) 9 (.heard 9 [1, 1]) ∧ node.arrives (.clear 1) 9 (.heard 9 [1]) ∧
    (listening .joining 96).arrives (.trip 1 .input) 9 (.heard 9 [1, 1]) ∧
    (listening .muted 200).arrives (.trip 1 .input) 9 (.heard 9 [1, 1]) ∧
    (listening .barred 255).arrives (.clear 1) 9 (.heard 9 [1]) ∧
    (sending (.trip 1 .host) node).arrives (.clear 1) 9 (.heard 9 [1]) ∧
    node.queueSound = true ∧ node.queueOrdered = true ∧ 3 < (4 : Byte).toNat ∧
    (let z : Zone := ⟨true, some 3, some .input, true⟩
     ((setZone 0 z node).zone 0) = z ∧ ((setZone 0 { z with localActive := false } node).zone 0).tripped = true) ∧
    (sending (.trip 1 .host) node).arrives (.trip 1 .host) 3 .own ∧
    (sending (.clear 1) node).arrives (.clear 1) 3 .own ∧ (node.cfg 0).zone = some 0 ∧
    (node.cfg 0).enabled = true ∧ maskBit 1 0 = true ∧ maskBit 1 7 = false ∧ (node.zone 0).tripped = false ∧
    (node.cfg 7).zone = none := by
  refine ⟨⟨rfl, by decide +kernel, rfl, witness_hears.1⟩, ⟨rfl, by decide +kernel, rfl, witness_hears.1⟩,
    ⟨rfl, by decide +kernel, rfl, witness_hears.2.2.1⟩, ⟨rfl, by decide +kernel, rfl, witness_hears.2.2.2.1⟩,
    ⟨rfl, by decide +kernel, rfl, witness_hears.2.2.2.2.1⟩,
    ⟨rfl, by decide +kernel, rfl, ⟨rfl, rfl, by decide +kernel, by decide +kernel, by decide +kernel,
      Nat.zero_le _⟩⟩, by decide +kernel, by decide +kernel, by decide +kernel, by decide +kernel,
    ⟨?_, rfl⟩, ⟨?_, rfl⟩, by decide +kernel⟩ <;> unfold State.sends <;> decide +kernel

theorem witness_ShutdownPin :
    (inBusState .muted node).bus.state ≠ .onLine ∧ node.zones.shutdown = false ∧
    State.reset.held = true ∧ State.reset.bus.state ≠ .onLine ∧ idle.held = false ∧ idle.running = false ∧
    node.held = false ∧ node.running = true ∧
    { node with zones := { node.zones with shutdown := true } }.zones.shutdown ≠ false := by decide +kernel

theorem witness_SenseInputs :
    let debounced (n : Fin 8) (pin level : Bool) : State :=
      { node with inputs := node.inputs.set n { pin := pin, level := level, timer := some 5 } }
    node.running = true ∧ (node.config.inputs.get 0).role = .trip 0 ∧
    (node.inputs.get 0).pin = (node.inputs.get 0).level ∧
    ((debounced 0 true false).inputs.get 0).pin ≠ ((debounced 0 true false).inputs.get 0).level ∧
    (node.config.inputs.get 7).role = .unused ∧ idle.running = false ∧
    (debounced 0 true false).running = true ∧ ((debounced 0 true false).inputs.get 0).timer ≠ none ∧
    (((debounced 0 true false).inputs.get 0).pin == (node.config.inputs.get 0).activeHigh) = true ∧
    (((debounced 0 false true).inputs.get 0).pin == (node.config.inputs.get 0).activeHigh) = false ∧
    ((debounced 0 true false).zone 0).tripped = false ∧ (node.cfg 0).zone = some 0 ∧
    node.queueSound = true ∧ node.queueOrdered = true ∧ (node.config.inputs.get 2).role = .clear 2 ∧
    node.bus.state = .onLine ∧ (2 : Byte) &&& ~~~zonesWhere Zone.localActive node ≠ 0 ∧
    (2 : Byte) &&& ~~~zonesWhere Zone.localActive (setZone 1 ⟨true, some 3, some .input, true⟩ node) = 0 ∧
    (listening .muted 200).bus.state ≠ .onLine := by
  decide +kernel

theorem witness_PointsTaken :
    let pairs : List PointPair := [⟨7, false⟩, ⟨7, true⟩, ⟨3, true⟩]
    node.arrives (.points pairs) 9 (.heard 9 (Frame.points pairs).payload) ∧
    node.arrives (.points pairs) 10 (.heard 10 (Frame.points pairs).payload) ∧
    (listening .barred 255).arrives (.points pairs) 9 (.heard 9 (Frame.points pairs).payload) ∧
    (sending (.points pairs) node).arrives (.points pairs) 3 .own ∧
    (sending (.points pairs) node).bus.queue.any Queued.onLine = true ∧
    node.config.subscriptions[0]? = some ⟨7, 9, 2⟩ ∧ node.points[0]? = some Subscription.start ∧
    (pairs.filter fun p => p.point == 7).getLast? = some ⟨7, true⟩ ∧
    node.config.publications[0]? = some ⟨3, .hostPoint 0⟩ ∧ (∃ x, node.pubs.entries[0]? = some x) ∧
    (pairs.filter fun p => p.point == 3).getLast? = some ⟨3, true⟩ ∧
    node.running = true ∧ (∀ y ∈ node.pubs.entries, y.timer = none ∧ y.waiting = false) ∧
    (let s := { node with groups := [], pubs := { node.pubs with entries := [⟨false, some 5, none⟩] } }
     s.pubs.entries[0]? = some ⟨false, some 5, none⟩ ∧ s.bus.state = .onLine ∧ s.pubs.blocked = false ∧
       (∀ q ∈ s.bus.queue, isPoints q.frame = false) ∧ s.bus.queue.length < 12 ∧ s.groups = [] ∧
       (∀ c, (s.faultRec c).waiting = false) ∧ (∀ y ∈ s.pubs.entries, y.waiting = false) ∧
       (inBusState .muted s).bus.state ≠ .onLine ∧ (setPubBlocked true s).pubs.blocked = true ∧
       isPoints (.points pairs) = true) := by
  refine ⟨⟨rfl, rfl, by decide +kernel, witness_hears.1⟩, ⟨rfl, rfl, by decide +kernel, ?_⟩,
    ⟨rfl, rfl, by decide +kernel, witness_hears.2.2.2.2.1⟩, ⟨?_, rfl⟩, ?_⟩
  · exact ⟨rfl, rfl, by decide +kernel, by decide +kernel, by decide +kernel, Nat.zero_le _⟩
  · unfold State.sends; decide +kernel
  · refine ⟨by decide +kernel, by decide +kernel, by decide +kernel, by decide +kernel, by decide +kernel,
      ⟨_, rfl⟩, ?_⟩
    decide +kernel

/-- Twelve FAULT-ACK frames: a full queue of one kind code; eleven, one short of it. -/
def fullQueue (n : Nat) (f : Frame) : List Queued :=
  List.replicate n (waitingFrame (.faultAck 9 0 (PerKind.all false) false)) ++ [waitingFrame f]

theorem witness_Offers :
    (inBusState .joining node).bus.state ≠ .onLine ∧ (Frame.mark 1).code ≠ 10 ∧ node.bus.state = .onLine ∧
    (∀ p ∈ [(Frame.trip 1 .host, Frame.trip 2 .input), (.clear 1, .clear 2), (.hold 5 0 false, .hold 5 1 true),
        (.status (statusInfo node), .status (statusInfo node)), (.hold 5 0 false, .release 5 0),
        (.release 5 0, .hold 5 0 false), (.claim 5 0, .release 5 0), (.mark 1, .mark 2),
        (.fault 0 (PerKind.all true) (PerKind.all true) 1, .fault 0 (PerKind.all true) (PerKind.all true) 2)],
      sameLimit p.1 p.2 = true ∧ (withQueue [waitingFrame p.1] node).bus.queue = [] ++ waitingFrame p.1 :: [] ∧
        limitsHold [waitingFrame p.1] = true) ∧
    (∀ x ∈ (withQueue [waitingFrame (.claim 5 0)] node).bus.queue, sameLimit x.frame (.mark 1) = false) ∧
    (listening .joining 96).bus.state = .joining ∧ (Frame.hello 4 5).code = 10 ∧
    (∀ f ∈ [Frame.points [⟨3, true⟩], .fault 0 (PerKind.all true) (PerKind.all true) 1],
      (fullQueue 11 f).length = 12 ∧ (Frame.faultAck 9 0 (PerKind.all false) false).code < f.code) ∧
    node.config.publications[0]? = some ⟨3, .hostPoint 0⟩ ∧ node.pubs.entries.length = 1 ∧
    (withQueue (fullQueue 10 (.mark 1)) node).bus.queue.length < 12 ∧
    (let last := waitingFrame (.status (statusInfo node))
     let q := fullQueue 11 (.status (statusInfo node))
     q = List.replicate 11 (waitingFrame (.faultAck 9 0 (PerKind.all false) false)) ++ [last] ∧
       12 ≤ q.length ∧ (Frame.faultAck 9 0 (PerKind.all false) false).code < last.frame.code ∧
       last.frame.code ≤ (Frame.status (statusInfo node)).code ∧
       (∀ x ∈ q, sameLimit x.frame (.faultAck 9 0 (PerKind.all false) false) = false) ∧
       (∀ x ∈ q, sameLimit x.frame (.hello 0 0) = false)) := by decide +kernel

/-- Own frames of six kinds, and a node that owns nothing else with one of them on the line before a STATUS. -/
def ownFrames : List Frame :=
  [.trip 3 .host, .clear 3, .claim 5 0, .release 5 0, .faultAck 9 1 (PerKind.all true) false,
    .fault 0 (PerKind.all true) (PerKind.all true) 1]
def onTheLine (f : Frame) : State :=
  withBus (fun b => { b with attempt := some f, queue := [{ waitingFrame f with onLine := true },
    waitingFrame (.status (statusInfo node))] })
    { node with groups := [], pubs := { node.pubs with entries := [] } }

theorem witness_FrameOffer :
    (sending (.mark 1) node).bus.attempt ≠ none ∧ idle.bus.state = .disabled ∧
    (inBusState .muted node).bus.attempt = none ∧ (inBusState .joining node).bus.attempt = none ∧
    node.bus.queue = [] ∧ (withQueue [waitingFrame (.mark 1)] node).bus.queue ≠ [] ∧
    (∀ r ∈ ([3, 1023] : List Key), 64 * (Frame.mark 1).code + node.loader.station.val ≤ BitVec.toNat r) ∧
    (∃ r ∈ ([1023, 2] : List Key), BitVec.toNat r < 64 * (Frame.mark 1).code + node.loader.station.val) ∧
    (∀ p ∈ [(Frame.trip 3 .host, Frame.trip 1 .host), (.clear 3, .clear 1), (.hold 5 0 true, .hold 5 0 false),
        (.status (statusInfo node), .status { statusInfo node with mark := 1 })],
      let q := { waitingFrame p.1 with onLine := true }
      let s := withBus (fun b => { b with attempt := some p.2, queue := [q] }) node
      s.running = true ∧ s.bus.state = .onLine ∧ s.bus.attempt = some p.2 ∧ s.bus.score ≤ 96 ∧
        s.bus.queue = [] ++ q :: [] ∧ s.bus.queue.length + s.groups.length < 3 ∧ p.1 ≠ p.2) ∧
    (∀ f ∈ ownFrames,
      let q := { waitingFrame f with onLine := true }
      let s := onTheLine f
      s.running = true ∧ s.bus.state = .onLine ∧ s.bus.attempt = some f ∧ s.bus.score ≤ 96 ∧
        s.bus.queue = [] ++ q :: [waitingFrame (.status (statusInfo node))] ∧
        s.bus.queue.length + s.groups.length < 3 ∧ q.frame = f ∧ f.code ≠ 0 ∧ s.groups = [] ∧
        s.pubs.entries = [] ∧ (∀ c, (s.faultRec c).waiting = false) ∧
        (∀ z, (s.zone z).localActive = false)) := by decide +kernel

/-- An own frame that is taken leaves the queue, and what stood beside it stays (R95). -/
theorem test_takenOwnFrameLeaves :
    (∀ f ∈ ownFrames, (after (f.taken .own) (onTheLine f)).bus.queue
      = [waitingFrame (.status (statusInfo node))]) := by decide +kernel

theorem witness_AttemptFails :
    node.bus.attempt = none ∧
    (∀ score ∈ [87, 88, 191, 192, 255], ∀ b ∈ [BusState.joining, .onLine],
      let s := inBusState b (withBus (fun x => { x with score := score }) (sending (.mark 1) node))
      s.bus.attempt = some (.mark 1) ∧ s.bus.state = b ∧ s.bus.score = score ∧
        ∀ q ∈ s.bus.queue, q.retries + 1 < 16) := by decide +kernel

/-- The node with a frame on the line for the sixteenth time. -/
def lastAttempt (f : Frame) : State :=
  withBus (fun b => { b with
    attempt := some f, score := 87, queue := [{ waitingFrame f with onLine := true, retries := 15 }] }) node

theorem witness_FrameAbandoned :
    (∀ f ∈ [Frame.mark 1, .claim 5 0, .release 5 0, .hello 0 0, .clear 1, .trip 3 .host, .points [⟨3, true⟩],
        .fault 0 (PerKind.all true) (PerKind.all true) 1],
      (lastAttempt f).running = true ∧ (lastAttempt f).bus.attempt ≠ none ∧ (lastAttempt f).bus.state = .onLine ∧
      (lastAttempt f).bus.queue = { waitingFrame f with onLine := true, retries := 15 } :: [] ∧
      (lastAttempt f).bus.score + 8 < 96) ∧
    (let s := withBus (fun b => { b with state := .joining, phase := some .helloQueued }) (lastAttempt (.hello 0 0))
     s.bus.state = .joining ∧ s.bus.phase = some .helloQueued ∧ (Frame.hello 0 0).code = 10) ∧
    (lastAttempt (.trip 3 .host)).queueSound = true ∧ (3 : Byte) &&& zonesWhere Zone.tripped node = 0 ∧
    (3 : Byte) &&& zonesWhere Zone.tripped (setZone 0 ⟨true, some 3, some .host, false⟩ node) ≠ 0 := by
  decide +kernel

theorem witness_LeavingTheBus :
    let s := withBus (fun b => { b with score := 88, queue := b.queue ++ [waitingFrame
        (.fault 0 (PerKind.all true) (PerKind.all true) 1), waitingFrame (.points [⟨3, true⟩])] })
      (sending (.mark 1) (nodeWith heldHere))
    s.running = true ∧ s.bus.state = .onLine ∧ s.bus.attempt ≠ none ∧
    (∀ q ∈ s.bus.queue, q.retries + 1 < 16) ∧ 88 ≤ s.bus.score ∧ s.bus.score < 192 ∧
    s.entry 0 = some heldHere ∧ heldHere.holder = some ⟨3, 0⟩ ∧ s.queueSound = true ∧
    s.config.publications[0]? = some ⟨3, .hostPoint 0⟩ ∧ s.pubs.entries.length = 1 ∧
    (∀ q ∈ (sending (.claim 5 0) s).bus.queue, isMark q.frame = false) := by decide +kernel

theorem witness_FramesNotActedOn :
    node.running = true ∧ node.bus.gapSeen = true ∧ node.bus.attempt = none ∧ FrameRead.isBad badFrame = true ∧
    (∀ score ∈ [0, 94, 95, 96], (withBus (fun b => { b with score := score }) node).bus.score = score) ∧
    (∀ b ∈ [BusState.joining, .muted, .barred], (inBusState b node).bus.state = b ∧
      (inBusState b node).bus.gapSeen = true ∧ (inBusState b node).running = true) ∧
    (∀ score ∈ [32, 33, 34, 198, 199, 200], (listening .muted score).bus.state = .muted ∧
      (listening .muted score).bus.score = score ∧ (listening .muted score).running = true ∧
      (listening .muted score).bus.gapSeen = true ∧ (listening .muted score).bus.attempt = none) ∧
    (Frame.mark 0).taken (.heard 9 [1]) = .markTaken (.heard 9 [1]) ∧ (15 : BitVec 4).toNat = 15 ∧
    11 ≤ (11 : BitVec 4).toNat ∧ Frame.parse (Frame.mark 0).code [1] = none ∧ (Frame.mark 0).inRange = true ∧
    1 ≤ node.loader.station.val ∧ node.loader.station.val ≤ 62 := by decide +kernel

/-- A MUTED node with score 199 that reads a bad frame is OFF-LINE, for 200 ms (R117, R118). -/
theorem test_badFrameTakesMutedOffLine :
    let b := (after (.badFrameReceived badFrame) (listening .muted 199)).bus
    b.state = .offLine ∧ b.score = 200 ∧ b.offLineTimer = some (node.now + 200000) := by decide +kernel

theorem witness_BackOnLine :
    (let s := withBus (fun b => { b with state := .offLine, offLineTimer := some 5 }) node
     s.running = true ∧ s.bus.state = .offLine ∧ s.bus.offLineTimer ≠ none) ∧
    (let s := withBus (fun b => { b with state := .muted, score := 33 }) node
     s.running = true ∧ s.bus.gapSeen = true ∧ s.bus.attempt = none ∧ s.bus.queue = [] ∧
       (Frame.mark 1).inRange = true ∧ (9 : Station) ≠ s.loader.station) ∧
    (let s := withBus (fun b => { b with
       state := .joining, phase := some .helloHoldOff, joinTimer := some 5 }) node
     s.running = true ∧ s.bus.joinTimer ≠ none ∧ s.bus.queue = []) ∧
    (let s := withBus (fun b => { b with state := .joining, phase := some .joinWait, joinTimer := some 5 })
       (nodeWith (entryIn .unknown))
     s.running = true ∧ s.bus.joinTimer ≠ none ∧ s.entry 0 = some (entryIn .unknown)) ∧
    (nodeWith releasingHere).entry 0 = some releasingHere ∧
    node.config.publications[0]? = some ⟨3, .hostPoint 0⟩ ∧ node.pubs.entries.length = 1 ∧
    ((withKind 0 .overload (fun k => { k with sticky := true }) node).faultRec 0).sticky.any = true ∧
    (setZone 7 ⟨true, some 3, some .input, true⟩ node).zone 7 = ⟨true, some 3, some .input, true⟩ := by
  decide +kernel

theorem witness_HellosTaken :
    node.hears 9 ∧ node.bus.queue = [] ∧ (nodeWith heldHere).entry 0 = some heldHere ∧
    (nodeWith { releasingHere with releaseQueued := false }).entry 0
      = some { releasingHere with releaseQueued := false } ∧
    (listening .muted 34).hears 10 ∧ (listening .muted 34).staysMuted ∧
    oneEntry node ∧ ((setZone 7 ⟨true, some 9, some .host, false⟩ node).zone 7).tripped = true ∧
    node.config.publications[0]? = some ⟨3, .hostPoint 0⟩ ∧
    (let s := withBus (fun b => { b with state := .joining, phase := some .helloQueued, score := 96 })
       (sending (.hello 4 5) node)
     s.running = true ∧ s.bus.state = .joining ∧ s.bus.phase = some .helloQueued ∧ s.bus.score ≤ 96 ∧
       s.bus.attempt = some (.hello 4 5) ∧ s.bus.queue.head?.map Queued.onLine = some true ∧
       1 ≤ s.loader.station.val ∧ s.faults.peers.length = 62) := by
  refine ⟨witness_hears.1, by decide +kernel, by decide +kernel, by decide +kernel,
    ⟨rfl, rfl, by decide +kernel, by decide +kernel, by decide +kernel, (by decide : (34 : Nat) ≤ 200)⟩,
    witness_hears.2.2.2.2.2.2.2.1, witness_oneEntry.1, ?_⟩
  decide +kernel

theorem witness_FramesReadBack :
    (Frame.points (List.replicate 7 ⟨511, true⟩)).inRange = true ∧
    (Frame.faultAck 62 0 (PerKind.all true) true).inRange = true ∧
    Frame.parse 7 [7, 0x7f, 0, 1, 2] = some (.fault 7 (PerKind.all true) (PerKind.all false) 0x102) := by
  decide +kernel

theorem witness_SlotStart : State.reset.held = true ∧ node.held = false := by decide +kernel

theorem witness_LinkStateBySlots :
    node.held = false ∧ judgeReply (feedbackWord 1 false) = some ⟨.feedback, 1, false⟩ ∧ node.link.up = true ∧
    (∀ run ∈ [14, 15], { node with link := { node.link with up := false, goodRun := run } }.link.goodRun = run) ∧
    (none : Option (BitVec 18)).bind judgeReply = none ∧
    (∀ run ∈ [6, 7], let s := { node with link := { node.link with failedRun := run } }
      s.link.up = true ∧ s.link.failedRun = run ∧ s.link.lastGood = some 990 ∧ s.running = true) ∧
    (let s := withChannel (fun r => { r with state := .suspended, demand := true }) { node with
       channels := { node.channels with feedback := none },
       link := { node.link with up := false, goodRun := 15, latest := { LatestReplies.none with
         diagnostics := { LatestReplies.none.diagnostics with overload := some 1 } } } }
     s.held = false ∧ s.link.up = false ∧ 16 ≤ s.link.goodRun + 1 ∧ s.running = true ∧
       (s.faultRec 0).kinds.overload.live = false ∧ (s.cfg 0).latchMask.overload = true ∧
       (s.cfg 7).latchMask.overload = false ∧ s.causesSound = true ∧ s.pathSound = true ∧
       (s.link.latest.take ⟨.feedback, 1, false⟩).feedback = some ⟨1, false⟩) := by
  decide +kernel

theorem witness_LinkLossAtTheChannels :
    let s := { node with link := { node.link with failedRun := 7 } }
    s.held = false ∧ s.running = true ∧ s.link.up = true ∧ 8 ≤ s.link.failedRun + 1 ∧
    (none : Option (BitVec 18)).bind judgeReply = none ∧ (s.chan 0).state = .off ∧
    ((withChannel (fun r => { r with state := .waiting }) s).chan 0).state = .waiting := by decide +kernel

theorem witness_OffAssured :
    let s := { channelIn .releasing with link := { node.link with up := false, guarantee := some 1240 } }
    s.running = true ∧ s.link.up = false ∧ s.link.guarantee ≠ none ∧ (s.chan 0).state = .releasing ∧
      (s.chan 1).state ≠ .releasing := by decide +kernel

theorem witness_FeedbackReply :
    node.held = false ∧ node.running = true ∧ node.pathReady = true ∧ node.link.up = true ∧
    judgeReply (feedbackWord 1 false) = some ⟨.feedback, 1, false⟩ ∧
    judgeReply (feedbackWord 0 true) = some ⟨.feedback, 0, true⟩ ∧ maskBit 1 0 = true ∧ maskBit 0 0 = false ∧
    (let s := withFeedback ⟨0, true⟩ (withChannel (fun r => { r with state := .suspended, demand := true }) node)
     s.pathReady = false ∧ s.link.up = true ∧ (s.chan 0).state = .suspended ∧ (s.chan 0).demand = true ∧
       ((s.chan 0).rearm || (s.cfg 0).restart == .rearm) = false ∧ (s.cfg 0).enabled = true) := by decide +kernel

theorem witness_DiagnosticReply :
    node.held = false ∧ node.running = true ∧ node.link.up = true ∧
    judgeReply 0x2840b = some ⟨.diagnostic .overload, 8, false⟩ ∧ maskBit 8 3 = true ∧ maskBit 8 0 = false ∧
    (node.faultRec 3).kinds.overload.live = false ∧ (node.faultRec 3).kinds.overload.sticky = false ∧
    (node.cfg 0).latchMask.overload = true ∧ (node.cfg 3).latchMask.overload = false ∧
    node.faults.blocked = false ∧ (∀ q ∈ node.bus.queue, isFaultOf 3 q.frame = false) ∧
    node.bus.queue.length + node.groups.length < 4 ∧ (inBusState .muted node).bus.state ≠ .onLine := by
  decide +kernel

theorem witness_DriveWordAndWatchdog :
    node.power.inReset = false ∧ driveCheckGood 0x8237 = true ∧ node.power.previous ≠ some (driveCount 0x8237) ∧
    driveCheckGood 0x8236 = false ∧
    { node.power with previous := some 1 }.previous = some (driveCount 0x8237) ∧
    { node.power with watchdog := some 5 }.watchdog ≠ none := by decide +kernel

theorem witness_SwitchingEdge :
    node.power.inReset = false ∧ driveCheckGood 0x8237 = true ∧ node.power.previous ≠ some (driveCount 0x8237) ∧
    (let s := { node with power := { node.power with supplyNormal := true } }
     (s.power.channels.get 2).commanded
       ≠ (driveEnable 0x8237 && maskBit (driveBits 0x8237) 2 && s.power.supplyNormal) ∧
     (s.power.channels.get 0).commanded
       = (driveEnable 0x8237 && maskBit (driveBits 0x8237) 0 && s.power.supplyNormal)) ∧
    dieWithLoad.power.previous ≠ some (driveCount 0x8237) ∧
    (dieWithLoad.power.channels.get 0).commanded = true ∧ 0 < (dieWithLoad.power.channels.get 0).load.stored ∧
    (driveEnable 0x8237 && maskBit (driveBits 0x8237) 0 && dieWithLoad.power.supplyNormal) = false := by decide +kernel

theorem witness_ReplyWord :
    State.reset.power.inReset = true ∧ node.power.inReset = false ∧ dieWithLoad.power.inReset = false ∧
    (dieWithLoad.power.channels.get 0).commanded = true ∧
    (let p := (after .supplyLow dieWithLoad).power.channels.get 0
     p.commanded = false ∧ 0 < p.load.stored) := by decide +kernel

theorem witness_PowerDieReset :
    State.reset.power.inReset = true ∧ node.power.inReset = false ∧ node.power.supplyNormal = false ∧
    { node.power with supplyNormal := true }.supplyNormal = true := by decide +kernel

theorem witness_OutputSituation :
    node.power.inReset = false ∧ (node.power.channels.get 0).commanded = false ∧ node.power.supplyNormal = false ∧
    { node.power with supplyNormal := true }.supplyNormal = true ∧
    (node.power.channels.set 0 { node.power.channels.c0 with commanded := true }).c0.commanded = true ∧
    dieWithLoad.power.inReset = false ∧ 0 < (dieWithLoad.power.channels.get 0).load.stored := by decide +kernel

theorem witness_ReportFilters :
    node.power.inReset = false ∧ (node.power.channels.get 0).blanking = none ∧
    (node.power.channels.get 0).commanded = false ∧
    (let p := { node.power.channels.c0 with commanded := true, blanking := some 5 }
     p.blanking ≠ none ∧ p.commanded = true) := by decide +kernel

theorem witness_FaultFramesTaken :
    node.arrives (.fault 3 (PerKind.all false) (PerKind.all true) 7) 9 (.heard 9 [3, 0, 0x7f, 0, 7]) ∧
    node.arrives (.faultAck 3 255 (PerKind.all true) true) 9 (.heard 9 [3, 255, 0x7f, 1]) ∧
    node.arrives (.faultAck 62 255 (PerKind.all true) true) 9 (.heard 9 [62, 255, 0x7f, 1]) ∧
    node.arrives (.status (statusInfo node)) 9 (.heard 9 (statusInfo node).bytes) ∧
    (listening .barred 255).arrives (.status (statusInfo node)) 9 (.heard 9 (statusInfo node).bytes) ∧
    node.faults.list.length < 16 ∧
    16 ≤ (List.replicate 16 (⟨9, 0, PerKind.all false, PerKind.all false, 0, 0⟩ : ListEntry)).length ∧
    (∃ p, node.faults.peers[0]? = some p) := by
  refine ⟨⟨rfl, by decide +kernel, rfl, witness_hears.1⟩, ⟨rfl, by decide +kernel, rfl, witness_hears.1⟩,
    ⟨rfl, by decide +kernel, rfl, witness_hears.1⟩, ⟨rfl, rfl, rfl, witness_hears.1⟩,
    ⟨rfl, rfl, rfl, witness_hears.2.2.2.2.1⟩, by decide +kernel, by decide +kernel, _, rfl⟩

theorem witness_ResetEndAndAddressing :
    idle.held = false ∧ State.reset.held = true ∧
    (∀ n ∈ [8, 9, 10], (withLoader (fun l => { l with read := .retryWait n }) idle).loader.read = .retryWait n) ∧
    (∀ n, idle.loader.read ≠ .retryWait n) := by
  refine ⟨by decide +kernel, by decide +kernel, by decide +kernel, fun n h => by cases h⟩

/-- The node reading the configuration memory. -/
def reading (r : MemoryRead) : State := withLoader (fun l => { l with read := r, station := 3 }) idle

theorem witness_MemoryLoading :
    (reading .header).stagingSound = true ∧ (reading .header).loader.read = .header ∧
    (imageBytes.take 6).length = 6 ∧
    256 * ((imageBytes.take 6).getD 0 0).toNat + ((imageBytes.take 6).getD 1 0).toNat = 163 ∧
    256 * (([0, 7, 1, 0, 0, 0] : List Byte).getD 0 0).toNat + (([0, 7, 1, 0, 0, 0] : List Byte).getD 1 0).toNat < 8 ∧
    ([0, 163] : List Byte).length < 6 ∧ (reading (.body 163)).loader.read = .body 163 ∧
    6 + ((imageBytes.drop 6).take 156).length < 163 ∧ 6 + (imageBytes.drop 6).length = 163 ∧ 163 ≤ 2048 ∧
    (reading .idle).loader.read = .idle := by decide +kernel

set_option maxRecDepth 20000 in
/-- An image that is accepted and one that is refused, as the checks of the staging area give them. -/
theorem witness_AcceptedImages :
    checkImage 3 (Memory.writeBytes [] 0 imageBytes) = .ok image ∧
    checkImage 63 (Memory.writeBytes [] 0 imageBytes) = .error (.noStation, 63) := by
  refine ⟨?_, ?_⟩
  · have h := test_image
    unfold verdict verdictOf at h
    split at h
    · next img e => cases h; exact e
    · cases h
  · have h := test_image_without_station
    unfold verdict verdictOf at h
    split at h
    · cases h
    · next f e => cases h; exact e

theorem witness_Transactions :
    node.held = false ∧ node.host.transaction = none ∧ (withTransaction node).host.transaction ≠ none ∧
    ([254] : List Byte).length ≤ BitVec.toNat (1 : Byte) ∧ BitVec.toNat (0 : Byte) < ([254] : List Byte).length ∧
    ((([1, 0, 253] : List Byte).take (BitVec.toNat (0 : Byte) + 3)).map BitVec.toNat).sum % 256 ≠ 255 ∧
    ((([17, 0, 238] : List Byte).take (BitVec.toNat (0 : Byte) + 3)).map BitVec.toNat).sum % 256 = 255 ∧
    (∀ p ∈ [(17, 0), (0, 1), (7, 0), (10, 1), (11, 5), (15, 2), (15, 35), (16, 255)],
      ¬ (p.1 ∈ [0, 1, 6, 8, 9, 14, 16] ∧ p.2 = 0 ∨ p.1 ∈ [2, 3, 4, 5, 7, 12, 13] ∧ p.2 = 1 ∨ p.1 = 10 ∧ p.2 = 2 ∨
        p.1 = 11 ∧ p.2 = 4 ∨ p.1 = 15 ∧ 3 ≤ p.2 ∧ p.2 ≤ 34)) := by decide +kernel

theorem witness_HostBytesReadBack :
    (List.replicate 253 (0 : Byte)).length ≤ 253 ∧ Response.reset.data.length < 65536 := by decide +kernel

theorem witness_ReadRequests :
    (withTransaction node).host.transaction ≠ none ∧ node.points.length = node.config.subscriptions.length ∧
    node.pubs.entries.length = node.config.publications.length ∧
    node.groups.length = node.config.memberships.length ∧ node.faults.list = [] ∧
    (after (.faultTaken (.heard 9 [3, 0, 0x7f, 0, 7])) node).faults.list.length = 1 := by decide +kernel

theorem witness_ReadData :
    (withTransaction node).host.transaction ≠ none ∧ idle.running = false ∧ node.running = true ∧
    (∃ x, node.faults.peers[(62 : Station).val - 1]? = some x) ∧
    node.config.subscriptions[(0 : Byte).toNat]? = some ⟨7, 9, 2⟩ ∧
    node.points[(0 : Byte).toNat]? = some Subscription.start ∧
    node.config.publications[(0 : Byte).toNat]? = some ⟨3, .hostPoint 0⟩ ∧ node.pubs.entries.length = 1 ∧
    node.config.memberships[(0 : Byte).toNat]? = some ⟨5, 1, 5⟩ ∧ (∃ x, node.groups[(0 : Byte).toNat]? = some x) := by
  refine ⟨by decide +kernel, by decide +kernel, by decide +kernel, ⟨_, rfl⟩, by decide +kernel, by decide +kernel,
    by decide +kernel, by decide +kernel, by decide +kernel, _, rfl⟩

theorem witness_RefusedRequests :
    (withTransaction node).host.transaction ≠ none ∧ 8 ≤ BitVec.toNat (8 : Byte) ∧ 128 ≤ BitVec.toNat (128 : Byte) ∧
    idle.running = false ∧ node.running = true ∧ (inBusState .muted node).bus.state ≠ .onLine ∧
    (withLoader (fun l => { l with source := .memory }) idle).loader.source = .memory ∧
    (withLoader (fun l => { l with source := .memory }) idle).loader.nodeState = .loading := by decide +kernel

set_option maxRecDepth 20000 in
/-- The staging area with the test image is sound, and accepted as `test_image` shows. -/
theorem witness_accepted_image :
    let s := withTransaction (withLoader (fun _ => { Loader.reset .host 3 with
      staging := Memory.writeBytes [] 0 imageBytes }) idle)
    s.host.transaction ≠ none ∧ s.stagingSound = true ∧ s.loader.nodeState = .loading ∧ s.loader.source = .host ∧
      verdictOf s.loader.station s.loader.staging = .inl image := by
  decide +kernel

theorem witness_ConfigurationRequests :
    let s := withTransaction (withLoader (fun _ => Loader.reset .host 3) idle)
    s.host.transaction ≠ none ∧ s.stagingSound = true ∧ s.loader.nodeState = .loading ∧ s.loader.source = .host ∧
    (withLoader (fun l => { l with nodeState := .configFault }) s).loader.nodeState = .configFault ∧
    (2016 : Half).toNat + (List.replicate 32 (0 : Byte)).length ≤ 2048 ∧
    verdictOf s.loader.station s.loader.staging = .inr (.imageLength, 0) := by decide +kernel

theorem witness_NodeReset : (withTransaction node).host.transaction ≠ none := by decide +kernel

theorem witness_SetHostPoint :
    (withTransaction node).host.transaction ≠ none ∧ (withTransaction node).running = true ∧
    node.host.points.get 0 ≠ true ∧ (inBusState .muted node).bus.state ≠ .onLine ∧
    (node.config.publications.map PublicationConfig.source)[0]? = some (.hostPoint 0) ∧
    0 < node.pubs.entries.length := by decide +kernel

theorem witness_AckFaults :
    (withTransaction node).host.transaction ≠ none ∧ node.running = true ∧ (127 : Byte).toNat < 128 ∧
    1 ≤ node.loader.station.val ∧ node.loader.station.val ≤ 62 ∧ node.bus.state = .onLine ∧
    (62 : Station) ≠ node.loader.station ∧ node.bus.queue.length + node.groups.length < 12 ∧
    (let q := fullQueue 11 (.faultAck 9 0 (PerKind.all false) false)
     q.length = 12 ∧ q.getLast?.map (fun x => x.frame.code) = some 6) ∧
    (let q := fullQueue 11 (.status (statusInfo node))
     q.length = 12 ∧ q.getLast?.map (fun x => x.frame.code) = some 9) := by decide +kernel

theorem witness_TripAndClearZones :
    (withTransaction node).host.transaction ≠ none ∧ node.running = true ∧ (1 : Byte) ≠ 0 ∧
    maskBit 1 0 = true ∧ maskBit 1 7 = false ∧ (node.zone 0).tripped = false ∧ (node.zone 0).localActive = false ∧
    (let s := setZone 0 ⟨true, some 9, some .input, true⟩ node
     (s.zone 0).localActive = true ∧ (s.zone 0).station ≠ none ∧ (s.zone 0).cause ≠ none ∧
       (1 : Byte) &&& ~~~zonesWhere Zone.localActive s = 0) ∧
    node.bus.state = .onLine ∧ node.queueSound = true ∧ node.queueOrdered = true ∧
    (1 : Byte) &&& ~~~zonesWhere Zone.localActive node ≠ 0 := by decide +kernel

/-- States that keep each promise of the invariants, and a step that runs. -/
theorem witness_Invariants :
    (∃ t, step { node with pending := [.watchdogExpiry] } = .next t) ∧
    (let s := { node with
       faults := { node.faults with flags := { sticky := 0, live := 0 } } }
     s.scoreSound = true ∧ s.queueSound = true ∧ s.queueOrdered = true ∧ s.causesSound = true ∧
     s.pathSound = true ∧ s.zonesSound = true ∧ s.listSound = true ∧ s.recordsSound = true ∧
     s.flagsSound = true ∧ s.stagingSound = true ∧ s.nodeSound = true ∧ s.entriesSound = true ∧
     s.commandsSound = true ∧ s.reportsSound = true) := by
  refine ⟨⟨_, rfl⟩, ?_⟩
  decide +kernel

end Sys2Proof.Tests
end

section
/-! PROOFS. The zones that the own queued TRIPs name, and the order and the limits of the transmit queue, under
offers, edits and withdrawals (R63, R68, R100 to R103). -/

namespace Sys2Proof.Machine

open Sys2Proof

/-! ## Zones that a queue's TRIPs name -/

/-- The frame is a TRIP whose mask names zone z. -/
def Frame.tripsZone (z : Fin 8) (f : Frame) : Bool :=
  match f with
  | .trip m _ => maskBit m z
  | _ => false

/-- Some queued TRIP names zone z. -/
def queueTrips (z : Fin 8) (l : List Queued) : Bool := l.any fun q => q.frame.tripsZone z

theorem Frame.tripsZone_iff (z : Fin 8) (f : Frame) :
    f.tripsZone z = true ↔ ∃ m c, f = .trip m c ∧ maskBit m z = true := by
  cases f <;> simp [Frame.tripsZone]

theorem queueTrips_iff (z : Fin 8) (l : List Queued) :
    queueTrips z l = true ↔ ∃ q ∈ l, ∃ m c, q.frame = .trip m c ∧ maskBit m z = true := by
  simp [queueTrips, Frame.tripsZone_iff]

theorem queueTrips_false_iff (z : Fin 8) (l : List Queued) :
    queueTrips z l = false ↔ ∀ q ∈ l, ∀ m c, q.frame = .trip m c → maskBit m z = false := by
  rw [← Bool.not_eq_true, queueTrips_iff]
  push Not
  simp

@[simp] theorem queueTrips_nil (z : Fin 8) : queueTrips z [] = false := rfl

@[simp] theorem queueTrips_cons (z : Fin 8) (q : Queued) (l : List Queued) :
    queueTrips z (q :: l) = (q.frame.tripsZone z || queueTrips z l) := rfl

@[simp] theorem queueTrips_append (z : Fin 8) (l k : List Queued) :
    queueTrips z (l ++ k) = (queueTrips z l || queueTrips z k) := by
  simp [queueTrips]

/-- Frames that are taken out of a queue take no zone with them if none of them is a TRIP that names it. -/
theorem queueTrips_filter {z : Fin 8} {p : Queued → Bool} {l : List Queued}
    (h : ∀ q ∈ l, p q = false → q.frame.tripsZone z = false) : queueTrips z (l.filter p) = queueTrips z l := by
  induction l with
  | nil => rfl
  | cons q l ih =>
    have rest := ih fun x hx => h x (List.mem_cons_of_mem q hx)
    cases e : p q
    · simp [e, rest, h q List.mem_cons_self e]
    · simp [e, rest]

@[simp] theorem queueTrips_insertByCode (z : Fin 8) (q : Queued) (l : List Queued) :
    queueTrips z (insertByCode q l) = (q.frame.tripsZone z || queueTrips z l) := by
  induction l with
  | nil => rfl
  | cons x l ih =>
    unfold insertByCode
    split
    · simp [ih, Bool.or_left_comm]
    · rfl

/-- A frame under the limit of a frame that is no TRIP is no TRIP either. -/
theorem sameLimit_tripsZone {a f : Frame} (z : Fin 8) (h : sameLimit a f = true) (hf : f.code ≠ 1) :
    a.tripsZone z = false := by
  cases a with
  | trip m k => cases f <;> simp_all [sameLimit, Frame.code, Frame.group]
  | _ => rfl

/-- A frame with a kind code above 1 is no TRIP. -/
theorem tripsZone_of_code {f : Frame} (z : Fin 8) (h : 1 < f.code) : f.tripsZone z = false := by
  cases f <;> simp_all [Frame.tripsZone, Frame.code]

/-- A merged frame names the zones of both frames (R101). -/
theorem mergeFrames_tripsZone {q f m : Frame} (h : mergeFrames q f = some m) (z : Fin 8) :
    m.tripsZone z = (q.tripsZone z || f.tripsZone z) := by
  unfold mergeFrames at h
  split at h
  · cases h; simp [Frame.tripsZone, maskBit]
  · cases h; rfl
  · cases h; rfl
  · cases h; rfl
  · cases h

/-- The merge adds the offered frame's zones to the queue's. -/
theorem queueTrips_replaceContent {f m : Frame} {q : Queued} {l : List Queued}
    (found : l.find? (fun x => sameLimit x.frame f) = some q) (merged : mergeFrames q.frame f = some m)
    (z : Fin 8) : queueTrips z (replaceContent f m l) = (queueTrips z l || f.tripsZone z) := by
  induction l with
  | nil => cases found
  | cons x l ih =>
    unfold replaceContent
    cases e : sameLimit x.frame f
    · rw [List.find?_cons_of_neg (by simp [e])] at found
      simp [ih found, Bool.or_assoc]
    · rw [List.find?_cons_of_pos (by simp [e])] at found
      cases found
      simp [mergeFrames_tripsZone merged, Bool.or_comm, Bool.or_left_comm]

/-- A full queue loses its last frame. -/
theorem queueTrips_dropLast {l : List Queued} {last : Queued} (h : l.getLast? = some last) (z : Fin 8) :
    queueTrips z l = (queueTrips z l.dropLast || last.frame.tripsZone z) := by
  obtain ⟨init, rfl⟩ := List.getLast?_eq_some_iff.mp h
  simp

/-- An offer taken up adds the frame's zones to those that the queue's TRIPs name, and a refused one adds none: a
frame that gives way is no TRIP (R101, R102). -/
theorem offer_queueTrips {f : Frame} (hf : 1 ≤ f.code) (z : Fin 8) (s : State) :
    queueTrips z (offer f s).1.bus.queue = (queueTrips z s.bus.queue || ((offer f s).2 && f.tripsZone z)) := by
  unfold offer
  split
  · simp
  · split
    next q found =>
      split
      next m merged => simp [queueTrips_replaceContent found merged]
      next =>
        split
        next release =>
          have hf : f.code ≠ 1 := by
            unfold replacesHold at release
            split at release <;> simp_all [Frame.code]
          have kept := queueTrips_filter (z := z) (p := fun x => !sameLimit x.frame f) (l := s.bus.queue)
            fun x _ e => sameLimit_tripsZone z (by simpa using e) hf
          simp [kept, newEntry, Bool.or_comm]
        next => simp
    next =>
      split
      · simp [newEntry, Bool.or_comm]
      · split
        next last full =>
          split
          next lower =>
            have notTrip : last.frame.tripsZone z = false := tripsZone_of_code z (by omega)
            simp [newEntry, queueTrips_dropLast full z, notTrip, Bool.or_comm]
          next => simp
        next => simp

theorem offer_queueTrips_same {f : Frame} (hf : 1 < f.code) (z : Fin 8) (s : State) :
    queueTrips z (offer f s).1.bus.queue = queueTrips z s.bus.queue := by
  simp [offer_queueTrips (Nat.le_of_lt hf), tripsZone_of_code z hf]

theorem claimIfDue_queueTrips (e z : Fin 8) (s : State) :
    queueTrips z (claimIfDue e s).bus.queue = queueTrips z s.bus.queue := by
  have claim : ∀ c, queueTrips z (claimGroup e c s).bus.queue = queueTrips z s.bus.queue := fun c => by
    have offered := offer_queueTrips_same (f := .claim (s.member e).group c) (by simp [Frame.code]) z
      (modEntry e (fun x => { x.moved .claiming with claimChannel := some c }) s)
    unfold claimGroup
    dsimp only
    split <;> simpa using offered
  unfold claimIfDue
  (repeat' split) <;> first | rfl | exact claim _

theorem buildFault_queueTrips (c z : Fin 8) (s : State) :
    queueTrips z (buildFault c s).bus.queue = queueTrips z s.bus.queue := by
  have offered := offer_queueTrips_same (f := faultFrame s c) (by simp [faultFrame, Frame.code]) z s
  unfold buildFault
  dsimp only
  split
  · split <;> simpa using offered
  · rfl

theorem buildPoints_queueTrips (z : Fin 8) (s : State) :
    queueTrips z (buildPoints s).bus.queue = queueTrips z s.bus.queue := by
  have offered := fun pairs => offer_queueTrips_same (f := .points pairs) (by simp [Frame.code]) z
  unfold buildPoints offerOnly
  dsimp only
  split
  · split <;> simpa [setPubs] using offered _ _
  · rfl

/-- The frames that an event leaves due name no zone and displace no TRIP (R32, R89, R148). -/
@[simp] theorem buildDue_queueTrips (z : Fin 8) (s : State) :
    queueTrips z (buildDue s).bus.queue = queueTrips z s.bus.queue := by
  have claims := each8_keeps (fun s => queueTrips z s.bus.queue) claimIfDue
    (fun e s => claimIfDue_queueTrips e z s) s
  have faults := each8_keeps (fun s => queueTrips z s.bus.queue) buildFault
    (fun c s => buildFault_queueTrips c z s) (each8 claimIfDue s)
  rw [buildDue, buildPoints_queueTrips, buildFaults, faults, claims]

/-! ## Zone z leaves the queued TRIP -/

theorem withdrawFrames_queue (p : Frame → Bool) (s : State) :
    (withdrawFrames p s).bus.queue = s.bus.queue.filter fun q => !p q.frame := by
  unfold withdrawFrames State.queues
  split
  · simp
  · rename_i none
    refine (List.filter_eq_self.mpr fun q hq => ?_).symm
    simp_all

theorem editFrames_queue (g : Frame → Frame) (s : State) :
    (editFrames g s).bus.queue = s.bus.queue.map fun q => { q with frame := g q.frame } := rfl

theorem maskBit_without (m : Byte) (y z : Fin 8) :
    maskBit (m &&& ~~~(1#8 <<< z.val)) y = (maskBit m y && decide (y ≠ z)) := by
  fin_cases y <;> fin_cases z <;> simp [maskBit]

theorem maskBit_zoneMask (y z : Fin 8) : maskBit (zoneMask z) y = decide (y = z) := by
  fin_cases y <;> fin_cases z <;> rfl

theorem withoutZoneTrip_tripsZone (y z : Fin 8) (f : Frame) :
    (withoutZoneTrip z f).tripsZone y = (f.tripsZone y && decide (y ≠ z)) := by
  cases f with
  | trip m k => exact maskBit_without m y z
  | _ => rfl

/-- Zone z alone leaves the queued TRIP; an empty TRIP, which is withdrawn, names no zone (R63, R68). -/
@[simp] theorem removeFromTrip_queueTrips (y z : Fin 8) (s : State) :
    queueTrips y (removeFromTrip z s).bus.queue = (queueTrips y s.bus.queue && decide (y ≠ z)) := by
  have withdrawn := queueTrips_filter (z := y) (p := fun q => !emptyTrip q.frame)
    (l := (editFrames (withoutZoneTrip z) s).bus.queue) fun q _ e => by
      cases f : q.frame <;> simp_all [emptyTrip, Frame.tripsZone, maskBit]
  have edited : ∀ l : List Queued, queueTrips y (l.map fun q => { q with frame := withoutZoneTrip z q.frame }) =
      (queueTrips y l && decide (y ≠ z)) := fun l => by
    induction l with
    | nil => rfl
    | cons q l ih =>
      simp only [List.map_cons, queueTrips_cons, ih, withoutZoneTrip_tripsZone, Bool.and_or_distrib_right]
  rw [removeFromTrip, withdrawFrames_queue, withdrawn, editFrames_queue, edited]

/-! ## Limits and order -/

/-- The queue keeps the limits of R101 and the order of R100. -/
def queueFits (l : List Queued) : Prop :=
  l.Pairwise fun a b => sameLimit a.frame b.frame = false ∧ a.frame.code ≤ b.frame.code

theorem limitsHold_iff (l : List Queued) :
    limitsHold l = true ↔ l.Pairwise fun a b => sameLimit a.frame b.frame = false := by
  induction l with
  | nil => simp [limitsHold]
  | cons q l ih => simp [limitsHold, ih]

theorem codesRise_iff (l : List Queued) :
    codesRise l = true ↔ l.Pairwise fun a b => a.frame.code ≤ b.frame.code := by
  induction l with
  | nil => simp [codesRise]
  | cons q l ih => simp [codesRise, ih]

theorem queueFits_of_sound {s : State} (sound : s.queueSound = true) (ordered : s.queueOrdered = true) :
    queueFits s.bus.queue := by
  simp only [State.queueSound, Bool.and_eq_true, limitsHold_iff] at sound
  exact sound.2.and ((codesRise_iff _).mp ordered)

theorem sameLimit_comm (a b : Frame) : sameLimit a b = sameLimit b a := by
  cases a <;> cases b <;> first | rfl | exact BEq.comm

/-- A frame that takes the place of another under its limits and with its kind code. -/
def Frame.standsFor (m q : Frame) : Prop := m.code = q.code ∧ ∀ g, sameLimit m g = sameLimit q g

theorem mergeFrames_standsFor {q f m : Frame} (h : mergeFrames q f = some m) : m.standsFor q := by
  unfold mergeFrames at h
  split at h <;> cases h <;> exact ⟨rfl, fun g => by cases g <;> rfl⟩

theorem residue_standsFor {q f m : Frame} (h : residue q f = some m) : m.standsFor q := by
  unfold residue at h
  split at h <;> (try split at h) <;> cases h <;> exact ⟨rfl, fun g => by cases g <;> rfl⟩

theorem withoutZoneTrip_standsFor (z : Fin 8) (f : Frame) : (withoutZoneTrip z f).standsFor f := by
  cases f with
  | trip m k => exact ⟨rfl, fun g => by cases g <;> rfl⟩
  | _ => exact ⟨rfl, fun _ => rfl⟩

theorem Frame.standsFor.limit_right {m q : Frame} (h : m.standsFor q) (g : Frame) :
    sameLimit g m = sameLimit g q := by
  rw [sameLimit_comm, h.2, sameLimit_comm]

theorem mem_insertByCode {x q : Queued} {l : List Queued} (h : x ∈ insertByCode q l) : x = q ∨ x ∈ l := by
  induction l with
  | nil => simpa [insertByCode] using h
  | cons y l ih =>
    unfold insertByCode at h
    split at h
    · rcases List.mem_cons.mp h with rfl | h
      · simp
      · rcases ih h with h | h <;> simp [h]
    · simpa using h

theorem insertByCode_fits {q : Queued} {l : List Queued} (fits : queueFits l)
    (free : ∀ x ∈ l, sameLimit x.frame q.frame = false) : queueFits (insertByCode q l) := by
  induction l with
  | nil => exact List.pairwise_singleton _ _
  | cons y l ih =>
    obtain ⟨head, tail⟩ := List.pairwise_cons.mp fits
    unfold insertByCode
    split
    next before =>
      refine List.pairwise_cons.mpr ⟨fun x hx => ?_, ih tail fun x hx => free x (List.mem_cons_of_mem y hx)⟩
      rcases mem_insertByCode hx with rfl | hx
      · exact ⟨free y List.mem_cons_self, before⟩
      · exact head x hx
    next after =>
      refine List.pairwise_cons.mpr ⟨fun x hx => ⟨by rw [sameLimit_comm]; exact free x hx, ?_⟩, fits⟩
      rcases List.mem_cons.mp hx with rfl | hx
      · omega
      · have := (head x hx).2
        omega

theorem mem_replaceContent {f m : Frame} {q x : Queued} {l : List Queued}
    (found : l.find? (fun x => sameLimit x.frame f) = some q) (h : x ∈ replaceContent f m l) :
    x ∈ l ∨ x = { q with frame := m } ∧ q ∈ l := by
  induction l with
  | nil => cases found
  | cons y l ih =>
    unfold replaceContent at h
    cases e : sameLimit y.frame f
    · rw [List.find?_cons_of_neg (by simp [e])] at found
      simp only [e, Bool.false_eq_true, if_false] at h
      rcases List.mem_cons.mp h with rfl | h
      · simp
      · rcases ih found h with h | ⟨h, hq⟩ <;> simp [*]
    · rw [List.find?_cons_of_pos (by simp [e])] at found
      cases found
      simp only [e, if_true] at h
      rcases List.mem_cons.mp h with rfl | h <;> simp [*]

theorem replaceContent_fits {f m : Frame} {q : Queued} {l : List Queued} (fits : queueFits l)
    (found : l.find? (fun x => sameLimit x.frame f) = some q) (same : m.standsFor q.frame) :
    queueFits (replaceContent f m l) := by
  induction l with
  | nil => cases found
  | cons y l ih =>
    obtain ⟨head, tail⟩ := List.pairwise_cons.mp fits
    unfold replaceContent
    cases e : sameLimit y.frame f
    · rw [List.find?_cons_of_neg (by simp [e])] at found
      refine List.pairwise_cons.mpr ⟨fun x hx => ?_, ih tail found⟩
      rcases mem_replaceContent found hx with hx | ⟨rfl, hq⟩
      · exact head x hx
      · simpa [same.limit_right, same.1] using head q hq
    · rw [List.find?_cons_of_pos (by simp [e])] at found
      cases found
      exact List.pairwise_cons.mpr ⟨fun x hx => by simpa [same.2, same.1] using head x hx, tail⟩

/-- An offer keeps the limits and the order (R100 to R102). -/
theorem offer_fits {f : Frame} {s : State} (fits : queueFits s.bus.queue) :
    queueFits (offer f s).1.bus.queue := by
  unfold offer
  split
  · exact fits
  · split
    next q found =>
      split
      next m merged => exact replaceContent_fits fits found (mergeFrames_standsFor merged)
      next =>
        split
        · exact insertByCode_fits (fits.sublist List.filter_sublist) fun x hx => by
            simpa [newEntry] using (List.mem_filter.mp hx).2
        · exact fits
    next none =>
      have free : ∀ x ∈ s.bus.queue, sameLimit x.frame f = false := by simpa using none
      split
      · exact insertByCode_fits fits free
      · split
        next last full =>
          split
          · simpa using insertByCode_fits (q := newEntry s.now f) (fits.sublist (List.dropLast_sublist _))
              fun x hx => free x (List.dropLast_subset _ hx)
          · simpa using fits
        next => exact fits

theorem removeFromTrip_fits {z : Fin 8} {s : State} (fits : queueFits s.bus.queue) :
    queueFits (removeFromTrip z s).bus.queue := by
  rw [removeFromTrip, withdrawFrames_queue, editFrames_queue]
  refine List.Pairwise.sublist List.filter_sublist (fits.map _ fun a b h => ?_)
  have sa := withoutZoneTrip_standsFor z a.frame
  have sb := withoutZoneTrip_standsFor z b.frame
  exact ⟨by rw [sa.2, sb.limit_right]; exact h.1, by rw [sa.1, sb.1]; exact h.2⟩

theorem mem_settleTaken {f : Frame} {x : Queued} {l : List Queued} (h : x ∈ settleTaken f l) :
    ∃ q ∈ l, x.frame.standsFor q.frame := by
  have refl : ∀ g : Frame, g.standsFor g := fun g => ⟨rfl, fun _ => rfl⟩
  induction l with
  | nil => cases h
  | cons y l ih =>
    unfold settleTaken at h
    split at h
    · split at h
      next m left =>
        rcases List.mem_cons.mp h with rfl | h
        · exact ⟨y, List.mem_cons_self, residue_standsFor left⟩
        · exact ⟨x, List.mem_cons_of_mem y h, refl _⟩
      next => exact ⟨x, List.mem_cons_of_mem y h, refl _⟩
    · rcases List.mem_cons.mp h with rfl | h
      · exact ⟨x, List.mem_cons_self, refl _⟩
      · obtain ⟨q, hq, same⟩ := ih h
        exact ⟨q, List.mem_cons_of_mem y hq, same⟩

/-- The taken frame's entry leaves, or what is left of it stays in its place (R104). -/
theorem settleTaken_fits {f : Frame} {l : List Queued} (fits : queueFits l) : queueFits (settleTaken f l) := by
  induction l with
  | nil => exact List.Pairwise.nil
  | cons y l ih =>
    obtain ⟨head, tail⟩ := List.pairwise_cons.mp fits
    unfold settleTaken
    split
    · split
      next m left =>
        have same := residue_standsFor left
        exact List.pairwise_cons.mpr ⟨fun x hx => by simpa [same.2, same.1] using head x hx, tail⟩
      next => exact tail
    · refine List.pairwise_cons.mpr ⟨fun x hx => ?_, ih tail⟩
      obtain ⟨q, hq, same⟩ := mem_settleTaken hx
      rw [same.limit_right, same.1]
      exact head q hq

/-! ## A TRIP finds room -/

theorem sameLimit_trip {f : Frame} {m : Byte} {k : TripCause} (h : sameLimit f (.trip m k) = true) :
    ∃ n c, f = .trip n c := by
  cases f with
  | trip n c => exact ⟨n, c, rfl⟩
  | _ => cases h

/-- A kind code of at most 1 is that of a MARK or of a TRIP. -/
theorem mark_of_code {f : Frame} {m : Byte} {k : TripCause} (free : sameLimit f (.trip m k) = false)
    (h : f.code ≤ 1) : ∃ n, f = .mark n := by
  cases f with
  | mark n => exact ⟨n, rfl⟩
  | trip n c => cases free
  | _ => simp [Frame.code] at h

/-- No queue whose last frame has a kind code of at most 1 is full: it holds one MARK and one TRIP at most. -/
theorem last_above_trip {l : List Queued} {last : Queued} {m : Byte} {k : TripCause} (fits : queueFits l)
    (free : ∀ x ∈ l, sameLimit x.frame (.trip m k) = false) (two : 2 ≤ l.length)
    (h : l.getLast? = some last) : 1 < last.frame.code := by
  by_contra low
  match l, two with
  | a :: b :: rest, _ =>
    obtain ⟨head, tail⟩ := List.pairwise_cons.mp fits
    have lastMem : last ∈ b :: rest := List.mem_of_getLast? (by simpa using h)
    obtain ⟨limit, order⟩ := head last lastMem
    obtain ⟨n, hn⟩ := mark_of_code (free a List.mem_cons_self) (by omega)
    obtain ⟨p, hp⟩ := mark_of_code (free last (List.mem_cons_of_mem a lastMem)) (by omega)
    rw [hn, hp] at limit
    cases limit

/-- An ON-LINE node whose queue keeps its limits and its order takes up every TRIP (R100 to R102). -/
theorem offer_trip_taken {m : Byte} {k : TripCause} {s : State} (onLine : s.bus.state = .onLine)
    (fits : queueFits s.bus.queue) : (offer (.trip m k) s).2 = true := by
  unfold offer
  rw [if_neg (by simp [onLine, admits])]
  split
  next q found =>
    have same : sameLimit q.frame (.trip m k) = true := by simpa using List.find?_some found
    obtain ⟨n, c, trip⟩ := sameLimit_trip same
    simp [trip, mergeFrames]
  next none =>
    have free : ∀ x ∈ s.bus.queue, sameLimit x.frame (.trip m k) = false := by simpa using none
    split
    · rfl
    next full =>
      have twelve : 12 ≤ s.bus.queue.length := Nat.not_lt.mp full
      split
      next last h =>
        have above : (Frame.trip m k).code < last.frame.code := last_above_trip fits free (by omega) h
        rw [if_pos above]
      next h =>
        simp only [List.getLast?_eq_none_iff] at h
        simp [h] at twelve

end Sys2Proof.Machine
end

section
/-! PROOFS. The eight steps of an event taken as one, and what an event leaves raised: ZONE-CHANGE and the node
flags. -/

namespace Sys2Proof.Machine

open Sys2Proof

/-! ## The eight steps of an event, by a relation -/

section
variable {R : State → State → Prop} (refl : ∀ s, R s s) (trans : ∀ {s t u}, R s t → R t u → R s u)
include refl trans

/-- What relates each step's state to the next relates the first state to the last. -/
theorem steps_relate {f : Fin 8 → State → State} {l : List (Fin 8)} (step : ∀ n ∈ l, ∀ s, R s (f n s)) (s : State) :
    R s (l.foldl (fun s n => f n s) s) := by
  induction l generalizing s with
  | nil => exact refl s
  | cons d l ih =>
    exact trans (step d List.mem_cons_self s) (ih (fun n hn => step n (List.mem_cons_of_mem d hn)) (f d s))

/-- One step, between the steps before it and those after it. -/
theorem steps_around {f : Fin 8 → State → State} {l : List (Fin 8)} {c : Fin 8} (once : l.Nodup) (mem : c ∈ l)
    (others : ∀ d, d ≠ c → ∀ s, R s (f d s)) (s : State) :
    ∃ u, R s u ∧ R (f c u) (l.foldl (fun s n => f n s) s) := by
  induction l generalizing s with
  | nil => cases mem
  | cons d l ih =>
    obtain ⟨notIn, once⟩ := List.nodup_cons.mp once
    rcases List.mem_cons.mp mem with rfl | mem
    · exact ⟨s, refl s, steps_relate refl trans (fun n hn => others n (ne_of_mem_of_not_mem hn notIn)) _⟩
    · obtain ⟨u, before, after⟩ := ih once mem (f d s)
      exact ⟨u, trans (others d (ne_of_mem_of_not_mem mem notIn).symm s) before, after⟩

theorem each8_relates {f : Fin 8 → State → State} (step : ∀ n s, R s (f n s)) (s : State) : R s (each8 f s) :=
  steps_relate (l := eightIndices) refl trans (fun n _ => step n) s

theorem each8_around {f : Fin 8 → State → State} (c : Fin 8) (others : ∀ d, d ≠ c → ∀ s, R s (f d s)) (s : State) :
    ∃ u, R s u ∧ R (f c u) (each8 f s) :=
  steps_around (l := eightIndices) refl trans (by decide) (by fin_cases c <;> decide) others s

end

/-! ## ZONE-CHANGE stands -/

@[simp] theorem enterState_zoneChange (x : ChannelState) (c : Fin 8) (s : State) :
    (enterState x c s).host.events.zoneChange = s.host.events.zoneChange := by
  unfold enterState
  dsimp only
  (repeat' split) <;> simp

@[simp] theorem enterReleasing_zoneChange (x : Target) (c : Fin 8) (s : State) :
    (enterReleasing x c s).host.events.zoneChange = s.host.events.zoneChange := by
  simp [enterReleasing]

@[simp] theorem startChannel_zoneChange (c : Fin 8) (s : State) :
    (startChannel c s).host.events.zoneChange = s.host.events.zoneChange := by
  unfold startChannel
  (repeat' split) <;> simp

@[simp] theorem enterOff_zoneChange (c : Fin 8) (s : State) :
    (enterOff c s).host.events.zoneChange = s.host.events.zoneChange := by
  unfold enterOff seeDemandInOff startIfDue
  dsimp only
  (repeat' split) <;> simp

@[simp] theorem forceCause_zoneChange (k : Cause) (c : Fin 8) (s : State) :
    (forceCause k c s).host.events.zoneChange = s.host.events.zoneChange := by
  unfold forceCause addCause
  dsimp only
  (repeat' split) <;> simp

@[simp] theorem withdrawCause_zoneChange (k : Cause) (c : Fin 8) (s : State) :
    (withdrawCause k c s).host.events.zoneChange = s.host.events.zoneChange := by
  unfold withdrawCause setRearm
  dsimp only
  (repeat' split) <;> simp

/-- ZONE-CHANGE and the sticky flags of s stand in t. -/
structure KeepsNews (s t : State) : Prop where
  event : t.host.events.zoneChange = s.host.events.zoneChange
  flags : ∀ f, s.flagSticky f = true → t.flagSticky f = true

namespace KeepsNews

theorem refl (s : State) : KeepsNews s s := ⟨rfl, fun _ h => h⟩

theorem trans {s t u : State} (h : KeepsNews s t) (k : KeepsNews t u) : KeepsNews s u :=
  ⟨k.event.trans h.event, fun f x => k.flags f (h.flags f x)⟩

theorem of_same {s t : State} (event : t.host.events = s.host.events) (flags : t.faults.flags = s.faults.flags) :
    KeepsNews s t :=
  ⟨by rw [event], fun f h => by rwa [State.flagSticky, flags]⟩

end KeepsNews

theorem raiseFlag_sticky (f : NodeFlag) (s : State) :
    (raiseFlag f s).faults.flags.sticky = s.faults.flags.sticky ||| f.mask := by
  unfold raiseFlag trackErr
  dsimp only
  split <;> simp

theorem raiseFlag_news (f : NodeFlag) (s : State) : KeepsNews s (raiseFlag f s) where
  event := by
    unfold raiseFlag trackErr
    dsimp only
    split <;> simp
  flags g h := by
    simp only [State.flagSticky] at h ⊢
    simp [raiseFlag_sticky, h]

theorem raiseFlag_flagSticky (f : NodeFlag) (s : State) : (raiseFlag f s).flagSticky f = true := by
  simp [State.flagSticky, raiseFlag_sticky, NodeFlag.mask_bit]

theorem displacedNotice_news (f : Frame) (s : State) : KeepsNews s (displacedNotice f s) := by
  unfold displacedNotice
  split <;> exact .of_same (by simp) (by simp [setFaultWaiting])

theorem offer_news (f : Frame) (s : State) : KeepsNews s (offer f s).1 := by
  have queued : ∀ q, KeepsNews s (setQueue q s) := fun q => .of_same rfl rfl
  unfold offer
  (repeat' split) <;>
    first
      | exact .refl s
      | exact queued _
      | exact raiseFlag_news _ s
      | exact ((queued _).trans (raiseFlag_news _ _)).trans (displacedNotice_news _ _)

theorem claimIfDue_news (e : Fin 8) (s : State) : KeepsNews s (claimIfDue e s) := by
  have claim : ∀ c, KeepsNews s (claimGroup e c s) := fun c => by
    have moved : KeepsNews s (modEntry e (fun x => { x.moved .claiming with claimChannel := some c }) s) :=
      .of_same rfl rfl
    have offered := moved.trans (offer_news (.claim (s.member e).group c) _)
    unfold claimGroup
    dsimp only
    split
    · exact offered
    · exact offered.trans (.of_same (by simp) (by simp))
  unfold claimIfDue
  (repeat' split) <;> first | exact .refl s | exact claim _

theorem buildFault_news (c : Fin 8) (s : State) : KeepsNews s (buildFault c s) := by
  have offered := offer_news (faultFrame s c) s
  unfold buildFault
  dsimp only
  split
  · split
    · exact offered.trans (.of_same (by simp) (by simp [setFaultWaiting]))
    · exact offered.trans (.of_same (by simp) (by simp))
  · exact .refl s

theorem buildPoints_news (s : State) : KeepsNews s (buildPoints s) := by
  unfold buildPoints offerOnly
  dsimp only
  split
  · split
    · have carried : KeepsNews s (setPubs (takePending (s.now + 50000 * s.config.refresh) pairsPerFrame
          s.pubs.entries) s) := .of_same rfl rfl
      exact carried.trans (offer_news _ _)
    · exact (offer_news _ s).trans (.of_same rfl rfl)
  · exact .refl s

/-- The frames that an event leaves due take back neither ZONE-CHANGE nor a flag. -/
theorem buildDue_news (s : State) : KeepsNews s (buildDue s) := by
  have claims := each8_relates .refl .trans claimIfDue_news s
  have faults := each8_relates .refl .trans buildFault_news (each8 claimIfDue s)
  rw [buildDue, buildFaults]
  exact (claims.trans faults).trans (buildPoints_news _)

end Sys2Proof.Machine
end

section
/-! PROOFS. The state in which a frame reaches its owner: the own one of an attempt that is done, or one heard from
another station (R95 to R99, R116). -/

namespace Sys2Proof.Machine

open Sys2Proof

/-! ## Where a frame reaches its owner -/

/-- The blocks that no trip, no clear and no score reaches. -/
def State.beyondZones (s : State) : Nat × Bool × Loader × MarkTimer × Eight SenseInput × List Subscription × Link ×
    PowerDie × Eight Bool × Bool × Option Feedback :=
  (s.now, s.held, s.loader, s.marks, s.inputs, s.points, s.link, s.power, s.host.points, s.zones.shutdown,
    s.channels.feedback)

/-- From s, with its score lowered by a good frame, the node is u when the frame reaches its owner: zones, channels
and peers are as they were, and an ON-LINE node is ON-LINE still (R108, R116). -/
structure Accepted (s u : State) : Prop where
  kept : u.beyondZones = s.beyondZones
  zones : u.zones = s.zones
  channels : u.channels = s.channels
  peers : u.faults.peers = s.faults.peers
  score : u.bus.score = s.bus.score - 1
  onLine : s.bus.state = .onLine → u.bus.state = .onLine
  fits : s.bus.state = .onLine → queueFits s.bus.queue → queueFits u.bus.queue

/-- A good frame leaves JOINING, ON-LINE and BARRED alone at these scores, and may bring MUTED to JOINING (R116). -/
theorem judgeScore_after_good {s : State} (active : s.learns = true → s.bus.score ≤ 96)
    (muted : s.bus.state = .muted → s.bus.score ≤ 200) :
    judgeScore (lowerScore s) = lowerScore s ∨
      s.bus.state = .muted ∧ judgeScore (lowerScore s) = enterJoining (lowerScore s) := by
  have state : (lowerScore s).bus.state = s.bus.state := rfl
  have score : (lowerScore s).bus.score = s.bus.score - 1 := rfl
  unfold judgeScore
  rw [state, score]
  cases b : s.bus.state <;> simp only [State.learns, b] at active muted ⊢
  case joining | onLine =>
    have low := active rfl
    rw [if_neg (by omega), if_neg (by omega)]
    simp
  case muted =>
    have low := muted trivial
    split
    · simp
    · rw [if_neg (by omega)]; simp
  all_goals simp

theorem enterJoining_quiet (s : State) :
    (enterJoining s).faults.peers = s.faults.peers ∧ (enterJoining s).host.points = s.host.points ∧
    (enterJoining s).bus.score = s.bus.score := by
  unfold enterJoining offerHello setFlagLive
  (repeat' split) <;> simp

/-- The node as another station's good frame finds it (R96). -/
def State.afterHearing (s : State) : State := judgeScore (lowerScore (setRejecting false s))

theorem afterHearing_accepted {s : State} {source : Station} (h : s.hears source) : Accepted s s.afterHearing := by
  obtain ⟨-, -, -, -, -, limit⟩ := h
  have lowered : Accepted s (lowerScore (setRejecting false s)) := ⟨rfl, rfl, rfl, rfl, rfl, id, fun _ => id⟩
  have judged := judgeScore_after_good (s := setRejecting false s)
    (fun e => by cases b : s.bus.state <;> simp_all [State.learns])
    (fun e => by simp_all)
  unfold State.afterHearing
  rcases judged with stays | ⟨muted, joins⟩
  · rw [stays]; exact lowered
  · have off : s.bus.state ≠ .onLine := fun e => by simp_all
    have quiet := enterJoining_quiet (lowerScore (setRejecting false s))
    rw [joins]
    exact ⟨by simp [State.beyondZones, quiet], by simp, by simp, quiet.1, quiet.2.2.trans lowered.score,
      fun e => absurd e off, fun e => absurd e off⟩

/-- The node as its own frame finds it when the attempt is done: the frame has left the queue (R95, R104). -/
def State.afterSending (f : Frame) (s : State) : State :=
  let rest := settleTaken f s.bus.queue
  let t := setBus { s.bus with attempt := none, queue := rest } s
  judgeScore (lowerScore (if rest.length < s.bus.queue.length then roomNotice t else t))

theorem afterSending_accepted {s : State} {f : Frame} (h : s.sends f) : Accepted s (s.afterSending f) := by
  obtain ⟨-, onLine, -, score⟩ := h
  have settled : ∀ t : State, t.bus = { s.bus with attempt := none, queue := settleTaken f s.bus.queue } →
      t.beyondZones = s.beyondZones → t.zones = s.zones → t.channels = s.channels →
      t.faults.peers = s.faults.peers → Accepted s (judgeScore (lowerScore t)) := by
    intro t bus kept zones channels peers
    have judged : judgeScore (lowerScore t) = lowerScore t := by
      rcases judgeScore_after_good (s := t) (by simp [bus, score]) (by simp [bus, onLine]) with stays | ⟨muted, -⟩
      · exact stays
      · simp [bus, onLine] at muted
    rw [judged]
    refine ⟨by simpa [State.beyondZones] using kept, zones, channels, peers, ?_, ?_, ?_⟩
    · show t.bus.score - 1 = s.bus.score - 1
      rw [bus]
    · intro _
      show t.bus.state = .onLine
      rw [bus]; exact onLine
    · intro _ fits
      show queueFits t.bus.queue
      rw [bus]; exact settleTaken_fits fits
  unfold State.afterSending
  dsimp only
  split <;> exact settled _ rfl rfl rfl rfl rfl

/-- Another station's well-formed frame reaches its owner (R97 to R99). -/
theorem hear_of_hears {s : State} {source : Station} {kind : Nat} {payload : List Byte} {f : Frame}
    (h : s.hears source) (parsed : Frame.parse kind payload = some f) :
    hear kind source payload s = buildDue (dispatch false source f s.afterHearing) := by
  have takes := takesFrom_of_hears h
  obtain ⟨-, -, low, high, other, -⟩ := h
  have station : ¬(source = 0 ∨ source = 63) := by
    rintro (rfl | rfl) <;> simp_all
  simp [hear, takes, station, parsed, other, State.afterHearing]

/-- A malformed frame raises the flag, and no owner sees it (R98). -/
theorem hear_of_malformed {s : State} {source : Station} {kind : Nat} {payload : List Byte}
    (h : s.hears source) (malformed : Frame.parse kind payload = none) :
    hear kind source payload s = buildDue (raiseFlag .malformedFrame s.afterHearing) := by
  simp [hear, takesFrom_of_hears h, malformed, State.afterHearing]

/-- A frame that arrives reaches its owner, in an accepted state; frames are due after it. The notice "taken" is none
of this frame's (R90, R97, R113). -/
theorem takeFrame_of_arrives {s : State} {f : Frame} {source : Station} {a : Arrival} (h : s.arrives f source a)
    (parsed : Frame.parse f.code f.payload = some f) (silent : ∀ t, takenNotice f t = t) :
    ∃ own u, Accepted s u ∧ takeFrame f.code a s = buildDue (dispatch own source f u) := by
  cases a with
  | heard station payload =>
    obtain ⟨rfl, rfl, -, hears⟩ := h
    exact ⟨false, _, afterHearing_accepted hears, hear_of_hears hears parsed⟩
  | own =>
    obtain ⟨sends, rfl⟩ := h
    refine ⟨true, _, afterSending_accepted sends, ?_⟩
    obtain ⟨-, -, attempt, -⟩ := sends
    simp [takeFrame, attempt, completeAttempt, silent, State.afterSending]

end Sys2Proof.Machine
end

section
/-! PROOFS. A cause forced on a channel and withdrawn from it, and what an event at zones leaves beside them (R19,
R20, R60 to R68). -/

namespace Sys2Proof.Machine

open Sys2Proof

/-! ## A cause forced and a cause withdrawn, at one channel -/

/-- R19: what a forced cause does to its channel. -/
theorem forceCause_forced (k : Cause) (c : Fin 8) (s : State) : s.forced (forceCause k c s) k c := by
  unfold State.forced forceCause
  dsimp only
  cases has : (s.chan c).causes.has k
  · cases st : (s.chan c).state <;> simp [st, addCause, enterReleasing, State.messageOf]
  · simp

/-- Entry to OFF with rearm pending as demand gives it: no start follows, and nothing is sent (R9, R10). -/
theorem enterOff_setRearm (c : Fin 8) (s : State) :
    (enterOff c (setRearm c s)).sentBy c = s.sentBy c ∧
    (enterOff c (setRearm c s)).chan c =
      { s.chan c with state := .off, rearm := (s.chan c).demand, confirm := none, offCheck := none } := by
  unfold enterOff seeDemandInOff startIfDue setRearm
  cases d : (s.chan c).demand <;> simp [d, confirmAtEntry, ChannelState.confirmedOn]

theorem CauseSet.put_of_not_has {x : CauseSet} {k : Cause} (h : x.has k = false) : x.put k false = x := by
  cases k <;> cases x <;> simp_all [CauseSet.has, CauseSet.put]

/-- R20: what a withdrawn cause does to its channel. -/
theorem withdrawCause_withdrawn (k : Cause) (c : Fin 8) (s : State) : s.withdrawn (withdrawCause k c s) k c := by
  unfold State.withdrawn withdrawCause
  dsimp only
  cases has : (s.chan c).causes.has k
  · simp [CauseSet.put_of_not_has has]
  · by_cases empty : (s.chan c).causes.put k false = CauseSet.empty
    · cases st : (s.chan c).state
      case locked => simp [empty, enterOff_setRearm]
      case releasing =>
        by_cases locked : (s.chan c).target = .locked <;> simp [empty, locked, setRearm, st]
      all_goals simp [empty, st]
    · cases st : (s.chan c).state <;> simp [empty, st]

namespace Alike

variable {c : Fin 8} {k : Cause} {s s' t t' : State}

theorem sameChannel (h : Alike c s s') (h' : Alike c t t') (r : s.sameChannel t c) : s'.sameChannel t' c :=
  ⟨(h'.chan.trans r.1).trans h.chan.symm, (h'.sent.trans r.2).trans h.sent.symm⟩

theorem forced (h : Alike c s s') (h' : Alike c t t') (r : s.forced t k c) : s'.forced t' k c := by
  simpa only [State.forced, h.chan, h.sent, h'.chan, h'.sent, h.messageOf] using r

theorem withdrawn (h : Alike c s s') (h' : Alike c t t') (r : s.withdrawn t k c) : s'.withdrawn t' k c := by
  simpa only [State.withdrawn, h.chan, h.sent, h'.chan, h'.sent, h.pathReady] using r

end Alike

/-! ## What an event at zones leaves beside them -/

theorem alike_of_kept {s t : State} {c : Fin 8} (kept : t.beyondZones = s.beyondZones) (same : s.sameChannel t c) :
    Alike c s t := by
  simp only [State.beyondZones, Prod.mk.injEq] at kept
  obtain ⟨now, -, loader, -, -, -, link, -, -, -, feedback⟩ := kept
  exact ⟨now, loader, link, feedback, same.1, same.2⟩

theorem alike_of_channels {s t : State} (kept : t.beyondZones = s.beyondZones) (channels : t.channels = s.channels)
    (c : Fin 8) : Alike c s t :=
  alike_of_kept kept ⟨by simp [State.chan, channels], by simp [State.sentBy, channels]⟩

/-- From s to t, an event acted on zones that meet p: the other zones and their channels are as they were, the
queued TRIPs name the same other zones, and of the rest of the node only the queue, the flags, the fault records,
the publications and the host events may differ. -/
structure Beside (p : Fin 8 → Prop) (s t : State) : Prop where
  kept : t.beyondZones = s.beyondZones
  line : t.bus.state = s.bus.state ∧ t.bus.score = s.bus.score
  event : s.host.events.zoneChange = true → t.host.events.zoneChange = true
  fits : queueFits s.bus.queue → queueFits t.bus.queue
  zone : ∀ y, ¬p y → t.zone y = s.zone y
  trips : ∀ y, ¬p y → queueTrips y t.bus.queue = queueTrips y s.bus.queue
  channel : ∀ c, (∀ z, (s.cfg c).zone = some z → ¬p z) → s.sameChannel t c

namespace Beside

variable {p : Fin 8 → Prop} {s t u : State}

theorem loader (h : Beside p s t) : t.loader = s.loader := congrArg (fun x => x.2.2.1) h.kept

theorem cfg (h : Beside p s t) (c : Fin 8) : t.cfg c = s.cfg c := by
  simp [State.cfg, State.config, h.loader]

theorem alike (h : Beside p s t) {c : Fin 8} (apart : ∀ z, (s.cfg c).zone = some z → ¬p z) : Alike c s t :=
  alike_of_kept h.kept (h.channel c apart)

theorem refl (p : Fin 8 → Prop) (s : State) : Beside p s s :=
  ⟨rfl, ⟨rfl, rfl⟩, id, id, fun _ _ => rfl, fun _ _ => rfl, fun _ _ => ⟨rfl, rfl⟩⟩

theorem trans (h : Beside p s t) (k : Beside p t u) : Beside p s u where
  kept := k.kept.trans h.kept
  line := ⟨k.line.1.trans h.line.1, k.line.2.trans h.line.2⟩
  event := k.event ∘ h.event
  fits := k.fits ∘ h.fits
  zone y hy := (k.zone y hy).trans (h.zone y hy)
  trips y hy := (k.trips y hy).trans (h.trips y hy)
  channel c hc :=
    have first := h.channel c hc
    have second := k.channel c (by rwa [h.cfg])
    ⟨second.1.trans first.1, second.2.trans first.2⟩

theorem mono {q : Fin 8 → Prop} (h : Beside p s t) (weaker : ∀ z, p z → q z) : Beside q s t where
  kept := h.kept
  line := h.line
  event := h.event
  fits := h.fits
  zone y hy := h.zone y (mt (weaker y) hy)
  trips y hy := h.trips y (mt (weaker y) hy)
  channel c hc := h.channel c fun z hz => mt (weaker z) (hc z hz)

end Beside

/-! ## The zone's own updates -/

theorem setZone_zone (y z : Fin 8) (x : Zone) (s : State) :
    (setZone z x s).zone y = if y = z then x else s.zone y := by
  simp [State.zone, setZone, Eight.get_set]

theorem setZone_beside (z : Fin 8) (x : Zone) (s : State) : Beside (· = z) s (setZone z x s) :=
  ⟨rfl, ⟨rfl, rfl⟩, id, id, fun y hy => by simp [setZone_zone, hy], fun _ _ => rfl, fun _ _ => ⟨rfl, rfl⟩⟩

theorem setZoneChange_beside (p : Fin 8 → Prop) (s : State) : Beside p s (setZoneChange s) :=
  ⟨rfl, ⟨rfl, rfl⟩, fun _ => rfl, id, fun _ _ => rfl, fun _ _ => rfl, fun _ _ => ⟨rfl, rfl⟩⟩

/-- An operation on the channels whose configuration passes a test. -/
def onChannels (test : ChannelConfig → Bool) (op : Fin 8 → State → State) (s : State) : State :=
  each8 (fun c s => if test (s.cfg c) then op c s else s) s

section
variable {op : Fin 8 → State → State}

theorem onChannels_alike (own : ∀ c s t, Alike c s t → Alike c (op c s) (op c t))
    (others : ∀ c d, c ≠ d → ∀ s, Alike c s (op d s)) (test : ChannelConfig → Bool) (c : Fin 8) (s : State) :
    Alike c (if test (s.cfg c) then op c s else s) (onChannels test op s) :=
  each8_alike (fun c s => if test (s.cfg c) then op c s else s) c
    (fun s t h => by
      rw [h.cfg]
      split
      · exact own c s t h
      · exact h)
    (fun d h s => by
      split
      · exact others c d h s
      · exact .refl c s)
    s

/-- An operation on channels of zone z that leaves the blocks beside Channel Logic leaves the other zones. -/
theorem onChannels_beside {z : Fin 8} {test : ChannelConfig → Bool} (inZone : ∀ x, test x = true → x.zone = some z)
    (own : ∀ c s t, Alike c s t → Alike c (op c s) (op c t)) (others : ∀ c d, c ≠ d → ∀ s, Alike c s (op d s))
    (keeps : ∀ c s, (op c s).beyondZones = s.beyondZones ∧ (op c s).zones = s.zones ∧ (op c s).bus = s.bus ∧
      (op c s).host.events.zoneChange = s.host.events.zoneChange) (s : State) :
    Beside (· = z) s (onChannels test op s) := by
  have all {α : Type} (g : State → α) (h : ∀ c s, g (op c s) = g s) : g (onChannels test op s) = g s :=
    each8_keeps g _ (fun c s => by split <;> simp [h]) s
  have kept := all State.beyondZones fun c s => (keeps c s).1
  have zones := all State.zones fun c s => (keeps c s).2.1
  have bus := all State.bus fun c s => (keeps c s).2.2.1
  have event := all (fun s => s.host.events.zoneChange) fun c s => (keeps c s).2.2.2
  refine ⟨kept, by simp [bus], event.trans, by simp [bus], by simp [State.zone, zones], by simp [bus], fun c hc => ?_⟩
  have part := onChannels_alike own others test c s
  rw [if_neg fun e => hc z (inZone _ e) rfl] at part
  exact ⟨part.chan, part.sent⟩

end

/-- TRIP forced on a zone is TRIP forced on each of its enabled channels alone (R64). -/
theorem forceTrip_alike (z c : Fin 8) (s : State) :
    Alike c (if (s.cfg c).enabled && (s.cfg c).zone == some z then forceCause .trip c s else s) (forceTrip z s) :=
  onChannels_alike (fun _ _ _ h => h.forceCause .trip) (fun _ _ h s => by constructor <;> simp [h])
    (fun x => x.enabled && x.zone == some z) c s

/-- TRIP withdrawn from a zone is TRIP withdrawn from each of its channels alone (R68). -/
theorem withdrawTrip_alike (z c : Fin 8) (s : State) :
    Alike c (if (s.cfg c).zone == some z then withdrawCause .trip c s else s) (withdrawTrip z s) :=
  onChannels_alike (fun _ _ _ h => h.withdrawCause .trip) (fun _ _ h s => by constructor <;> simp [h])
    (fun x => x.zone == some z) c s

theorem forceTrip_beside (z : Fin 8) (s : State) : Beside (· = z) s (forceTrip z s) :=
  onChannels_beside (test := fun x => x.enabled && x.zone == some z) (op := forceCause .trip)
    (fun _ h => by simp_all) (fun _ _ _ h => h.forceCause .trip) (fun _ _ h s => by constructor <;> simp [h])
    (fun _ _ => by simp [State.beyondZones]) s

theorem withdrawTrip_beside (z : Fin 8) (s : State) : Beside (· = z) s (withdrawTrip z s) :=
  onChannels_beside (test := fun x => x.zone == some z) (op := withdrawCause .trip)
    (fun _ h => by simpa using h) (fun _ _ _ h => h.withdrawCause .trip) (fun _ _ h s => by constructor <;> simp [h])
    (fun _ _ => by simp [State.beyondZones]) s

theorem removeFromTrip_beside (z : Fin 8) (s : State) : Beside (· = z) s (removeFromTrip z s) where
  kept := by simp [State.beyondZones]
  line := by simp
  event := by simp
  fits := removeFromTrip_fits
  zone y _ := by simp [State.zone]
  trips y hy := by simp [hy]
  channel c _ := by simp [State.sameChannel, State.chan, State.sentBy]

/-- A queued TRIP of one zone adds that zone alone to those named (R63, R101). -/
theorem queueTrip_beside (z : Fin 8) (k : TripCause) (s : State) :
    Beside (· = z) s (queueTrip (zoneMask z) k s) where
  kept := by simp [State.beyondZones]
  line := by simp
  event := by
    unfold queueTrip offerOnly
    split
    · rw [(offer_news _ s).event]; exact id
    · exact id
  fits fits := by
    unfold queueTrip offerOnly
    split
    · exact offer_fits fits
    · exact fits
  zone y _ := by simp [State.zone]
  trips y hy := by
    unfold queueTrip offerOnly
    split
    · simp [offer_queueTrips (f := .trip (zoneMask z) k) (Nat.le_refl 1), Frame.tripsZone, maskBit_zoneMask, hy]
    · rfl
  channel c _ := by simp [State.sameChannel, State.chan, State.sentBy]

/-- An ON-LINE node that queues a TRIP of a zone has a queued TRIP that names it (R63). -/
theorem queueTrip_trips {z : Fin 8} {k : TripCause} {s : State} (onLine : s.bus.state = .onLine)
    (fits : queueFits s.bus.queue) : queueTrips z (queueTrip (zoneMask z) k s).bus.queue = true := by
  have named : (zoneMask z != 0) = true := by fin_cases z <;> decide
  have code : 1 ≤ (Frame.trip (zoneMask z) k).code := Nat.le_refl 1
  have due : (s.onLine && zoneMask z != 0) = true := by rw [State.onLine, onLine, named]; rfl
  rw [queueTrip, if_pos due, offerOnly, offer_queueTrips code,
    offer_trip_taken onLine fits]
  simp [Frame.tripsZone, maskBit_zoneMask]

end Sys2Proof.Machine
end

section
/-! PROOFS. A TRIP and a CLEAR as they are taken: what the event does at one zone, and that the zones of a mask each
take their own part alone (R64 to R68). -/

namespace Sys2Proof.Machine

open Sys2Proof

/-! ## The zones of a mask, each its own part -/

/-- From s to t, channel c saw its zone go from tripped or not to tripped or not: forced where an enabled channel's
zone trips (R64), withdrawn where the zone clears (R68), untouched where the zone stays. -/
def State.turned (s t : State) (was is : Bool) (c : Fin 8) : Prop :=
  if is = was then s.sameChannel t c
  else if is = false then s.withdrawn t .trip c
  else if (s.cfg c).enabled = true then s.forced t .trip c else s.sameChannel t c

theorem Alike.turned {c : Fin 8} {s s' t t' : State} {was is : Bool} (h : Alike c s s') (h' : Alike c t t')
    (r : s.turned t was is c) : s'.turned t' was is c := by
  unfold State.turned at r ⊢
  rw [h.cfg]
  split
  next same => rw [if_pos same] at r; exact h.sameChannel h' r
  next turned =>
    rw [if_neg turned] at r
    split
    next clear => rw [if_pos clear] at r; exact h.withdrawn h' r
    next tripped =>
      rw [if_neg tripped] at r
      split
      next enabled => rw [if_pos enabled] at r; exact h.forced h' r
      next disabled => rw [if_neg disabled] at r; exact h.sameChannel h' r

/-- From s to t, zone z turned its entry to x, and nothing beside the zone changed. -/
structure ZoneTurned (z : Fin 8) (s t : State) (x : Zone) : Prop where
  beside : Beside (· = z) s t
  zone : t.zone z = x
  event : x.tripped ≠ (s.zone z).tripped → t.host.events.zoneChange = true
  channel : ∀ c, (s.cfg c).zone = some z → s.turned t (s.zone z).tripped x.tripped c

/-- An effect on one zone that turns the zone's entry as `turn` gives it from the own station and the entry. -/
def ZoneStep (f : Fin 8 → State → State) (turn : Station → Zone → Zone) : Prop :=
  ∀ z s, ZoneTurned z s (f z s) (turn s.loader.station (s.zone z))

/-- From s to t, the zones of a mask took the entries given: what R66 and R68 have in common. -/
def State.tookZones (s t : State) (mask : Byte) (zone : Fin 8 → Zone) : Prop :=
  t.points = s.points ∧ t.marks = s.marks ∧ s.sameSurroundings t ∧ t.bus.score = s.bus.score - 1 ∧
  (∀ z, t.zone z = if maskBit mask z = true then zone z else s.zone z) ∧
  ((∃ z, maskBit mask z = true ∧ (zone z).tripped ≠ (s.zone z).tripped) → t.host.events.zoneChange = true) ∧
  ∀ c, match (s.cfg c).zone with
    | none => s.sameChannel t c
    | some z =>
      if maskBit mask z = false ∨ (zone z).tripped = (s.zone z).tripped then s.sameChannel t c
      else if (zone z).tripped = false then s.withdrawn t .trip c
      else if (s.cfg c).enabled = true then s.forced t .trip c else s.sameChannel t c

theorem onZones_zero (f : Fin 8 → State → State) (s : State) : onZones 0 f s = s := by
  simp [onZones, each8, maskBit]

theorem Accepted.alike {s u : State} (h : Accepted s u) (c : Fin 8) : Alike c s u :=
  alike_of_channels h.kept h.channels c

/-- The node when the frames due after a taken frame are built: dispatch marks the source present (R99). -/
def State.concluded (v : State) (source : Station) : State := buildDue (refreshPeer source v)

theorem concluded_same (v : State) (source : Station) :
    (v.concluded source).beyondZones = v.beyondZones ∧ (v.concluded source).zones = v.zones ∧
    (v.concluded source).channels = v.channels ∧ (v.concluded source).bus.score = v.bus.score ∧
    (v.concluded source).host.events.zoneChange = v.host.events.zoneChange := by
  simp [State.concluded, State.beyondZones, (buildDue_news _).event]

theorem concluded_queueTrips (z : Fin 8) (v : State) (source : Station) :
    queueTrips z (v.concluded source).bus.queue = queueTrips z v.bus.queue := by
  simp [State.concluded]

theorem concluded_alike (c : Fin 8) (v : State) (source : Station) : Alike c v (v.concluded source) := by
  constructor <;> simp [State.concluded, State.chan, State.sentBy]

namespace ZoneStep

variable {f : Fin 8 → State → State} {turn : Station → Zone → Zone} (step : ZoneStep f turn)
include step

/-- Zones outside the mask see nothing of the event. -/
theorem onZones_beside (mask : Byte) (s : State) :
    Beside (fun z => maskBit mask z = true) s (onZones mask f s) :=
  each8_relates (R := Beside fun z => maskBit mask z = true) (.refl _) .trans (fun z s => by
    split
    next named => exact (step z s).beside.mono fun y e => e ▸ named
    next => exact .refl _ s) s

/-- A zone of the mask sees its own step alone. -/
theorem onZones_at {mask : Byte} {z : Fin 8} (named : maskBit mask z = true) (s : State) :
    ∃ w, Beside (· ≠ z) s w ∧ Beside (· ≠ z) (f z w) (onZones mask f s) := by
  obtain ⟨w, before, after⟩ := each8_around (R := Beside (· ≠ z)) (.refl _) .trans
    (f := fun z s => if maskBit mask z then f z s else s) z (fun d other s => by
      split
      · exact (step d s).beside.mono fun y e => e ▸ other
      · exact .refl _ s) s
  exact ⟨w, before, by rwa [if_pos named] at after⟩

/-- What a zone of the mask and its channels see of the event: the entry turns once. -/
theorem onZones_turned {mask : Byte} {z : Fin 8} (named : maskBit mask z = true) (s : State) :
    (onZones mask f s).zone z = turn s.loader.station (s.zone z) ∧
    ((turn s.loader.station (s.zone z)).tripped ≠ (s.zone z).tripped →
      (onZones mask f s).host.events.zoneChange = true) ∧
    ∀ c, (s.cfg c).zone = some z →
      s.turned (onZones mask f s) (s.zone z).tripped (turn s.loader.station (s.zone z)).tripped c := by
  obtain ⟨w, before, after⟩ := step.onZones_at named s
  have own := step z w
  have same : w.zone z = s.zone z := before.zone z (not_not_intro rfl)
  rw [before.loader, same] at own
  refine ⟨(after.zone z (not_not_intro rfl)).trans own.zone, fun turned => ?_, fun c zone => ?_⟩
  · exact after.event (own.event (by rwa [same]))
  · have inside : ∀ v : State, v.cfg c = s.cfg c → ∀ y, (v.cfg c).zone = some y → ¬y ≠ z := fun v e y hy => by
      rw [e, zone, Option.some.injEq] at hy
      exact not_not_intro hy.symm
    have first := before.alike (inside s rfl)
    have last := after.alike (inside (f z w) ((own.beside.cfg c).trans (first.cfg c)))
    have turned := own.channel c (by rw [first.cfg, zone])
    rw [same] at turned
    exact first.symm.turned last turned

/-- The event as a whole, from the state before the frame to the state after the frames due. -/
theorem tookZones {s u : State} (h : Accepted s u) (mask : Byte) (source : Station) :
    s.tookZones ((onZones mask f u).concluded source) mask (fun z => turn s.loader.station (s.zone z)) := by
  obtain ⟨kept, zones, channels, score, event⟩ := concluded_same (onZones mask f u) source
  have beside := step.onZones_beside mask u
  have entry : ∀ y, u.zone y = s.zone y := fun y => by simp [State.zone, h.zones]
  have loader : u.loader = s.loader := (h.alike 0).loader
  have all := (kept.trans beside.kept).trans h.kept
  simp only [State.beyondZones, Prod.mk.injEq] at all
  obtain ⟨-, held, same, marks, inputs, points, link, power, host, shutdown, feedback⟩ := all
  refine ⟨points, marks, ⟨held, same, inputs, host, link, power, shutdown, feedback⟩,
    (score.trans beside.line.2).trans h.score, fun z => ?_, ?_, fun c => ?_⟩
  · rw [State.zone, zones, ← State.zone]
    split
    next named => rw [(step.onZones_turned named u).1, entry, loader]
    next unnamed => rw [beside.zone z unnamed, entry]
  · rintro ⟨z, named, turned⟩
    rw [event]
    exact (step.onZones_turned named u).2.1 (by rwa [entry, loader])
  · have ready := h.alike c
    have due := concluded_alike c (onZones mask f u) source
    have outside (apart : ∀ z, (s.cfg c).zone = some z → ¬maskBit mask z = true) :
        s.sameChannel ((onZones mask f u).concluded source) c := by
      have through := (ready.trans (beside.alike (by rwa [ready.cfg]))).trans due
      exact ⟨through.chan, through.sent⟩
    cases zone : (s.cfg c).zone with
    | none => exact outside (by simp [zone])
    | some z =>
      cases named : maskBit mask z
      · simpa [named] using outside (by simp [zone, named])
      · have turned := (step.onZones_turned named u).2.2 c (by rw [ready.cfg, zone])
        rw [entry, loader] at turned
        simpa [State.turned, named] using ready.symm.turned due turned

end ZoneStep

/-! ## One zone trips, one zone clears -/

namespace ZoneTurned

theorem refl (z : Fin 8) (s : State) : ZoneTurned z s s (s.zone z) :=
  ⟨.refl _ s, rfl, fun h => absurd rfl h, fun c _ => by rw [State.turned, if_pos rfl]; exact ⟨rfl, rfl⟩⟩

/-- What follows the turn without touching zones and channels adds nothing. -/
theorem quiet {z : Fin 8} {s t u : State} {x : Zone} (h : ZoneTurned z s t x) (after : Beside (· = z) t u)
    (zones : u.zones = t.zones) (channels : u.channels = t.channels) : ZoneTurned z s u x where
  beside := h.beside.trans after
  zone := by rw [State.zone, zones]; exact h.zone
  event turned := after.event (h.event turned)
  channel c zone := by
    have same : Alike c t u := alike_of_channels after.kept channels c
    exact (Alike.refl c s).turned same (h.channel c zone)

end ZoneTurned

/-- A zone's entry written while its trip state stays: no channel sees it. -/
theorem setZone_turned {z : Fin 8} {x : Zone} {s : State} (stays : x.tripped = (s.zone z).tripped) :
    ZoneTurned z s (setZone z x s) x :=
  ⟨setZone_beside z x s, by simp [setZone_zone], fun h => absurd stays h,
    fun c _ => by rw [State.turned, if_pos stays]; exact ⟨rfl, rfl⟩⟩

/-- A zone's entry written with ZONE-CHANGE, and then the channels of the zone told. -/
theorem ZoneTurned.of_told {z : Fin 8} {x : Zone} {s t : State}
    (told : Beside (· = z) (setZoneChange (setZone z x s)) t) (zones : t.zones = (setZone z x s).zones)
    (channel : ∀ c, (s.cfg c).zone = some z →
      (setZoneChange (setZone z x s)).turned t (s.zone z).tripped x.tripped c) : ZoneTurned z s t x where
  beside := ((setZone_beside z x s).trans (setZoneChange_beside _ _)).trans told
  zone := by
    have written := setZone_zone z z x s
    rw [State.zone, ← zones] at written
    simpa [State.zone] using written
  event _ := told.event rfl
  channel c zone := by
    have same : Alike c (setZoneChange (setZone z x s)) s := ⟨rfl, rfl, rfl, rfl, rfl, rfl⟩
    exact same.turned (.refl c t) (channel c zone)

/-- TRIP reaches the enabled channels of a zone that trips, and no other channel of it (R64). -/
theorem forceTrip_turned {z c : Fin 8} {s : State} (zone : (s.cfg c).zone = some z) :
    s.turned (forceTrip z s) false true c := by
  have part := forceTrip_alike z c s
  unfold State.turned
  cases enabled : (s.cfg c).enabled
  · simp only [enabled, Bool.false_and, Bool.false_eq_true, if_false] at part
    simpa using ⟨part.chan, part.sent⟩
  · simp only [enabled, zone, beq_self_eq_true, Bool.and_self, if_true] at part
    simpa using (Alike.refl c s).forced part (forceCause_forced .trip c s)

/-- TRIP leaves every channel of a zone that clears (R68). -/
theorem withdrawTrip_turned {z c : Fin 8} {s : State} (zone : (s.cfg c).zone = some z) :
    s.turned (withdrawTrip z s) true false c := by
  have part := withdrawTrip_alike z c s
  rw [if_pos (by simp [zone])] at part
  simpa [State.turned] using (Alike.refl c s).withdrawn part (withdrawCause_withdrawn .trip c s)

/-- R64: the station and cause are taken; from CLEAR, the zone's enabled channels are forced. -/
theorem tripZone_turned (z : Fin 8) (n : Station) (k : TripCause) (s : State) :
    ZoneTurned z s (tripZone z n k s)
      { s.zone z with tripped := true, station := some n, cause := some k } := by
  unfold tripZone
  dsimp only
  cases tripped : (s.zone z).tripped
  · exact .of_told (forceTrip_beside z _) (by simp) fun c zone => by rw [tripped]; exact forceTrip_turned zone
  · exact setZone_turned tripped.symm

/-- R68: the entry is cleared, and TRIP leaves the zone's channels, and the zone the queued TRIP. -/
theorem clearZone_turned {z : Fin 8} {x : Zone} {s : State} (tripped : (s.zone z).tripped = true)
    (clear : x.tripped = false) :
    ZoneTurned z s (removeFromTrip z (withdrawTrip z (setZoneChange (setZone z x s)))) x := by
  have told : ZoneTurned z s (withdrawTrip z (setZoneChange (setZone z x s))) x :=
    .of_told (withdrawTrip_beside z _) (by simp) fun c zone => by
      rw [tripped, clear]; exact withdrawTrip_turned zone
  exact told.quiet (removeFromTrip_beside z _) (by simp) (by simp)

/-- The entry of a zone after a taken TRIP (R66). -/
def tripTurn (source : Station) (cause : TripCause) (x : Zone) : Zone :=
  if x.tripped = true ∧ x.localActive = true then x
  else { x with tripped := true, station := some source, cause := some cause }

/-- The entry of a zone after a taken CLEAR (R68). -/
def clearTurn (station : Station) (x : Zone) : Zone :=
  if x.localActive = true then { x with tripped := true, station := some station, cause := some .input }
  else if x.tripped = true then { tripped := false, station := none, cause := none, localActive := false }
  else x

theorem takenTripZone_step (source : Station) (cause : TripCause) :
    ZoneStep (takenTripZone source cause) (fun _ => tripTurn source cause) := by
  intro z s
  unfold takenTripZone tripTurn
  dsimp only
  by_cases holds : (s.zone z).tripped = true ∧ (s.zone z).localActive = true
  · rw [if_pos (by simpa using holds), if_pos holds]
    exact .refl z s
  · rw [if_neg (by simpa using holds), if_neg holds]
    exact tripZone_turned z source cause s

theorem takenClearZone_step : ZoneStep takenClearZone clearTurn := by
  intro z s
  unfold takenClearZone clearTurn
  dsimp only
  split
  · exact (tripZone_turned z s.loader.station .input s).quiet (queueTrip_beside z .input _) (by simp) (by simp)
  · split
    next held tripped =>
      rw [Bool.not_eq_true] at held
      rw [held]
      exact clearZone_turned tripped rfl
    next => exact .refl z s

/-- The zone stays in the queued TRIP by its own re-trip: ON-LINE, a TRIP that names it is queued (R68). -/
theorem takenClearZone_retrips {z : Fin 8} {s : State} (held : (s.zone z).localActive = true)
    (onLine : s.bus.state = .onLine) (fits : queueFits s.bus.queue) :
    queueTrips z (takenClearZone z s).bus.queue = true := by
  have trip := (tripZone_turned z s.loader.station .input s).beside
  simp only [takenClearZone, held, if_true]
  exact queueTrip_trips (trip.line.1.trans onLine) (trip.fits fits)

/-- A zone that clears leaves the own queued TRIP (R68). -/
theorem takenClearZone_leaves {z : Fin 8} {s : State} (free : (s.zone z).localActive = false)
    (tripped : (s.zone z).tripped = true) : queueTrips z (takenClearZone z s).bus.queue = false := by
  simp [takenClearZone, free, tripped]

/-! ## The frames -/

theorem parse_trip (mask : Byte) (cause : TripCause) :
    Frame.parse 1 [mask, cause.code] = some (.trip mask cause) := by
  cases cause <;> rfl

theorem parse_trip_bad {mask bad : Byte} (h : bad = 0 ∨ 3 < bad.toNat) : Frame.parse 1 [mask, bad] = none := by
  have none : causeOf bad = none := by
    unfold causeOf
    rw [if_neg (by bv_omega), if_neg (by bv_omega), if_neg (by bv_omega)]
  simp [Frame.parse, none]

theorem execTripTaken_next (a : Arrival) (s : State) : exec (.tripTaken a) s = .next (takeFrame 1 a s) := rfl

theorem execClearTaken_next (a : Arrival) (s : State) : exec (.clearTaken a) s = .next (takeFrame 2 a s) := rfl

theorem dispatch_trip (own : Bool) (source : Station) (mask : Byte) (cause : TripCause) (s : State) :
    dispatch own source (.trip mask cause) s = refreshPeer source (onZones mask (takenTripZone source cause) s) := rfl

theorem dispatch_clear (own : Bool) (source : Station) (mask : Byte) (s : State) :
    dispatch own source (.clear mask) s = refreshPeer source (onZones mask takenClearZone s) := rfl

/-- A TRIP that arrives acts on the zones of its mask (R66). -/
theorem exec_tripTaken {s : State} {mask : Byte} {cause : TripCause} {source : Station} {a : Arrival}
    (h : s.arrives (.trip mask cause) source a) : ∃ u, Accepted s u ∧
      exec (.tripTaken a) s = .next ((onZones mask (takenTripZone source cause) u).concluded source) := by
  obtain ⟨own, u, accepted, taken⟩ := takeFrame_of_arrives h (parse_trip mask cause) fun _ => rfl
  rw [dispatch_trip] at taken
  exact ⟨u, accepted, by rw [execTripTaken_next, State.concluded, ← taken]; rfl⟩

/-- A CLEAR that arrives acts on the zones of its mask (R68). -/
theorem exec_clearTaken {s : State} {mask : Byte} {source : Station} {a : Arrival}
    (h : s.arrives (.clear mask) source a) : ∃ u, Accepted s u ∧
      exec (.clearTaken a) s = .next ((onZones mask takenClearZone u).concluded source) := by
  obtain ⟨own, u, accepted, taken⟩ := takeFrame_of_arrives h rfl fun _ => rfl
  rw [dispatch_clear] at taken
  exact ⟨u, accepted, by rw [execClearTaken_next, State.concluded, ← taken]; rfl⟩

/-- A TRIP with a cause outside the three raises the flag and reaches nobody (R66, R98). -/
theorem exec_tripTaken_malformed {s : State} {mask bad : Byte} {source : Station} (outside : bad = 0 ∨ 3 < bad.toNat)
    (h : s.hears source) : ∃ t, exec (.tripTaken (.heard source [mask, bad])) s = .next t ∧ t.zones = s.zones ∧
      s.sameChannels t ∧ t.faults.peers = s.faults.peers ∧ t.flagSticky .malformedFrame = true := by
  have accepted := afterHearing_accepted h
  have taken : takeFrame 1 (.heard source [mask, bad]) s = buildDue (raiseFlag .malformedFrame s.afterHearing) :=
    hear_of_malformed h (parse_trip_bad outside)
  refine ⟨_, (execTripTaken_next _ s).trans (congrArg _ taken), by simp [accepted.zones], fun c => ?_,
    by simp [accepted.peers], (buildDue_news _).flags _ (raiseFlag_flagSticky _ _)⟩
  simp [State.sameChannel, State.chan, State.sentBy, accepted.channels]

/-- Where the mask names no zone, no zone and no channel changes. -/
theorem onZones_zero_same {s u : State} (h : Accepted s u) (f : Fin 8 → State → State) (source : Station) :
    ((onZones 0 f u).concluded source).zones = s.zones ∧ s.sameChannels ((onZones 0 f u).concluded source) := by
  obtain ⟨-, zones, channels, -, -⟩ := concluded_same u source
  rw [onZones_zero]
  exact ⟨zones.trans h.zones, fun c =>
    ⟨by simp [State.chan, channels, h.channels], by simp [State.sentBy, channels, h.channels]⟩⟩

/-- A zone with an active local source that a CLEAR names is named by a queued TRIP, ON-LINE (R68). -/
theorem clear_retrips {s u : State} (h : Accepted s u) {mask : Byte} {z : Fin 8} (source : Station)
    (named : maskBit mask z = true) (held : (s.zone z).localActive = true) (onLine : s.bus.state = .onLine)
    (fits : queueFits s.bus.queue) :
    queueTrips z ((onZones mask takenClearZone u).concluded source).bus.queue = true := by
  obtain ⟨w, before, after⟩ := takenClearZone_step.onZones_at named u
  have same : w.zone z = s.zone z := by rw [before.zone z (not_not_intro rfl), State.zone, h.zones, State.zone]
  rw [concluded_queueTrips, after.trips z (not_not_intro rfl)]
  exact takenClearZone_retrips (by rw [same, held]) (before.line.1.trans (h.onLine onLine))
    (before.fits (h.fits onLine fits))

/-- A tripped zone without an active local source that a CLEAR names is named by no queued TRIP (R68). -/
theorem clear_leaves {s u : State} (h : Accepted s u) {mask : Byte} {z : Fin 8} (source : Station)
    (named : maskBit mask z = true) (free : (s.zone z).localActive = false) (tripped : (s.zone z).tripped = true) :
    queueTrips z ((onZones mask takenClearZone u).concluded source).bus.queue = false := by
  obtain ⟨w, before, after⟩ := takenClearZone_step.onZones_at named u
  have same : w.zone z = s.zone z := by rw [before.zone z (not_not_intro rfl), State.zone, h.zones, State.zone]
  rw [concluded_queueTrips, after.trips z (not_not_intro rfl)]
  exact takenClearZone_leaves (by rw [same, free]) (by rw [same, tripped])

/-- Settles O14: a frame that arrives reaches the Zone Table in an accepted state; there each zone of the mask takes
its own step, which the steps at the other zones and the frames due afterwards leave as it is. -/
theorem tripsAndClearsTaken : Obligations.TripsAndClearsTaken := by
  intro s mask cause source a
  refine ⟨fun arrives => ?_, fun bad outside hears => exec_tripTaken_malformed outside hears, fun arrives => ?_⟩
  · obtain ⟨u, accepted, taken⟩ := exec_tripTaken arrives
    refine ⟨_, taken, ?_, (takenTripZone_step source cause).tookZones accepted mask source⟩
    rintro rfl
    exact onZones_zero_same accepted _ source
  · obtain ⟨u, accepted, taken⟩ := exec_clearTaken arrives
    refine ⟨_, taken, fun z named => ⟨fun held onLine sound ordered => ?_, fun free tripped => ?_⟩,
      takenClearZone_step.tookZones accepted mask source⟩
    · exact (queueTrips_iff z _).mp
        (clear_retrips accepted source named held onLine (queueFits_of_sound sound ordered))
    · exact (queueTrips_false_iff z _).mp (clear_leaves accepted source named free tripped)

end Sys2Proof.Machine
end

section
/-! PROOFS. The applied drive of the power die: each channel follows it to the commanded state of R133, and it changes
with a valid drive word and with the expiry of the drive watchdog (R123). -/

namespace Sys2Proof.Machine

open Sys2Proof

/-! ## One channel -/

theorem conducts_iff (x : PowerChannel) : x.conducts = true ↔ x.commanded = true ∧ x.thermal = .normal := by
  simp [PowerChannel.conducts]

@[simp] theorem enter_commanded (x : PowerChannel) (on normal : Bool) (now : Nat) :
    (x.enter on normal now).commanded = on := rfl

/-- Whether or not it meets a switching edge, a channel ends in the state it is given (R133). -/
@[simp] theorem command_commanded (x : PowerChannel) (on normal : Bool) (now : Nat) :
    (x.command on normal now).commanded = on := by
  unfold PowerChannel.command
  split
  next same => exact eq_of_beq same
  next => exact enter_commanded _ on normal now

/-! ## The die -/

/-- Following the applied drive touches nothing but the channels. -/
theorem follow_frame (p : PowerDie) (now : Nat) : p.follow now = { p with channels := (p.follow now).channels } := rfl

@[simp] theorem follow_commanded (p : PowerDie) (now : Nat) (n : Fin 8) :
    ((p.follow now).channels.get n).commanded = p.commands n := by
  simp [PowerDie.follow, PowerDie.mapChannels]

/-- While the watchdog is tripped no output is commanded ON (R123, R133). -/
theorem commands_of_tripped {p : PowerDie} (h : p.tripped = true) (n : Fin 8) : p.commands n = false := by
  simp [PowerDie.commands, h]

theorem accepts_iff (p : PowerDie) (w : BitVec 16) : p.accepts w = true ↔
    p.inReset = false ∧ driveCheckGood w = true ∧ p.previous ≠ some (driveCount w) := by
  simp [PowerDie.accepts, and_assoc]

theorem drive_of_accepts {p : PowerDie} {w : BitVec 16} (valid : p.accepts w = true) (now : Nat) :
    p.drive w now =
      { p with enable := driveEnable w, bits := driveBits w, previous := some (driveCount w),
               watchdog := some (now + Config.watchdogTime), tripped := false }.follow now := if_pos valid

theorem drive_of_not_accepts {p : PowerDie} {w : BitVec 16} (invalid : ¬ p.accepts w = true) (now : Nat) :
    p.drive w now = p := if_neg invalid

/-- A word with a bad check, or with the count of the previous valid word, is not valid (R123). -/
theorem not_accepts {p : PowerDie} {w : BitVec 16}
    (h : driveCheckGood w = false ∨ p.previous = some (driveCount w)) : ¬ p.accepts w = true := by
  rw [accepts_iff]
  rintro ⟨-, good, fresh⟩
  rcases h with bad | same
  · exact Bool.eq_false_iff.mp bad good
  · exact fresh same

/-- A valid drive word commands each channel by its own bits and the supply state (R123, R133). -/
theorem drive_commanded {p : PowerDie} {w : BitVec 16} (valid : p.accepts w = true) (now : Nat) (n : Fin 8) :
    ((p.drive w now).channels.get n).commanded = (driveEnable w && maskBit (driveBits w) n && p.supplyNormal) := by
  simp [drive_of_accepts valid, PowerDie.commands]

theorem watchdogEnds_of_running {p : PowerDie} (running : p.watchdog ≠ none) (now : Nat) :
    p.watchdogEnds now = { p with watchdog := none, tripped := true }.follow now :=
  if_pos (Option.isSome_iff_ne_none.mpr running)

/-- The expiry of the drive watchdog commands every channel OFF (R123). -/
theorem watchdogEnds_commanded {p : PowerDie} (running : p.watchdog ≠ none) (now : Nat) (n : Fin 8) :
    ((p.watchdogEnds now).channels.get n).commanded = false := by
  rw [watchdogEnds_of_running running, follow_commanded]
  exact commands_of_tripped rfl n

/-! ## The commands -/

theorem exec_driveWordReceived (w : BitVec 16) (s : State) :
    exec (.driveWordReceived w) s = .next { s with power := s.power.drive w s.now } := rfl

theorem exec_watchdogExpiry (s : State) :
    exec .watchdogExpiry s = .next { s with power := s.power.watchdogEnds s.now } := rfl

/-- Settles O34: a valid word and the expiry each change the applied drive, which the channels then follow; an invalid
word leaves the die as it is. -/
theorem driveWordAndWatchdog : Obligations.DriveWordAndWatchdog := by
  intro s
  refine ⟨fun w awake good fresh => ?_, fun w invalid => ?_, fun running => ?_⟩
  · have valid := (accepts_iff s.power w).mpr ⟨awake, good, fresh⟩
    refine ⟨_, exec_driveWordReceived w s, ?_, fun n => ⟨drive_commanded valid s.now n, ?_⟩⟩
    · rw [drive_of_accepts valid]
      exact follow_frame _ s.now
    · rw [conducts_iff, drive_commanded valid]
      simp [and_assoc]
  · rw [exec_driveWordReceived, drive_of_not_accepts (not_accepts invalid)]
  · refine ⟨_, exec_watchdogExpiry s, ?_, fun n => ?_⟩
    · rw [watchdogEnds_of_running running]
      exact follow_frame _ s.now
    · have off := watchdogEnds_commanded running s.now n
      exact ⟨off, conducts_off_when_not_commanded _ off⟩

end Sys2Proof.Machine
end

section
/-! PROOFS. What every command does to the clock, the waiting commands and the two dies; what a step is; the node's
own pins (R150, R168). -/

namespace Sys2Proof.Machine

open Sys2Proof

/-! ## The commands of the two dies -/

/-- A command of the power die answers with a state that differs in the power die alone. -/
theorem exec_of_power {c : Instr} (die : Instr.onPowerDie c = true) (s : State) :
    ∃ p, exec c s = .next { s with power := p } := by
  cases c <;> cases die
  case powerDieResetEnd =>
    by_cases reset : s.power.inReset = true
    · exact ⟨_, congrArg Host.Outcome.next (if_pos reset)⟩
    · exact ⟨s.power, congrArg Host.Outcome.next (if_neg reset)⟩
  all_goals exact ⟨_, rfl⟩

/-- A command of the logic die leaves the clock, the waiting commands and the power die. -/
theorem exec_of_logic {c : Instr} (die : Instr.onPowerDie c = false) (s : State) :
    ∃ t, exec c s = .next t ∧ SameOutside s t := by
  cases c <;> cases die <;> refine ⟨_, rfl, ?_⟩
  case nop => exact SameOutside.whenTransaction (takeRequest_outside .nop ⟨0, false, false⟩ s)
  case readNode => exact SameOutside.whenTransaction (takeRequest_outside .readNode ⟨0, false, false⟩ s)
  case readChannel n =>
    exact SameOutside.whenTransaction (takeRequest_outside (.readChannel n) ⟨0, false, false⟩ s)
  case readSubscription n =>
    exact SameOutside.whenTransaction (takeRequest_outside (.readSubscription n) ⟨0, false, false⟩ s)
  case readPublication n =>
    exact SameOutside.whenTransaction (takeRequest_outside (.readPublication n) ⟨0, false, false⟩ s)
  case readGroup n => exact SameOutside.whenTransaction (takeRequest_outside (.readGroup n) ⟨0, false, false⟩ s)
  case readZones => exact SameOutside.whenTransaction (takeRequest_outside .readZones ⟨0, false, false⟩ s)
  case readPeer n => exact SameOutside.whenTransaction (takeRequest_outside (.readPeer n) ⟨0, false, false⟩ s)
  case popFaultList => exact SameOutside.whenTransaction (takeRequest_outside .popFaultList ⟨0, false, false⟩ s)
  case readEvents => exact SameOutside.whenTransaction (takeRequest_outside .readEvents ⟨0, false, false⟩ s)
  case setHostPoint n v =>
    exact SameOutside.whenTransaction (takeRequest_outside (.setHostPoint n v) ⟨0, false, false⟩ s)
  case ackFaults n m k f =>
    exact SameOutside.whenTransaction (takeRequest_outside (.ackFaults n m k f) ⟨0, false, false⟩ s)
  case tripZones m => exact SameOutside.whenTransaction (takeRequest_outside (.tripZones m) ⟨0, false, false⟩ s)
  case clearZones m => exact SameOutside.whenTransaction (takeRequest_outside (.clearZones m) ⟨0, false, false⟩ s)
  case resetNode x => exact SameOutside.whenTransaction (takeRequest_outside .resetNode x s)
  case writeConfigBlock o d =>
    exact SameOutside.whenTransaction (takeRequest_outside (.writeConfigBlock o d) ⟨0, false, false⟩ s)
  case commitConfig => exact SameOutside.whenTransaction (takeRequest_outside .commitConfig ⟨0, false, false⟩ s)
  case checkError bytes x => exact SameOutside.whenTransaction (takeBytes_outside bytes x s)
  case emptyTransaction => exact SameOutside.whenTransaction ⟨rfl, rfl, rfl⟩
  case transactionBegin =>
    simp only [beginTransaction]
    split <;> exact ⟨rfl, rfl, rfl⟩
  case logicSupplyPowerOn => exact ⟨rfl, rfl, rfl⟩
  case resetPinAsserted => exact nodeReset_outside s
  case nodeResetEnd x =>
    split
    · exact endReset_outside x s
    · exact .refl s
  case memoryAddressRetry b => exact retryAddress_outside b s
  case memoryReadComplete bytes => exact takeBody_outside bytes s
  case memoryReadFailure bytes => exact readFails_outside bytes s
  case memoryHeaderRead bytes => exact takeHeader_outside bytes s
  case request c => exact (SameOutside.whenRunning (deliverToGroup_outside (by simp [SameOutside]) s)).buildDue
  case cancel c => exact (SameOutside.whenRunning (deliverToGroup_outside (by simp [SameOutside]) s)).buildDue
  case done c => exact (SameOutside.whenRunning (deliverToGroup_outside (by simp [SameOutside]) s)).buildDue
  case grant c => exact (SameOutside.whenRunning (deliverToChannel_outside (by simp [SameOutside]) s)).buildDue
  case revoke c => exact (SameOutside.whenRunning (deliverToChannel_outside (by simp [SameOutside]) s)).buildDue
  all_goals first
    | simp [SameOutside]; done
    | exact (SameOutside.whenRunning (by simp [SameOutside])).buildDue

/-- Settles O2: a command of the power die writes the power die alone, and one of the logic die leaves the clock, the
waiting commands and the power die. -/
theorem everyCommandCompletes : Obligations.EveryCommandCompletes := by
  refine ⟨fun c s => ?_, fun c s t h => ⟨fun die => ?_, fun die => ?_⟩⟩
  · cases die : Instr.onPowerDie c with
    | true =>
      obtain ⟨p, h⟩ := exec_of_power die s
      exact ⟨_, h, rfl, rfl⟩
    | false =>
      obtain ⟨t, h, now, pending, -⟩ := exec_of_logic die s
      exact ⟨t, h, now, pending⟩
  · obtain ⟨p, h'⟩ := exec_of_power die s
    cases h.symm.trans h'
    rfl
  · obtain ⟨u, h', -, -, power⟩ := exec_of_logic die s
    cases h.symm.trans h'
    exact power

/-! ## Steps -/

theorem step_of_pending {c : Instr} {s : State} {rest : List Instr} (h : s.pending = c :: rest) :
    step s = exec c { s with pending := rest } := by
  simp only [step, h]

theorem step_of_nothing {s : State} (h : s.pending = []) : step s = .next (tick s) := by
  simp only [step, h]

/-- Settles O1, by the two cases of the queue of waiting commands. -/
theorem stepRunsTheFrontCommand : Obligations.StepRunsTheFrontCommand :=
  ⟨fun _ _ _ h => step_of_pending h, fun _ h => step_of_nothing h⟩

/-! ## ERR and IRQ -/

theorem PerKind.any_iff (p : KindSet) : p.any = true ↔ ∃ k, p.get k = true := by
  constructor
  · intro h
    simp only [PerKind.any, Bool.or_eq_true] at h
    rcases h with (((((h | h) | h) | h) | h) | h) | h
    exacts [⟨.openOff, h⟩, ⟨.shortSupply, h⟩, ⟨.openOn, h⟩, ⟨.overload, h⟩, ⟨.overtemp, h⟩, ⟨.failOn, h⟩,
      ⟨.stuckOn, h⟩]
  · rintro ⟨k, h⟩
    cases k <;> simp only [PerKind.get] at h <;> simp [PerKind.any, h]

theorem eightIndices_any_iff (p : Fin 8 → Bool) : eightIndices.any p = true ↔ ∃ n, p n = true := by
  simp only [List.any_eq_true]
  constructor
  · rintro ⟨n, -, h⟩
    exact ⟨n, h⟩
  · rintro ⟨n, h⟩
    exact ⟨n, by fin_cases n <;> simp [eightIndices], h⟩

theorem anyKindSticky_iff (s : State) :
    s.anyKindSticky = true ↔ ∃ c k, ((s.faultRec c).kinds.get k).sticky = true := by
  simp only [State.anyKindSticky, eightIndices_any_iff, PerKind.any_iff, FaultRecord.sticky, PerKind.get_of]
  rfl

/-- The nine flags have the nine bits of the set. -/
theorem flags_ne_zero_iff (x : BitVec 9) : x ≠ 0 ↔ ∃ f : NodeFlag, x.getLsbD f.bit = true := by
  constructor
  · intro h
    by_contra none
    simp only [not_exists, Bool.not_eq_true] at none
    refine h (BitVec.eq_of_getLsbD_eq fun i hi => ?_)
    change _ = (0#9).getLsbD i
    rw [BitVec.getLsbD_zero]
    interval_cases i
    exacts [none .linkDown, none .supplyLow, none .busDegraded, none .duplicateStation, none .groupConflict,
      none .foreignPublisher, none .queueOverflow, none .malformedFrame, none .frameAbandoned]
  · rintro ⟨f, h⟩ rfl
    simp at h

/-- Settles O4: both pins read off the disjunctions that define them. -/
theorem errAndIrqPins : Obligations.ErrAndIrqPins := by
  intro s
  constructor
  · rw [← anyKindSticky_iff]
    have flags := flags_ne_zero_iff s.faults.flags.sticky
    simp only [State.flagSticky, ← flags]
    simp [State.err, or_assoc]
  · simp [State.irq, or_assoc]

end Sys2Proof.Machine
end

section
/-! PROOFS. A step keeps what every command and a tick keep; each channel of the power die is commanded as the words,
the watchdog and the supply say, and OPEN-OFF and SHORT-SUPPLY are never reported together (R133, R138, R140). -/

namespace Sys2Proof.Machine

open Sys2Proof

/-! ## A step keeps what every command keeps -/

/-- A step is a tick, or the command at the front of the queue. -/
theorem step_cases {s t : State} (h : step s = .next t) :
    t = tick s ∨ ∃ c rest, s.pending = c :: rest ∧ exec c { s with pending := rest } = .next t := by
  cases waiting : s.pending with
  | nil =>
    rw [step_of_nothing waiting] at h
    cases h
    exact .inl rfl
  | cons c rest => exact .inr ⟨c, rest, rfl, step_of_pending waiting ▸ h⟩

/-- What a tick keeps, what no waiting command bears on, and what every command keeps, a step keeps. -/
theorem step_keeps {P : State → Prop} (idle : ∀ s, P s → P (tick s))
    (front : ∀ s rest, P s → P { s with pending := rest })
    (command : ∀ c s, P s → ∃ t, exec c s = .next t ∧ P t) {s t : State} (h : step s = .next t) (p : P s) : P t := by
  rcases step_cases h with rfl | ⟨c, rest, -, h⟩
  · exact idle s p
  · obtain ⟨u, h', q⟩ := command c _ (front s rest p)
    cases h.symm.trans h'
    exact q

theorem each8Holds_iff (p : Fin 8 → Bool) : each8Holds p = true ↔ ∀ n, p n = true := by
  simp only [each8Holds, List.all_eq_true]
  constructor
  · intro h n
    exact h n (by fin_cases n <;> simp [eightIndices])
  · exact fun h n _ => h n

/-! ## Commanded states -/

/-- Each channel of the die is commanded as the applied drive and the supply state say (R133). -/
def PowerDie.commandsSound (p : PowerDie) : Prop := ∀ n, (p.channels.get n).commanded = p.commands n

theorem commandsSound_iff (s : State) : s.commandsSound = true ↔ s.power.commandsSound := by
  simp only [State.commandsSound, each8Holds_iff, beq_iff_eq, PowerDie.commandsSound]

@[simp] theorem measure_commanded (x : PowerChannel) (normal : Bool) (now : Nat) :
    (x.measure normal now).commanded = x.commanded := rfl

@[simp] theorem followJunction_commanded (x : PowerChannel) : x.followJunction.commanded = x.commanded := rfl

@[simp] theorem observe_commanded (x : PowerChannel) (load : Electrical) (normal : Bool) (now : Nat) :
    (x.observe load normal now).commanded = x.commanded := rfl

@[simp] theorem setReport_commanded (x : PowerChannel) (k : PowerKind) (r : Report) :
    (x.setReport k r).commanded = x.commanded := by
  unfold PowerChannel.setReport
  split
  · split <;> rfl
  · split <;> rfl
  · rfl

@[simp] theorem judge_commanded (x : PowerChannel) (k : BlankedKind) (now : Nat) :
    (x.judge k now).commanded = x.commanded := by
  unfold PowerChannel.judge
  split
  · exact setReport_commanded _ _ _
  · rfl

@[simp] theorem endProlonged_commanded (x : PowerChannel) (k : BlankedKind) :
    (x.endProlonged k).commanded = x.commanded := by
  unfold PowerChannel.endProlonged
  split
  · exact setReport_commanded _ _ _
  · rfl

@[simp] theorem filterEnds_commanded (x : PowerChannel) (k : UnblankedKind) (now : Nat) :
    (x.filterEnds k now).commanded = x.commanded := by
  simp only [PowerChannel.filterEnds]
  (repeat' split) <;> simp

@[simp] theorem blankedFilterEnds_commanded (x : PowerChannel) (k : BlankedKind) (now : Nat) :
    (x.blankedFilterEnds k now).commanded = x.commanded := by
  simp only [PowerChannel.blankedFilterEnds]
  (repeat' split) <;> simp

@[simp] theorem blankingEnds_commanded (x : PowerChannel) (now : Nat) :
    (x.blankingEnds now).commanded = x.commanded := by
  simp only [PowerChannel.blankingEnds]
  split <;> simp

@[simp] theorem reset_channel (inReset : Bool) (now : Nat) (loads : Eight Electrical) (n : Fin 8) :
    (PowerDie.reset inReset now loads).channels.get n = PowerChannel.reset now (loads.get n) := by
  simp [PowerDie.reset]

theorem reset_commandsSound (inReset : Bool) (now : Nat) (loads : Eight Electrical) :
    (PowerDie.reset inReset now loads).commandsSound := by
  intro n
  rw [reset_channel]
  rfl

theorem follow_commandsSound (p : PowerDie) (now : Nat) : (p.follow now).commandsSound :=
  fun n => follow_commanded p now n

theorem drive_commandsSound {p : PowerDie} (h : p.commandsSound) (w : BitVec 16) (now : Nat) :
    (p.drive w now).commandsSound := by
  unfold PowerDie.drive
  split
  · exact follow_commandsSound _ _
  · exact h

theorem watchdogEnds_commandsSound {p : PowerDie} (h : p.commandsSound) (now : Nat) :
    (p.watchdogEnds now).commandsSound := by
  unfold PowerDie.watchdogEnds
  split
  · exact follow_commandsSound _ _
  · exact h

theorem formReply_commandsSound {p : PowerDie} (h : p.commandsSound) : p.formReply.commandsSound := by
  unfold PowerDie.formReply
  split <;> exact h

theorem supplyFalls_commandsSound {p : PowerDie} (h : p.commandsSound) (now : Nat) :
    (p.supplyFalls now).commandsSound := by
  unfold PowerDie.supplyFalls
  split
  · intro n
    simp [PowerDie.mapChannels, PowerDie.commands, PowerChannel.supplyLost]
  · exact h

theorem supplyReturns_commandsSound {p : PowerDie} (h : p.commandsSound) (now : Nat) :
    (p.supplyReturns now).commandsSound := by
  unfold PowerDie.supplyReturns
  split
  · intro n
    simp only [PowerDie.mapChannels, Eight.get_of, enter_commanded]
    rfl
  · exact h

/-- A change of one channel that keeps its commanded state keeps the die's. -/
theorem setChannel_commandsSound {p : PowerDie} (h : p.commandsSound) (c : Fin 8) {x : PowerChannel}
    (same : x.commanded = (p.channels.get c).commanded) : (p.setChannel c x).commandsSound := by
  intro n
  change ((p.channels.set c x).get n).commanded = p.commands n
  rw [Eight.get_set, ← h n]
  split
  next hn => rw [hn, same]
  next => rfl

theorem show_commandsSound {p : PowerDie} (h : p.commandsSound) (c : Fin 8) (load : Electrical) (now : Nat) :
    (p.show c load now).commandsSound := by
  refine setChannel_commandsSound h c ?_
  split <;> rfl

theorem modify_commandsSound {p : PowerDie} (h : p.commandsSound) (c : Fin 8) {f : PowerChannel → PowerChannel}
    (same : ∀ x, (f x).commanded = x.commanded) : (p.modify c f).commandsSound := by
  unfold PowerDie.modify
  split
  · exact h
  · exact setChannel_commandsSound h c (same _)

/-! ## Reports -/

/-- No two reports of one channel contradict each other (R138, R140), on every channel of the die. -/
def PowerDie.reportsSound (p : PowerDie) : Prop := ∀ n, (p.channels.get n).reportsSound = true

theorem reportsSound_iff (s : State) : s.reportsSound = true ↔ s.power.reportsSound := by
  simp only [State.reportsSound, each8Holds_iff, PowerDie.reportsSound]

theorem channelReportsSound_iff (x : PowerChannel) : x.reportsSound = true ↔
    (x.reports.openOff = .clear ∨ x.reports.shortSupply = .clear) ∧ x.reports.overload ≠ .prolonged ∧
      x.reports.overtemp ≠ .prolonged := by
  simp [PowerChannel.reportsSound, and_assoc]

/-- A report that changes leaves the reports sound: SHORT-SUPPLY outranks OPEN-OFF (R138), and PROLONGED is for the
blanked kinds (R140). -/
theorem setReport_reportsSound {x : PowerChannel} (h : x.reportsSound = true) {k : PowerKind} {r : Report}
    (blanked : r = .prolonged → k ≠ .overload ∧ k ≠ .overtemp) : (x.setReport k r).reportsSound = true := by
  rw [channelReportsSound_iff] at h ⊢
  obtain ⟨ranked, load, temp⟩ := h
  cases k with
  | openOff =>
    simp only [PowerChannel.setReport]
    split
    next clear => exact ⟨.inr (eq_of_beq clear), load, temp⟩
    next => exact ⟨.inl rfl, load, temp⟩
  | shortSupply =>
    simp only [PowerChannel.setReport]
    split
    next clear => exact ⟨.inr (eq_of_beq clear), load, temp⟩
    next => exact ⟨.inl rfl, load, temp⟩
  | openOn => exact ⟨ranked, load, temp⟩
  | overload => exact ⟨ranked, fun p => (blanked p).1 rfl, temp⟩
  | overtemp => exact ⟨ranked, load, fun p => (blanked p).2 rfl⟩

theorem blankedKind_ne (k : BlankedKind) : blankedKind k ≠ .overload ∧ blankedKind k ≠ .overtemp := by
  cases k <;> simp [blankedKind]

theorem setBlanked_reportsSound {x : PowerChannel} (h : x.reportsSound = true) (k : BlankedKind) (r : Report) :
    (x.setReport (blankedKind k) r).reportsSound = true :=
  setReport_reportsSound h fun _ => blankedKind_ne k

theorem setPlain_reportsSound {x : PowerChannel} (h : x.reportsSound = true) (k : PowerKind) {r : Report}
    (plain : r ≠ .prolonged) : (x.setReport k r).reportsSound = true :=
  setReport_reportsSound h fun prolonged => absurd prolonged plain

theorem clear_reportsSound {x : PowerChannel} (h : x.reports = PerPower.all .clear) : x.reportsSound = true := by
  rw [channelReportsSound_iff, h]
  exact ⟨.inl rfl, nofun, nofun⟩

/-- Reports that did not change are as sound as they were. -/
theorem reportsSound_congr {x y : PowerChannel} (h : x.reportsSound = true) (same : y.reports = x.reports) :
    y.reportsSound = true := by
  rw [channelReportsSound_iff] at h ⊢
  rwa [same]

theorem judge_reportsSound {x : PowerChannel} (h : x.reportsSound = true) (k : BlankedKind) (now : Nat) :
    (x.judge k now).reportsSound = true := by
  unfold PowerChannel.judge
  split
  · exact setBlanked_reportsSound h k _
  · exact h

theorem endProlonged_reportsSound {x : PowerChannel} (h : x.reportsSound = true) (k : BlankedKind) :
    (x.endProlonged k).reportsSound = true := by
  unfold PowerChannel.endProlonged
  split
  · exact setBlanked_reportsSound h k _
  · exact h

theorem filterEnds_reportsSound {x : PowerChannel} (h : x.reportsSound = true) (k : UnblankedKind) (now : Nat) :
    (x.filterEnds k now).reportsSound = true := by
  simp only [PowerChannel.filterEnds]
  (repeat' split) <;> first | exact h | exact setPlain_reportsSound h _ (by decide)

theorem blankedFilterEnds_reportsSound {x : PowerChannel} (h : x.reportsSound = true) (k : BlankedKind)
    (now : Nat) : (x.blankedFilterEnds k now).reportsSound = true := by
  simp only [PowerChannel.blankedFilterEnds]
  split
  · exact h
  · split
    · exact judge_reportsSound (judge_reportsSound h k now) .openOff now
    · exact judge_reportsSound h k now

theorem blankingEnds_reportsSound {x : PowerChannel} (h : x.reportsSound = true) (now : Nat) :
    (x.blankingEnds now).reportsSound = true := by
  simp only [PowerChannel.blankingEnds]
  split
  · exact h
  · refine judge_reportsSound (judge_reportsSound (judge_reportsSound ?_ _ now) _ now) _ now
    refine endProlonged_reportsSound (endProlonged_reportsSound (endProlonged_reportsSound ?_ _) _) _
    exact reportsSound_congr h rfl

theorem reportsAtEdge_reportsSound {x : PowerChannel} (h : x.reportsSound = true) (now : Nat) :
    (x.reportsAtEdge now).reportsSound = true := by
  have blanked := setBlanked_reportsSound (setBlanked_reportsSound (setBlanked_reportsSound h .shortSupply
    (edgeReport .shortSupply x now)) .openOff (edgeReport .openOff x now)) .openOn (edgeReport .openOn x now)
  simp only [PowerChannel.reportsAtEdge]
  split
  · exact setPlain_reportsSound (setPlain_reportsSound blanked _ (by decide)) _ (by decide)
  · exact blanked

theorem command_reportsSound {x : PowerChannel} (h : x.reportsSound = true) (on normal : Bool) (now : Nat) :
    (x.command on normal now).reportsSound = true := by
  unfold PowerChannel.command
  split
  · exact h
  · exact reportsSound_congr (reportsAtEdge_reportsSound h now) rfl

theorem follow_reportsSound {p : PowerDie} (h : p.reportsSound) (now : Nat) : (p.follow now).reportsSound := by
  intro n
  simp only [PowerDie.follow, PowerDie.mapChannels, Eight.get_of]
  exact command_reportsSound (h n) _ _ now

theorem setChannel_reportsSound {p : PowerDie} (h : p.reportsSound) (c : Fin 8) {x : PowerChannel}
    (own : x.reportsSound = true) : (p.setChannel c x).reportsSound := by
  intro n
  change ((p.channels.set c x).get n).reportsSound = true
  rw [Eight.get_set]
  split
  · exact own
  · exact h n

theorem modify_reportsSound {p : PowerDie} (h : p.reportsSound) (c : Fin 8) {f : PowerChannel → PowerChannel}
    (keeps : ∀ x, x.reportsSound = true → (f x).reportsSound = true) : (p.modify c f).reportsSound := by
  unfold PowerDie.modify
  split
  · exact h
  · exact setChannel_reportsSound h c (keeps _ (h c))

theorem reset_reportsSound (inReset : Bool) (now : Nat) (loads : Eight Electrical) :
    (PowerDie.reset inReset now loads).reportsSound := by
  intro n
  rw [reset_channel]
  exact clear_reportsSound rfl

/-! ## The commands of the power die -/

/-- What every operation of the power die keeps, every command keeps. -/
theorem exec_keeps_power {P : PowerDie → Prop}
    (drive : ∀ p w now, P p → P (p.drive w now)) (watchdog : ∀ p now, P p → P (p.watchdogEnds now))
    (reply : ∀ p, P p → P p.formReply) (reset : ∀ b now l, P (PowerDie.reset b now l))
    (falls : ∀ p now, P p → P (p.supplyFalls now)) (returns : ∀ p now, P p → P (p.supplyReturns now))
    (situation : ∀ p c l now, P p → P (p.show c l now))
    (observes : ∀ p c (f : PowerChannel → PowerChannel), P p →
      (∀ x, (f x).commanded = x.commanded ∧ (x.reportsSound = true → (f x).reportsSound = true)) →
      P (p.modify c f))
    (c : Instr) (s : State) (sound : P s.power) : ∃ t, exec c s = .next t ∧ P t.power := by
  have apart := exec_of_logic (c := c)
  cases c
  case driveWordReceived w => exact ⟨_, rfl, drive _ w _ sound⟩
  case watchdogExpiry => exact ⟨_, rfl, watchdog _ _ sound⟩
  case replyWordFormed => exact ⟨_, rfl, reply _ sound⟩
  case powerDieReset => exact ⟨_, rfl, reset _ _ _⟩
  case powerDieResetEnd =>
    refine ⟨_, rfl, ?_⟩
    split
    · exact reset _ _ _
    · exact sound
  case supplyLow => exact ⟨_, rfl, falls _ _ sound⟩
  case supplyRecovered => exact ⟨_, rfl, returns _ _ sound⟩
  case thermalShutdown n =>
    exact ⟨_, rfl, observes _ n (fun x => x.observe { x.load with junction := max shutdownJunction x.load.junction }
      s.power.supplyNormal s.now) sound fun x => ⟨rfl, id⟩⟩
  case thermalRestart n =>
    exact ⟨_, rfl, observes _ n (fun x => x.observe { x.load with junction := min restartJunction x.load.junction }
      s.power.supplyNormal s.now) sound fun x => ⟨rfl, id⟩⟩
  case conditionChange n l => exact ⟨_, rfl, situation _ n l _ sound⟩
  case reportFilterExpiry n k =>
    exact ⟨_, rfl, observes _ n _ sound fun x =>
      ⟨filterEnds_commanded x k _, fun h => filterEnds_reportsSound h k _⟩⟩
  case blankedFilterExpiry n k =>
    exact ⟨_, rfl, observes _ n _ sound fun x =>
      ⟨blankedFilterEnds_commanded x k _, fun h => blankedFilterEnds_reportsSound h k _⟩⟩
  case blankingExpiry n =>
    exact ⟨_, rfl, observes _ n _ sound fun x =>
      ⟨blankingEnds_commanded x _, fun h => blankingEnds_reportsSound h _⟩⟩
  all_goals
    obtain ⟨t, h, -, -, same⟩ := apart rfl s
    exact ⟨t, h, same ▸ sound⟩

theorem exec_keeps_commands (c : Instr) {s : State} (sound : s.power.commandsSound) :
    ∃ t, exec c s = .next t ∧ t.power.commandsSound :=
  exec_keeps_power (P := PowerDie.commandsSound) (fun _ w now h => drive_commandsSound h w now)
    (fun _ now h => watchdogEnds_commandsSound h now)
    (fun _ h => formReply_commandsSound h) reset_commandsSound (fun _ now h => supplyFalls_commandsSound h now)
    (fun _ now h => supplyReturns_commandsSound h now) (fun _ c l now h => show_commandsSound h c l now)
    (fun _ c _ h keeps => modify_commandsSound h c fun x => (keeps x).1) c s sound

theorem exec_keeps_reports (c : Instr) {s : State} (sound : s.power.reportsSound) :
    ∃ t, exec c s = .next t ∧ t.power.reportsSound := by
  refine exec_keeps_power (P := PowerDie.reportsSound) (fun p w now h => ?_) (fun p now h => ?_) (fun p h => ?_)
    reset_reportsSound (fun p now h => ?_) (fun p now h => ?_) (fun p c l now h => ?_)
    (fun _ c _ h keeps => modify_reportsSound h c fun x => (keeps x).2) c s sound
  · unfold PowerDie.drive
    split
    · refine follow_reportsSound ?_ now
      exact h
    · exact h
  · unfold PowerDie.watchdogEnds
    split
    · refine follow_reportsSound ?_ now
      exact h
    · exact h
  · unfold PowerDie.formReply
    split <;> exact h
  · unfold PowerDie.supplyFalls
    split
    · intro n
      simp only [PowerDie.mapChannels, Eight.get_of]
      exact clear_reportsSound rfl
    · exact h
  · unfold PowerDie.supplyReturns
    split
    · intro n
      simp only [PowerDie.mapChannels, Eight.get_of]
      exact clear_reportsSound rfl
    · exact h
  · refine setChannel_reportsSound h c ?_
    split <;> exact reportsSound_congr (h c) rfl

/-- Settles O59: every operation of the power die keeps both promises, and no other command reaches it. -/
theorem powerInvariantKept : Obligations.PowerInvariantKept := by
  intro s t h
  constructor
  · simp only [commandsSound_iff]
    exact step_keeps (P := fun s => s.power.commandsSound) (fun _ h => h) (fun _ _ h => h)
      (fun c _ => exec_keeps_commands c) h
  · simp only [reportsSound_iff]
    exact step_keeps (P := fun s => s.power.reportsSound) (fun _ h => h) (fun _ _ h => h)
      (fun c _ => exec_keeps_reports c) h

end Sys2Proof.Machine
end

section
/-! PROOFS. How the transmit queue moves: what leaves it, what is edited in its place, what enters it with room
(R100 to R103); and that everything the blocks do beside the attempts moves it so. -/

namespace Sys2Proof.Machine

open Sys2Proof

/-! ## Moves of the queue -/

/-- One move of the transmit queue: frames leave; contents change under the same limits and kind codes; or a new
frame enters among frames that are left, where a place is free. -/
inductive QueueMove : List Queued → List Queued → Prop
  | leave {l k : List Queued} : k.Sublist l → QueueMove l k
  | edit {l k : List Queued} : List.Forall₂ (fun x y => y.frame.standsFor x.frame) l k → QueueMove l k
  | enter {l k : List Queued} (q : Queued) : k.Sublist l → k.length < l.length ∨ k.length < queueCapacity →
      (∀ x ∈ k, sameLimit x.frame q.frame = false) → QueueMove l (insertByCode q k)

/-- Any number of moves. -/
abbrev QueueMoves : List Queued → List Queued → Prop := Relation.ReflTransGen QueueMove

theorem insertByCode_perm (q : Queued) (l : List Queued) : (insertByCode q l).Perm (q :: l) := by
  induction l with
  | nil => exact List.Perm.refl _
  | cons x l ih =>
    unfold insertByCode
    split
    · exact (ih.cons x).trans (List.Perm.swap q x l)
    · exact List.Perm.refl _

theorem QueueMove.length_le {l k : List Queued} (h : QueueMove l k) (fits : l.length ≤ queueCapacity) :
    k.length ≤ queueCapacity := by
  cases h with
  | leave sub => exact sub.length_le.trans fits
  | edit same => exact same.length_eq ▸ fits
  | enter q sub room free =>
    rw [(insertByCode_perm q _).length_eq, List.length_cons]
    omega

/-- Each edited frame has the one whose place it took. -/
theorem exists_of_mem_edited {l k : List Queued} (h : List.Forall₂ (fun x y => y.frame.standsFor x.frame) l k)
    {y : Queued} (hy : y ∈ k) : ∃ x ∈ l, y.frame.standsFor x.frame := by
  induction h with
  | nil => cases hy
  | cons head _ ih =>
    rcases List.mem_cons.mp hy with rfl | hy
    · exact ⟨_, List.mem_cons_self, head⟩
    · obtain ⟨x, hx, stands⟩ := ih hy
      exact ⟨x, List.mem_cons_of_mem _ hx, stands⟩

/-- A move keeps a relation of the queued frames that their limits and codes decide, and that a frame with a limit
of its own meets where it enters. -/
theorem QueueMove.pairwise {R : Frame → Frame → Prop}
    (same : ∀ {a b c d : Frame}, c.standsFor a → d.standsFor b → R a b → R c d)
    (enters : ∀ {q : Queued} {l : List Queued}, l.Pairwise (fun a b => R a.frame b.frame) →
      (∀ x ∈ l, sameLimit x.frame q.frame = false) → (insertByCode q l).Pairwise fun a b => R a.frame b.frame)
    {l k : List Queued} (h : QueueMove l k) (fits : l.Pairwise fun a b => R a.frame b.frame) :
    k.Pairwise fun a b => R a.frame b.frame := by
  cases h with
  | leave sub => exact fits.sublist sub
  | enter q sub room free => exact enters (fits.sublist sub) free
  | edit edited =>
    induction edited with
    | nil => exact .nil
    | cons head tail ih =>
      obtain ⟨first, rest⟩ := List.pairwise_cons.mp fits
      refine List.pairwise_cons.mpr ⟨fun y hy => ?_, ih rest⟩
      obtain ⟨x, hx, stands⟩ := exists_of_mem_edited tail hy
      exact same head stands (first x hx)

theorem QueueMove.fits {l k : List Queued} (h : QueueMove l k) (fits : queueFits l) : queueFits k :=
  h.pairwise (R := fun a b => sameLimit a b = false ∧ a.code ≤ b.code)
    (fun ca db r => ⟨by rw [ca.2, db.limit_right]; exact r.1, by rw [ca.1, db.1]; exact r.2⟩)
    insertByCode_fits fits

theorem QueueMove.limits {l k : List Queued} (h : QueueMove l k) (sound : limitsHold l = true) :
    limitsHold k = true := by
  rw [limitsHold_iff] at sound ⊢
  refine h.pairwise (R := fun a b => sameLimit a b = false) (fun ca db r => by rw [ca.2, db.limit_right]; exact r)
    (fun {q l} fits free => ?_) sound
  rw [(insertByCode_perm q l).pairwise_iff fun {a b} (r : sameLimit a.frame b.frame = false) => by
    rw [sameLimit_comm]; exact r]
  exact List.pairwise_cons.mpr ⟨fun x hx => by rw [sameLimit_comm]; exact free x hx, fits⟩

/-- Moves keep the queue sound, and with it the order of the kind codes (R100, R101). -/
theorem QueueMoves.sound {l k : List Queued} (h : QueueMoves l k) :
    (l.length ≤ queueCapacity → k.length ≤ queueCapacity) ∧ (limitsHold l = true → limitsHold k = true) ∧
    (queueFits l → queueFits k) := by
  induction h with
  | refl => exact ⟨id, id, id⟩
  | tail _ move ih =>
    exact ⟨fun h => move.length_le (ih.1 h), fun h => move.limits (ih.2.1 h), fun h => move.fits (ih.2.2 h)⟩

theorem QueueMoves.of_sublist {l k : List Queued} (h : k.Sublist l) : QueueMoves l k := .single (.leave h)

/-- An edit of the frames in their places that keeps limits and codes is a move. -/
theorem QueueMoves.of_map {l : List Queued} {g : Queued → Queued} (same : ∀ q, (g q).frame.standsFor q.frame) :
    QueueMoves l (l.map g) := by
  refine .single (.edit ?_)
  rw [List.forall₂_map_right_iff]
  exact List.forall₂_same.mpr fun q _ => same q

theorem Frame.standsFor.refl (f : Frame) : f.standsFor f := ⟨rfl, fun _ => rfl⟩

theorem replaceContent_moves {f m : Frame} {q : Queued} {l : List Queued}
    (found : l.find? (fun x => sameLimit x.frame f) = some q) (same : m.standsFor q.frame) :
    QueueMoves l (replaceContent f m l) := by
  refine .single (.edit ?_)
  induction l with
  | nil => exact .nil
  | cons x l ih =>
    unfold replaceContent
    split
    next here =>
      simp only [List.find?_cons, here] at found
      cases found
      exact .cons same (List.forall₂_same.mpr fun y _ => .refl _)
    next there =>
      simp only [List.find?_cons, there] at found
      exact .cons (.refl _) (ih found)

end Sys2Proof.Machine
end

section
/-! PROOFS. The traffic of an event: everything that the owners of the transmit queue do, and every event at the tables,
moves the queue and leaves the rest of the Peer Bus Controller as it is. -/

namespace Sys2Proof.Machine

open Sys2Proof

/-- From s to t the transmit queue moved, and nothing else of the Peer Bus Controller changed. -/
structure Traffic (s t : State) : Prop where
  moves : QueueMoves s.bus.queue t.bus.queue
  line : t.bus = { s.bus with queue := t.bus.queue }

namespace Traffic

variable {s t u : State}

theorem of_bus (h : t.bus = s.bus) : Traffic s t := ⟨h ▸ .refl, by rw [h]⟩

theorem refl (s : State) : Traffic s s := of_bus rfl

theorem trans (h : Traffic s t) (k : Traffic t u) : Traffic s u :=
  ⟨h.moves.trans k.moves, by rw [k.line, h.line]⟩

theorem same (h : Traffic s t) (k : u.bus = t.bus) : Traffic s u := h.trans (of_bus k)

/-- An operation beside the bus, after traffic. -/
theorem after (op : State → State) (h : Traffic s t) (k : ∀ v, (op v).bus = v.bus) : Traffic s (op t) := h.same (k t)

theorem ite {p : Prop} [Decidable p] (h : Traffic s t) (k : Traffic s u) : Traffic s (if p then t else u) := by
  split
  · exact h
  · exact k

theorem state (h : Traffic s t) : t.bus.state = s.bus.state := by rw [h.line]

theorem score (h : Traffic s t) : t.bus.score = s.bus.score := by rw [h.line]

theorem of_queue {q : List Queued} (h : QueueMoves s.bus.queue q) : Traffic s (setQueue q s) := ⟨h, rfl⟩

theorem each8 {f : Fin 8 → State → State} (step : ∀ n s, Traffic s (f n s)) (s : State) :
    Traffic s (Machine.each8 f s) := each8_relates refl trans step s

theorem each8_if {p : Fin 8 → State → Bool} {f : Fin 8 → State → State} (step : ∀ n s, Traffic s (f n s))
    (s : State) : Traffic s (Machine.each8 (fun n s => if p n s then f n s else s) s) := by
  refine each8 (fun n s => ?_) s
  split
  · exact step n s
  · exact refl s

/-! ## Offers, withdrawals, edits -/

theorem offer (f : Frame) (s : State) : Traffic s (offer f s).1 := by
  unfold Machine.offer
  split
  · exact refl s
  · split
    next q found =>
      have limit : sameLimit q.frame f = true := by simpa using List.find?_some found
      split
      next m merged => exact of_queue (replaceContent_moves found (mergeFrames_standsFor merged))
      next =>
        split
        · refine of_queue (.single (.enter _ (List.filter_sublist (l := s.bus.queue)) (.inl ?_) fun x hx => ?_))
          · exact List.length_filter_lt_length_iff_exists.mpr
              ⟨q, List.mem_of_find?_eq_some found, by simp [limit]⟩
          · change sameLimit x.frame f = false
            simpa using (List.mem_filter.mp hx).2
        · exact refl s
    next none =>
      have free : ∀ x ∈ s.bus.queue, sameLimit x.frame f = false := by simpa using none
      split
      next room => exact of_queue (.single (.enter _ (List.Sublist.refl _) (.inr room) free))
      next =>
        split
        next last hlast =>
          split
          · refine (of_queue (.single (.enter (newEntry s.now f) (List.dropLast_sublist s.bus.queue) (.inl ?_)
              fun x hx => free x (List.mem_of_mem_dropLast hx)))).same (by simp)
            have : s.bus.queue ≠ [] := by rintro e; simp [e] at hlast
            simp [List.length_pos_iff.mpr this]
          · exact of_bus (by simp)
        · exact refl s

theorem offerOnly (f : Frame) (s : State) : Traffic s (offerOnly f s) := offer f s

theorem withdrawFrames (p : Frame → Bool) (s : State) : Traffic s (withdrawFrames p s) := by
  unfold Machine.withdrawFrames
  split
  · exact (of_queue (.of_sublist List.filter_sublist)).same rfl
  · exact refl s

theorem editFrames {e : Frame → Frame} (same : ∀ f, (e f).standsFor f) (s : State) : Traffic s (editFrames e s) :=
  of_queue (.of_map fun q => same q.frame)

theorem withoutZoneClear_standsFor (z : Fin 8) (f : Frame) : (withoutZoneClear z f).standsFor f := by
  cases f with
  | clear m => exact ⟨rfl, fun g => by cases g <;> rfl⟩
  | _ => exact .refl _

theorem removeFromTrip (z : Fin 8) (s : State) : Traffic s (removeFromTrip z s) :=
  (editFrames (withoutZoneTrip_standsFor z) s).trans (withdrawFrames _ _)

theorem removeFromClear (z : Fin 8) (s : State) : Traffic s (removeFromClear z s) :=
  (editFrames (withoutZoneClear_standsFor z) s).trans (withdrawFrames _ _)

/-! ## Frames due -/

theorem buildFault (c : Fin 8) (s : State) : Traffic s (buildFault c s) := by
  unfold Machine.buildFault
  split
  · have h := offer (faultFrame s c) s
    dsimp only
    split
    · exact h.same (by simp)
    · exact h.same (by simp)
  · exact refl s

theorem sendStatus (s : State) : Traffic s (sendStatus s) := offerOnly _ s

theorem buildPoints (s : State) : Traffic s (buildPoints s) := by
  unfold Machine.buildPoints
  dsimp only
  split
  · split
    · exact (of_bus (by simp)).trans (offer _ _)
    · exact (offerOnly _ s).after (setPubBlocked true) (by simp)
  · exact refl s

/-! ## The Group Table -/

theorem offerHold (e c : Fin 8) (o : Bool) (s : State) : Traffic s (offerHold e c o s) := offerOnly _ s

theorem offerRelease (e c : Fin 8) (s : State) : Traffic s (offerRelease e c s) := by
  unfold Machine.offerRelease
  have h := offer (.release (s.member e).group c) s
  dsimp only
  split
  · exact h
  · exact h.same (by simp)

theorem claimGroup (e c : Fin 8) (s : State) : Traffic s (claimGroup e c s) := by
  unfold Machine.claimGroup
  dsimp only
  split
  · exact (of_bus (by simp)).trans (offer _ _)
  · exact ((of_bus (by simp)).trans (offer _ _)).after (enterFreeHoldOff e) (by simp)

theorem claimIfDue (e : Fin 8) (s : State) : Traffic s (claimIfDue e s) := by
  unfold Machine.claimIfDue
  (repeat' split) <;> first | exact refl s | exact claimGroup _ _ s

theorem buildDue (s : State) : Traffic s (buildDue s) :=
  ((each8 claimIfDue s).trans (each8 buildFault _)).trans (buildPoints _)

theorem queueRelease (e : Fin 8) (x : Entry) (s : State) : Traffic s (queueRelease e x s) :=
  (of_bus (by simp)).trans (offerRelease _ _ _)

theorem settleDone (e : Fin 8) (x : Entry) (s : State) : Traffic s (settleDone e x s) := by
  unfold Machine.settleDone
  (repeat' split) <;> first | exact of_bus (by simp) | exact queueRelease e x s

theorem doneAt (e c : Fin 8) (s : State) : Traffic s (doneAt e c s) := by
  simp only [Machine.doneAt]
  (repeat' split) <;> first | exact refl s | exact settleDone e _ s

theorem cancelAt (e c : Fin 8) (s : State) : Traffic s (cancelAt e c s) := by
  unfold Machine.cancelAt
  split
  · exact refl s
  · dsimp only
    split
    · exact ((of_bus (by simp)).trans (withdrawFrames _ _)).after (enterFree e) (by simp)
    · exact of_bus (by simp)

theorem yieldTo (e : Fin 8) (x : Entry) (h : Holder) (s : State) : Traffic s (yieldTo e x h s) := by
  unfold Machine.yieldTo
  dsimp only
  split <;> exact ((of_bus (by simp)).trans (withdrawFrames _ _)).same rfl

theorem foreignClaim (e : Fin 8) (h : Holder) (s : State) : Traffic s (foreignClaim e h s) := by
  unfold Machine.foreignClaim
  (repeat' split) <;>
    first
    | exact offerHold _ _ _ s
    | exact (withdrawFrames _ s).after (enterHeldRemote e h) (by simp)
    | exact of_bus (by simp)

theorem foreignHold (e : Fin 8) (h : Holder) (o : Bool) (s : State) : Traffic s (foreignHold e h o s) := by
  have conflict (t : State) : Traffic t (raiseFlag .groupConflict t) := of_bus (by simp)
  have held {t : State} (k : Traffic s t) : Traffic s (enterHeldRemote e h t) :=
    k.after (enterHeldRemote e h) (by simp)
  unfold Machine.foreignHold
  split
  · exact refl s
  · split
    iterate 4 exact held (refl s)
    · exact held (withdrawFrames _ s)
    · dsimp only
      split
      · exact held (withdrawFrames _ s)
      · exact held ((conflict s).trans (withdrawFrames _ _))
    · exact yieldTo _ _ _ s
    · split
      · exact refl s
      · split
        · exact held ((withdrawFrames _ s).trans (conflict _))
        · split
          · exact of_bus rfl
          · exact yieldTo _ _ _ s

theorem foreignRelease (e : Fin 8) (n : Station) (s : State) : Traffic s (foreignRelease e n s) := by
  have dead {t : State} (k : Traffic s t) : Traffic s (enterDead e t) := k.after (enterDead e) (by simp)
  unfold Machine.foreignRelease
  split
  · exact refl s
  · split
    iterate 2 exact dead (refl s)
    · exact dead (withdrawFrames _ s)
    · exact settleDone _ _ s
    · exact ite (dead (refl s)) (refl s)
    iterate 3 exact refl s

theorem holdExpiry (e : Fin 8) (s : State) : Traffic s (holdExpiry e s) := by
  unfold Machine.holdExpiry
  (repeat' split) <;> first | exact refl s | exact (of_bus (by simp)).trans (offerHold _ _ _ _)

theorem windowExpiry (e : Fin 8) (s : State) : Traffic s (windowExpiry e s) := by
  unfold Machine.windowExpiry
  (repeat' split) <;>
    first
    | exact refl s
    | exact settleDone _ _ s
    | exact (of_bus (by simp)).trans (offerHold _ _ _ _)

theorem groupOnLine (e : Fin 8) (s : State) : Traffic s (groupOnLine e s) := by
  unfold Machine.groupOnLine
  (repeat' split) <;>
    first
    | exact (of_bus (by simp)).trans (offerHold _ _ _ _)
    | exact of_bus (by simp)

theorem groupHello (e : Fin 8) (s : State) : Traffic s (groupHello e s) := by
  unfold Machine.groupHello
  (repeat' split) <;> first | exact refl s | exact offerHold _ _ _ s

theorem onGroup {f : Fin 8 → State → State} (step : ∀ n s, Traffic s (f n s)) (g : Fin 128) (s : State) :
    Traffic s (onGroup g f s) := each8_if step s

/-! ## The Zone Table and the sense inputs -/

theorem queueTrip (m : Byte) (k : TripCause) (s : State) : Traffic s (queueTrip m k s) := by
  unfold Machine.queueTrip
  split
  · exact offerOnly _ s
  · exact refl s

theorem queueClear (m : Byte) (s : State) : Traffic s (queueClear m s) := by
  unfold Machine.queueClear
  split
  · exact offerOnly _ s
  · exact refl s

theorem tripInputActive (z : Fin 8) (s : State) : Traffic s (tripInputActive z s) :=
  ((of_bus (by simp)).trans (queueTrip _ _ _)).trans (removeFromClear z _)

theorem hostTripZone (z : Fin 8) (s : State) : Traffic s (hostTripZone z s) := by
  unfold Machine.hostTripZone
  dsimp only
  split <;> exact (of_bus (by simp)).trans (removeFromClear z _)

theorem takenClearZone (z : Fin 8) (s : State) : Traffic s (takenClearZone z s) := by
  unfold Machine.takenClearZone
  dsimp only
  split
  · exact (of_bus (by simp)).trans (queueTrip _ _ _)
  · split
    · exact (of_bus (by simp)).trans (removeFromTrip z _)
    · exact refl s

theorem onZones {f : Fin 8 → State → State} (step : ∀ n s, Traffic s (f n s)) (m : Byte) (s : State) :
    Traffic s (onZones m f s) := each8_if step s

theorem hostTripZones (m : Byte) (s : State) : Traffic s (hostTripZones m s) :=
  (onZones hostTripZone m s).trans (queueTrip _ _ _)

theorem inputToZones (n : Fin 8) (s : State) : Traffic s (inputToZones n s) := by
  unfold Machine.inputToZones
  (repeat' split) <;>
    first
    | exact tripInputActive _ s
    | exact queueClear _ s
    | exact of_bus (by simp)

theorem debounceExpires (n : Fin 8) (s : State) : Traffic s (debounceExpires n s) := by
  unfold Machine.debounceExpires
  dsimp only
  split
  · exact ((of_bus (by simp)).trans (inputToZones n _)).after (pendSource (.sense n)) (by simp)
  · exact refl s

/-! ## Marks -/

theorem takeMark (n : Half) (s : State) : Traffic s (takeMark n s) := of_bus (by simp)

theorem markAtTimer (own : Bool) (n : Half) (s : State) : Traffic s (markAtTimer own n s) := by
  have status {t : State} (h : Traffic s t) :
      Traffic s (if t.onLine && t.statusDue n then Machine.sendStatus t else t) := by
    split
    · exact h.trans (sendStatus t)
    · exact h
  unfold Machine.markAtTimer
  refine status (Traffic.trans ?_ (takeMark n _))
  split
  · exact withdrawFrames _ s
  · exact refl s

theorem markExpiry (s : State) : Traffic s (markExpiry s) := by
  have waits (m : MarkTimer) (n : Half) : Traffic s (Machine.offer (.mark n) (setMarks m s)).1 :=
    Traffic.trans (t := setMarks m s) (of_bus rfl) (offer _ _)
  unfold Machine.markExpiry
  split
  · exact refl s
  · split
    · dsimp only
      split
      · exact waits _ _
      · exact (waits _ _).trans (takeMark _ _)
    · exact takeMark _ s

/-! ## A frame at its owner -/

theorem atOwner (own : Bool) (source : Station) (f : Frame) (s : State) : Traffic s (atOwner own source f s) := by
  cases f with
  | mark n => exact markAtTimer own n s
  | trip z c => exact onZones (fun _ _ => of_bus (by simp)) z s
  | clear z => exact onZones takenClearZone z s
  | claim g c =>
    simp only [Machine.atOwner]
    split
    · refine onGroup (fun e s => ?_) g s
      split
      · exact of_bus (by simp)
      · exact foreignClaim _ _ _
    · exact refl s
  | hold g c o =>
    simp only [Machine.atOwner]
    split
    · refine onGroup (fun e s => ?_) g s
      split
      · exact of_bus (by simp)
      · exact foreignHold _ _ _ _
    · exact refl s
  | release g c =>
    simp only [Machine.atOwner]
    split
    · refine onGroup (fun e s => ?_) g s
      split
      · exact of_bus (by simp)
      · exact foreignRelease _ _ _
    · exact refl s
  | points ps => exact of_bus (by simp [Machine.atOwner])
  | fault c l st m => exact of_bus (by simp [Machine.atOwner])
  | faultAck t ch k n =>
    simp only [Machine.atOwner]
    split <;> exact of_bus (by simp)
  | status i => exact of_bus (by simp [Machine.atOwner])
  | hello token sig =>
    simp only [Machine.atOwner]
    split
    · exact (((each8 groupHello s).trans (queueTrip _ _ _)).after pendAll (by simp)).after (modPeer source _) (by simp)
    · exact of_bus (by simp)

theorem dispatch (own : Bool) (source : Station) (f : Frame) (s : State) : Traffic s (dispatch own source f s) :=
  (atOwner own source f s).same (by simp [Machine.dispatch])

end Traffic

end Sys2Proof.Machine
end

section
/-! PROOFS. The transmit queue and the bus fault score under every command (R100, R101, R108, R116). -/

namespace Sys2Proof.Machine

open Sys2Proof

/-! ## Changes of bus state -/

theorem flushedNotices_bus (l : List Queued) (s : State) : (flushedNotices l s).bus = s.bus := by
  induction l generalizing s with
  | nil => rfl
  | cons q l ih => simp [flushedNotices, ih]

/-- The flush empties the queue and leaves the rest of the Peer Bus Controller (R106). -/
theorem flushQueue_bus (s : State) : (flushQueue s).bus = { s.bus with queue := [] } := by
  simp only [flushQueue]
  split
  next empty => rw [← List.isEmpty_iff.mp empty]
  next => exact flushedNotices_bus _ _

theorem leaveTraffic_bus (s : State) : (leaveTraffic s).bus = { s.bus with queue := [] } := by
  have keeps := each8_keeps State.bus groupLeaves (fun n s => by simp) (flushQueue s)
  simp [leaveTraffic, keeps, flushQueue_bus]

/-- The Peer Bus Controller after the entry to MUTED, OFF-LINE or BARRED (R106, R116 to R119). -/
theorem enterSilent_bus (b : BusState) (s : State) : (enterSilent b s).bus = { s.bus with
    state := b, phase := none, joinTimer := none, gapSeen := false,
    offLineTimer := if b == .offLine then some (s.now + Config.offLineTime) else none,
    queue := if s.learns then [] else s.bus.queue } := by
  simp only [enterSilent, setFlagLive_frame]
  split
  · simp [leaveTraffic_bus]
  · simp

theorem offerHello_traffic (s : State) :
    Traffic (setBus { s.bus with phase := some .helloQueued, joinTimer := none } s) (offerHello s) :=
  Traffic.offerOnly _ _

theorem enterJoining_traffic (s : State) : Traffic
    (setBus { s.bus with state := .joining, gapSeen := false, offLineTimer := none, phase := some .helloQueued,
                         joinTimer := none } s) (enterJoining s) :=
  (Traffic.of_bus (by simp)).trans (offerHello_traffic _)

theorem zonesOnLine_traffic (s : State) : Traffic s (zonesOnLine s) := Traffic.queueTrip _ _ s

theorem enterOnLine_traffic (s : State) : Traffic
    (setBus { s.bus with state := .onLine, phase := none, joinTimer := none, gapSeen := false } s)
    (enterOnLine s) :=
  ((((Traffic.of_bus (by simp)).trans (Traffic.each8 Traffic.groupOnLine _)).trans (zonesOnLine_traffic _)).after
    pendStickyFaults (by simp)).after pendAll (by simp)

/-! ## The queue and the score, kept -/

/-- From s to t the queue moved, and a sound score stayed sound. -/
structure BusKept (s t : State) : Prop where
  moves : QueueMoves s.bus.queue t.bus.queue
  score : s.scoreSound = true → t.scoreSound = true

theorem scoreSound_iff (s : State) :
    s.scoreSound = true ↔ (s.bus.state = .onLine ∨ s.bus.state = .joining → s.bus.score < 96) := by
  simp [State.scoreSound, State.learns, imp_iff_not_or]

namespace BusKept

variable {s t u : State}

theorem trans (h : BusKept s t) (k : BusKept t u) : BusKept s u := ⟨h.moves.trans k.moves, fun x => k.score (h.score x)⟩

theorem of_traffic (h : Traffic s t) : BusKept s t :=
  ⟨h.moves, fun x => by rw [scoreSound_iff] at x ⊢; rwa [h.state, h.score]⟩

theorem traffic (h : BusKept s t) (k : Traffic t u) : BusKept s u := h.trans (of_traffic k)

theorem enterSilent {b : BusState} (silent : b ≠ .onLine ∧ b ≠ .joining) (s : State) :
    BusKept s (enterSilent b s) := by
  refine ⟨?_, fun _ => ?_⟩
  · rw [enterSilent_bus]
    dsimp only
    split
    · exact .of_sublist (List.nil_sublist _)
    · exact .refl
  · rw [scoreSound_iff, enterSilent_bus]
    rintro (h | h)
    · exact absurd h silent.1
    · exact absurd h silent.2

theorem enterJoining (low : s.bus.score < 96) : BusKept s (enterJoining s) :=
  ⟨(enterJoining_traffic s).moves, fun _ => by
    rw [scoreSound_iff, (enterJoining_traffic s).score]; exact fun _ => low⟩

/-- Each comparison that follows a change of the score moves the queue, and leaves a sound score (R116 to R118). -/
theorem judgeScore_moves (s : State) : QueueMoves s.bus.queue (judgeScore s).bus.queue := by
  unfold Machine.judgeScore
  (repeat' split) <;>
    first
    | exact .refl
    | exact (enterSilent (by decide) s).moves
    | exact (enterJoining_traffic s).moves

theorem judgeScore_sound (s : State) : (judgeScore s).scoreSound = true := by
  have quiet {b : BusState} (h : s.bus.state = b) (silent : b ≠ .onLine ∧ b ≠ .joining) : s.scoreSound = true := by
    rw [scoreSound_iff, h]
    rintro (e | e)
    · exact absurd e silent.1
    · exact absurd e silent.2
  have silent {b : BusState} (h : b ≠ .onLine ∧ b ≠ .joining) : (Machine.enterSilent b s).scoreSound = true := by
    rw [scoreSound_iff, enterSilent_bus]
    rintro (e | e)
    · exact absurd e h.1
    · exact absurd e h.2
  unfold Machine.judgeScore
  split
  case h_3 =>
    split
    next low =>
      rw [scoreSound_iff, (enterJoining_traffic s).score]
      exact fun _ => Nat.lt_of_le_of_lt low (by decide)
    · split
      · exact silent (by decide)
      · exact quiet ‹_› (by decide)
  case h_4 | h_5 | h_6 => exact quiet ‹_› (by decide)
  all_goals
    split
    · exact silent (by decide)
    · split
      · exact silent (by decide)
      next low =>
        rw [scoreSound_iff]
        exact fun _ => Nat.lt_of_not_le low

/-- A changed score, compared. -/
theorem judged (h : QueueMoves s.bus.queue t.bus.queue) : BusKept s (judgeScore t) :=
  ⟨h.trans (judgeScore_moves t), fun _ => judgeScore_sound t⟩

/-! ## Attempts -/

theorem abandonedNotice_moves (f : Frame) (s : State) : QueueMoves s.bus.queue (abandonedNotice f s).bus.queue := by
  cases f with
  | mark n => exact (Traffic.takeMark n s).moves
  | trip z c => exact (Traffic.queueTrip _ _ s).moves
  | claim g c => exact (Traffic.onGroup (fun _ _ => .of_bus (by simp)) g s).moves
  | release g c => exact (Traffic.onGroup (fun _ _ => .of_bus (by simp)) g s).moves
  | points ps => exact (Traffic.of_bus (by simp [abandonedNotice])).moves
  | fault c l k m => exact (Traffic.of_bus (by simp [abandonedNotice])).moves
  | hello a b =>
    simp only [abandonedNotice, helloAbandoned]
    split <;> exact .refl
  | clear _ => exact .refl
  | hold _ _ _ => exact .refl
  | faultAck _ _ _ _ => exact .refl
  | status _ => exact .refl

theorem abandonDue_moves (s : State) : QueueMoves s.bus.queue (abandonDue s).bus.queue := by
  unfold abandonDue
  split
  · exact .refl
  · refine .trans ?_ (abandonedNotice_moves _ _)
    rw [(raiseFlag_frame _ _).2.2.2.2.2.2.2.2.2.1]
    exact QueueMoves.of_sublist List.filter_sublist

theorem failed_standsFor (q : Queued) : q.failed.frame.standsFor q.frame := by
  unfold Queued.failed
  split <;> exact .refl _

theorem failAttempt (s : State) : BusKept s (failAttempt s) := by
  unfold Machine.failAttempt
  split
  · exact of_traffic (.refl s)
  · refine BusKept.traffic (judged (.trans ?_ (abandonDue_moves _))) (.buildDue _)
    exact QueueMoves.of_map failed_standsFor

/-- The entry of a taken frame leaves, or stays under the same limits with what the frame did not carry (R104). -/
theorem settleTaken_cases (f : Frame) (l : List Queued) :
    (settleTaken f l).Sublist l ∨ List.Forall₂ (fun x y => y.frame.standsFor x.frame) l (settleTaken f l) := by
  induction l with
  | nil => exact .inl (List.Sublist.refl _)
  | cons q l ih =>
    unfold settleTaken
    split
    · split
      next m left =>
        exact .inr (.cons (residue_standsFor left) (List.forall₂_same.mpr fun _ _ => .refl _))
      · exact .inl (List.sublist_cons_self q l)
    · exact ih.imp (·.cons_cons q) (.cons (.refl _))

theorem settleTaken_moves (f : Frame) (l : List Queued) : QueueMoves l (settleTaken f l) :=
  (settleTaken_cases f l).elim .of_sublist fun h => .single (.edit h)

theorem takenNotice (f : Frame) (s : State) : BusKept s (takenNotice f s) := by
  cases f with
  | points ps => exact of_traffic (.of_bus (by simp [Machine.takenNotice]))
  | hello a b =>
    simp only [Machine.takenNotice]
    split
    · exact ⟨.refl, id⟩
    · exact of_traffic (.refl s)
  | _ => exact of_traffic (.refl s)

theorem completeAttempt (f : Frame) (s : State) : BusKept s (completeAttempt f s) := by
  simp only [Machine.completeAttempt]
  have judgedKept : BusKept s (Machine.judgeScore (lowerScore
      (if (settleTaken f s.bus.queue).length < s.bus.queue.length then
        roomNotice (setBus { s.bus with attempt := none, queue := settleTaken f s.bus.queue } s)
      else setBus { s.bus with attempt := none, queue := settleTaken f s.bus.queue } s))) := by
    refine judged ?_
    split <;> exact settleTaken_moves f _
  have dispatched := judgedKept.traffic (.dispatch true s.loader.station f _)
  refine BusKept.traffic ?_ (.buildDue _)
  split
  · exact dispatched.trans (takenNotice f _)
  · exact dispatched

/-! ## Frames heard -/

theorem duplicateFound (s : State) : BusKept s (duplicateFound s) := by
  unfold Machine.duplicateFound
  have raised : BusKept s (raiseFlag .duplicateStation s) := of_traffic (.of_bus (by simp))
  split
  iterate 3 exact raised.trans (enterSilent (by decide) _)
  · exact raised
  iterate 2 exact of_traffic (.refl s)

theorem hear (kind : Nat) (source : Station) (payload : List Byte) (s : State) :
    BusKept s (hear kind source payload s) := by
  simp only [Machine.hear]
  have heard : BusKept s (Machine.judgeScore (lowerScore (setRejecting false s))) := judged .refl
  split
  · exact of_traffic (.refl s)
  · refine BusKept.traffic ?_ (.buildDue _)
    split
    · exact heard.traffic (.of_bus (by simp))
    · split
      · exact heard.trans (duplicateFound _)
      · exact heard.traffic (.dispatch _ _ _ _)

theorem readFrame (f : FrameRead) (s : State) : BusKept s (readFrame f s) := by
  unfold Machine.readFrame
  split
  · unfold hearBad
    split
    · exact of_traffic (.refl s)
    · refine BusKept.traffic ?_ (.buildDue _)
      exact judged .refl
  · exact hear _ _ _ s

theorem hearRejected (s : State) : BusKept s (hearRejected s) := by
  unfold Machine.hearRejected
  split <;> exact ⟨.refl, id⟩

theorem takeFrame (kind : Nat) (a : Arrival) (s : State) : BusKept s (takeFrame kind a s) := by
  unfold Machine.takeFrame
  split
  · exact hear _ _ _ s
  · split
    · split
      · exact completeAttempt _ s
      · exact of_traffic (.refl s)
    · exact of_traffic (.refl s)

/-- The head goes on the line, in its place in the queue (R94). -/
theorem offerHead (rivals : List Key) (s : State) : BusKept s (offerHead rivals s) := by
  simp only [Machine.offerHead]
  split
  · exact of_traffic (.refl s)
  · split
    · exact ⟨.refl, id⟩
    next q qs queue =>
      split
      · refine ⟨?_, id⟩
        rw [queue]
        exact .single (.edit (.cons (.refl _) (List.forall₂_same.mpr fun _ _ => .refl _)))
      · exact ⟨.refl, id⟩

/-! ## The timers of the bus state -/

theorem joinWaitEnds (s : State) : BusKept s (joinWaitEnds s) := by
  unfold Machine.joinWaitEnds
  split
  next due =>
    simp only [Bool.and_eq_true, beq_iff_eq] at due
    obtain ⟨⟨joining, -⟩, -⟩ := due
    refine BusKept.traffic ⟨(enterOnLine_traffic s).moves, fun sound => ?_⟩ (.buildDue _)
    rw [scoreSound_iff] at sound ⊢
    rw [(enterOnLine_traffic s).score]
    exact fun _ => sound (.inr joining)
  · exact of_traffic (.refl s)

theorem helloHoldOffEnds (s : State) : BusKept s (helloHoldOffEnds s) := by
  unfold Machine.helloHoldOffEnds
  split
  · exact BusKept.traffic (t := setBus { s.bus with phase := some .helloQueued, joinTimer := none } s) ⟨.refl, id⟩
      (offerHello_traffic s)
  · exact of_traffic (.refl s)

theorem offLineEnds (s : State) : BusKept s (offLineEnds s) := by
  unfold Machine.offLineEnds
  split
  next due =>
    simp only [Bool.and_eq_true, beq_iff_eq] at due
    refine BusKept.trans (t := setScore 40 s) ⟨.refl, fun _ => ?_⟩ (enterSilent (by decide) _)
    rw [scoreSound_iff]
    exact fun _ => (by decide : 40 < 96)
  · exact of_traffic (.refl s)

/-! ## RUNNING entry and resets -/

/-- A queue with no frame in it is a move from any. -/
theorem of_reset (queue : t.bus.queue = []) (score : t.bus.score = 0) : BusKept s t :=
  ⟨by rw [queue]; exact .of_sublist (List.nil_sublist _), fun _ => by rw [scoreSound_iff, score]; exact fun _ => by decide⟩

end BusKept

end Sys2Proof.Machine
end

section
/-! PROOFS. What a command of the logic die can do, said once: each command is one of the blocks' operations, with the
frames due after it, or a request's answer. A relation of states that these keep is kept by every command. -/

namespace Sys2Proof.Machine

open Sys2Proof

/-- What a relation of the states before and after has to keep for every command to keep it: one field for each
operation that a command performs. -/
structure KeptByOperations (R : State → State → Prop) : Prop where
  refl : ∀ s, R s s
  trans : ∀ {s t u}, R s t → R t u → R s u
  power : ∀ s p, R s { s with power := p }
  due : ∀ s, R s (buildDue s)
  -- the Local Host Port
  answer : ∀ (s : State) r b, (s.held = true → b = none) →
    R s { s with host := { s.host with response := r, transaction := b } }
  readEvents : ∀ s : State, R s { s with host := { s.host with events := ⟨false, false, false⟩ } }
  popFault : ∀ s : State, R s { s with faults := { s.faults with list := s.faults.list.drop 1, overrun := 0 } }
  hostPoint : ∀ n v s, s.running = true → R s (hostPointChange n v s)
  acknowledge : ∀ m k f s, s.running = true → R s (acknowledge m k f s)
  offer : ∀ f s, R s (offer f s).1
  tripZones : ∀ m s, s.running = true → R s (hostTripZones m s)
  clearZones : ∀ m s, R s (queueClear m s)
  -- resets and loading
  nodeReset : ∀ s, R s (nodeReset s)
  powerOn : ∀ s, R s (powerOn s)
  endReset : ∀ x s, s.held = true → R s (endReset x s)
  retryAddress : ∀ b s, R s (retryAddress b s)
  takeHeader : ∀ bytes s, R s (takeHeader bytes s)
  takeBody : ∀ bytes s, R s (takeBody bytes s)
  readFails : ∀ bytes s, R s (readFails bytes s)
  writeBlock : ∀ o bytes s, s.configurable = true → R s (stageBytes o bytes s)
  commit : ∀ s, s.configurable = true → s.host.transaction.isSome = true → R s (judgeImage s)
  -- pins
  shutdown : ∀ b s, R s (shutdownChange b s)
  pin : ∀ n s, R s (pinChange n s)
  debounce : ∀ n s, s.running = true → R s (debounceExpires n s)
  -- channels
  confirmEnergizing : ∀ c s, s.running = true → R s (confirmExpiryEnergizing c s)
  confirmReleasing : ∀ c s, s.running = true → R s (confirmExpiryReleasing c s)
  offCheck : ∀ c s, s.running = true → R s (offCheckExpiry c s)
  holdOver : ∀ c i s, s.running = true → R s (holdOverExpiry c i s)
  toGroups : ∀ (s : State) l, R s { s with channels := { s.channels with toGroups := l } }
  toChannels : ∀ (s : State) l, R s { s with channels := { s.channels with toChannels := l } }
  request : ∀ e c s, R s (requestAt e c s)
  cancel : ∀ e c s, R s (cancelAt e c s)
  done : ∀ e c s, R s (doneAt e c s)
  grant : ∀ c s, s.running = true → R s (grantAt c s)
  revoke : ∀ c s, s.running = true → R s (revokeAt c s)
  -- membership entries
  hold : ∀ e s, R s (holdExpiry e s)
  retry : ∀ e s, R s (retryExpiry e s)
  lifetime : ∀ e s, R s (lifetimeExpiry e s)
  window : ∀ e s, R s (windowExpiry e s)
  dead : ∀ e s, R s (deadExpiry e s)
  lapse : ∀ e s, R s (lapseExpiry e s)
  -- the other timers
  mark : ∀ s, s.running = true → R s (markExpiry s)
  age : ∀ i s, s.running = true → R s (ageExpiry i s)
  refresh : ∀ i s, R s (refreshExpiry i s)
  -- the peer bus
  offerHead : ∀ l s, R s (offerHead l s)
  failAttempt : ∀ s, R s (failAttempt s)
  readFrame : ∀ f s, R s (readFrame f s)
  hear : ∀ k n p s, R s (hear k n p s)
  hearRejected : ∀ s, R s (hearRejected s)
  takeFrame : ∀ k a s, R s (takeFrame k a s)
  offLine : ∀ s, R s (offLineEnds s)
  joinWait : ∀ s, R s (joinWaitEnds s)
  helloHoldOff : ∀ s, R s (helloHoldOffEnds s)
  -- the Barrier Link
  slot : ∀ s, R s (startSlot s)
  judgeSlot : ∀ r s, R s (judgeSlot r s)
  guarantee : ∀ s, R s (guaranteeEnds s)

namespace KeptByOperations

variable {R : State → State → Prop} (k : KeptByOperations R)
include k

theorem whenRunning {f : State → State} (h : ∀ s, s.running = true → R s (f s)) (s : State) :
    R s (whenRunning f s) := by
  unfold Machine.whenRunning
  split
  · exact h s ‹_›
  · exact k.refl s

theorem event {f : State → State} (h : ∀ s, s.running = true → R s (f s)) (s : State) :
    R s (buildDue (Machine.whenRunning f s)) := k.trans (k.whenRunning h s) (k.due _)

theorem whenTransaction {f : State → State} (h : ∀ s, s.host.transaction.isSome = true → R s (f s)) (s : State) :
    R s (whenTransaction f s) := by
  unfold Machine.whenTransaction
  split
  · exact h s ‹_›
  · exact k.refl s

theorem respond (c : Byte) (x : Status) (d : List Byte) (s : State) : R s (respond c x d s) := k.answer s _ _ fun _ => rfl

theorem responds {s t : State} (h : R s t) (c : Byte) (x : Status) (d : List Byte) : R s (Machine.respond c x d t) :=
  k.trans h (k.respond c x d t)

theorem judged {c : Byte} {good : Bool} {admitted : State → Bool} {f : State → State}
    (h : ∀ s, admitted s = true → R s (f s)) (s : State) : R s (judged c good admitted f s) := by
  unfold Machine.judged
  split
  · exact k.respond _ _ _ s
  · split
    · exact k.respond _ _ _ s
    next ok => exact h s (by simpa using ok)

theorem judgedIndex {c : Byte} {listed : State → Nat} {i : Byte} {f : State → State} (h : ∀ s, R s (f s))
    (s : State) : R s (judgedIndex c listed i f s) := by
  unfold Machine.judgedIndex
  split
  · exact k.respond _ _ _ s
  · split
    · exact k.respond _ _ _ s
    · exact h s

theorem toGroup {c : Fin 8} {p : ToGroupMsg → Bool} {f : Fin 8 → State → State} (h : ∀ e s, R s (f e s))
    (s : State) : R s (deliverToGroup c p f s) := by
  unfold deliverToGroup
  split
  · exact k.refl s
  · split
    · exact k.refl s
    · split
      · exact k.trans (k.toGroups s _) (h _ _)
      · exact k.refl s

theorem toChannel {c : Fin 8} {p : ToChannelMsg → Bool} {f : State → State}
    (h : ∀ s, s.running = true → R s (f s)) (s : State) (running : s.running = true) :
    R s (deliverToChannel c p f s) := by
  unfold deliverToChannel
  split
  · exact k.refl s
  · split
    · exact k.trans (k.toChannels s _) (h _ running)
    · exact k.refl s

/-! ## Requests -/

theorem takeReadChannel (c : Byte) (s : State) : R s (takeReadChannel c s) :=
  k.judged (fun s _ => k.respond _ _ _ s) s

theorem takeReadSubscription (i : Byte) (s : State) : R s (takeReadSubscription i s) := by
  refine k.judgedIndex (fun s => ?_) s
  split <;> exact k.respond _ _ _ s

theorem takeReadPublication (i : Byte) (s : State) : R s (takeReadPublication i s) := by
  refine k.judgedIndex (fun s => ?_) s
  split <;> exact k.respond _ _ _ s

theorem takeReadGroup (i : Byte) (s : State) : R s (takeReadGroup i s) := by
  refine k.judgedIndex (fun s => ?_) s
  split <;> exact k.respond _ _ _ s

theorem takeReadPeer (n : Byte) (s : State) : R s (takeReadPeer n s) := by
  unfold Machine.takeReadPeer
  split <;> exact k.respond _ _ _ s

theorem takeSetHostPoint (n v : Byte) (s : State) : R s (takeSetHostPoint n v s) :=
  k.judged (fun s running => k.responds (k.trans (k.hostPoint _ _ s running) (k.due _)) _ _ _) s

theorem ackFaults (n : Station) (m : Byte) (x : KindSet) (f : Bool) (s : State) (running : s.running = true) :
    R s (ackFaults n m x f s) := by
  unfold Machine.ackFaults
  split
  · exact k.responds (k.trans (k.acknowledge m x f s running) (k.due _)) _ _ _
  · split
    · exact k.respond _ _ _ s
    · exact k.responds (k.trans (k.offer _ s) (k.due _)) _ _ _

theorem takeAckFaults (n m x f : Byte) (s : State) : R s (takeAckFaults n m x f s) := by
  unfold Machine.takeAckFaults
  split
  · split
    next running => exact k.ackFaults _ _ _ _ s running
    · exact k.respond _ _ _ s
  · exact k.respond _ _ _ s

theorem takeTripZones (m : Byte) (s : State) : R s (takeTripZones m s) :=
  k.judged (fun s running => k.responds (k.trans (k.tripZones m s running) (k.due _)) _ _ _) s

theorem takeClearZones (m : Byte) (s : State) : R s (takeClearZones m s) :=
  k.judged (fun s _ => k.responds (k.trans (k.clearZones m s) (k.due _)) _ _ _) s

theorem takeResetNode (x : ResetSample) (s : State) : R s (takeResetNode x s) :=
  k.trans (k.nodeReset s) (k.endReset x _ rfl)

theorem takeWriteConfigBlock (o : Half) (d : List Byte) (s : State) : R s (takeWriteConfigBlock o d s) :=
  k.judged (fun s admitted => k.responds (k.writeBlock _ _ s admitted) _ _ _) s

theorem takeCommitConfig (s : State) (asked : s.host.transaction.isSome = true) : R s (takeCommitConfig s) := by
  unfold Machine.takeCommitConfig Machine.judged
  split
  · exact k.respond _ _ _ s
  · split
    · exact k.respond _ _ _ s
    next ok => exact k.responds (k.commit s (by simpa using ok) asked) _ _ _

theorem takeRequest (r : Request) (x : ResetSample) (s : State) (asked : s.host.transaction.isSome = true) :
    R s (takeRequest r x s) := by
  cases r with
  | nop => exact k.respond _ _ _ s
  | readNode => exact k.respond _ _ _ s
  | readChannel c => exact k.takeReadChannel c s
  | readSubscription i => exact k.takeReadSubscription i s
  | readPublication i => exact k.takeReadPublication i s
  | readGroup i => exact k.takeReadGroup i s
  | readZones => exact k.respond _ _ _ s
  | readPeer n => exact k.takeReadPeer n s
  | popFaultList => exact k.responds (k.popFault s) _ _ _
  | readEvents => exact k.responds (k.readEvents s) _ _ _
  | setHostPoint n v => exact k.takeSetHostPoint n v s
  | ackFaults n m x f => exact k.takeAckFaults n m x f s
  | tripZones m => exact k.takeTripZones m s
  | clearZones m => exact k.takeClearZones m s
  | resetNode => exact k.takeResetNode x s
  | writeConfigBlock o d => exact k.takeWriteConfigBlock o d s
  | commitConfig => exact k.takeCommitConfig s asked

theorem endTransaction (s : State) : R s (endTransaction s) := k.answer s s.host.response none fun _ => rfl

theorem takeBytes (bytes : List Byte) (x : ResetSample) (s : State) (asked : s.host.transaction.isSome = true) :
    R s (takeBytes bytes x s) := by
  unfold Machine.takeBytes
  split
  · exact k.endTransaction s
  · exact k.respond _ _ _ s
  · split
    · exact k.takeRequest _ x s asked
    · exact k.respond _ _ _ s

theorem beginTransaction (s : State) : R s (beginTransaction s) := by
  unfold Machine.beginTransaction
  split
  · exact k.refl s
  next free => exact k.answer s s.host.response _ fun held => absurd (by simp [held]) free

/-! ## Commands -/

/-- Every command keeps what each operation keeps. -/
theorem exec (c : Instr) (s : State) : ∃ t, exec c s = .next t ∧ R s t := by
  cases c <;> refine ⟨_, rfl, ?_⟩
  case nop => exact k.whenTransaction (k.takeRequest .nop ⟨0, false, false⟩) s
  case readNode => exact k.whenTransaction (k.takeRequest .readNode ⟨0, false, false⟩) s
  case readChannel c => exact k.whenTransaction (fun s _ => k.takeReadChannel c s) s
  case readSubscription i => exact k.whenTransaction (fun s _ => k.takeReadSubscription i s) s
  case readPublication i => exact k.whenTransaction (fun s _ => k.takeReadPublication i s) s
  case readGroup i => exact k.whenTransaction (fun s _ => k.takeReadGroup i s) s
  case readZones => exact k.whenTransaction (k.takeRequest .readZones ⟨0, false, false⟩) s
  case readPeer n => exact k.whenTransaction (fun s _ => k.takeReadPeer n s) s
  case popFaultList => exact k.whenTransaction (k.takeRequest .popFaultList ⟨0, false, false⟩) s
  case readEvents => exact k.whenTransaction (k.takeRequest .readEvents ⟨0, false, false⟩) s
  case setHostPoint n v => exact k.whenTransaction (fun s _ => k.takeSetHostPoint n v s) s
  case ackFaults n m x f => exact k.whenTransaction (fun s _ => k.takeAckFaults n m x f s) s
  case tripZones m => exact k.whenTransaction (fun s _ => k.takeTripZones m s) s
  case clearZones m => exact k.whenTransaction (fun s _ => k.takeClearZones m s) s
  case resetNode x => exact k.whenTransaction (fun s _ => k.takeResetNode x s) s
  case writeConfigBlock o d => exact k.whenTransaction (fun s _ => k.takeWriteConfigBlock o d s) s
  case commitConfig => exact k.whenTransaction k.takeCommitConfig s
  case checkError bytes x => exact k.whenTransaction (k.takeBytes bytes x) s
  case emptyTransaction => exact k.whenTransaction (fun s _ => k.endTransaction s) s
  case transactionBegin => exact k.beginTransaction s
  case logicSupplyPowerOn => exact k.powerOn s
  case resetPinAsserted => exact k.nodeReset s
  case nodeResetEnd x =>
    split
    next held => exact k.endReset x s held
    next => exact k.refl s
  case memoryAddressRetry b => exact k.retryAddress b s
  case memoryHeaderRead bytes => exact k.takeHeader bytes s
  case memoryReadComplete bytes => exact k.takeBody bytes s
  case memoryReadFailure bytes => exact k.readFails bytes s
  case shutdownAsserted => exact k.trans (k.shutdown true s) (k.due _)
  case shutdownReleased => exact k.trans (k.shutdown false s) (k.due _)
  case sensePinChange n => exact k.pin n s
  case debounceExpiry n => exact k.event (k.debounce n) s
  case confirmTimerExpiryEnergizing c => exact k.event (k.confirmEnergizing c) s
  case confirmTimerExpiryReleasing c => exact k.event (k.confirmReleasing c) s
  case offCheckExpiry c => exact k.event (k.offCheck c) s
  case holdOverExpiry c i => exact k.event (k.holdOver c i) s
  case request c => exact k.event (fun s _ => k.toGroup (fun e s => k.request e c s) s) s
  case cancel c => exact k.event (fun s _ => k.toGroup (fun e s => k.cancel e c s) s) s
  case done c => exact k.event (fun s _ => k.toGroup (fun e s => k.done e c s) s) s
  case grant c => exact k.event (k.toChannel (k.grant c)) s
  case revoke c => exact k.event (k.toChannel (k.revoke c)) s
  case holdTimerExpiry e => exact k.event (fun s _ => k.hold e s) s
  case retryHoldOffExpiry e => exact k.event (fun s _ => k.retry e s) s
  case lifetimeTimerExpiry e => exact k.event (fun s _ => k.lifetime e s) s
  case claimWindowExpiry e => exact k.event (fun s _ => k.window e s) s
  case deadTimerExpiry e => exact k.event (fun s _ => k.dead e s) s
  case lapseTimerExpiry e => exact k.event (fun s _ => k.lapse e s) s
  case markTimerExpiry => exact k.event k.mark s
  case ageTimerExpiry i => exact k.event (k.age i.val) s
  case refreshTimerExpiry i => exact k.event (fun s _ => k.refresh i.val s) s
  case frameOffer l => exact k.offerHead l s
  case attemptCollision => exact k.failAttempt s
  case attemptRejected => exact k.failAttempt s
  case badFrameReceived f => exact k.readFrame f s
  case frameRejectedByOther => exact k.hearRejected s
  case undefinedKindTaken kind n p => exact k.hear _ n p s
  case offLineTimerExpiry => exact k.offLine s
  case joinWaitExpiry => exact k.joinWait s
  case helloHoldOffExpiry => exact k.helloHoldOff s
  case slotStart => exact k.slot s
  case replyReceived w => exact k.judgeSlot _ s
  case slotFailed r => exact k.judgeSlot r s
  case offGuaranteeExpiry => exact k.trans (k.guarantee s) (k.due _)
  case powerDieResetEnd =>
    split
    · exact k.power s _
    · exact k.refl s
  case driveWordReceived w => exact k.power s _
  case watchdogExpiry => exact k.power s _
  case replyWordFormed => exact k.power s _
  case powerDieReset => exact k.power s _
  case supplyLow => exact k.power s _
  case supplyRecovered => exact k.power s _
  case thermalShutdown c => exact k.power s _
  case thermalRestart c => exact k.power s _
  case conditionChange c l => exact k.power s _
  case reportFilterExpiry c x => exact k.power s _
  case blankedFilterExpiry c x => exact k.power s _
  case blankingExpiry c => exact k.power s _
  all_goals exact k.takeFrame _ _ s

/-- A step keeps it, where a tick does and the waiting commands do not bear on it. -/
theorem step {s t : State} (idle : ∀ s, R s (tick s)) (front : ∀ (s : State) l, R s { s with pending := l })
    (h : step s = .next t) : R s t := by
  rcases step_cases h with rfl | ⟨c, rest, -, h⟩
  · exact idle s
  · obtain ⟨u, h', r⟩ := k.exec c { s with pending := rest }
    cases h.symm.trans h'
    exact k.trans (front s rest) r

end KeptByOperations

end Sys2Proof.Machine
end

section
/-! PROOFS. The transmit queue and the score stay sound (R100, R101, R108, R116). -/

namespace Sys2Proof.Machine

open Sys2Proof

theorem firstInputToZones_traffic (n : Fin 8) (s : State) : Traffic s (firstInputToZones n s) := by
  unfold firstInputToZones
  exact .ite (.inputToZones n s) (.refl s)

theorem startOccurrences_bus (s : State) : (startOccurrences s).bus = s.bus := by
  refine each8_keeps State.bus _ (fun c s => ?_) s
  dsimp only
  (repeat' split) <;> simp

theorem forceShutdown_traffic (s : State) : Traffic s (forceShutdown s) := .of_bus (by simp)

/-- What RUNNING entry does between the image's starting values and the entry to JOINING is traffic. -/
theorem runningInputs_traffic (img : Image) (s : State) : Traffic (takeImage img s) (startOccurrences
    (if (each8 firstInputToZones (takeImage img s)).zones.shutdown
      then forceShutdown (each8 firstInputToZones (takeImage img s))
      else each8 firstInputToZones (takeImage img s))) := by
  have inputs := Traffic.each8 firstInputToZones_traffic (takeImage img s)
  exact (Traffic.ite (inputs.trans (forceShutdown_traffic _)) inputs).after startOccurrences startOccurrences_bus

theorem evaluations_traffic (s : State) : Traffic s (each8 evaluate s) := .each8 (fun _ _ => .of_bus (by simp)) s

theorem enterRunning_busKept (img : Image) (s : State) : BusKept s (enterRunning img s) := by
  have start : BusKept s (takeImage img s) := .of_reset rfl rfl
  have inputs := runningInputs_traffic img s
  refine (((start.traffic inputs).trans (.enterJoining ?_)).traffic (evaluations_traffic _)).traffic (.buildDue _)
  rw [inputs.score]
  exact (by decide : 0 < 96)

theorem judgeImage_busKept (s : State) : BusKept s (judgeImage s) := by
  unfold judgeImage
  split
  · exact enterRunning_busKept _ s
  · exact ⟨.refl, id⟩

theorem BusKept.of_bus {s t : State} (h : t.bus = s.bus) : BusKept s t := .of_traffic (.of_bus h)

/-- Every operation of a command moves the queue and keeps the score sound. -/
theorem busKept : KeptByOperations BusKept where
  refl s := .of_bus rfl
  trans h k := h.trans k
  power _ _ := .of_bus rfl
  due s := .of_traffic (.buildDue s)
  answer _ _ _ _ := .of_bus rfl
  readEvents _ := .of_bus rfl
  popFault _ := .of_bus rfl
  hostPoint n v s _ := .of_bus (by
    simp only [hostPointChange]
    split <;> simp)
  acknowledge m k f s _ := .of_bus (by simp)
  offer f s := .of_traffic (.offer f s)
  tripZones m s _ := .of_traffic (.hostTripZones m s)
  clearZones m s := .of_traffic (.queueClear m s)
  nodeReset s := .of_reset rfl rfl
  powerOn s := .of_reset rfl rfl
  endReset x s _ := .of_bus (by
    simp only [endReset, addressAnswer]
    (repeat' split) <;> simp)
  retryAddress b s := .of_bus (by
    simp only [retryAddress, addressAnswer]
    (repeat' split) <;> simp)
  takeHeader bytes s := .of_bus (by
    simp only [takeHeader]
    (repeat' split) <;> simp)
  takeBody bytes s := by
    unfold takeBody
    split
    · split
      · exact BusKept.trans (t := stageBytes headerSize bytes s) (.of_bus rfl) (judgeImage_busKept _)
      · exact .of_bus rfl
    all_goals exact .of_bus rfl
  readFails bytes s := .of_bus (by
    simp only [readFails]
    (repeat' split) <;> simp)
  writeBlock o bytes s _ := .of_bus rfl
  commit s _ _ := judgeImage_busKept s
  shutdown b s := .of_bus (by simp)
  pin n s := .of_bus (by simp)
  debounce n s _ := .of_traffic (.debounceExpires n s)
  confirmEnergizing c s _ := .of_bus (by simp)
  confirmReleasing c s _ := .of_bus (by simp)
  offCheck c s _ := .of_bus (by simp)
  holdOver c i s _ := .of_bus (by simp)
  toGroups _ _ := .of_bus rfl
  toChannels _ _ := .of_bus rfl
  request e c s := .of_bus (by simp)
  cancel e c s := .of_traffic (.cancelAt e c s)
  done e c s := .of_traffic (.doneAt e c s)
  grant c s _ := .of_bus (by simp)
  revoke c s _ := .of_bus (by simp)
  hold e s := .of_traffic (.holdExpiry e s)
  retry e s := .of_bus (by simp)
  lifetime e s := .of_bus (by simp)
  window e s := .of_traffic (.windowExpiry e s)
  dead e s := .of_bus (by simp)
  lapse e s := .of_bus (by simp)
  mark s _ := .of_traffic (.markExpiry s)
  age i s _ := .of_bus (by simp)
  refresh i s := .of_bus (by simp)
  offerHead := .offerHead
  failAttempt := .failAttempt
  readFrame := .readFrame
  hear := .hear
  hearRejected := .hearRejected
  takeFrame := .takeFrame
  offLine := .offLineEnds
  joinWait := .joinWaitEnds
  helloHoldOff := .helloHoldOffEnds
  slot s := .of_bus (by simp)
  judgeSlot r s := by
    unfold judgeSlot
    split
    · exact .of_bus rfl
    · refine BusKept.traffic ?_ (.buildDue _)
      split <;> exact .of_bus (by simp)
  guarantee s := .of_bus (by simp)

/-- Settles O56: every step moves the queue, a move keeps the queue sound and in order, and each change of the score is
followed by its comparison. -/
theorem busInvariantKept : Obligations.BusInvariantKept := by
  intro s t h
  have kept := busKept.step (fun s => ⟨.refl, id⟩) (fun s l => ⟨.refl, id⟩) h
  obtain ⟨length, limits, fits⟩ := kept.moves.sound
  have sound : s.queueSound = true → t.queueSound = true := by
    simp only [State.queueSound, Bool.and_eq_true, decide_eq_true_eq]
    exact And.imp length limits
  refine ⟨kept.score, sound, fun queue order => ?_⟩
  rw [State.queueOrdered, codesRise_iff]
  exact (fits (queueFits_of_sound queue order)).imp And.right

end Sys2Proof.Machine
end

section
/-! PROOFS. One channel under the operations of Channel Logic: its lock causes stand with LOCKED and the way there, it
starts over a ready path alone, and TRIP holds it off until TRIP is withdrawn (R9, R19 to R22, R64). -/

namespace Sys2Proof.Machine

open Sys2Proof

/-! ## What is kept at one channel -/

/-- The states that a channel may have over a path that is not ready (R9, R21). -/
def ChannelState.restful (x : ChannelState) : Bool :=
  match x with
  | .waiting | .armed | .energizing | .on | .disarming => false
  | .off | .releasing | .suspended | .locked => true

/-- A channel that is LOCKED or on its way there. -/
def Channel.locks (r : Channel) : Bool := r.state == .locked || (r.state == .releasing && r.target == .locked)

theorem causesSound_iff (r : Channel) : r.causesSound = true ↔ (r.locks = false → r.causes = CauseSet.empty) := by
  simp only [Channel.causesSound, Channel.locks]
  cases h : (r.state == .locked || (r.state == .releasing && r.target == .locked)) <;> simp_all [or_assoc]

theorem heldByTrip_iff (r : Channel) : r.heldByTrip = true ↔ r.causes.trip = true ∧ r.locks = true := by
  simp only [Channel.heldByTrip, Channel.locks, Bool.and_eq_true]

/-- From r to u, at a path that is ready or not, one channel keeps the promises of the channel invariants. -/
structure ChannelKept (ready : Bool) (r u : Channel) : Prop where
  causes : r.causesSound = true → u.causesSound = true
  path : ready = false → r.state.restful = true → u.state.restful = true
  trip : r.causesSound = true → r.heldByTrip = true → u.heldByTrip = true

namespace ChannelKept

variable {ready : Bool} {r u v : Channel}

theorem refl (ready : Bool) (r : Channel) : ChannelKept ready r r := ⟨id, fun _ => id, fun _ => id⟩

theorem trans (h : ChannelKept ready r u) (k : ChannelKept ready u v) : ChannelKept ready r v :=
  ⟨fun x => k.causes (h.causes x), fun n x => k.path n (h.path n x), fun x y => k.trip (h.causes x) (h.trip x y)⟩

/-- A channel that is not held keeps its empty cause set. -/
theorem of_free (free : r.locks = false) (causes : u.causes = r.causes)
    (path : ready = false → r.state.restful = true → u.state.restful = true) : ChannelKept ready r u where
  causes x := (causesSound_iff u).mpr fun _ => causes.trans ((causesSound_iff r).mp x free)
  path := path
  trip _ x := absurd ((heldByTrip_iff r).mp x).2 (by simp [free])

/-- A channel that ends held has its causes as it should. -/
theorem of_locks (locks : u.locks = true) (trip : r.causes.trip = true → u.causes.trip = true) :
    ChannelKept ready r u where
  causes _ := (causesSound_iff u).mpr fun x => absurd x (by simp [locks])
  path _ _ := by
    unfold Channel.locks at locks
    cases h : u.state <;> simp_all [ChannelState.restful]
  trip _ x := (heldByTrip_iff u).mpr ⟨trip ((heldByTrip_iff r).mp x).1, locks⟩

/-- The fields beside state, target and causes do not matter. -/
theorem of_same (state : u.state = r.state) (target : u.target = r.target) (causes : u.causes = r.causes) :
    ChannelKept ready r u := by
  have locks : u.locks = r.locks := by simp only [Channel.locks, state, target]
  refine ⟨fun x => ?_, fun _ x => ?_, fun _ x => ?_⟩
  · rw [causesSound_iff] at x ⊢
    rwa [locks, causes]
  · rwa [state]
  · rw [heldByTrip_iff] at x ⊢
    rwa [locks, causes]

end ChannelKept

/-- A channel in a state that is neither LOCKED nor RELEASING is not held. -/
theorem locks_of_state {r : Channel} {x : ChannelState} (h : r.state = x) (free : x ≠ .locked ∧ x ≠ .releasing) :
    r.locks = false := by
  cases x <;> simp_all [Channel.locks]

/-! ## Channel Logic at its own channel -/

/-- The operation keeps the promises of channel c from this state. -/
def KeepsOwn (c : Fin 8) (s t : State) : Prop := ChannelKept s.pathReady (s.chan c) (t.chan c)

section
variable {c : Fin 8} {s : State}

@[simp] theorem startChannel_own (c : Fin 8) (s : State) :
    ((startChannel c s).chan c).causes = (s.chan c).causes ∧
    ((startChannel c s).chan c).target = (s.chan c).target := by
  unfold startChannel
  (repeat' split) <;> simp

/-- In OFF nothing changes but the state, rearm pending and the timers; over a path that is not ready the state
stays (R9, R10). -/
@[simp] theorem seeDemandInOff_own (c : Fin 8) (s : State) :
    ((seeDemandInOff c s).chan c).causes = (s.chan c).causes ∧
    ((seeDemandInOff c s).chan c).target = (s.chan c).target := by
  unfold seeDemandInOff startIfDue
  dsimp only
  (repeat' split) <;> simp

theorem startIfDue_of_not_ready (h : s.pathReady = false) : startIfDue c s = s := by
  simp [startIfDue, h]

theorem seeDemandInOff_of_not_ready (h : s.pathReady = false) :
    ((seeDemandInOff c s).chan c).state = (s.chan c).state := by
  unfold seeDemandInOff
  split
  · rw [startIfDue_of_not_ready h]
  · simp

@[simp] theorem enterOff_own (c : Fin 8) (s : State) :
    ((enterOff c s).chan c).causes = (s.chan c).causes ∧ ((enterOff c s).chan c).target = (s.chan c).target := by
  simp [enterOff]

theorem enterOff_of_not_ready (h : s.pathReady = false) : ((enterOff c s).chan c).state = .off := by
  rw [enterOff, seeDemandInOff_of_not_ready (by simpa using h)]
  simp

/-- Entry to OFF from a state that is not held. -/
theorem enterOff_keeps {r : Channel} (free : r.locks = false) (causes : r.causes = (s.chan c).causes) :
    ChannelKept s.pathReady r ((enterOff c s).chan c) :=
  .of_free free (by simp [causes]) fun ready _ => by rw [enterOff_of_not_ready ready]; rfl

theorem enterReleasing_locks (c : Fin 8) (s : State) : ((enterReleasing .locked c s).chan c).locks = true := by
  simp [enterReleasing, Channel.locks]

@[simp] theorem enterReleasing_own (x : Target) (c : Fin 8) (s : State) :
    ((enterReleasing x c s).chan c).causes = (s.chan c).causes ∧
    ((enterReleasing x c s).chan c).state = .releasing ∧ ((enterReleasing x c s).chan c).target = x := by
  simp [enterReleasing]

theorem leaveSuspended_keeps (h : (s.chan c).state = .suspended) : KeepsOwn c s (leaveSuspended c s) := by
  have free := locks_of_state h (by decide)
  unfold leaveSuspended
  split
  · refine .of_free free (by simp) fun ready _ => ?_
    rw [enterOff_of_not_ready (by simpa using ready)]
    rfl
  · exact enterOff_keeps free rfl

theorem completeRelease_keeps (h : (s.chan c).state = .releasing) : KeepsOwn c s (completeRelease c s) := by
  have free (x : (s.chan c).target ≠ .locked) : (s.chan c).locks = false := by simp [Channel.locks, h, x]
  unfold completeRelease
  dsimp only
  split
  next off =>
    refine .of_free (free (by simp [off])) (by simp) fun ready _ => ?_
    rw [enterOff_of_not_ready (by simpa using ready)]
    rfl
  next suspended =>
    have free := free (by simp [suspended])
    split
    next ready =>
      refine .of_free free (by unfold leaveSuspended; split <;> simp) fun notReady _ => ?_
      simp [notReady] at ready
    next => exact .of_free free (by simp) fun _ _ => by simp [ChannelState.restful]
  next locked => exact .of_locks (by simp [Channel.locks]) (by simp)

theorem settleHandBack_keeps (c : Fin 8) (s : State) : KeepsOwn c s (settleHandBack c s) := by
  unfold settleHandBack
  split <;> exact .of_same (by simp) (by simp) (by simp)

theorem demandChange_keeps (c : Fin 8) (d : Bool) (s : State) : KeepsOwn c s (demandChange c d s) := by
  have free {x : ChannelState} (h : (s.chan c).state = x) := locks_of_state (x := x) h
  unfold demandChange
  dsimp only
  split
  next h =>
    refine .of_free (free h (by decide)) (by simp) fun ready _ => ?_
    rw [seeDemandInOff_of_not_ready (by simpa using ready)]
    simp [h, ChannelState.restful]
  next h =>
    split
    · exact .of_same (by simp) (by simp) (by simp)
    · exact .of_free (free h (by decide)) (by simp) fun _ x => absurd x (by simp [h, ChannelState.restful])
  next h =>
    split
    · exact .of_same (by simp) (by simp) (by simp)
    · exact .of_free (free h (by decide)) (by simp) fun _ x => absurd x (by simp [h, ChannelState.restful])
  next h =>
    split
    · exact .of_same (by simp) (by simp) (by simp)
    · refine .of_free (free h (by decide)) (by unfold fallFromOn; split <;> simp)
        fun _ x => absurd x (by simp [h, ChannelState.restful])
  next h =>
    split
    · exact .of_free (free h (by decide)) (by simp) fun _ x => absurd x (by simp [h, ChannelState.restful])
    · exact .of_same (by simp) (by simp) (by simp)
  all_goals exact .of_same (by simp) (by simp) (by simp)

theorem evaluate_keeps (c : Fin 8) (s : State) : KeepsOwn c s (evaluate c s) := by
  unfold evaluate
  dsimp only
  split
  · exact .refl _ _
  · exact demandChange_keeps c _ s

theorem put_trip (x : CauseSet) (k : Cause) : x.trip = true → (x.put k true).trip = true := by
  cases k <;> simp [CauseSet.put]

theorem forceCause_locks {k : Cause} (h : (s.chan c).causes.has k = false) :
    ((forceCause k c s).chan c).locks = true ∧
    ((forceCause k c s).chan c).causes = (s.chan c).causes.put k true := by
  have forced := forceCause_forced k c s
  simp only [State.forced, h, Bool.false_eq_true, if_false] at forced
  obtain ⟨causes, -, -, -, -, state, target, -⟩ := forced
  refine ⟨?_, causes⟩
  unfold Channel.locks
  cases st : (s.chan c).state <;> simp only [st] at state <;> simp [state, target]

theorem forceCause_keeps (k : Cause) (c : Fin 8) (s : State) : KeepsOwn c s (forceCause k c s) := by
  cases has : (s.chan c).causes.has k with
  | true =>
    have forced := forceCause_forced k c s
    simp only [State.forced, has, if_true] at forced
    exact .of_same (by rw [forced.1]) (by rw [forced.1]) (by rw [forced.1])
  | false =>
    obtain ⟨locks, causes⟩ := forceCause_locks has
    exact .of_locks locks (by rw [causes]; exact put_trip _ k)

/-- A channel that TRIP was forced on is held by it (R19, R64). -/
theorem forceCause_heldByTrip (sound : (s.chan c).causesSound = true) :
    ((forceCause .trip c s).chan c).heldByTrip = true := by
  rw [heldByTrip_iff]
  cases has : (s.chan c).causes.has .trip with
  | true =>
    have forced := forceCause_forced .trip c s
    simp only [State.forced, has, if_true] at forced
    rw [forced.1]
    refine ⟨has, ?_⟩
    by_contra free
    rw [(causesSound_iff _).mp sound (by simpa using free)] at has
    cases has
  | false =>
    obtain ⟨locks, causes⟩ := forceCause_locks has
    exact ⟨by rw [causes]; rfl, locks⟩

/-! ### A cause withdrawn -/

theorem CauseSet.empty_put (k : Cause) : CauseSet.empty.put k false = CauseSet.empty := by cases k <;> rfl

/-- A cause withdrawn from a channel that is not held, or that another cause holds, leaves its state (R20). -/
theorem withdrawCause_cases (k : Cause) (c : Fin 8) (s : State) :
    ((withdrawCause k c s).chan c).causes = (s.chan c).causes.put k false ∧
    ((s.chan c).locks = true ∧ (s.chan c).causes.put k false = CauseSet.empty ∧
        ((withdrawCause k c s).chan c).state.restful = true ∨
      ((withdrawCause k c s).chan c).locks = (s.chan c).locks ∧
        ((withdrawCause k c s).chan c).state = (s.chan c).state) := by
  have withdrawn := withdrawCause_withdrawn k c s
  simp only [State.withdrawn] at withdrawn
  obtain ⟨-, causes, -, -, without, freed, stays⟩ := withdrawn
  refine ⟨causes, ?_⟩
  cases has : (s.chan c).causes.has k with
  | false => rw [without has]; exact .inr ⟨rfl, rfl⟩
  | true =>
    by_cases empty : (s.chan c).causes.put k false = CauseSet.empty
    · cases held : (s.chan c).locks with
      | true =>
        obtain ⟨-, fromLocked, fromReleasing⟩ := freed has empty held
        refine .inl ⟨rfl, empty, ?_⟩
        cases st : (s.chan c).state <;> simp [Channel.locks, st] at held
        case locked => rw [fromLocked st]; rfl
        case releasing => rw [(fromReleasing st).1]; rfl
      | false =>
        obtain ⟨state, target, -⟩ := stays (.inr held)
        exact .inr ⟨by rw [← held, Channel.locks, state, target, Channel.locks], state⟩
    · obtain ⟨state, target, -⟩ := stays (.inl empty)
      exact .inr ⟨by rw [Channel.locks, state, target, Channel.locks], state⟩

theorem withdrawCause_causesSound (k : Cause) (c : Fin 8) (s : State) (sound : (s.chan c).causesSound = true) :
    ((withdrawCause k c s).chan c).causesSound = true := by
  obtain ⟨causes, freed⟩ := withdrawCause_cases k c s
  rw [causesSound_iff, causes]
  intro free
  rcases freed with ⟨-, empty, -⟩ | ⟨locks, -⟩
  · exact empty
  · rw [(causesSound_iff _).mp sound (locks.symm.trans free), CauseSet.empty_put]

theorem withdrawCause_restful (k : Cause) (c : Fin 8) (s : State) (rests : (s.chan c).state.restful = true) :
    ((withdrawCause k c s).chan c).state.restful = true := by
  obtain ⟨-, ⟨-, -, rests⟩ | ⟨-, state⟩⟩ := withdrawCause_cases k c s
  · exact rests
  · rwa [state]

theorem withdrawCause_keeps {k : Cause} (other : k ≠ .trip) (c : Fin 8) (s : State) :
    KeepsOwn c s (withdrawCause k c s) where
  causes := withdrawCause_causesSound k c s
  path _ := withdrawCause_restful k c s
  trip _ held := by
    obtain ⟨trip, locks⟩ := (heldByTrip_iff _).mp held
    have left : ((s.chan c).causes.put k false).trip = true := by cases k <;> simp_all [CauseSet.put]
    obtain ⟨causes, ⟨-, empty, -⟩ | ⟨same, -⟩⟩ := withdrawCause_cases k c s
    · rw [empty] at left; cases left
    · exact (heldByTrip_iff _).mpr ⟨by rw [causes, left], same.trans locks⟩

/-! ### The path -/

theorem pathLostAt_restful (c : Fin 8) (s : State) : ((pathLostAt c s).chan c).state.restful = true := by
  unfold pathLostAt oweHandBack
  (repeat' split) <;> simp_all <;> rfl

theorem pathLostAt_keeps (c : Fin 8) (s : State) : KeepsOwn c s (pathLostAt c s) := by
  have own : ((pathLostAt c s).chan c).causes = (s.chan c).causes ∧
      ((pathLostAt c s).chan c).locks = (s.chan c).locks := by
    unfold pathLostAt oweHandBack
    cases st : (s.chan c).state <;> dsimp only
    case energizing | on | disarming => split <;> (simp [Channel.locks, st]; rfl)
    case releasing => cases x : (s.chan c).target <;> (simp [Channel.locks, st, x]; try rfl)
    case waiting | armed => simp [Channel.locks, st]; rfl
    all_goals exact ⟨rfl, rfl⟩
  obtain ⟨causes, locks⟩ := own
  cases held : (s.chan c).locks with
  | true => exact .of_locks (locks.trans held) (by rw [causes]; exact id)
  | false => exact .of_free held causes fun _ _ => pathLostAt_restful c s

theorem pathReadyAt_keeps (ready : s.pathReady = true) (c : Fin 8) : KeepsOwn c s (pathReadyAt c s) := by
  unfold pathReadyAt
  split
  next h => exact leaveSuspended_keeps h
  next h =>
    refine .of_free (locks_of_state h (by decide)) ?_ fun x => absurd x (by simp [ready])
    unfold startIfDue
    dsimp only
    split <;> simp
  next => exact .refl _ _

theorem confirmIfReleasing_keeps (tm : Timer) (c : Fin 8) (s : State) : KeepsOwn c s (confirmIfReleasing tm c s) := by
  unfold confirmIfReleasing
  split
  · exact .of_same (by simp) (by simp) (by simp)
  · exact .refl _ _

/-! ### FEEDBACK, off-assured, mark events, revokes, grants -/

/-- A promise kept for a first part of an event and for its second part. -/
theorem KeepsOwn.trans {s t u : State} (h : KeepsOwn c s t) (k : KeepsOwn c t u) (ready : t.pathReady = s.pathReady) :
    KeepsOwn c s u := by
  unfold KeepsOwn at *
  rw [ready] at k
  exact ChannelKept.trans h k

theorem feedbackInState_keeps (on : Bool) (c : Fin 8) (s : State) : KeepsOwn c s (feedbackInState on c s) := by
  unfold feedbackInState
  split
  next h =>
    split
    · refine .of_free (locks_of_state h (by decide)) ?_ fun _ x => absurd x (by simp [h, ChannelState.restful])
      unfold enterOn fallFromOn
      dsimp only
      (repeat' split) <;> simp
    · exact .refl _ _
  iterate 2 exact .of_same (by simp) (by simp) (by simp)
  next h =>
    split
    · exact .refl _ _
    · exact completeRelease_keeps h
  all_goals exact .refl _ _

theorem feedbackAt_keeps (bits : Byte) (c : Fin 8) (s : State) : KeepsOwn c s (feedbackAt bits c s) := by
  have inState := feedbackInState_keeps (maskBit bits c) c s
  unfold feedbackAt
  dsimp only
  split
  · exact inState
  · have settled := KeepsOwn.trans inState (settleHandBack_keeps c _) (by simp [State.pathReady])
    exact settled.trans (.of_same (by simp) (by simp) (by simp)) (by simp [State.pathReady])

theorem offAssuredAt_keeps (c : Fin 8) (s : State) : KeepsOwn c s (offAssuredAt c s) := by
  unfold offAssuredAt
  split
  next h => exact (completeRelease_keeps h).trans (settleHandBack_keeps c _) (by simp [State.pathReady])
  next => exact settleHandBack_keeps c s

theorem markEventAt_keeps (c : Fin 8) (s : State) : KeepsOwn c s (markEventAt c s) := by
  unfold markEventAt
  split
  iterate 2
    next h =>
      exact .of_free (locks_of_state h (by decide)) (by simp) fun _ x => absurd x (by simp [h, ChannelState.restful])
  next => exact .refl _ _

theorem revokeAt_keeps (c : Fin 8) (s : State) : KeepsOwn c s (revokeAt c s) := by
  unfold revokeAt
  split
  iterate 4
    next h =>
      exact .of_free (locks_of_state h (by decide)) (by simp) fun _ x => absurd x (by simp [h, ChannelState.restful])
  all_goals exact .refl _ _

theorem grantAt_keeps (c : Fin 8) (s : State) : KeepsOwn c s (grantAt c s) := by
  unfold grantAt
  split
  next h =>
    split <;>
      exact .of_free (locks_of_state h (by decide)) (by simp) fun _ x => absurd x (by simp [h, ChannelState.restful])
  next => exact .of_same (by simp) (by simp) (by simp)

/-! ### Occurrences and timers -/

@[simp] theorem trackRecord_link (c : Fin 8) (r : FaultRecord) (s : State) :
    (trackErr (setRecord c r) s).link = s.link := by
  unfold trackErr
  dsimp only
  split <;> simp

theorem occurrence_keeps (k : FaultKind) (c : Fin 8) (s : State) : KeepsOwn c s (occurrence k c s) := by
  unfold occurrence
  dsimp only
  split
  · have forced := forceCause_keeps .fault c (trackErr (setRecord c ((s.faultRec c).occur k s.marks.number)) s)
    have start : KeepsOwn c s (trackErr (setRecord c ((s.faultRec c).occur k s.marks.number)) s) :=
      .of_same (by simp) (by simp) (by simp)
    exact start.trans forced (by simp [State.pathReady])
  · exact .of_same (by simp) (by simp) (by simp)

theorem takeLive_keeps (k : PowerKind) (b : Bool) (c : Fin 8) (s : State) : KeepsOwn c s (takeLive k b c s) := by
  have live : KeepsOwn c s (setLive c k.kind b s) := .of_same (by simp) (by simp) (by simp)
  unfold takeLive
  dsimp only
  split
  · exact live.trans (occurrence_keeps _ c _) (by simp [State.pathReady])
  · exact live

theorem raiseFailOn_keeps (c : Fin 8) (s : State) : KeepsOwn c s (raiseFailOn c s) := by
  have locked : KeepsOwn c s (enterReleasing .locked c (addCause .fault c s)) :=
    .of_locks (enterReleasing_locks c _) (by simp [addCause, CauseSet.put])
  exact locked.trans (occurrence_keeps _ c _) (by simp [State.pathReady])

theorem confirmExpiryEnergizing_keeps (c : Fin 8) (s : State) : KeepsOwn c s (confirmExpiryEnergizing c s) := by
  unfold confirmExpiryEnergizing
  dsimp only
  split
  · exact raiseFailOn_keeps c s
  · exact .refl _ _

theorem confirmExpiryReleasing_keeps (c : Fin 8) (s : State) : KeepsOwn c s (confirmExpiryReleasing c s) := by
  unfold confirmExpiryReleasing
  dsimp only
  split
  · have locked : KeepsOwn c s (enterState .locked c (oweHandBack c (addCause .fault c s))) := by
      refine .of_locks (by simp [Channel.locks]) ?_
      unfold oweHandBack
      split <;> simp [addCause, CauseSet.put]
    have live := locked.trans
      (u := setLive c .stuckOn true (enterState .locked c (oweHandBack c (addCause .fault c s))))
      (.of_same (by simp) (by simp) (by simp)) (by simp [State.pathReady])
    exact live.trans (occurrence_keeps _ c _) (by simp [State.pathReady])
  · exact .refl _ _

theorem offCheckExpiry_keeps (c : Fin 8) (s : State) : KeepsOwn c s (offCheckExpiry c s) := by
  have stopped : KeepsOwn c s (modChan c (fun r => { r with offCheck := none }) s) :=
    .of_same (by simp) (by simp) (by simp)
  unfold offCheckExpiry
  dsimp only
  split
  · split
    · exact stopped
    · exact stopped.trans (raiseFailOn_keeps c _) (by simp [State.pathReady])
  · exact .refl _ _

theorem holdOverExpiry_keeps (c : Fin 8) (i : Fin 4) (s : State) : KeepsOwn c s (holdOverExpiry c i s) := by
  have stopped : KeepsOwn c s (modChan c (fun r => { r with holdOvers := r.holdOvers.set i none }) s) :=
    .of_same (by simp) (by simp) (by simp)
  unfold holdOverExpiry
  split
  · exact stopped.trans (evaluate_keeps c _) (by simp [State.pathReady])
  · exact .refl _ _

theorem setHoldOvers_keeps (p : Nat → Bool) (tm : Timer) (c : Fin 8) (s : State) :
    KeepsOwn c s (setHoldOvers p tm c s) := .of_same (by simp [setHoldOvers]) (by simp [setHoldOvers]) (by simp [setHoldOvers])

theorem startHoldOvers_keeps (p : Nat → Bool) (c : Fin 8) (s : State) : KeepsOwn c s (startHoldOvers p c s) := by
  unfold startHoldOvers
  split
  · exact .refl _ _
  · split
    · exact .refl _ _
    · exact setHoldOvers_keeps p _ c s

end

end Sys2Proof.Machine
end

section
/-! PROOFS. The eight channels together with the zones and the path: what the operations of the blocks keep of their
promises (R19 to R22, R64). -/

namespace Sys2Proof.Machine

open Sys2Proof

/-! ## What is kept of all the channels -/

theorem State.causesSound_iff (s : State) : s.causesSound = true ↔ ∀ c, (s.chan c).causesSound = true :=
  each8Holds_iff _

theorem State.pathSound_iff (s : State) :
    s.pathSound = true ↔ (s.running = true → s.pathReady = false → ∀ c, (s.chan c).state.restful = true) := by
  have restful : s.pathSound = (!s.running || s.pathReady || each8Holds fun c => (s.chan c).state.restful) := rfl
  rw [restful]
  cases s.running <;> cases s.pathReady <;> simp [each8Holds_iff]

/-- R64, channel by channel. -/
theorem State.zonesSound_iff (s : State) :
    s.zonesSound = true ↔ (s.running = true → ∀ c z, (s.cfg c).zone = some z → (s.cfg c).enabled = true →
      (s.zone z).tripped = true → (s.chan c).heldByTrip = true) := by
  unfold State.zonesSound
  cases s.running
  · simp
  · simp only [Bool.not_true, Bool.false_or, each8Holds_iff, forall_true_left]
    refine forall_congr' fun c => ?_
    cases zone : (s.cfg c).zone with
    | none => simp
    | some z => cases (s.cfg c).enabled <;> cases tripped : (s.zone z).tripped <;> simp [tripped]

/-- The promises of the causes and of the zones of s hold in t. -/
structure HeldKept (s t : State) : Prop where
  causes : s.causesSound = true → t.causesSound = true
  zones : s.causesSound = true → s.zonesSound = true → t.zonesSound = true

/-- The promises of the channel invariants that hold in s hold in t. -/
structure SoundKept (s t : State) : Prop extends HeldKept s t where
  path : s.pathSound = true → t.pathSound = true

/-- From s to t each channel keeps its promises, over a path that stays as it is and with no new tripped zone. -/
structure ChannelsKept (s t : State) : Prop where
  running : t.running = s.running
  config : t.config = s.config
  ready : t.pathReady = s.pathReady
  tripped : ∀ z, (t.zone z).tripped = true → (s.zone z).tripped = true
  chan : ∀ c, ChannelKept s.pathReady (s.chan c) (t.chan c)

namespace HeldKept

variable {s t u : State}

theorem refl (s : State) : HeldKept s s := ⟨id, fun _ => id⟩

theorem trans (h : HeldKept s t) (k : HeldKept t u) : HeldKept s u :=
  ⟨fun x => k.causes (h.causes x), fun x y => k.zones (h.causes x) (h.zones x y)⟩

/-- Each channel keeps its promises; the path may change. -/
theorem of_chan {ready : Bool} (running : t.running = s.running) (config : t.config = s.config)
    (tripped : ∀ z, (t.zone z).tripped = true → (s.zone z).tripped = true)
    (chan : ∀ c, ChannelKept ready (s.chan c) (t.chan c)) : HeldKept s t where
  causes x := (State.causesSound_iff t).mpr fun c => (chan c).causes ((State.causesSound_iff s).mp x c)
  zones x y := by
    rw [State.zonesSound_iff] at y ⊢
    intro run c z zone enabled trip
    simp only [State.cfg, config] at zone enabled
    exact (chan c).trip ((State.causesSound_iff s).mp x c) (y (running ▸ run) c z zone enabled (tripped z trip))

end HeldKept

namespace SoundKept

variable {s t u : State}

theorem refl (s : State) : SoundKept s s := ⟨.refl s, id⟩

theorem trans (h : SoundKept s t) (k : SoundKept t u) : SoundKept s u :=
  ⟨h.toHeldKept.trans k.toHeldKept, fun x => k.path (h.path x)⟩

/-- Where the path is ready in the end, or every channel rests, the path's promise holds. -/
theorem of_held (held : HeldKept s t) (path : t.running = true → t.pathReady = true ∨ ∀ c, (t.chan c).state.restful = true) :
    SoundKept s t :=
  ⟨held, fun _ => (State.pathSound_iff t).mpr fun run ready => (path run).resolve_left (by simp [ready])⟩

theorem of_idle (causes : s.causesSound = true → t.causesSound = true) (idle : t.running = false) : SoundKept s t where
  causes := causes
  zones _ _ := by simp [State.zonesSound, idle]
  path _ := by simp [State.pathSound, idle]

theorem each8 {f : Fin 8 → State → State} (h : ∀ n s, SoundKept s (f n s)) (s : State) : SoundKept s (each8 f s) :=
  each8_relates .refl .trans h s

end SoundKept

namespace ChannelsKept

variable {s t u : State}

theorem refl (s : State) : ChannelsKept s s := ⟨rfl, rfl, rfl, fun _ => id, fun _ => .refl _ _⟩

theorem trans (h : ChannelsKept s t) (k : ChannelsKept t u) : ChannelsKept s u where
  running := k.running.trans h.running
  config := k.config.trans h.config
  ready := k.ready.trans h.ready
  tripped z x := h.tripped z (k.tripped z x)
  chan c := by
    have second := k.chan c
    rw [h.ready] at second
    exact (h.chan c).trans second

theorem held (h : ChannelsKept s t) : HeldKept s t := .of_chan h.running h.config h.tripped h.chan

theorem sound (h : ChannelsKept s t) : SoundKept s t where
  toHeldKept := h.held
  path x := by
    rw [State.pathSound_iff] at x ⊢
    intro run ready c
    rw [h.ready] at ready
    exact (h.chan c).path ready (x (h.running ▸ run) ready c)

/-- An operation beside the channels, the zones' trips and the path. -/
theorem of_same (loader : t.loader = s.loader) (link : t.link = s.link) (zones : t.zones = s.zones)
    (feedback : t.channels.feedback = s.channels.feedback) (records : t.channels.records = s.channels.records) :
    ChannelsKept s t where
  running := by simp only [State.running, loader]
  config := by simp only [State.config, loader]
  ready := by simp only [State.pathReady, link, feedback]
  tripped z x := by rwa [State.zone, zones] at x
  chan c := by
    rw [State.chan, State.chan, records]
    exact .refl _ _

/-- An operation that leaves Channel Logic alone. -/
theorem of_channels (loader : t.loader = s.loader) (link : t.link = s.link) (zones : t.zones = s.zones)
    (channels : t.channels = s.channels) : ChannelsKept s t :=
  .of_same loader link zones (by rw [channels]) (by rw [channels])

/-- An operation of one channel. -/
theorem of_own {c : Fin 8} (own : KeepsOwn c s t) (loader : t.loader = s.loader) (link : t.link = s.link)
    (zones : t.zones = s.zones) (feedback : t.channels.feedback = s.channels.feedback)
    (others : ∀ d, d ≠ c → t.chan d = s.chan d) : ChannelsKept s t where
  running := by simp only [State.running, loader]
  config := by simp only [State.config, loader]
  ready := by simp only [State.pathReady, link, feedback]
  tripped z x := by rwa [State.zone, zones] at x
  chan d := by
    by_cases e : d = c
    · rw [e]; exact own
    · rw [others d e]; exact .refl _ _

theorem each8 {f : Fin 8 → State → State} (h : ∀ n s, ChannelsKept s (f n s)) (s : State) :
    ChannelsKept s (each8 f s) := each8_relates .refl .trans h s

theorem ite {p : Prop} [Decidable p] {a : State} (h : p → ChannelsKept s t) (k : ¬p → ChannelsKept s a) :
    ChannelsKept s (if p then t else a) := by
  split
  · exact h ‹_›
  · exact k ‹_›

end ChannelsKept

/-! ## Channel Logic -/

theorem evaluate_channels (c : Fin 8) (s : State) : ChannelsKept s (evaluate c s) :=
  .of_own (evaluate_keeps c s) (by simp) (by simp) (by simp) (by simp) fun _ h => by simp [h]

theorem forceCause_channels (k : Cause) (c : Fin 8) (s : State) : ChannelsKept s (forceCause k c s) :=
  .of_own (forceCause_keeps k c s) (by simp) (by simp) (by simp) (by simp) fun _ h => by simp [h]

theorem withdrawCause_channels {k : Cause} (other : k ≠ .trip) (c : Fin 8) (s : State) :
    ChannelsKept s (withdrawCause k c s) :=
  .of_own (withdrawCause_keeps other c s) (by simp) (by simp) (by simp) (by simp) fun _ h => by simp [h]

theorem pathReadyAt_channels {s : State} (ready : s.pathReady = true) (c : Fin 8) : ChannelsKept s (pathReadyAt c s) :=
  .of_own (pathReadyAt_keeps ready c) (by simp) (by simp) (by simp) (by simp) fun _ h => by simp [h]

theorem confirmIfReleasing_channels (tm : Timer) (c : Fin 8) (s : State) : ChannelsKept s (confirmIfReleasing tm c s) :=
  .of_own (confirmIfReleasing_keeps tm c s) (by simp) (by simp) (by simp) (by simp) fun _ h => by simp [h]

theorem feedbackAt_channels (b : Byte) (c : Fin 8) (s : State) : ChannelsKept s (feedbackAt b c s) :=
  .of_own (feedbackAt_keeps b c s) (by simp) (by simp) (by simp) (by simp) fun _ h => by simp [h]

theorem offAssuredAt_channels (c : Fin 8) (s : State) : ChannelsKept s (offAssuredAt c s) :=
  .of_own (offAssuredAt_keeps c s) (by simp) (by simp) (by simp) (by simp) fun _ h => by simp [h]

theorem markEventAt_channels (c : Fin 8) (s : State) : ChannelsKept s (markEventAt c s) :=
  .of_own (markEventAt_keeps c s) (by simp) (by simp) (by simp) (by simp) fun _ h => by simp [h]

theorem revokeAt_channels (c : Fin 8) (s : State) : ChannelsKept s (revokeAt c s) :=
  .of_own (revokeAt_keeps c s) (by simp) (by simp) (by simp) (by simp) fun _ h => by simp [h]

theorem grantAt_channels (c : Fin 8) (s : State) : ChannelsKept s (grantAt c s) :=
  .of_own (grantAt_keeps c s) (by simp) (by simp) (by simp) (by simp) fun _ h => by simp [h]

theorem occurrence_channels (k : FaultKind) (c : Fin 8) (s : State) : ChannelsKept s (occurrence k c s) :=
  .of_own (occurrence_keeps k c s) (by simp) (by simp) (by simp) (by simp) fun _ h => by simp [h]

theorem takeLive_channels (k : PowerKind) (b : Bool) (c : Fin 8) (s : State) : ChannelsKept s (takeLive k b c s) :=
  .of_own (takeLive_keeps k b c s) (by simp) (by simp) (by simp) (by simp) fun _ h => by simp [h]

theorem confirmExpiryEnergizing_channels (c : Fin 8) (s : State) : ChannelsKept s (confirmExpiryEnergizing c s) :=
  .of_own (confirmExpiryEnergizing_keeps c s) (by simp) (by simp) (by simp) (by simp) fun _ h => by simp [h]

theorem confirmExpiryReleasing_channels (c : Fin 8) (s : State) : ChannelsKept s (confirmExpiryReleasing c s) :=
  .of_own (confirmExpiryReleasing_keeps c s) (by simp) (by simp) (by simp) (by simp) fun _ h => by simp [h]

theorem offCheckExpiry_channels (c : Fin 8) (s : State) : ChannelsKept s (offCheckExpiry c s) :=
  .of_own (offCheckExpiry_keeps c s) (by simp) (by simp) (by simp) (by simp) fun _ h => by simp [h]

theorem holdOverExpiry_channels (c : Fin 8) (i : Fin 4) (s : State) : ChannelsKept s (holdOverExpiry c i s) :=
  .of_own (holdOverExpiry_keeps c i s) (by simp) (by simp) (by simp) (by simp) fun _ h => by simp [h]

theorem setHoldOvers_channels (p : Nat → Bool) (tm : Timer) (c : Fin 8) (s : State) :
    ChannelsKept s (setHoldOvers p tm c s) :=
  .of_own (setHoldOvers_keeps p tm c s) (by simp) (by simp) (by simp) (by simp) fun _ h => by simp [h]

theorem startHoldOvers_channels (p : Nat → Bool) (c : Fin 8) (s : State) : ChannelsKept s (startHoldOvers p c s) :=
  .of_own (startHoldOvers_keeps p c s) (by simp) (by simp) (by simp) (by simp) fun _ h => by simp [h]

theorem evaluateUsers_channels (p : TermSource → Bool) (s : State) : ChannelsKept s (evaluateUsers p s) :=
  .each8 (fun c _ => .ite (fun _ => evaluate_channels c _) fun _ => .refl _) s

theorem takeDiagnostic_channels (k : PowerKind) (bits : Byte) (s : State) : ChannelsKept s (takeDiagnostic k bits s) :=
  .each8 (fun c s => takeLive_channels k _ c s) s

theorem setReleasingConfirm_channels (tm : Timer) (s : State) : ChannelsKept s (setReleasingConfirm tm s) :=
  .each8 (confirmIfReleasing_channels tm) s

/-- The path is ready, and the channels hear of it (R22). -/
theorem pathReadyEvent_channels {s : State} (ready : s.pathReady = true) : ChannelsKept s (pathReadyEvent s) := by
  have steps := each8_relates (R := fun s t => s.pathReady = true → ChannelsKept s t)
    (fun s _ => .refl s) (fun h k ready => (h ready).trans (k ((h ready).ready.trans ready)))
    (fun c s ready => pathReadyAt_channels ready c) s
  exact steps ready

/-! ## The link and its replies -/

theorem feedbackBits_channels (bits : Byte) (s : State) : ChannelsKept s (feedbackBits bits s) := by
  unfold feedbackBits whenRunning
  exact .ite (fun _ => .each8 (feedbackAt_channels bits) s) fun _ => .refl s

theorem setFlagLive_channels (f : NodeFlag) (b : Bool) (s : State) : ChannelsKept s (setFlagLive f b s) :=
  .of_channels (by simp) (by simp) (by simp) (by simp)

/-- The path is lost: what is held stays held, and every channel rests (R21). -/
theorem pathLost_held (s : State) : HeldKept s (pathLost s) ∧ ∀ c, ((pathLost s).chan c).state.restful = true := by
  have one (c : Fin 8) (s : State) : ChannelsKept s (pathLostAt c s) :=
    .of_own (pathLostAt_keeps c s) (by simp) (by simp) (by simp) (by simp) fun _ h => by simp [h]
  refine ⟨(ChannelsKept.each8 one s).held, fun c => ?_⟩
  obtain ⟨u, -, after⟩ := each8_around (R := fun s t => t.chan c = s.chan c) (f := pathLostAt) (fun _ => rfl)
    (fun h k => k.trans h) c (fun d other s => by simp [Ne.symm other]) s
  rw [pathLost, after]
  exact pathLostAt_restful c u

theorem whenRunning_sound {f : State → State} (h : ∀ s, s.running = true → SoundKept s (f s)) (s : State) :
    SoundKept s (whenRunning f s) := by
  unfold whenRunning
  split
  · exact h s ‹_›
  · exact .refl s

/-- A reply's feedback is taken, or the link changes: the path may change, and nothing is said to the channels yet. -/
theorem path_held {s t : State} (loader : t.loader = s.loader) (zones : t.zones = s.zones)
    (records : t.channels.records = s.channels.records) : HeldKept s t :=
  .of_chan (ready := true) (by simp only [State.running, loader]) (by simp only [State.config, loader])
    (fun z x => by rwa [State.zone, zones] at x) fun c => by
      rw [State.chan, State.chan, records]
      exact .refl _ _

/-- A path that was not ready: whatever it is now, the channels rest as before or it is ready. -/
theorem path_sound {s t : State} (notReady : s.pathReady = false) (loader : t.loader = s.loader)
    (zones : t.zones = s.zones) (records : t.channels.records = s.channels.records) : SoundKept s t where
  toHeldKept := path_held loader zones records
  path x := by
    rw [State.pathSound_iff] at x ⊢
    intro run _ c
    rw [State.chan, records]
    exact x (by simpa only [State.running, loader] using run) notReady c

/-- The path is lost at the channels of a RUNNING node (R21). -/
theorem pathLost_sound {s t : State} (loader : t.loader = s.loader) (zones : t.zones = s.zones)
    (records : t.channels.records = s.channels.records) : SoundKept s (whenRunning pathLost t) := by
  have start := path_held loader zones records
  unfold whenRunning
  split
  · exact .of_held (start.trans (pathLost_held t).1) fun _ => .inr (pathLost_held t).2
  next idle => exact .of_held start fun run => absurd run idle

/-- A FEEDBACK reply's flag at the path (R6, R21, R22). -/
theorem takeFeedback_sound (f : Feedback) (s : State) : SoundKept s (takeFeedback f s) := by
  have rest (t : State) : SoundKept t (setFlagLive .supplyLow f.supplyLow (feedbackBits f.bits t)) :=
    ((feedbackBits_channels _ _).trans (setFlagLive_channels _ _ _)).sound
  unfold takeFeedback
  dsimp only
  refine .trans ?_ (rest _)
  split
  · exact pathLost_sound rfl rfl rfl
  next same =>
    have replied : SoundKept s (setFeedback f s) := by
      cases ready : s.pathReady with
      | false => exact path_sound ready rfl rfl rfl
      | true =>
        have stays : (setFeedback f s).pathReady = true := by simpa [ready] using same
        exact .of_held (path_held rfl rfl rfl) fun _ => .inl stays
    split
    next ready =>
      have ready : (setFeedback f s).pathReady = true := by simp_all
      unfold whenRunning
      split
      · exact replied.trans (pathReadyEvent_channels ready).sound
      · exact replied
    next => exact replied

theorem deliver_sound (r : GoodReply) (s : State) : SoundKept s (deliver r s) := by
  unfold deliver
  split
  · exact takeFeedback_sound _ s
  · exact (takeDiagnostic_channels _ _ s).sound

theorem deliverLatest_channels (l : LatestReplies) (k : PowerKind) (s : State) :
    ChannelsKept s (deliverLatest l k s) := by
  unfold deliverLatest
  split
  · exact takeDiagnostic_channels _ _ s
  · exact .refl s

theorem faultsUp_channels (l : LatestReplies) (s : State) : ChannelsKept s (faultsUp l s) := by
  have supply : ChannelsKept s (match l.feedback with
      | some f => setFlagLive .supplyLow f.supplyLow s
      | none => s) := by
    split
    · exact setFlagLive_channels _ _ s
    · exact .refl s
  unfold faultsUp
  exact ((((((supply.trans (deliverLatest_channels l _ _)).trans (deliverLatest_channels l _ _)).trans
    (deliverLatest_channels l _ _)).trans (deliverLatest_channels l _ _)).trans
    (deliverLatest_channels l _ _)).trans (setFlagLive_channels _ _ _))

/-- The UP state at the channels of a node whose path was not ready (R21, R128). -/
theorem channelsUp_sound {s t : State} (notReady : s.pathReady = false) (l : LatestReplies) (loader : t.loader = s.loader)
    (zones : t.zones = s.zones) (records : t.channels.records = s.channels.records) :
    SoundKept s (channelsUp l t) := by
  have judged (f : Option Feedback) : SoundKept s (match f with
      | some f => setFeedback f t
      | none => t) := by
    cases f <;> exact path_sound notReady loader zones records
  have bits (f : Option Feedback) (u : State) : ChannelsKept u (match f with
      | some f => feedbackBits f.bits u
      | none => u) := by
    cases f
    · exact .refl u
    · exact feedbackBits_channels _ u
  have ready (u : State) : SoundKept u (if u.pathReady = true then whenRunning pathReadyEvent u else u) := by
    split
    next ready =>
      unfold whenRunning
      split
      · exact (pathReadyEvent_channels ready).sound
      · exact .refl u
    next => exact .refl u
  have confirm (tm : Timer) (u : State) : SoundKept u (whenRunning (setReleasingConfirm tm) u) :=
    whenRunning_sound (fun u _ => (setReleasingConfirm_channels tm u).sound) u
  exact (((judged l.feedback).trans (confirm _ _)).trans (ready _)).trans (bits l.feedback _).sound

theorem linkUp_sound {s : State} (down : s.link.up = false) : SoundKept s (linkUp s) := by
  have up : SoundKept s (channelsUp s.link.latest (setLink { s.link with
      up := true, goodRun := 0, failedRun := 0, lastGood := some s.now, guarantee := none,
      latest := LatestReplies.none } s)) := channelsUp_sound (by simp [State.pathReady, down]) _ rfl rfl rfl
  exact up.trans (faultsUp_channels _ _).sound

theorem linkDown_sound (s : State) : SoundKept s (linkDown s) := by
  have confirm (u : State) : SoundKept s (whenRunning pathLost u) →
      SoundKept s (whenRunning (fun s => setReleasingConfirm none (pathLost s)) u) := by
    unfold whenRunning
    split
    · exact fun h => h.trans (setReleasingConfirm_channels none _).sound
    · exact id
  unfold linkDown
  dsimp only
  refine (confirm _ ?_).trans (setFlagLive_channels _ _ _).sound
  exact pathLost_sound rfl rfl rfl

/-- The link's slots and timers beside the channels, with the link state as it was. -/
theorem setLink_kept {l : Link} {s : State} (up : l.up = s.link.up) : ChannelsKept s (setLink l s) where
  running := rfl
  config := rfl
  ready := by simp only [State.pathReady]; rw [← up]; rfl
  tripped _ := id
  chan _ := .refl _ _

theorem goodSlot_sound (r : GoodReply) (s : State) : SoundKept s (goodSlot r s) := by
  unfold goodSlot
  split
  · exact (setLink_kept (by rfl)).sound.trans (deliver_sound r _)
  next down =>
    have counted : SoundKept s (setLink { s.link with
        goodRun := s.link.goodRun + 1, latest := s.link.latest.take r } s) := (setLink_kept (by rfl)).sound
    dsimp only
    split
    · exact counted.trans (linkUp_sound (by simpa using down))
    · exact counted

theorem failedSlot_sound (s : State) : SoundKept s (failedSlot s) := by
  unfold failedSlot
  split
  · have counted : SoundKept s (setLink { s.link with failedRun := s.link.failedRun + 1 } s) :=
      (setLink_kept (by rfl)).sound
    dsimp only
    split
    · exact counted.trans (linkDown_sound _)
    · exact counted
  · exact (setLink_kept (by rfl)).sound

/-! ## Zones -/

theorem setZone_zone_of (z : Fin 8) (x : Zone) (s : State) (y : Fin 8) :
    (setZone z x s).zone y = if y = z then x else s.zone y := by
  simp [State.zone, setZone, Eight.get_set]

/-- A zone entry changes in its station, its cause or its input alone, or clears. -/
theorem setZone_kept {z : Fin 8} {x : Zone} {s : State} (tripped : x.tripped = true → (s.zone z).tripped = true) :
    ChannelsKept s (setZone z x s) where
  running := rfl
  config := rfl
  ready := rfl
  tripped y h := by
    rw [setZone_zone_of] at h
    split at h
    next e => rw [e]; exact tripped h
    next => exact h
  chan _ := .refl _ _

theorem forceTrip_channels (z : Fin 8) (s : State) : ChannelsKept s (forceTrip z s) :=
  .each8 (fun c _ => .ite (fun _ => forceCause_channels .trip c _) fun _ => .refl _) s

/-- TRIP holds the enabled channels of a zone that it was forced on (R64). -/
theorem forceTrip_holds {z c : Fin 8} {s : State} (sound : (s.chan c).causesSound = true)
    (enabled : (s.cfg c).enabled = true) (zone : (s.cfg c).zone = some z) :
    ((forceTrip z s).chan c).heldByTrip = true := by
  have part := forceTrip_alike z c s
  rw [if_pos (by simp [enabled, zone])] at part
  rw [part.chan]
  exact forceCause_heldByTrip sound

theorem tripZone_sound (z : Fin 8) (n : Station) (k : TripCause) (s : State) : SoundKept s (tripZone z n k s) := by
  unfold tripZone
  dsimp only
  split
  next tripped => exact (setZone_kept fun _ => tripped).sound
  next =>
    have forced := forceTrip_channels z (setZoneChange (setZone z { s.zone z with
      tripped := true, station := some n, cause := some k } s))
    refine ⟨⟨fun x => forced.held.causes x, fun x y => ?_⟩, fun x => forced.sound.path x⟩
    rw [State.causesSound_iff] at x
    rw [State.zonesSound_iff] at y ⊢
    intro run c a zone enabled trip
    have run : s.running = true := by rw [forced.running] at run; exact run
    simp only [State.cfg, forced.config] at zone enabled
    by_cases e : a = z
    · subst e
      exact forceTrip_holds (x c) enabled zone
    · have before := forced.tripped a trip
      have before : (s.zone a).tripped = true := by
        simpa [State.zone, setZoneChange, setZone, Eight.get_set_other _ _ _ _ e] using before
      exact (forced.chan c).trip (x c) (y run c a zone enabled before)

/-- TRIP leaves the channels of a zone that clears, and no other channel (R68). -/
theorem withdrawTrip_sound {z : Fin 8} {s t : State} (running : t.running = s.running) (config : t.config = s.config)
    (ready : t.pathReady = s.pathReady) (records : t.channels.records = s.channels.records)
    (zones : ∀ y, y ≠ z → t.zone y = s.zone y) (cleared : (t.zone z).tripped = false) :
    SoundKept s (withdrawTrip z t) := by
  have cfg (c : Fin 8) : t.cfg c = s.cfg c := by simp only [State.cfg, config]
  have chan (c : Fin 8) : t.chan c = s.chan c := by simp only [State.chan, records]
  have feedback : (withdrawTrip z t).channels.feedback = t.channels.feedback :=
    each8_keeps (fun s => s.channels.feedback) _ (fun c s => by split <;> simp) t
  have pathReady : (withdrawTrip z t).pathReady = t.pathReady := by simp [State.pathReady, feedback]
  have part (c : Fin 8) : (withdrawTrip z t).chan c =
      if (s.cfg c).zone = some z then (withdrawCause .trip c t).chan c else s.chan c := by
    have alike := withdrawTrip_alike z c t
    rw [alike.chan, cfg]
    simp only [beq_iff_eq]
    split
    · rfl
    · exact chan c
  refine ⟨⟨fun x => ?_, fun x y => ?_⟩, fun x => ?_⟩
  · rw [State.causesSound_iff] at x ⊢
    intro c
    rw [part]
    split
    · exact withdrawCause_causesSound .trip c t (by rw [chan]; exact x c)
    · exact x c
  · rw [State.zonesSound_iff] at y ⊢
    intro run c a zone enabled trip
    have run : s.running = true := by rw [← running]; simpa [State.running] using run
    have zone : (s.cfg c).zone = some a := by rw [← cfg]; simpa [State.cfg, State.config] using zone
    have enabled : (s.cfg c).enabled = true := by rw [← cfg]; simpa [State.cfg, State.config] using enabled
    have trip : (t.zone a).tripped = true := by simpa [State.zone] using trip
    have other : a ≠ z := fun e => by rw [e, cleared] at trip; cases trip
    rw [part, if_neg (by simp [zone, other])]
    exact y run c a zone enabled (by rwa [← zones a other])
  · rw [State.pathSound_iff] at x ⊢
    intro run notReady c
    have rests := x (by rw [← running]; simpa [State.running] using run)
      (by rw [← ready, ← pathReady]; exact notReady) c
    rw [part]
    split
    · exact withdrawCause_restful .trip c t (by rwa [chan])
    · exact rests

theorem queueTrip_channels (m : Byte) (k : TripCause) (s : State) : ChannelsKept s (queueTrip m k s) :=
  .of_channels (by simp) (by simp) (by simp) (by simp)

theorem takenTripZone_sound (n : Station) (k : TripCause) (z : Fin 8) (s : State) :
    SoundKept s (takenTripZone n k z s) := by
  unfold takenTripZone
  dsimp only
  split
  · exact .refl s
  · exact tripZone_sound z n k s

theorem takenClearZone_sound (z : Fin 8) (s : State) : SoundKept s (takenClearZone z s) := by
  unfold takenClearZone
  dsimp only
  split
  · exact (tripZone_sound z _ _ s).trans (queueTrip_channels _ _ _).sound
  · split
    · have cleared : SoundKept s (withdrawTrip z (setZoneChange (setZone z { s.zone z with
          tripped := false, station := none, cause := none } s))) := by
        refine withdrawTrip_sound rfl rfl rfl rfl (fun y h => ?_) ?_
        · exact (setZone_zone_of z _ s y).trans (if_neg h)
        · exact congrArg Zone.tripped ((setZone_zone_of z _ s z).trans (if_pos rfl))
      exact cleared.trans (ChannelsKept.of_channels (by simp) (by simp) (by simp) (by simp)).sound
    · exact .refl s

theorem hostTripZone_sound (z : Fin 8) (s : State) : SoundKept s (hostTripZone z s) := by
  have rest (t : State) : SoundKept t (removeFromClear z t) :=
    (ChannelsKept.of_channels (by simp) (by simp) (by simp) (by simp)).sound
  unfold hostTripZone
  dsimp only
  split <;> exact (tripZone_sound z _ _ s).trans (rest _)

theorem onZones_sound {f : Fin 8 → State → State} (h : ∀ z s, SoundKept s (f z s)) (m : Byte) (s : State) :
    SoundKept s (onZones m f s) :=
  .each8 (fun z s => by split; exacts [h z s, .refl s]) s

theorem tripInputActive_sound (z : Fin 8) (s : State) : SoundKept s (tripInputActive z s) := by
  have local_ : SoundKept s (setZone z { s.zone z with localActive := true } s) := (setZone_kept (by exact id)).sound
  have rest (t : State) : SoundKept t (removeFromClear z t) :=
    (ChannelsKept.of_channels (by simp) (by simp) (by simp) (by simp)).sound
  exact ((local_.trans (tripZone_sound z _ _ _)).trans (queueTrip_channels _ _ _).sound).trans (rest _)

theorem inputToZones_sound (n : Fin 8) (s : State) : SoundKept s (inputToZones n s) := by
  unfold inputToZones
  split
  · split
    · exact tripInputActive_sound _ s
    · exact (setZone_kept (by exact id)).sound
  · split
    · exact (ChannelsKept.of_channels (by simp) (by simp) (by simp) (by simp)).sound
    · exact .refl s
  all_goals exact .refl s

theorem shutdownChange_sound (b : Bool) (s : State) : SoundKept s (shutdownChange b s) := by
  have field : SoundKept s { s with zones := { s.zones with shutdown := b } } :=
    ChannelsKept.sound ⟨rfl, rfl, rfl, fun _ => id, fun _ => .refl _ _⟩
  have event (t : State) : SoundKept t (setZoneChange t) :=
    (ChannelsKept.of_channels (by simp) (by simp) (by simp) (by simp)).sound
  unfold shutdownChange
  dsimp only
  (repeat' split)
  · exact .refl s
  · exact field
  · exact (field.trans (event _)).trans (ChannelsKept.each8 (forceCause_channels .shutdown) _).sound
  · exact (field.trans (event _)).trans (ChannelsKept.each8 (withdrawCause_channels (by decide)) _).sound
  · exact field.trans (event _)

end Sys2Proof.Machine
end

section
/-! PROOFS. The operations of the other blocks keep the channels' promises: inputs, points, groups, marks and the peer
bus. -/

namespace Sys2Proof.Machine

open Sys2Proof

/-! ## Groups: what they say to the channels leaves the records -/

@[simp] theorem sendRevoke_records (x : Entry) (s : State) :
    (sendRevoke x s).channels.records = s.channels.records ∧
    (sendRevoke x s).channels.feedback = s.channels.feedback := by
  unfold sendRevoke
  split <;> simp

@[simp] theorem yieldTo_records (e : Fin 8) (x : Entry) (h : Holder) (s : State) :
    (yieldTo e x h s).channels.records = s.channels.records ∧
    (yieldTo e x h s).channels.feedback = s.channels.feedback := by
  unfold yieldTo
  dsimp only
  split <;> simp

@[simp] theorem foreignHold_records (e : Fin 8) (h : Holder) (b : Bool) (s : State) :
    (foreignHold e h b s).channels.records = s.channels.records ∧
    (foreignHold e h b s).channels.feedback = s.channels.feedback := by
  unfold foreignHold
  dsimp only
  (repeat' split) <;> simp

@[simp] theorem windowExpiry_records (e : Fin 8) (s : State) :
    (windowExpiry e s).channels.records = s.channels.records ∧
    (windowExpiry e s).channels.feedback = s.channels.feedback := by
  unfold windowExpiry
  (repeat' split) <;> simp

@[simp] theorem lapseExpiry_records (e : Fin 8) (s : State) :
    (lapseExpiry e s).channels.records = s.channels.records ∧
    (lapseExpiry e s).channels.feedback = s.channels.feedback := by
  unfold lapseExpiry
  (repeat' split) <;> simp

@[simp] theorem groupLeaves_records (e : Fin 8) (s : State) :
    (groupLeaves e s).channels.records = s.channels.records ∧
    (groupLeaves e s).channels.feedback = s.channels.feedback := by
  unfold groupLeaves
  (repeat' split) <;> simp

namespace ChannelsKept

variable {s t : State}

theorem onGroup {f : Fin 8 → State → State} (h : ∀ e s, ChannelsKept s (f e s)) (g : Fin 128) (s : State) :
    ChannelsKept s (onGroup g f s) := .each8 (fun e _ => .ite (fun _ => h e _) fun _ => .refl _) s

/-! ## Points, inputs, marks -/

theorem pointsAtImage (n : Station) (ps : List PointPair) (s : State) : ChannelsKept s (pointsAtImage n ps s) := by
  have points (l : List Subscription) : ChannelsKept s { s with points := l } := .of_channels rfl rfl rfl rfl
  have flag (t : State) : ChannelsKept t (raiseFlag .foreignPublisher t) :=
    .of_channels (by simp) (by simp) (by simp) (by simp)
  have rest (p : Nat → Bool) (q : TermSource → Bool) (t : State) :
      ChannelsKept t (evaluateUsers q (Machine.each8 (setHoldOvers p none) t)) :=
    .trans (.each8 (setHoldOvers_channels p none) t) (evaluateUsers_channels q _)
  unfold Machine.pointsAtImage
  dsimp only
  split
  · exact ((points _).trans (flag _)).trans (rest _ _ _)
  · exact (points _).trans (rest _ _ _)

theorem ageExpiry (i : Nat) (s : State) : ChannelsKept s (ageExpiry i s) := by
  have points (l : List Subscription) : ChannelsKept s { s with points := l } := .of_channels rfl rfl rfl rfl
  unfold Machine.ageExpiry
  split
  · exact .refl s
  · dsimp only
    split
    · exact ((points _).trans (.each8 (startHoldOvers_channels _) _)).trans (evaluateUsers_channels _ _)
    · exact .refl s

theorem hostPointChange (n : Fin 8) (v : Bool) (s : State) : ChannelsKept s (hostPointChange n v s) := by
  have point : ChannelsKept s { s with host := { s.host with points := s.host.points.set n v } } :=
    .of_channels rfl rfl rfl rfl
  unfold Machine.hostPointChange
  dsimp only
  split
  · exact .refl s
  · have pend (t : State) : ChannelsKept t (pendSource (.hostPoint n) t) :=
      .of_channels (by simp) (by simp) (by simp) (by simp)
    exact (point.trans (evaluateUsers_channels _ _)).trans (pend _)

theorem acknowledge (m : Byte) (k : KindSet) (f : Bool) (s : State) : ChannelsKept s (acknowledge m k f s) := by
  have kinds : ChannelsKept s (acknowledgeKinds m k s) := .of_channels (by simp) (by simp) (by simp) (by simp)
  have causes (t : State) : ChannelsKept t (acknowledgeCauses m t) :=
    .each8 (fun c _ => .ite (fun _ => withdrawCause_channels (by decide) c _) fun _ => .refl _) t
  have flags (t : State) : ChannelsKept t (acknowledgeFlags t) := .of_channels (by simp) (by simp) (by simp) (by simp)
  unfold Machine.acknowledge
  dsimp only
  exact .ite (fun _ => (kinds.trans (causes _)).trans (flags _)) fun _ => kinds.trans (causes _)

theorem takeMark (n : Half) (s : State) : ChannelsKept s (takeMark n s) := by
  have number (m : MarkTimer) : ChannelsKept s (setMarks m s) := .of_channels rfl rfl rfl rfl
  exact ((number _).trans (.each8 markEventAt_channels _)).trans (.of_channels (by rfl) (by rfl) (by rfl) (by rfl))

theorem markAtTimer (own : Bool) (n : Half) (s : State) : ChannelsKept s (markAtTimer own n s) := by
  have status (t : State) : ChannelsKept t (if t.onLine && t.statusDue n then sendStatus t else t) :=
    .ite (fun _ => .of_channels (by simp) (by simp) (by simp) (by simp)) fun _ => .refl t
  have withdrawn : ChannelsKept s (if s.marks.queued && !own then withdrawFrames isMark s else s) :=
    .ite (fun _ => .of_channels (by simp) (by simp) (by simp) (by simp)) fun _ => .refl s
  exact (withdrawn.trans (.takeMark n _)).trans (status _)

theorem markExpiry (s : State) : ChannelsKept s (markExpiry s) := by
  unfold Machine.markExpiry
  dsimp only
  refine .ite (fun _ => .refl s) fun _ => .ite (fun _ => ?_) fun _ => .takeMark _ s
  have queued (m : MarkTimer) (f : Frame) : ChannelsKept s (Machine.offer f (setMarks m s)).1 :=
    .of_channels (by simp) (by simp) (by simp) (by simp)
  exact .ite (fun _ => queued _ _) fun _ => (queued _ _).trans (.takeMark _ _)

/-! ## The peer bus -/

theorem flushedNotice (f : Frame) (s : State) : ChannelsKept s (flushedNotice f s) := by
  cases f with
  | mark n => exact .takeMark n s
  | _ => exact .of_channels (by simp) (by simp) (by simp) rfl

theorem flushedNotices (l : List Queued) (s : State) : ChannelsKept s (flushedNotices l s) := by
  induction l generalizing s with
  | nil => exact .refl s
  | cons q l ih => exact (ChannelsKept.flushedNotice q.frame s).trans (ih _)

theorem leaveTraffic (s : State) : ChannelsKept s (leaveTraffic s) := by
  have flush : ChannelsKept s (flushQueue s) := by
    unfold flushQueue
    dsimp only
    have emptied : ChannelsKept s (roomNotice (setQueue [] s)) := .of_channels (by simp) (by simp) (by simp) (by simp)
    exact .ite (fun _ => .refl s) fun _ => emptied.trans (.flushedNotices _ _)
  have leaves (t : State) : ChannelsKept t (Machine.each8 groupLeaves t) :=
    .each8 (fun _ _ => .of_same (by simp) (by simp) (by simp) (by simp) (by simp)) t
  have open_ (t : State) : ChannelsKept t (setPubBlocked false t) := .of_channels rfl rfl rfl rfl
  exact (flush.trans (leaves _)).trans (open_ _)

theorem enterSilent (b : BusState) (s : State) : ChannelsKept s (enterSilent b s) := by
  have start (x : Bus) : ChannelsKept s (setFaultBlocked false (setBus x s)) := .of_channels rfl rfl rfl rfl
  unfold Machine.enterSilent
  dsimp only
  refine .trans ?_ (setFlagLive_channels _ _ _)
  exact .ite (fun _ => (start _).trans (.leaveTraffic _)) fun _ => start _

theorem enterJoining (s : State) : ChannelsKept s (enterJoining s) := .of_channels (by simp) (by simp) (by simp) (by simp)

theorem judgeScore (s : State) : ChannelsKept s (judgeScore s) := by
  unfold Machine.judgeScore
  (repeat' split) <;>
    first
    | exact .refl s
    | exact .enterSilent _ s
    | exact .enterJoining s

theorem abandonedNotice (f : Frame) (s : State) : ChannelsKept s (abandonedNotice f s) := by
  cases f with
  | mark n => exact .takeMark n s
  | claim g _ =>
    exact .onGroup (fun _ _ => .of_channels (by simp) (by simp) (by simp) (by simp)) g s
  | release g _ =>
    exact .onGroup (fun _ _ => .of_channels (by simp) (by simp) (by simp) (by simp)) g s
  | trip m k => exact .of_channels (by simp) (by simp) (by simp) (by simp [Machine.abandonedNotice])
  | hello j g => exact .of_channels (by simp) (by simp) (by simp) (by simp [Machine.abandonedNotice])
  | _ => exact .of_channels (by simp) (by simp) (by simp) rfl

theorem abandonDue (s : State) : ChannelsKept s (abandonDue s) := by
  unfold Machine.abandonDue
  split
  · exact .refl s
  next q _ =>
    have left (l : List Queued) : ChannelsKept s (raiseFlag .frameAbandoned (roomNotice (setQueue l s))) :=
      .of_channels (by simp) (by simp) (by simp) (by simp)
    exact (left _).trans (.abandonedNotice q.frame _)

theorem buildDue (s : State) : ChannelsKept s (buildDue s) := .of_channels (by simp) (by simp) (by simp) (by simp)

theorem failAttempt (s : State) : ChannelsKept s (failAttempt s) := by
  have failed (b : Bus) : ChannelsKept s (raiseScore 8 (setBus b s)) := .of_channels rfl rfl rfl rfl
  unfold Machine.failAttempt
  dsimp only
  exact .ite (fun _ => .refl s) fun _ =>
    (((failed _).trans (.abandonDue _)).trans (.judgeScore _)).trans (.buildDue _)

theorem duplicateFound (s : State) : ChannelsKept s (duplicateFound s) := by
  have flag : ChannelsKept s (raiseFlag .duplicateStation s) := .of_channels (by simp) (by simp) (by simp) (by simp)
  unfold Machine.duplicateFound
  split <;>
    first
    | exact .refl s
    | exact flag
    | exact flag.trans (.enterSilent _ _)

theorem hearBad (s : State) : ChannelsKept s (hearBad s) := by
  have raised (b : Bool) : ChannelsKept s (raiseScore 1 (setRejecting b s)) := .of_channels rfl rfl rfl rfl
  unfold Machine.hearBad
  exact .ite (fun _ => .refl s) fun _ => ((raised _).trans (.judgeScore _)).trans (.buildDue _)

theorem takenNotice (f : Frame) (s : State) : ChannelsKept s (takenNotice f s) := by
  unfold Machine.takenNotice
  split
  · exact .of_channels rfl rfl rfl rfl
  · exact .ite (fun _ => .of_channels rfl rfl rfl rfl) fun _ => .refl s
  · exact .refl s

theorem offLineEnds (s : State) : ChannelsKept s (offLineEnds s) := by
  unfold Machine.offLineEnds
  have score : ChannelsKept s (setScore 40 s) := .of_channels rfl rfl rfl rfl
  exact .ite (fun _ => score.trans (.enterSilent _ _)) fun _ => .refl s

end ChannelsKept

namespace SoundKept

theorem atOwner (own : Bool) (n : Station) (f : Frame) (s : State) : SoundKept s (atOwner own n f s) := by
  have learnt (g : Fin 128) {op : Fin 8 → State → State} (h : ∀ e s, ChannelsKept s (op e s)) :
      SoundKept s (if s.learns then onGroup g op s else s) :=
    (ChannelsKept.ite (fun _ => .onGroup h g s) fun _ => .refl s).sound
  cases f with
  | mark m => exact (ChannelsKept.markAtTimer own m s).sound
  | trip m k => exact onZones_sound (takenTripZone_sound n k) m s
  | clear m => exact onZones_sound takenClearZone_sound m s
  | claim g c =>
    refine learnt g fun _ _ => ?_
    cases own <;> exact .of_channels (by simp) (by simp) (by simp) (by simp)
  | hold g c o =>
    refine learnt g fun _ _ => ?_
    cases own <;> exact .of_same (by simp) (by simp) (by simp) (by simp) (by simp)
  | release g c =>
    refine learnt g fun _ _ => ?_
    cases own <;> exact .of_channels (by simp) (by simp) (by simp) (by simp)
  | points ps => exact (ChannelsKept.pointsAtImage n ps s).sound
  | fault c l st m => exact (ChannelsKept.of_channels (by simp [Machine.atOwner]) (by simp [Machine.atOwner])
      (by simp [Machine.atOwner]) (by simp [Machine.atOwner])).sound
  | faultAck t ch k fl => exact (ChannelsKept.ite (fun _ => .acknowledge ch k fl s) fun _ => .refl s).sound
  | status i => exact (ChannelsKept.of_channels (by rfl) (by rfl) (by rfl) (by rfl)).sound
  | hello j sig =>
    have holds : ChannelsKept s (Machine.each8 groupHello s) :=
      .each8 (fun _ _ => .of_channels (by simp) (by simp) (by simp) (by simp)) s
    have others (t : State) : ChannelsKept t (pendAll (zonesHello t)) :=
      .of_channels (by simp) (by simp) (by simp) (by simp)
    have announced : ChannelsKept s
        (if !own && s.onLine then pendAll (zonesHello (Machine.each8 groupHello s)) else s) :=
      .ite (fun _ => holds.trans (others _)) fun _ => .refl s
    exact (announced.trans (.of_channels (by rfl) (by rfl) (by rfl) (by rfl))).sound

theorem dispatch (own : Bool) (n : Station) (f : Frame) (s : State) : SoundKept s (dispatch own n f s) :=
  (SoundKept.atOwner own n f s).trans (ChannelsKept.of_channels (by rfl) (by rfl) (by rfl) (by rfl)).sound

theorem hear (kind : Nat) (n : Station) (p : List Byte) (s : State) : SoundKept s (hear kind n p s) := by
  unfold Machine.hear
  split
  · exact .refl s
  · have lowered : ChannelsKept s (lowerScore (setRejecting false s)) := .of_channels rfl rfl rfl rfl
    have judged := (lowered.trans (.judgeScore _)).sound
    dsimp only
    refine .trans ?_ (ChannelsKept.buildDue _).sound
    split
    · exact judged.trans (ChannelsKept.of_channels (by simp) (by simp) (by simp) (by simp)).sound
    · split
      · exact judged.trans (ChannelsKept.duplicateFound _).sound
      · exact judged.trans (.dispatch _ _ _ _)

theorem completeAttempt (f : Frame) (s : State) : SoundKept s (completeAttempt f s) := by
  have freed (b : Bus) (n : Nat) :
      ChannelsKept s (lowerScore (if n < s.bus.queue.length then roomNotice (setBus b s) else setBus b s)) := by
    split <;> exact .of_channels rfl rfl rfl rfl
  have notice (queued : Bool) (t : State) : SoundKept t (if queued then takenNotice f t else t) :=
    (ChannelsKept.ite (fun _ => .takenNotice f t) fun _ => .refl t).sound
  unfold Machine.completeAttempt
  dsimp only
  exact ((((freed _ _).trans (.judgeScore _)).sound.trans (.dispatch true s.loader.station f _)).trans
    (notice _ _)).trans (ChannelsKept.buildDue _).sound

theorem takeFrame (kind : Nat) (a : Arrival) (s : State) : SoundKept s (takeFrame kind a s) := by
  unfold Machine.takeFrame
  split
  · exact .hear _ _ _ s
  · split
    · split
      · exact .completeAttempt _ s
      · exact .refl s
    · exact .refl s

end SoundKept

end Sys2Proof.Machine
end

section
/-! PROOFS. Loading, RUNNING entry and every step keep the promises of causes, path and zones (R19 to R22, R64). -/

namespace Sys2Proof.Machine

open Sys2Proof

namespace SoundKept

variable {s t : State}

theorem of_same (loader : t.loader = s.loader) (link : t.link = s.link) (zones : t.zones = s.zones)
    (feedback : t.channels.feedback = s.channels.feedback) (records : t.channels.records = s.channels.records) :
    SoundKept s t := (ChannelsKept.of_same loader link zones feedback records).sound

theorem of_channels (loader : t.loader = s.loader) (link : t.link = s.link) (zones : t.zones = s.zones)
    (channels : t.channels = s.channels) : SoundKept s t :=
  (ChannelsKept.of_channels loader link zones channels).sound

/-- A node that is not RUNNING promises the empty cause sets alone. -/
theorem of_stopped (idle : t.running = false) (records : t.channels.records = s.channels.records) : SoundKept s t :=
  .of_idle (fun x => by
    rw [State.causesSound_iff] at x ⊢
    simpa only [State.chan, records] using x) idle

/-- Channels that all stand at their starting values, with no zone tripped, are sound. -/
theorem of_start (records : t.channels.records = Eight.all Channel.start)
    (zones : ∀ z, (t.zone z).tripped = false) : SoundKept s t where
  causes _ := (State.causesSound_iff t).mpr fun c => by simp [State.chan, records]; rfl
  zones _ _ := (State.zonesSound_iff t).mpr fun _ _ z _ _ trip => by rw [zones] at trip; cases trip
  path _ := (State.pathSound_iff t).mpr fun _ _ c => by simp [State.chan, records]; rfl

/-! ## RUNNING entry -/

theorem firstInputToZones (n : Fin 8) (s : State) : SoundKept s (firstInputToZones n s) := by
  unfold Machine.firstInputToZones
  split
  · exact inputToZones_sound n s
  · exact .refl s

theorem startOccurrences (s : State) : ChannelsKept s (startOccurrences s) := by
  have go (b : Bool) (k : FaultKind) (c : Fin 8) (s : State) : ChannelsKept s (if b then occurrence k c s else s) :=
    .ite (fun _ => occurrence_channels k c s) fun _ => .refl s
  exact .each8 (fun c s => ((((go _ _ c s).trans (go _ _ c _)).trans (go _ _ c _)).trans (go _ _ c _)).trans
    (go _ _ c _)) s

theorem enterRunning (img : Image) (s : State) : SoundKept s (enterRunning img s) := by
  have start : SoundKept s (takeImage img s) :=
    .of_start rfl fun z => by simp [State.zone, takeImage, ZoneTable.reset, Zone.start]
  have inputs := start.trans (.each8 firstInputToZones _)
  have forced (t : State) : SoundKept t (if t.zones.shutdown then forceShutdown t else t) :=
    (ChannelsKept.ite (fun _ => .each8 (forceCause_channels .shutdown) t) fun _ => .refl t).sound
  have demands (t : State) : SoundKept t (Machine.each8 evaluate t) := (ChannelsKept.each8 evaluate_channels t).sound
  exact ((((inputs.trans (forced _)).trans (startOccurrences _).sound).trans
    (ChannelsKept.enterJoining _).sound).trans (demands _)).trans (ChannelsKept.buildDue _).sound

theorem judgeImage (s : State) : SoundKept s (judgeImage s) := by
  unfold Machine.judgeImage
  split
  · exact .enterRunning _ s
  · exact .of_stopped rfl rfl

/-! ## Loading -/

theorem setRead (r : MemoryRead) (s : State) : SoundKept s (setRead r s) :=
  ChannelsKept.sound ⟨rfl, rfl, rfl, fun _ => id, fun _ => .refl _ _⟩

theorem stageBytes (o : Nat) (bytes : List Byte) (s : State) : SoundKept s (stageBytes o bytes s) :=
  ChannelsKept.sound ⟨rfl, rfl, rfl, fun _ => id, fun _ => .refl _ _⟩

theorem addressAnswer (b : Bool) (n : Nat) (s : State) : SoundKept s (addressAnswer b n s) := by
  unfold Machine.addressAnswer
  (repeat' split)
  · exact .setRead _ s
  · exact .of_stopped rfl rfl
  · exact .setRead _ s

theorem endReset (x : ResetSample) (s : State) : SoundKept s (endReset x s) := by
  unfold Machine.endReset
  dsimp only
  split
  · refine .trans ?_ (.addressAnswer _ _ _)
    exact .of_stopped rfl rfl
  · exact .of_stopped rfl rfl

theorem takeBody (bytes : List Byte) (s : State) : SoundKept s (takeBody bytes s) := by
  unfold Machine.takeBody
  split
  · split
    · exact .trans (.stageBytes _ _ s) (.judgeImage _)
    · exact .refl s
  all_goals exact .refl s

theorem takeHeader (bytes : List Byte) (s : State) : SoundKept s (takeHeader bytes s) := by
  unfold Machine.takeHeader
  dsimp only
  (repeat' split)
  · exact .trans (.stageBytes _ _ s) (.setRead _ _)
  · exact .of_stopped rfl rfl
  all_goals exact .refl s

theorem readFails (bytes : List Byte) (s : State) : SoundKept s (readFails bytes s) := by
  unfold Machine.readFails
  (repeat' split) <;>
    first
    | exact .refl s
    | exact .of_stopped rfl rfl

end SoundKept

/-! ## Every operation -/

/-- Every operation of a command keeps the channels' promises. -/
theorem soundKept : KeptByOperations SoundKept where
  refl := .refl
  trans h k := h.trans k
  power _ _ := .of_channels rfl rfl rfl rfl
  due s := (ChannelsKept.buildDue s).sound
  answer _ _ _ _ := .of_channels rfl rfl rfl rfl
  readEvents _ := .of_channels rfl rfl rfl rfl
  popFault _ := .of_channels rfl rfl rfl rfl
  hostPoint n v s _ := (ChannelsKept.hostPointChange n v s).sound
  acknowledge m k f s _ := (ChannelsKept.acknowledge m k f s).sound
  offer f s := .of_channels (by simp) (by simp) (by simp) (by simp)
  tripZones m s _ := (onZones_sound hostTripZone_sound m s).trans (queueTrip_channels m .host _).sound
  clearZones m s := .of_channels (by simp) (by simp) (by simp) (by simp)
  nodeReset s := .of_start rfl fun z => by simp [State.zone, nodeReset, ZoneTable.reset, Zone.start]
  powerOn s := .of_start rfl fun z => by simp [State.zone, powerOn, ZoneTable.reset, Zone.start]
  endReset x s _ := .endReset x s
  retryAddress b s := by
    unfold retryAddress
    split
    · exact .addressAnswer b _ s
    all_goals exact .refl s
  takeHeader := .takeHeader
  takeBody := .takeBody
  readFails := .readFails
  writeBlock o bytes s _ := .stageBytes o bytes s
  commit s _ _ := .judgeImage s
  shutdown := shutdownChange_sound
  pin n s := .of_channels (by simp) (by simp) (by simp) (by simp)
  debounce n s _ := by
    have level (x : SenseInput) : SoundKept s (setInput n x s) := .of_channels rfl rfl rfl rfl
    have pend (t : State) : SoundKept t (pendSource (.sense n) t) :=
      .of_channels (by simp) (by simp) (by simp) (by simp)
    unfold debounceExpires inputChanged
    dsimp only
    split
    · exact (((level _).trans (evaluateUsers_channels _ _).sound).trans (inputToZones_sound n _)).trans (pend _)
    · exact .refl s
  confirmEnergizing c s _ := (confirmExpiryEnergizing_channels c s).sound
  confirmReleasing c s _ := (confirmExpiryReleasing_channels c s).sound
  offCheck c s _ := (offCheckExpiry_channels c s).sound
  holdOver c i s _ := (holdOverExpiry_channels c i s).sound
  toGroups _ _ := .of_same rfl rfl rfl rfl rfl
  toChannels _ _ := .of_same rfl rfl rfl rfl rfl
  request e c s := .of_channels (by simp) (by simp) (by simp) (by simp)
  cancel e c s := .of_channels (by simp) (by simp) (by simp) (by simp)
  done e c s := .of_channels (by simp) (by simp) (by simp) (by simp)
  grant c s _ := (grantAt_channels c s).sound
  revoke c s _ := (revokeAt_channels c s).sound
  hold e s := .of_channels (by simp) (by simp) (by simp) (by simp)
  retry e s := .of_channels (by simp) (by simp) (by simp) (by simp)
  lifetime e s := .of_channels (by simp) (by simp) (by simp) (by simp)
  window e s := .of_same (by simp) (by simp) (by simp) (by simp) (by simp)
  dead e s := .of_channels (by simp) (by simp) (by simp) (by simp)
  lapse e s := .of_same (by simp) (by simp) (by simp) (by simp) (by simp)
  mark s _ := (ChannelsKept.markExpiry s).sound
  age i s _ := (ChannelsKept.ageExpiry i s).sound
  refresh i s := .of_channels (by simp) (by simp) (by simp) (by simp)
  offerHead l s := .of_channels (by simp) (by simp) (by simp) (by simp)
  failAttempt s := (ChannelsKept.failAttempt s).sound
  readFrame f s := by
    unfold readFrame
    split
    · exact (ChannelsKept.hearBad s).sound
    · exact .hear _ _ _ s
  hear := .hear
  hearRejected s := .of_channels (by simp) (by simp) (by simp) (by simp)
  takeFrame := .takeFrame
  offLine s := (ChannelsKept.offLineEnds s).sound
  joinWait s := .of_channels (by simp) (by simp) (by simp) (by simp)
  helloHoldOff s := .of_channels (by simp) (by simp) (by simp) (by simp)
  slot s := by
    unfold startSlot
    split
    · exact .refl s
    · exact (setLink_kept (by rfl)).sound
  judgeSlot r s := by
    unfold judgeSlot
    split
    · exact .refl s
    · refine .trans ?_ (ChannelsKept.buildDue _).sound
      split
      · exact goodSlot_sound _ s
      · exact failedSlot_sound s
  guarantee s := by
    unfold guaranteeEnds
    split
    · exact (setLink_kept (by rfl)).sound.trans
        (whenRunning_sound (fun t _ => (ChannelsKept.each8 offAssuredAt_channels t).sound) _)
    · exact .refl s

/-- Settles O57: every operation keeps each channel's causes, its rest over a path that is not ready, and TRIP on the
channels of a tripped zone. -/
theorem channelInvariantKept : Obligations.ChannelInvariantKept := by
  intro s t h
  have kept := soundKept.step (fun s => .of_channels rfl rfl rfl rfl) (fun s l => .of_channels rfl rfl rfl rfl) h
  exact ⟨kept.causes, kept.path, kept.zones⟩

end Sys2Proof.Machine
end

section
/-! PROOFS. What Channel Logic does at one channel as a chain of moves: the record changes, a message leaves, a state is
entered, LOCK-CHANGE is set, STUCK-ON falls. What the moves keep, every operation of the channel keeps. -/

namespace Sys2Proof.Machine

open Sys2Proof

/-- From s, Channel Logic reaches t by moves of channel c. -/
inductive ChannelMoves (c : Fin 8) (s : State) : State → Prop
  | refl : ChannelMoves c s s
  | mod {t : State} (f : Channel → Channel) : ChannelMoves c s t → ChannelMoves c s (modChan c f t)
  | send {t : State} (m : ToGroupMsg) : ChannelMoves c s t → ChannelMoves c s (sendToGroup c m t)
  | enter {t : State} (x : ChannelState) : ChannelMoves c s t → ChannelMoves c s (enterState x c t)
  | lockChange {t : State} : ChannelMoves c s t → ChannelMoves c s (setLockChange t)
  | stuckOnFalls {t : State} : ChannelMoves c s t → ChannelMoves c s (setLive c .stuckOn false t)

namespace ChannelMoves

variable {c : Fin 8} {s t : State}

/-- What holds of s and survives each move holds of t. -/
theorem keeps {P : State → Prop} (mod : ∀ f u, P u → P (modChan c f u)) (send : ∀ m u, P u → P (sendToGroup c m u))
    (enter : ∀ x u, P u → P (enterState x c u)) (lockChange : ∀ u, P u → P (setLockChange u))
    (stuckOnFalls : ∀ u, P u → P (setLive c .stuckOn false u)) (h : ChannelMoves c s t) (start : P s) : P t := by
  induction h with
  | refl => exact start
  | mod f _ ih => exact mod f _ ih
  | send m _ ih => exact send m _ ih
  | enter x _ ih => exact enter x _ ih
  | lockChange _ ih => exact lockChange _ ih
  | stuckOnFalls _ ih => exact stuckOnFalls _ ih

theorem ite {p : Prop} [Decidable p] {a : State} (h : p → ChannelMoves c s t) (k : ¬p → ChannelMoves c s a) :
    ChannelMoves c s (if p then t else a) := by
  split
  · exact h ‹_›
  · exact k ‹_›

theorem startChannel (h : ChannelMoves c s t) : ChannelMoves c s (startChannel c t) := by
  unfold Machine.startChannel
  split
  · exact (h.send _).enter _
  · split <;> exact h.enter _

theorem startIfDue (h : ChannelMoves c s t) : ChannelMoves c s (startIfDue c t) := .ite (fun _ => h.startChannel) fun _ => h

theorem seeDemandInOff (h : ChannelMoves c s t) : ChannelMoves c s (seeDemandInOff c t) :=
  .ite (fun _ => h.startIfDue) fun _ => h.mod _

theorem enterOff (h : ChannelMoves c s t) : ChannelMoves c s (enterOff c t) := (h.enter .off).seeDemandInOff

theorem enterReleasing (x : Target) (h : ChannelMoves c s t) : ChannelMoves c s (enterReleasing x c t) :=
  (h.enter .releasing).mod _

theorem leaveSuspended (h : ChannelMoves c s t) : ChannelMoves c s (leaveSuspended c t) := by
  unfold Machine.leaveSuspended
  split
  · exact (h.mod _).enterOff
  · exact h.enterOff

theorem completeRelease (h : ChannelMoves c s t) : ChannelMoves c s (completeRelease c t) := by
  unfold Machine.completeRelease
  dsimp only
  have sent := h.send .doneOffConfirmed
  split
  · exact sent.enterOff
  · exact .ite (fun _ => (sent.enter _).leaveSuspended) fun _ => sent.enter _
  · exact sent.enter _

theorem settleHandBack (h : ChannelMoves c s t) : ChannelMoves c s (settleHandBack c t) :=
  .ite (fun _ => (h.mod _).send _) fun _ => h

theorem fallFromOn (h : ChannelMoves c s t) : ChannelMoves c s (fallFromOn c t) := by
  unfold Machine.fallFromOn
  split
  · exact h.enter _
  · exact h.enterReleasing _

theorem enterOn (h : ChannelMoves c s t) : ChannelMoves c s (enterOn c t) :=
  .ite (fun _ => h.enter _) fun _ => (h.enter _).fallFromOn

theorem oweHandBack (h : ChannelMoves c s t) : ChannelMoves c s (oweHandBack c t) := .ite (fun _ => h.mod _) fun _ => h

theorem demandChange (d : Bool) (h : ChannelMoves c s t) : ChannelMoves c s (demandChange c d t) := by
  unfold Machine.demandChange
  dsimp only
  have demand := h.mod fun r => { r with demand := d }
  split
  · exact demand.seeDemandInOff
  · exact .ite (fun _ => demand) fun _ => (demand.send _).enterOff
  · exact .ite (fun _ => demand) fun _ => (demand.send _).enterOff
  · exact .ite (fun _ => demand) fun _ => demand.fallFromOn
  · exact .ite (fun _ => demand.enter _) fun _ => demand
  all_goals exact demand

theorem evaluate (h : ChannelMoves c s t) : ChannelMoves c s (evaluate c t) := .ite (fun _ => h) fun _ => h.demandChange _

theorem addCause (k : Cause) (h : ChannelMoves c s t) : ChannelMoves c s (addCause k c t) := h.mod _

theorem forceCause (k : Cause) (h : ChannelMoves c s t) : ChannelMoves c s (forceCause k c t) := by
  unfold Machine.forceCause
  dsimp only
  have added := h.addCause k
  refine .ite (fun _ => h) fun _ => ?_
  split
  iterate 2 exact added.enter _
  iterate 2 exact (added.send _).enter _
  iterate 3 exact added.enterReleasing _
  · exact added.mod _
  · exact added.lockChange

theorem setRearm (h : ChannelMoves c s t) : ChannelMoves c s (setRearm c t) := h.mod _

theorem withdrawCause (k : Cause) (h : ChannelMoves c s t) : ChannelMoves c s (withdrawCause k c t) := by
  unfold Machine.withdrawCause
  dsimp only
  have left := h.mod fun r => { r with causes := r.causes.put k false }
  refine .ite (fun _ => h) fun _ => ?_
  split
  · exact .ite (fun _ => left.setRearm.enterOff) fun _ => left.lockChange
  · exact .ite (fun _ => (left.mod _).setRearm) fun _ => left
  · exact left

theorem pathLostAt (h : ChannelMoves c s t) : ChannelMoves c s (pathLostAt c t) := by
  unfold Machine.pathLostAt
  split
  iterate 3 exact h
  iterate 2 exact (h.send _).enter _
  iterate 3 exact (h.enter _).oweHandBack
  · exact h.mod _

theorem pathReadyAt (h : ChannelMoves c s t) : ChannelMoves c s (pathReadyAt c t) := by
  unfold Machine.pathReadyAt
  split
  · exact h.leaveSuspended
  · exact h.startIfDue
  · exact h

theorem confirmIfReleasing (tm : Timer) (h : ChannelMoves c s t) : ChannelMoves c s (confirmIfReleasing tm c t) := by
  unfold Machine.confirmIfReleasing
  split
  · exact h.mod _
  · exact h

theorem feedbackInState (on : Bool) (h : ChannelMoves c s t) : ChannelMoves c s (feedbackInState on c t) := by
  unfold Machine.feedbackInState
  split
  · exact .ite (fun _ => h.enterOn) fun _ => h
  iterate 2 exact h.mod _
  · exact .ite (fun _ => h) fun _ => h.completeRelease
  all_goals exact h

theorem feedbackAt (bits : Byte) (h : ChannelMoves c s t) : ChannelMoves c s (feedbackAt bits c t) :=
  .ite (fun _ => h.feedbackInState _) fun _ => (h.feedbackInState _).settleHandBack.stuckOnFalls

theorem offAssuredAt (h : ChannelMoves c s t) : ChannelMoves c s (offAssuredAt c t) := by
  unfold Machine.offAssuredAt
  split
  · exact h.completeRelease.settleHandBack
  · exact h.settleHandBack

theorem markEventAt (h : ChannelMoves c s t) : ChannelMoves c s (markEventAt c t) := by
  unfold Machine.markEventAt
  split
  · exact h.enter _
  · exact h.enterReleasing _
  · exact h

theorem revokeAt (h : ChannelMoves c s t) : ChannelMoves c s (revokeAt c t) := by
  unfold Machine.revokeAt
  split
  · exact (h.send _).enterOff
  iterate 3 exact h.enterReleasing _
  all_goals exact h

theorem grantAt (h : ChannelMoves c s t) : ChannelMoves c s (grantAt c t) := by
  unfold Machine.grantAt
  split
  · split <;> exact h.enter _
  · exact h.send _

theorem setHoldOvers (p : Nat → Bool) (tm : Timer) (h : ChannelMoves c s t) :
    ChannelMoves c s (setHoldOvers p tm c t) := by
  unfold Machine.setHoldOvers
  exact h.mod _

theorem startHoldOvers (p : Nat → Bool) (h : ChannelMoves c s t) : ChannelMoves c s (startHoldOvers p c t) := by
  unfold Machine.startHoldOvers
  split
  · exact h
  · exact .ite (fun _ => h) fun _ => h.setHoldOvers p _

theorem holdOverExpiry (i : Fin 4) (h : ChannelMoves c s t) : ChannelMoves c s (holdOverExpiry c i t) :=
  .ite (fun _ => (h.mod _).evaluate) fun _ => h

end ChannelMoves

/-! ## The fault records under the moves -/

/-- What a live value that is told changes: its own kind's record, on its own channel. -/
theorem setLive_faultRec (c : Fin 8) (k : FaultKind) (b : Bool) (s : State) (d : Fin 8) :
    (setLive c k b s).faultRec d =
      if d = c then ⟨(s.faultRec c).kinds.set k { (s.faultRec c).kinds.get k with live := b },
        (s.faultRec c).newest, (s.faultRec c).waiting⟩ else s.faultRec d := by
  unfold setLive
  dsimp only
  split <;> simp [State.faultRec, setRecord, Eight.get_set]

/-- A kind's record stands, or its live value has fallen. -/
def KindRecord.fallen (x y : KindRecord) : Prop := y = x ∨ y = { x with live := false }

/-- From s to t no record of a kind changes but by the fall of its live value. -/
def LivesFall (s t : State) : Prop := ∀ c k, ((s.faultRec c).kinds.get k).fallen ((t.faultRec c).kinds.get k)

namespace LivesFall

variable {s t u : State}

theorem refl (s : State) : LivesFall s s := fun _ _ => .inl rfl

theorem trans (h : LivesFall s t) (k : LivesFall t u) : LivesFall s u := fun c x => by
  rcases h c x with a | a <;> rcases k c x with b | b <;> simp [KindRecord.fallen, a, b]

theorem of_kinds (h : ∀ c, (t.faultRec c).kinds = (s.faultRec c).kinds) : LivesFall s t := fun c _ => .inl (by rw [h c])

theorem setLive_false (c : Fin 8) (k : FaultKind) (s : State) : LivesFall s (setLive c k false s) := by
  intro d x
  rw [setLive_faultRec]
  by_cases e : d = c
  · subst e
    by_cases same : x = k
    · subst same; simp [KindRecord.fallen]
    · simp [KindRecord.fallen, PerKind.get_set, same]
  · simp [KindRecord.fallen, e]

theorem enterState (x : ChannelState) (c : Fin 8) (s : State) : LivesFall s (enterState x c s) := by
  have told (left : Bool) (u : State) (same : ∀ d, (u.faultRec d).kinds = (s.faultRec d).kinds) :
      LivesFall s (if left then setLive c .stuckOn false u else u) := by
    split
    · exact .trans (.of_kinds same) (.setLive_false c .stuckOn _)
    · exact .of_kinds same
  unfold Machine.enterState
  refine told _ _ fun d => ?_
  (repeat' split) <;> simp [State.faultRec]

theorem of_moves {c : Fin 8} (h : ChannelMoves c s t) : LivesFall s t :=
  h.keeps (fun _ _ h => h.trans (.of_kinds fun _ => rfl))
    (fun m _ h => h.trans (.of_kinds fun d => by simp [State.faultRec]))
    (fun x _ h => h.trans (.enterState x c _)) (fun _ h => h.trans (.of_kinds fun _ => rfl))
    (fun _ h => h.trans (.setLive_false c .stuckOn _)) (.refl s)

end LivesFall

end Sys2Proof.Machine
end

section
/-! PROOFS. What an accepted image is known to hold: each check of R159 that finds no fault, as a fact about the bytes
(sections 11.3, 13.4). -/

namespace Sys2Proof.Machine

open Sys2Proof

/-! ## Checks that find nothing -/

theorem firstBad_eq_none_iff (l : List (Nat × Bool)) : firstBad l = none ↔ ∀ p ∈ l, p.2 = false := by
  induction l with
  | nil => simp [firstBad]
  | cons p l ih =>
    obtain ⟨at_, bad⟩ := p
    cases bad <;> simp [firstBad, ih]

theorem duplicateFault_go_none {seen : List Nat} {l : List (Nat × Nat)} (h : duplicateFault.go seen l = none) :
    (l.map Prod.snd).Nodup ∧ ∀ k ∈ l.map Prod.snd, k ∉ seen := by
  induction l generalizing seen with
  | nil => simp
  | cons p l ih =>
    obtain ⟨offset, key⟩ := p
    simp only [duplicateFault.go] at h
    split at h
    · cases h
    next new =>
      obtain ⟨nodup, apart⟩ := ih h
      simp only [List.map_cons, List.nodup_cons, List.mem_cons, forall_eq_or_imp]
      refine ⟨⟨fun again => apart key again List.mem_cons_self, nodup⟩, by simpa using new,
        fun k hk old => apart k hk (List.mem_cons_of_mem key old)⟩

/-- Checks 6, 7 and 8: a list without a duplicate names each key once. -/
theorem duplicateFault_none {l : List (Nat × Nat)} (h : duplicateFault l = none) : (l.map Prod.snd).Nodup :=
  (duplicateFault_go_none h).1

/-- The checks that an accepted image has passed. -/
structure Passes (station : Station) (img : List Byte) : Prop where
  station : ¬(station = 0 ∨ station = 63)
  fields : fieldRangeFault img = none
  subscriptions : duplicateSubscription img = none
  publications : duplicatePublication img = none
  groups : duplicateGroup img = none
  terms : termReferenceFault img = none
  memberships : groupMembershipFault img = none
  backlinks : memberBacklinkFault img = none
  times : timeRangeFault img = none
  roles : inputRoleFault img = none

theorem passes_of_imageFault {station : Station} {img : List Byte} (h : imageFault station img = none) :
    Passes station img := by
  unfold imageFault at h
  (repeat' split at h) <;> first | cases h; done | constructor <;> assumption

theorem passes_of_checkImage {station : Station} {m : Memory} {img : Image} (h : checkImage station m = .ok img) :
    ∃ bytes, Passes station bytes ∧ img = imageOf bytes := by
  simp only [checkImage] at h
  split at h
  · split at h
    · cases h
    next none =>
      cases h
      exact ⟨_, passes_of_imageFault none, rfl⟩
  · cases h

namespace Passes

variable {station : Station} {img : List Byte}

/-! ## The counts and ranges -/

theorem counts (h : Passes station img) : subCount img ≤ 48 ∧ pubCount img ≤ 16 ∧ memCount img ≤ 8 := by
  have bad := (firstBad_eq_none_iff _).mp h.fields
  simp only [List.append_assoc, List.cons_append, List.mem_cons, forall_eq_or_imp] at bad
  obtain ⟨-, subs, pubs, mems, -⟩ := bad
  simp only [decide_eq_false_iff_not, Nat.not_lt] at subs pubs mems
  exact ⟨subs, pubs, mems⟩

/-- FIELD-RANGE at a channel record. -/
theorem channelFields (h : Passes station img) {c : Nat} (hc : c < 8) :
    ∀ p ∈ channelFieldFaults img c, p.2 = false := fun p hp => by
  refine (firstBad_eq_none_iff _).mp h.fields p ?_
  simp only [List.mem_append, List.mem_flatMap, List.mem_range]
  exact .inl (.inl (.inl (.inr ⟨c, hc, hp⟩)))

theorem termCount (h : Passes station img) {c : Nat} (hc : c < 8) :
    1 ≤ termCount img c ∧ termCount img c ≤ 4 := by
  have range := h.channelFields hc (channelAt c + 1, decide (Machine.termCount img c = 0 ∨ 4 < Machine.termCount img c))
    (by simp [channelFieldFaults])
  simp only [decide_eq_false_iff_not] at range
  omega

/-- A group field is absent or 0 to 7. -/
theorem groupField (h : Passes station img) {c : Nat} (hc : c < 8) :
    imageNat img (channelAt c + 10) = 255 ∨ imageNat img (channelAt c + 10) ≤ 7 := by
  have range := h.channelFields hc (channelAt c + 10, imageNat img (channelAt c + 10) != 255 &&
    decide (7 < imageNat img (channelAt c + 10))) (by simp [channelFieldFaults])
  simp only [Bool.and_eq_false_iff, bne_eq_false_iff_eq, decide_eq_false_iff_not] at range
  omega

theorem subscriptionFields (h : Passes station img) {i : Nat} (hi : i < subCount img) :
    imageHalfNat img (subAt i) ≤ 511 ∧
    1 ≤ imageNat img (subAt i + 2) ∧ imageNat img (subAt i + 2) ≤ 62 := by
  have bad (p) (hp : p ∈ [(subAt i, decide (511 < imageHalfNat img (subAt i))), (subAt i + 2,
      decide (imageNat img (subAt i + 2) = 0 ∨ 62 < imageNat img (subAt i + 2)))]) : p.2 = false := by
    refine (firstBad_eq_none_iff _).mp h.fields p ?_
    simp only [List.mem_append, List.mem_flatMap, List.mem_range]
    exact .inl (.inl (.inr ⟨i, hi, hp⟩))
  simp only [List.mem_cons, List.not_mem_nil, or_false, forall_eq_or_imp, forall_eq, decide_eq_false_iff_not] at bad
  omega

theorem publicationFields (h : Passes station img) {i : Nat} (hi : i < pubCount img) :
    imageHalfNat img (pubAt img i) ≤ 511 := by
  have bad : decide (511 < imageHalfNat img (pubAt img i)) = false := by
    refine (firstBad_eq_none_iff _).mp h.fields (pubAt img i, _) ?_
    simp only [List.mem_append, List.mem_flatMap, List.mem_range]
    exact .inl (.inr ⟨i, hi, List.mem_cons_self⟩)
  simp only [decide_eq_false_iff_not] at bad
  omega

theorem membershipFields (h : Passes station img) {i : Nat} (hi : i < memCount img) :
    imageNat img (memAt img i) ≤ 127 ∧ imageByte img (memAt img i + 1) ≠ 0 := by
  have bad (p) (hp : p ∈ [(memAt img i, decide (127 < imageNat img (memAt img i))),
      (memAt img i + 1, imageByte img (memAt img i + 1) == 0)]) : p.2 = false := by
    refine (firstBad_eq_none_iff _).mp h.fields p ?_
    simp only [List.mem_append, List.mem_flatMap, List.mem_range]
    exact .inr ⟨i, hi, hp⟩
  simp only [List.mem_cons, List.not_mem_nil, or_false, forall_eq_or_imp, forall_eq, decide_eq_false_iff_not,
    beq_eq_false_iff_ne] at bad
  exact ⟨by omega, bad.2⟩

theorem outside_eq_false {lo hi n : Nat} (h : outside lo hi n = false) : lo ≤ n ∧ n ≤ hi := by
  simp only [outside, decide_eq_false_iff_not] at h
  omega

/-- TIME-RANGE at the header's times. -/
theorem headerTimes (h : Passes station img) :
    (2 ≤ imageNat img 7 ∧ imageNat img 7 ≤ 50) ∧ (2 ≤ imageNat img 8 ∧ imageNat img 8 ≤ 50) ∧
    imageNat img 8 < 10 * imageNat img 7 ∧ (2 ≤ imageNat img 9 ∧ imageNat img 9 ≤ 250) ∧
    (1 ≤ imageNat img 10 ∧ imageNat img 10 ≤ 40) ∧ (1 ≤ imageNat img 11 ∧ imageNat img 11 ≤ 20) := by
  have bad := (firstBad_eq_none_iff _).mp h.times
  simp only [List.append_assoc, List.cons_append, List.mem_cons, forall_eq_or_imp, Bool.or_eq_false_iff,
    decide_eq_false_iff_not, Nat.not_le] at bad
  obtain ⟨hold, ⟨claim, below⟩, mark, refresh, debounce, -⟩ := bad
  exact ⟨outside_eq_false hold, outside_eq_false claim, below, outside_eq_false mark, outside_eq_false refresh,
    outside_eq_false debounce⟩

theorem holdOver (h : Passes station img) {c : Nat} (hc : c < 8) : imageHalfNat img (channelAt c + 12) ≤ 200 := by
  have bad := (firstBad_eq_none_iff _).mp h.times
    (channelAt c + 12, outside 0 200 (imageHalfNat img (channelAt c + 12)))
  simp only [List.mem_append, List.mem_map, List.mem_range] at bad
  exact (outside_eq_false (bad (.inl (.inl (.inr ⟨c, hc, rfl⟩))))).2

theorem lifetime (h : Passes station img) {i : Nat} (hi : i < subCount img) :
    2 ≤ imageHalfNat img (subAt i + 3) ∧ imageHalfNat img (subAt i + 3) ≤ 200 := by
  have bad := (firstBad_eq_none_iff _).mp h.times
    (subAt i + 3, outside 2 200 (imageHalfNat img (subAt i + 3)))
  simp only [List.mem_append, List.mem_map, List.mem_range] at bad
  exact outside_eq_false (bad (.inl (.inr ⟨i, hi, rfl⟩)))

theorem deadTime (h : Passes station img) {i : Nat} (hi : i < memCount img) :
    imageHalfNat img (memAt img i + 2) ≤ 500 := by
  have bad := (firstBad_eq_none_iff _).mp h.times
    (memAt img i + 2, outside 0 500 (imageHalfNat img (memAt img i + 2)))
  simp only [List.mem_append, List.mem_map, List.mem_range] at bad
  exact (outside_eq_false (bad (.inr ⟨i, hi, rfl⟩))).2

/-! ## The references -/

/-- TERM-REFERENCE: a subscription that a term names is listed. -/
theorem termReference (h : Passes station img) {c t : Nat} (hc : c < 8) (ht : t < Machine.termCount img c)
    (source : ((imageByte img (termAt c t)).extractLsb' 0 2 == 0) = true) :
    imageNat img (termAt c t + 1) < subCount img := by
  have bad := (firstBad_eq_none_iff _).mp h.terms
  have found := bad (termAt c t + 1, _) (by
    simp only [List.mem_flatMap, List.mem_range, List.mem_map]
    exact ⟨c, hc, t, ht, rfl⟩)
  simp only [source, if_true, decide_eq_false_iff_not] at found
  omega

/-- GROUP-MEMBERSHIP: a group that a channel names is listed, with the channel among its members. -/
theorem groupMembership (h : Passes station img) {c : Nat} (hc : c < 8) (present : imageNat img (channelAt c + 10) ≠ 255) :
    imageNat img (channelAt c + 10) < memCount img ∧
    (imageByte img (memAt img (imageNat img (channelAt c + 10)) + 1)).getLsbD c = true := by
  have found := (firstBad_eq_none_iff _).mp h.memberships (channelAt c + 10, _) (by
    simp only [List.mem_range, List.mem_map]
    exact ⟨c, hc, rfl⟩)
  simpa [present] using found

/-- MEMBER-BACKLINK: a channel in a member set names the group. -/
theorem memberBacklink (h : Passes station img) {i c : Nat} (hi : i < memCount img) (hc : c < 8)
    (member : (imageByte img (memAt img i + 1)).getLsbD c = true) : imageNat img (channelAt c + 10) = i := by
  have found := (firstBad_eq_none_iff _).mp h.backlinks (memAt img i + 1, _) (by
    simp only [List.mem_range, List.mem_map]
    exact ⟨i, hi, rfl⟩)
  simp only [List.any_eq_false, List.mem_range, Bool.and_eq_true, bne_iff_ne, not_and, not_not] at found
  exact found c hc member

/-- INPUT-ROLE: a CLEAR role names a zone. -/
theorem clearRole (h : Passes station img) {n : Nat} (hn : n < 8)
    (role : (imageByte img (inputAt img n)).extractLsb' 0 2 = 3) : imageByte img (inputAt img n + 1) ≠ 0 := by
  have found := (firstBad_eq_none_iff _).mp h.roles (inputAt img n + 1, _) (by
    simp only [List.mem_range, List.mem_map]
    exact ⟨n, hn, rfl⟩)
  simpa [role] using found

/-! ## The records read -/

/-- Keys that are listed once and lie below a bound are as many points or groups. -/
theorem ofNat_map_nodup {n k : Nat} {key : Nat → Nat} (below : ∀ i < n, key i < k + 1)
    (nodup : ((List.range n).map key).Nodup) :
    ((List.range n).map fun i => (Fin.ofNat (k + 1) (key i) : Fin (k + 1))).Nodup := by
  refine (List.nodup_map_iff_inj_on List.nodup_range).mpr fun i hi j hj same => ?_
  have inj := (List.nodup_map_iff_inj_on List.nodup_range).mp nodup i hi j hj
  have same := congrArg Fin.val same
  simp only [Fin.ofNat, Nat.mod_eq_of_lt (below i (List.mem_range.mp hi)),
    Nat.mod_eq_of_lt (below j (List.mem_range.mp hj))] at same
  exact inj same

/-! ## The image that the bytes hold -/

theorem channel (img : List Byte) (c : Fin 8) : (imageOf img).channels.get c = channelConfigOf img c.val := by
  simp [imageOf]

theorem channel_terms (h : Passes station img) (c : Fin 8) :
    1 ≤ ((imageOf img).channels.get c).terms.length ∧ ((imageOf img).channels.get c).terms.length ≤ 4 ∧
    ∀ x ∈ ((imageOf img).channels.get c).terms, ∀ i, x.source = .subscription i →
      i < (imageOf img).subscriptions.length := by
  obtain ⟨least, most⟩ := h.termCount c.isLt
  rw [channel]
  refine ⟨by simpa [channelConfigOf] using least, by simpa [channelConfigOf] using most, fun x hx i source => ?_⟩
  simp only [channelConfigOf, List.mem_map, List.mem_range] at hx
  obtain ⟨t, ht, rfl⟩ := hx
  simp only [termOf] at source
  split at source
  next kind =>
    cases source
    simpa [imageOf] using h.termReference c.isLt ht kind
  next => split at source <;> cases source

/-- The membership records, by index. -/
theorem membership_iff (img : List Byte) (e : Fin 8) (x : MembershipConfig) :
    (imageOf img).memberships[e.val]? = some x ↔ e.val < memCount img ∧ membershipConfigOf img e.val = x := by
  simp [imageOf, List.getElem?_eq_some_iff, and_assoc]

/-- A channel's group field names the entry exactly where the byte gives its index. -/
theorem group_iff (h : Passes station img) (c e : Fin 8) :
    ((imageOf img).channels.get c).group = some e ↔ imageNat img (channelAt c.val + 10) = e.val := by
  have field := h.groupField c.isLt
  rw [channel]
  simp only [channelConfigOf, optionalIndex]
  split
  next absent =>
    simp only [absent, reduceCtorEq, false_iff]
    omega
  next present =>
    have small : imageNat img (channelAt c.val + 10) < 8 := by omega
    simp only [Option.some.injEq, Fin.ext_iff, eightOf, Fin.ofNat, Nat.mod_eq_of_lt small]

/-- GROUP-MEMBERSHIP, at the records. -/
theorem group_lists (h : Passes station img) {c e : Fin 8} (group : ((imageOf img).channels.get c).group = some e) :
    ∃ x, (imageOf img).memberships[e.val]? = some x ∧ maskBit x.members c = true := by
  have field := (h.group_iff c e).mp group
  have listed := h.groupMembership c.isLt (by omega)
  rw [field] at listed
  exact ⟨_, (membership_iff img e _).mpr ⟨listed.1, rfl⟩, listed.2⟩

/-- MEMBER-BACKLINK and the fields, at a membership record. -/
theorem membership (h : Passes station img) {e : Fin 8} {x : MembershipConfig}
    (listed : (imageOf img).memberships[e.val]? = some x) :
    x.members ≠ 0 ∧ x.dead ≤ 500 ∧
    ∀ c, maskBit x.members c = true → ((imageOf img).channels.get c).group = some e := by
  obtain ⟨index, rfl⟩ := (membership_iff img e x).mp listed
  exact ⟨(h.membershipFields index).2, h.deadTime index, fun c member =>
    (h.group_iff c e).mpr (h.memberBacklink index c.isLt member)⟩

theorem subscription (h : Passes station img) {x : SubscriptionConfig} (listed : x ∈ (imageOf img).subscriptions) :
    1 ≤ x.publisher.val ∧ x.publisher.val ≤ 62 ∧ 2 ≤ x.lifetime ∧ x.lifetime ≤ 200 := by
  simp only [imageOf, List.mem_map, List.mem_range] at listed
  obtain ⟨i, hi, rfl⟩ := listed
  obtain ⟨-, low, high⟩ := h.subscriptionFields hi
  have small : imageNat img (subAt i + 2) < 64 := by omega
  simp only [subscriptionConfigOf, Fin.ofNat, Nat.mod_eq_of_lt small]
  exact ⟨low, high, h.lifetime hi⟩

theorem points_nodup (h : Passes station img) :
    ((imageOf img).subscriptions.map SubscriptionConfig.point).Nodup ∧
    ((imageOf img).publications.map PublicationConfig.point).Nodup ∧
    ((imageOf img).memberships.map MembershipConfig.group).Nodup := by
  have subs := duplicateFault_none h.subscriptions
  have pubs := duplicateFault_none h.publications
  have groups := duplicateFault_none h.groups
  simp only [List.map_map] at subs pubs groups
  simp only [imageOf, List.map_map]
  exact ⟨ofNat_map_nodup (fun i hi => Nat.lt_succ_of_le (h.subscriptionFields hi).1) subs,
    ofNat_map_nodup (fun i hi => Nat.lt_succ_of_le (h.publicationFields hi)) pubs,
    ofNat_map_nodup (fun i hi => Nat.lt_succ_of_le (h.membershipFields hi).1) groups⟩

theorem clearMask (h : Passes station img) {n : Fin 8} {mask : Byte}
    (role : ((imageOf img).inputs.get n).role = .clear mask) : mask ≠ 0 := by
  simp only [imageOf, Eight.get_of, inputConfigOf] at role
  (repeat' split at role) <;> try cases role
  next unused publish trip =>
    refine h.clearRole n.isLt ?_
    simp only [beq_iff_eq] at unused publish trip
    bv_omega

end Passes

/-- Settles O46: each check that found no fault, at the records it reads. -/
theorem acceptedImages : Obligations.AcceptedImages := by
  intro station m img accepted
  obtain ⟨bytes, h, rfl⟩ := passes_of_checkImage accepted
  obtain ⟨subs, pubs, mems⟩ := h.counts
  obtain ⟨⟨hold, hold'⟩, ⟨claim, claim'⟩, below, ⟨mark, mark'⟩, ⟨refresh, refresh'⟩, debounce, debounce'⟩ := h.headerTimes
  obtain ⟨points, published, groups⟩ := h.points_nodup
  have number : 1 ≤ station.val ∧ station.val ≤ 62 := by
    have outside := h.station
    simp only [not_or, Fin.ext_iff] at outside
    have := station.isLt
    exact ⟨Nat.pos_of_ne_zero outside.1, by have := outside.2; simp at this; omega⟩
  refine ⟨number.1, number.2, by simpa [imageOf] using subs, by simpa [imageOf] using pubs, by simpa [imageOf] using mems,
    hold, hold', claim, claim', below, mark, mark', refresh, refresh', debounce, debounce', fun c => ?_,
    fun x => h.subscription, points, published, groups, fun e x => h.membership, fun n mask => h.clearMask⟩
  obtain ⟨least, most, terms⟩ := h.channel_terms c
  exact ⟨least, most, by rw [Passes.channel]; exact h.holdOver c.isLt, terms, fun e => h.group_lists⟩

end Sys2Proof.Machine
end

section
/-! PROOFS. The fault records under the operations of the node: what is live while RUNNING is sticky and counted (R144 to
R147). -/

namespace Sys2Proof.Machine

open Sys2Proof

/-! ## One kind's record -/

/-- A kind that is sticky and has been counted. -/
def KindRecord.counted (x : KindRecord) : Prop := x.sticky = true ∧ 1 ≤ x.count

theorem KindRecord.sound_iff (x : KindRecord) : x.sound = true ↔ (x.live = true → x.counted) := by
  cases h : x.live <;> simp [KindRecord.sound, KindRecord.counted, h]

/-- From x to y a kind does not become live, and stays counted. -/
structure KindRecord.Grows (x y : KindRecord) : Prop where
  live : y.live = true → x.live = true
  counted : x.counted → y.counted

namespace KindRecord.Grows

variable {x y z : KindRecord}

theorem refl (x : KindRecord) : Grows x x := ⟨id, id⟩

theorem trans (h : Grows x y) (k : Grows y z) : Grows x z := ⟨fun l => h.live (k.live l), fun l => k.counted (h.counted l)⟩

theorem of_fallen (h : x.fallen y) : Grows x y := by
  rcases h with rfl | rfl
  · exact .refl y
  · exact ⟨nofun, id⟩

theorem sound (h : Grows x y) (s : x.sound = true) : y.sound = true :=
  (sound_iff y).mpr fun l => h.counted ((sound_iff x).mp s (h.live l))

end KindRecord.Grows

/-! ## The records of all channels -/

/-- What R144 and R146 promise of a channel's record. -/
def FaultRecord.soundWhen (running : Bool) (r : FaultRecord) : Prop :=
  if running then ∀ k, (r.kinds.get k).sound = true
  else (r.kinds.get .failOn).live = false ∧ (r.kinds.get .stuckOn).live = false

theorem State.recordsSound_iff (s : State) :
    s.recordsSound = true ↔ ∀ c, (s.faultRec c).soundWhen s.running := by
  unfold State.recordsSound
  rw [each8Holds_iff]
  refine forall_congr' fun c => ?_
  cases s.running
  · simp [FaultRecord.soundWhen]
  · simp only [if_true, FaultRecord.soundWhen, List.all_eq_true]
    exact ⟨fun h k => h k (by cases k <;> decide), fun h k _ => h k⟩

/-- From s to t no kind becomes live, and what is counted stays so. -/
def RecordsGrow (s t : State) : Prop := ∀ c k, ((s.faultRec c).kinds.get k).Grows ((t.faultRec c).kinds.get k)

/-- From s to t each channel's record keeps its promise, in a node that is RUNNING or not. -/
def RecordsKept (running : Bool) (s t : State) : Prop :=
  ∀ c, (s.faultRec c).soundWhen running → (t.faultRec c).soundWhen running

namespace RecordsGrow

variable {s t u : State}

theorem refl (s : State) : RecordsGrow s s := fun _ _ => .refl _

theorem trans (h : RecordsGrow s t) (k : RecordsGrow t u) : RecordsGrow s u := fun c x => (h c x).trans (k c x)

theorem of_fall (h : LivesFall s t) : RecordsGrow s t := fun c k => .of_fallen (h c k)

theorem of_kinds (h : ∀ c, (t.faultRec c).kinds = (s.faultRec c).kinds) : RecordsGrow s t := .of_fall (.of_kinds h)

theorem of_moves {c : Fin 8} (h : ChannelMoves c s t) : RecordsGrow s t := .of_fall (.of_moves h)

theorem kept (h : RecordsGrow s t) (running : Bool) : RecordsKept running s t := fun c x => by
  cases running
  · simp only [FaultRecord.soundWhen, Bool.false_eq_true, if_false] at x ⊢
    exact ⟨Bool.eq_false_iff.mpr fun l => absurd ((h c .failOn).live l) (by simp [x.1]),
      Bool.eq_false_iff.mpr fun l => absurd ((h c .stuckOn).live l) (by simp [x.2])⟩
  · simp only [FaultRecord.soundWhen, if_true] at x ⊢
    exact fun k => (h c k).sound (x k)

theorem each8 {f : Fin 8 → State → State} (h : ∀ n s, RecordsGrow s (f n s)) (s : State) : RecordsGrow s (each8 f s) :=
  each8_relates .refl .trans h s

end RecordsGrow

namespace RecordsKept

variable {running : Bool} {s t u : State}

theorem refl (s : State) : RecordsKept running s s := fun _ => id

theorem trans (h : RecordsKept running s t) (k : RecordsKept running t u) : RecordsKept running s u :=
  fun c x => k c (h c x)

end RecordsKept

/-! ## Occurrences -/

/-- R146 at the records: the kind is counted on its channel, and no kind becomes live. -/
theorem occurrence_faultRec (k : FaultKind) (c : Fin 8) (s : State) :
    ∃ t, (∀ d, t.faultRec d = if d = c then (s.faultRec c).occur k s.marks.number else s.faultRec d) ∧
      LivesFall t (occurrence k c s) := by
  refine ⟨trackErr (setRecord c ((s.faultRec c).occur k s.marks.number)) s, fun d => ?_, ?_⟩
  · unfold trackErr
    dsimp only
    split <;> simp [State.faultRec, setRecord, Eight.get_set]
  · unfold occurrence
    dsimp only
    split
    · exact .of_moves (.forceCause .fault .refl)
    · exact .refl _

theorem FaultRecord.occur_kind (r : FaultRecord) (k j : FaultKind) (m : Half) :
    (r.kinds.get j).Grows ((r.occur k m).kinds.get j) ∧ ((r.occur k m).kinds.get k).counted := by
  have own : ((r.occur k m).kinds.get k).counted := by
    simp only [FaultRecord.occur, PerKind.get_set_same, KindRecord.counted]
    exact ⟨trivial, by omega⟩
  refine ⟨?_, own⟩
  by_cases e : j = k
  · subst e
    exact ⟨by simp [FaultRecord.occur], fun _ => own⟩
  · simp only [FaultRecord.occur, PerKind.get_set, if_neg e]
    exact .refl _

theorem occurrence_grows (k : FaultKind) (c : Fin 8) (s : State) : RecordsGrow s (occurrence k c s) := by
  obtain ⟨t, record, falls⟩ := occurrence_faultRec k c s
  refine .trans (fun d j => ?_) (.of_fall falls)
  rw [record]
  split
  next e => rw [e]; exact (FaultRecord.occur_kind _ k j _).1
  next => exact .refl _

theorem occurrence_counted (k : FaultKind) (c : Fin 8) (s : State) :
    (((occurrence k c s).faultRec c).kinds.get k).counted := by
  obtain ⟨t, record, falls⟩ := occurrence_faultRec k c s
  refine (KindRecord.Grows.of_fallen (falls c k)).counted ?_
  rw [record, if_pos rfl]
  exact (FaultRecord.occur_kind _ k k _).2

/-- An occurrence with the live value that it tells (R145, R146, R18). -/
theorem raised_kept (k : FaultKind) (b : Bool) (c : Fin 8) (s : State) :
    RecordsKept true s (occurrence k c (setLive c k b s)) := by
  intro d sound
  simp only [FaultRecord.soundWhen, if_true] at sound ⊢
  intro j
  have grows := occurrence_grows k c (setLive c k b s) d j
  by_cases own : d = c ∧ j = k
  · obtain ⟨rfl, rfl⟩ := own
    exact (KindRecord.sound_iff _).mpr fun _ => occurrence_counted j d _
  · refine grows.sound ?_
    have stands : ((setLive c k b s).faultRec d).kinds.get j = (s.faultRec d).kinds.get j := by
      rw [setLive_faultRec]
      split
      next e => subst e; simp [PerKind.get_set, show j ≠ k from fun x => own ⟨rfl, x⟩]
      next => rfl
    rw [stands]
    exact sound j

theorem takeLive_kept (k : PowerKind) (b : Bool) (c : Fin 8) (s : State) :
    RecordsKept s.running s (takeLive k b c s) := by
  unfold takeLive
  dsimp only
  split
  next rises =>
    simp only [Bool.and_eq_true] at rises
    rw [rises.2]
    exact raised_kept k.kind b c s
  next stays =>
    cases b with
    | false => exact (RecordsGrow.of_fall (.setLive_false c k.kind s)).kept _
    | true =>
      intro d sound
      rw [setLive_faultRec]
      split
      next e =>
        subst e
        cases running : s.running with
        | false =>
          rw [running] at sound
          simp only [FaultRecord.soundWhen, Bool.false_eq_true, if_false] at sound ⊢
          cases k <;> simpa [PerKind.get_set, PowerKind.kind] using sound
        | true =>
          rw [running] at sound
          have live : ((s.faultRec d).kinds.get k.kind).live = true := by simpa [running] using stays
          simp only [FaultRecord.soundWhen, if_true] at sound ⊢
          intro j
          rw [PerKind.get_set]
          split
          next e =>
            have counted := (KindRecord.sound_iff _).mp (sound k.kind) live
            exact (KindRecord.sound_iff _).mpr fun _ => counted
          next => exact sound j
      next => exact sound

/-- R147: sticky falls only where the kind is not live. -/
theorem acknowledgeKinds_kept (m : Byte) (kinds : KindSet) (s : State) (running : Bool) :
    RecordsKept running s (acknowledgeKinds m kinds s) := by
  have one (c : Fin 8) (s : State) : RecordsKept running s
      (if maskBit m c then setRecord c ((s.faultRec c).acknowledge kinds) s else s) := by
    split
    · intro d sound
      have record : (setRecord c ((s.faultRec c).acknowledge kinds) s).faultRec d =
          if d = c then (s.faultRec c).acknowledge kinds else s.faultRec d := by
        simp [State.faultRec, setRecord, Eight.get_set]
      rw [record]
      split
      next e =>
        subst e
        cases running <;>
          simp only [FaultRecord.soundWhen, FaultRecord.acknowledge, PerKind.get_of, KindRecord.sound_iff,
            KindRecord.counted, if_true, Bool.false_eq_true, if_false] at sound ⊢
        · constructor <;> split <;> simp [sound]
        · intro k
          split
          · intro live
            simp only at live
            simp [live, sound k live]
          · exact sound k
      next => exact sound
    · exact .refl _
  have all := each8_relates (R := RecordsKept running) .refl .trans one s
  unfold acknowledgeKinds trackErr
  dsimp only
  split
  · exact all
  · exact all.trans fun c => by simp [State.faultRec]

/-! ## RUNNING entry -/

theorem startOccurrence_grows (live : Bool) (k : FaultKind) (c : Fin 8) (s : State) :
    RecordsGrow s (if live then occurrence k c s else s) := by
  split
  · exact occurrence_grows k c s
  · exact .refl s

/-- A kind whose occurrence falls due by its live value is sound after it, and later. -/
theorem startOccurrence_sound {c : Fin 8} {k : FaultKind} {u a v : State} (before : RecordsGrow u a)
    (after : RecordsGrow (if (u.faultRec c).live.get k then occurrence k c a else a) v) :
    ((v.faultRec c).kinds.get k).sound = true := by
  rw [KindRecord.sound_iff]
  intro live
  split at after
  · exact (after c k).counted (occurrence_counted k c a)
  next quiet =>
    have start := (before.trans after c k).live live
    simp [FaultRecord.live, start] at quiet

/-- A power kind that is live at RUNNING entry is counted (R144). -/
theorem startOccurrences_counts {s : State}
    (own : ∀ c, ((s.faultRec c).kinds.get .failOn).sound = true ∧ ((s.faultRec c).kinds.get .stuckOn).sound = true) :
    ∀ c, ((startOccurrences s).faultRec c).soundWhen true := by
  intro c
  have step (live : KindSet) (k : FaultKind) (s : State) := startOccurrence_grows (live.get k) k c s
  obtain ⟨u, before, after⟩ := each8_around (R := RecordsGrow) .refl .trans c (fun d _ s =>
    .trans (.trans (.trans (.trans (startOccurrence_grows _ _ d s) (startOccurrence_grows _ _ d _))
      (startOccurrence_grows _ _ d _)) (startOccurrence_grows _ _ d _)) (startOccurrence_grows _ _ d _)) s
    (f := fun c s =>
      let live := (s.faultRec c).live
      let go (k : PowerKind) (s : State) : State := if live.get k.kind then occurrence k.kind c s else s
      go .overtemp (go .overload (go .openOn (go .shortSupply (go .openOff s)))))
  have first := step (u.faultRec c).live .openOff u
  have second := step (u.faultRec c).live .shortSupply
  have third := step (u.faultRec c).live .openOn
  have fourth := step (u.faultRec c).live .overload
  have fifth := step (u.faultRec c).live .overtemp
  have own' (k : FaultKind) (sound : ((s.faultRec c).kinds.get k).sound = true) :
      (((startOccurrences s).faultRec c).kinds.get k).sound = true := by
    have through := first.trans ((second _).trans ((third _).trans ((fourth _).trans (fifth _))))
    exact (((before.trans through).trans after) c k).sound sound
  simp only [FaultRecord.soundWhen, if_true]
  intro k
  cases k with
  | openOff =>
    exact startOccurrence_sound (.refl u) ((second _).trans ((third _).trans ((fourth _).trans ((fifth _).trans after))))
  | shortSupply =>
    exact startOccurrence_sound first ((third _).trans ((fourth _).trans ((fifth _).trans after)))
  | openOn => exact startOccurrence_sound (first.trans (second _)) ((fourth _).trans ((fifth _).trans after))
  | overload => exact startOccurrence_sound ((first.trans (second _)).trans (third _)) ((fifth _).trans after)
  | overtemp => exact startOccurrence_sound (((first.trans (second _)).trans (third _)).trans (fourth _)) after
  | failOn => exact own' .failOn (own c).1
  | stuckOn => exact own' .stuckOn (own c).2

end Sys2Proof.Machine
end

section
/-! PROOFS. The entries of the Group Table under the operations of the node: a claim stands only ON-LINE, and no channel
waits twice (R28, R47). -/

namespace Sys2Proof.Machine

open Sys2Proof

/-- The promises of one entry, in a node that is ON-LINE or not. -/
structure EntrySound (onLine : Bool) (x : Entry) : Prop where
  claims : onLine = true ∨ (x.state ≠ .claiming ∧ x.state ≠ .claimed)
  requests : x.requests.Nodup

def EntriesSound (onLine : Bool) (l : List Entry) : Prop := ∀ x ∈ l, EntrySound onLine x

theorem State.entriesSound_iff (s : State) :
    s.entriesSound = true ↔ s.groups.length ≤ 8 ∧ EntriesSound s.onLine s.groups := by
  simp only [State.entriesSound, Bool.and_eq_true, decide_eq_true_eq, List.all_eq_true, Bool.or_eq_true, bne_iff_ne]
  exact and_congr_right fun _ => forall₂_congr fun x _ => ⟨fun h => ⟨h.1, h.2⟩, fun h => ⟨h.1, h.2⟩⟩

/-- From list a to list b the entries are as many, and keep their promises. -/
structure EntriesKept (onLine : Bool) (a b : List Entry) : Prop where
  length : b.length = a.length
  sound : EntriesSound onLine a → EntriesSound onLine b

namespace EntrySound

variable {onLine : Bool} {x y : Entry}

/-- An entry that is in no claim, with the same list. -/
theorem settled (h : EntrySound onLine x) (state : y.state ≠ .claiming ∧ y.state ≠ .claimed)
    (requests : y.requests = x.requests) : EntrySound onLine y := ⟨.inr state, requests ▸ h.requests⟩

/-- The same state and the same list. -/
theorem same (h : EntrySound onLine x) (state : y.state = x.state) (requests : y.requests = x.requests) :
    EntrySound onLine y := ⟨by rw [state]; exact h.claims, requests ▸ h.requests⟩

end EntrySound

namespace EntriesKept

variable {onLine : Bool} {a b c : List Entry}

theorem refl (a : List Entry) : EntriesKept onLine a a := ⟨rfl, id⟩

theorem trans (h : EntriesKept onLine a b) (k : EntriesKept onLine b c) : EntriesKept onLine a c :=
  ⟨k.length.trans h.length, fun x => k.sound (h.sound x)⟩

/-- A change of the entry at one index. -/
theorem modify {i : Nat} {f : Entry → Entry} (h : ∀ x, a[i]? = some x → EntrySound onLine x → EntrySound onLine (f x)) :
    EntriesKept onLine a (modifyAt a i f) where
  length := by simp
  sound s y hy := by
    obtain ⟨j, hj⟩ := List.mem_iff_getElem?.mp hy
    rw [modifyAt_getElem?] at hj
    split at hj
    next e =>
      subst e
      obtain ⟨x, hx, rfl⟩ := Option.map_eq_some_iff.mp hj
      exact h x hx (s x (List.mem_of_getElem? hx))
    next => exact s y (List.mem_of_getElem? hj)

end EntriesKept

/-! ## The operations of an entry -/

/-- The operation leaves the bus state, and its entries keep their promises. -/
structure GroupsKept (s t : State) : Prop where
  state : t.bus.state = s.bus.state
  entries : EntriesKept s.onLine s.groups t.groups

namespace GroupsKept

variable {s t u : State} {e : Fin 8}

theorem refl (s : State) : GroupsKept s s := ⟨rfl, .refl _⟩

theorem onLine (h : GroupsKept s t) : t.onLine = s.onLine := by simp only [State.onLine, h.state]

theorem trans (h : GroupsKept s t) (k : GroupsKept t u) : GroupsKept s u :=
  ⟨k.state.trans h.state, h.entries.trans (h.onLine ▸ k.entries)⟩

/-- An operation beside the Group Table. -/
theorem of_same (state : t.bus.state = s.bus.state) (groups : t.groups = s.groups) : GroupsKept s t :=
  ⟨state, groups ▸ .refl _⟩

/-- An operation that moves one entry out of every claim. -/
theorem of_settled {f : Entry → Entry} (state : t.bus.state = s.bus.state) (groups : t.groups = modifyAt s.groups e.val f)
    (settled : ∀ x, (f x).state ≠ .claiming ∧ (f x).state ≠ .claimed ∧ (f x).requests = x.requests) : GroupsKept s t :=
  ⟨state, groups ▸ .modify fun x _ h => h.settled ⟨(settled x).1, (settled x).2.1⟩ (settled x).2.2⟩

/-- An operation that writes the entry that it read. -/
theorem of_written {x y : Entry} (state : t.bus.state = s.bus.state) (groups : t.groups = modifyAt s.groups e.val fun _ => y)
    (read : s.entry e = some x) (sound : EntrySound s.onLine x → EntrySound s.onLine y) : GroupsKept s t :=
  ⟨state, groups ▸ .modify fun z hz h => by
    cases (read.symm.trans hz)
    exact sound h⟩

theorem ite {p : Prop} [Decidable p] {a : State} (h : p → GroupsKept s t) (k : ¬p → GroupsKept s a) :
    GroupsKept s (if p then t else a) := by
  split
  · exact h ‹_›
  · exact k ‹_›

theorem each8 {f : Fin 8 → State → State} (h : ∀ n s, GroupsKept s (f n s)) (s : State) : GroupsKept s (each8 f s) :=
  each8_relates .refl .trans h s

theorem onGroup {f : Fin 8 → State → State} (h : ∀ e s, GroupsKept s (f e s)) (g : Fin 128) (s : State) :
    GroupsKept s (onGroup g f s) := .each8 (fun e _ => .ite (fun _ => h e _) fun _ => .refl _) s

theorem enterUnknown (e : Fin 8) (s : State) : GroupsKept s (enterUnknown e s) :=
  .of_settled rfl rfl fun _ => ⟨nofun, nofun, rfl⟩

theorem enterUnknownLapsed (e : Fin 8) (s : State) : GroupsKept s (enterUnknownLapsed e s) :=
  .of_settled rfl rfl fun _ => ⟨nofun, nofun, rfl⟩

theorem enterFree (e : Fin 8) (s : State) : GroupsKept s (enterFree e s) :=
  .of_settled rfl rfl fun _ => ⟨nofun, nofun, rfl⟩

theorem enterFreeHoldOff (e : Fin 8) (s : State) : GroupsKept s (enterFreeHoldOff e s) :=
  .of_settled rfl rfl fun _ => ⟨nofun, nofun, rfl⟩

theorem enterDead (e : Fin 8) (s : State) : GroupsKept s (enterDead e s) :=
  .of_settled rfl rfl fun x => by split <;> exact ⟨nofun, nofun, rfl⟩

theorem enterHeldRemote (e : Fin 8) (h : Holder) (s : State) : GroupsKept s (enterHeldRemote e h s) :=
  .of_settled rfl rfl fun _ => ⟨nofun, nofun, rfl⟩

theorem queueRelease {x : Entry} (read : s.entry e = some x) : GroupsKept s (queueRelease e x s) := by
  have start : GroupsKept s (setEntry e { x with
      state := .releasingLocal, releaseQueued := true, hold := none, lapse := none, window := none } s) :=
    .of_written rfl rfl read fun h => h.settled ⟨nofun, nofun⟩ rfl
  have offered (f : Frame) (t : State) : GroupsKept t (offer f t).1 := .of_same (by simp) (by simp)
  exact start.trans (.ite (fun _ => offered _ _) fun _ => (offered _ _).trans (.enterDead e _))

theorem settleDone {x : Entry} (read : s.entry e = some x) : GroupsKept s (settleDone e x s) := by
  unfold Machine.settleDone
  refine .ite (fun _ => .enterUnknown e s) fun _ => .ite (fun _ => ?_) fun _ =>
    .ite (fun _ => .enterUnknownLapsed e s) fun _ => .queueRelease read
  split
  · exact .enterHeldRemote e _ s
  · exact .enterUnknown e s

theorem doneAt (e c : Fin 8) (s : State) : GroupsKept s (doneAt e c s) := by
  unfold Machine.doneAt
  split
  · exact .refl s
  next x read =>
    dsimp only
    split
    · exact .ite (fun _ => .settleDone read) fun _ => .refl s
    · exact .ite (fun _ => .settleDone read) fun _ => .refl s
    · exact .refl s

theorem requestAt (e c : Fin 8) (s : State) : GroupsKept s (requestAt e c s) := by
  refine ⟨rfl, .modify fun x _ h => ?_⟩
  split
  · exact h
  next new =>
    refine ⟨h.claims, List.nodup_append.mpr ⟨h.requests, List.nodup_singleton c, ?_⟩⟩
    rintro d hd _ hc rfl
    cases List.mem_singleton.mp hc
    exact new (by simpa using hd)

theorem cancelAt (e c : Fin 8) (s : State) : GroupsKept s (cancelAt e c s) := by
  unfold Machine.cancelAt
  split
  · exact .refl s
  next x read =>
    have left : GroupsKept s (setEntry e { x with requests := x.requests.filter fun d => d != c } s) :=
      .of_written rfl rfl read fun h => ⟨h.claims, h.requests.filter _⟩
    have withdrawn (t : State) : GroupsKept t (withdrawClaim e t) := .of_same (by simp) (by simp)
    exact .ite (fun _ => (left.trans (withdrawn _)).trans (.enterFree e _)) fun _ => left

theorem yieldTo {x : Entry} (h : Holder) (read : s.entry e = some x) : GroupsKept s (yieldTo e x h s) := by
  refine .of_written (by simp) ?_ read fun sound => sound.settled (y := { x with
    state := .releasingLocal, yielded := true, conflict := some h, hold := none, lapse := none }) ⟨nofun, nofun⟩ rfl
  unfold Machine.yieldTo
  dsimp only
  split <;> simp

theorem offered (e c : Fin 8) (b : Bool) (s : State) : GroupsKept s (offerHold e c b s) := .of_same (by simp) (by simp)

theorem withdrawn (e : Fin 8) (s : State) : GroupsKept s (withdrawClaim e s) := .of_same (by simp) (by simp)

theorem conflicted {x : Entry} {h : Option Holder} (read : s.entry e = some x) :
    GroupsKept s (setEntry e { x with conflict := h } s) := .of_written rfl rfl read fun h => h.same rfl rfl

theorem foreignClaim (e : Fin 8) (h : Holder) (s : State) : GroupsKept s (foreignClaim e h s) := by
  unfold Machine.foreignClaim
  split
  · exact .refl s
  next x read =>
    split
    iterate 4 exact .enterHeldRemote e h s
    · exact (GroupsKept.withdrawn e s).trans (.enterHeldRemote e h _)
    iterate 2 exact .offered e _ true s
    · exact .ite (fun _ => .refl s) fun _ => .ite (fun _ => .conflicted read) fun _ => .offered e _ true s

theorem ownClaim (e : Fin 8) (s : State) : GroupsKept s (ownClaim e s) := by
  unfold Machine.ownClaim
  split
  · exact .refl s
  next x read =>
    refine .ite (fun claiming => .of_written rfl rfl read fun h => ⟨?_, h.requests⟩) fun _ => .refl s
    exact .inl (h.claims.resolve_right fun k => k.1 (by simpa using claiming))

theorem foreignHold (e : Fin 8) (h : Holder) (o : Bool) (s : State) : GroupsKept s (foreignHold e h o s) := by
  unfold Machine.foreignHold
  split
  · exact .refl s
  next x read =>
    split
    iterate 4 exact .enterHeldRemote e h s
    · exact (GroupsKept.withdrawn e s).trans (.enterHeldRemote e h _)
    · have rest (t : State) : GroupsKept t (Machine.enterHeldRemote e h (withdrawHold e t)) :=
        .trans (.of_same (by simp) (by simp)) (.enterHeldRemote e h _)
      dsimp only
      split
      · exact rest s
      · exact .trans (.of_same (by simp) (by simp)) (rest _)
    · exact .yieldTo h read
    · have queued : GroupsKept s (raiseFlag .groupConflict (withdrawRelease e s)) := .of_same (by simp) (by simp)
      exact .ite (fun _ => .refl s) fun _ => .ite (fun _ => queued.trans (.enterHeldRemote e h _)) fun _ =>
        .ite (fun _ => .conflicted read) fun _ => .yieldTo h read

theorem ownHold (e : Fin 8) (s : State) : GroupsKept s (ownHold e s) := by
  unfold Machine.ownHold
  split
  · exact .refl s
  next x read =>
    have restart : GroupsKept s (setEntry e { x with lapse := some (s.now + 2 * s.holdInterval) } s) :=
      .of_written rfl rfl read fun h => h.same rfl rfl
    dsimp only
    split
    iterate 2 exact restart
    · exact .ite (fun _ => restart) fun _ => .refl s
    · exact .refl s

theorem foreignRelease (e : Fin 8) (n : Station) (s : State) : GroupsKept s (foreignRelease e n s) := by
  unfold Machine.foreignRelease
  split
  · exact .refl s
  next x read =>
    split
    iterate 2 exact .enterDead e s
    · exact (GroupsKept.withdrawn e s).trans (.enterDead e _)
    · exact .settleDone read
    · exact .ite (fun _ => .enterDead e s) fun _ => .refl s
    all_goals exact .refl s

theorem ownRelease (e : Fin 8) (s : State) : GroupsKept s (ownRelease e s) := by
  unfold Machine.ownRelease
  split
  · exact .refl s
  · split
    · exact .enterDead e s
    · exact .ite (fun _ => .enterDead e s) fun _ => .refl s
    · exact .refl s

theorem claimAbandoned (e : Fin 8) (s : State) : GroupsKept s (claimAbandoned e s) := by
  unfold Machine.claimAbandoned
  split
  · exact .ite (fun _ => .enterFreeHoldOff e s) fun _ => .refl s
  · exact .refl s

theorem releaseAbandoned (e : Fin 8) (s : State) : GroupsKept s (releaseAbandoned e s) := by
  unfold Machine.releaseAbandoned
  split
  · exact .ite (fun _ => .enterDead e s) fun _ => .refl s
  · exact .refl s

theorem holdExpiry (e : Fin 8) (s : State) : GroupsKept s (holdExpiry e s) := by
  unfold Machine.holdExpiry
  split
  · exact .refl s
  next x read =>
    have restart : GroupsKept s (setEntry e { x with hold := some (s.now + s.holdInterval) } s) :=
      .of_written rfl rfl read fun h => h.same rfl rfl
    have again := restart.trans (.offered e x.frameChannel false _)
    refine .ite (fun _ => .refl s) fun _ => ?_
    split
    · exact again
    · exact .ite (fun _ => again) fun _ => .refl s
    · exact .refl s

theorem retryExpiry (e : Fin 8) (s : State) : GroupsKept s (retryExpiry e s) := by
  unfold Machine.retryExpiry
  split
  · exact .refl s
  next x read => exact .ite (fun _ => .of_written rfl rfl read fun h => h.same rfl rfl) fun _ => .refl s

theorem lifetimeExpiry (e : Fin 8) (s : State) : GroupsKept s (lifetimeExpiry e s) := by
  unfold Machine.lifetimeExpiry
  split
  · exact .refl s
  · exact .ite (fun _ => .enterDead e s) fun _ => .refl s

theorem windowExpiry (e : Fin 8) (s : State) : GroupsKept s (windowExpiry e s) := by
  unfold Machine.windowExpiry
  split
  · exact .refl s
  next x read =>
    refine .ite (fun _ => ?_) fun _ => .refl s
    split
    next c rest requests =>
      have granted (y : Entry) (state : y.state = .heldLocal) (left : y.requests = rest) :
          GroupsKept s (sendToChannel c .grant (setEntry e y s)) :=
        .of_written rfl rfl read fun h => by
          refine ⟨.inr (by simp [state]), ?_⟩
          have nodup := h.requests
          rw [requests] at nodup
          exact left ▸ (List.nodup_cons.mp nodup).2
      exact (granted _ rfl rfl).trans (.offered e c false _)
    next => exact .settleDone read

theorem deadExpiry (e : Fin 8) (s : State) : GroupsKept s (deadExpiry e s) := by
  unfold Machine.deadExpiry
  split
  · exact .refl s
  · exact .ite (fun _ => .enterFree e s) fun _ => .refl s

theorem revoked (x : Entry) (s : State) : GroupsKept s (sendRevoke x s) := .of_same (by simp) (by simp)

theorem lapseExpiry (e : Fin 8) (s : State) : GroupsKept s (lapseExpiry e s) := by
  unfold Machine.lapseExpiry
  split
  · exact .refl s
  next x read =>
    refine .ite (fun _ => .refl s) fun _ => ?_
    split
    · have lapsed : GroupsKept s (setEntry e { x with state := .releasingLocal, lapsed := true, lapse := none } s) :=
        .of_written rfl rfl read fun h => h.settled ⟨nofun, nofun⟩ rfl
      exact lapsed.trans (.revoked x _)
    · exact .ite (fun _ => .refl s) fun _ => .of_written rfl rfl read fun h => h.same rfl rfl
    · exact .refl s

theorem groupOnLine (e : Fin 8) (s : State) : GroupsKept s (groupOnLine e s) := by
  unfold Machine.groupOnLine
  split
  · exact .refl s
  next x read =>
    split
    · exact .enterFree e s
    · have restart (h l : Timer) : GroupsKept s (setEntry e { x with hold := h, lapse := l } s) :=
        .of_written rfl rfl read fun h => h.same rfl rfl
      exact .ite (fun _ => (restart _ _).trans (.offered e _ false _)) fun _ => .refl s
    · exact .refl s

theorem claimIfDue (e : Fin 8) (s : State) : GroupsKept s (claimIfDue e s) := by
  unfold Machine.claimIfDue
  split
  · split
    next c _ _ =>
      refine .ite (fun due => ?_) fun _ => .refl s
      have onLine : s.onLine = true := by simp_all
      have claiming : GroupsKept s (modEntry e (fun x => { x.moved .claiming with claimChannel := some c }) s) :=
        ⟨rfl, .modify fun x _ h => ⟨.inl onLine, h.requests⟩⟩
      have offered (f : Frame) (t : State) : GroupsKept t (offer f t).1 := .of_same (by simp) (by simp)
      exact claiming.trans (.ite (fun _ => offered _ _) fun _ => (offered _ _).trans (.enterFreeHoldOff e _))
    · exact .refl s
  · exact .refl s

theorem buildDue (s : State) : GroupsKept s (buildDue s) := by
  have claims : GroupsKept s (Machine.each8 Machine.claimIfDue s) := .each8 .claimIfDue s
  have frames (t : State) : GroupsKept t (buildPoints (buildFaults t)) := .of_same (by simp) (by simp)
  exact claims.trans (frames _)

end GroupsKept

/-! ## Leaving traffic (R47) -/

/-- Each entry leaves every claim. -/
theorem groupLeaves_entry (e : Fin 8) (s : State) : ∃ f : Entry → Entry,
    (groupLeaves e s).groups = modifyAt s.groups e.val f ∧
    ∀ x, s.entry e = some x → (f x).state ≠ .claiming ∧ (f x).state ≠ .claimed ∧ (f x).requests = x.requests := by
  unfold groupLeaves
  split
  next none =>
    refine ⟨id, ?_, fun x read => by rw [none] at read; cases read⟩
    refine List.ext_getElem? fun i => ?_
    rw [modifyAt_getElem?]
    split <;> simp
  next x read =>
    have own {f : Entry → Entry} (h : (f x).state ≠ .claiming ∧ (f x).state ≠ .claimed ∧ (f x).requests = x.requests) :
        ∀ y, s.entry e = some y → (f y).state ≠ .claiming ∧ (f y).state ≠ .claimed ∧ (f y).requests = y.requests :=
      fun y ready => by cases read.symm.trans ready; exact h
    split
    · refine ⟨fun _ => { x with state := .releasingLocal, lapsed := true, hold := none, lapse := none }, by simp,
        own ⟨nofun, nofun, rfl⟩⟩
    next state =>
      split
      · exact ⟨_, rfl, own ⟨nofun, nofun, rfl⟩⟩
      · exact ⟨fun _ => _, rfl, own ⟨by simp [state], by simp [state], rfl⟩⟩
    all_goals exact ⟨_, rfl, own ⟨nofun, nofun, rfl⟩⟩

end Sys2Proof.Machine
end

section
/-! PROOFS. Operations that leave the node's state, its flags, its fault list and its staging area alone, and keep the
records and the entries sound. -/

namespace Sys2Proof.Machine

open Sys2Proof

/-- What the promises of O58 read, beside the fault records, the bus state and the entries. -/
def State.still (s : State) : Loader × Bool × List ListEntry × Bool × Bool × Bool × Option (List Byte) :=
  (s.loader, s.held, s.faults.list, s.flagLive .busDegraded, s.flagLive .linkDown, s.link.up, s.host.transaction)

/-- The operation leaves what is still, and keeps the records and the entries sound. -/
structure Steady (s t : State) : Prop extends GroupsKept s t where
  still : t.still = s.still
  records : RecordsKept s.running s t

namespace Steady

variable {s t u : State}

theorem loader (h : Steady s t) : t.loader = s.loader := congrArg Prod.fst h.still

theorem running (h : Steady s t) : t.running = s.running := by simp only [State.running, h.loader]

theorem refl (s : State) : Steady s s := ⟨.refl s, rfl, .refl s⟩

theorem trans (h : Steady s t) (k : Steady t u) : Steady s u :=
  ⟨h.toGroupsKept.trans k.toGroupsKept, k.still.trans h.still, h.records.trans (h.running ▸ k.records)⟩

/-- An operation of the Group Table. -/
theorem of_groups (groups : GroupsKept s t) (still : t.still = s.still)
    (kinds : ∀ c, (t.faultRec c).kinds = (s.faultRec c).kinds) : Steady s t :=
  ⟨groups, still, (RecordsGrow.of_kinds kinds).kept _⟩

/-- An operation of Channel Logic or of the fault records. -/
theorem of_records (state : t.bus.state = s.bus.state) (groups : t.groups = s.groups) (still : t.still = s.still)
    (records : RecordsKept s.running s t) : Steady s t := ⟨.of_same state groups, still, records⟩

/-- An operation beside all of it. -/
theorem of_same (state : t.bus.state = s.bus.state) (groups : t.groups = s.groups) (still : t.still = s.still)
    (kinds : ∀ c, (t.faultRec c).kinds = (s.faultRec c).kinds) : Steady s t :=
  .of_groups (.of_same state groups) still kinds

theorem ite {p : Prop} [Decidable p] {a : State} (h : p → Steady s t) (k : ¬p → Steady s a) :
    Steady s (if p then t else a) := by
  split
  · exact h ‹_›
  · exact k ‹_›

theorem each8 {f : Fin 8 → State → State} (h : ∀ n s, Steady s (f n s)) (s : State) : Steady s (each8 f s) :=
  each8_relates .refl .trans h s

theorem onGroup {f : Fin 8 → State → State} (h : ∀ e s, Steady s (f e s)) (g : Fin 128) (s : State) :
    Steady s (onGroup g f s) := .each8 (fun e _ => .ite (fun _ => h e _) fun _ => .refl _) s

theorem onZones {f : Fin 8 → State → State} (h : ∀ z s, Steady s (f z s)) (m : Byte) (s : State) :
    Steady s (onZones m f s) := .each8 (fun z _ => .ite (fun _ => h z _) fun _ => .refl _) s

/-! ## Channel Logic and Fault Records -/

theorem of_moves {c : Fin 8} (h : ChannelMoves c s t) : Steady s t := by
  have alone : t.bus.state = s.bus.state ∧ t.groups = s.groups ∧ t.still = s.still :=
    h.keeps (P := fun u => u.bus.state = s.bus.state ∧ u.groups = s.groups ∧ u.still = s.still)
      (fun f u h => h) (fun m u h => by simpa [State.still, State.flagLive] using h) (fun x u h => by simpa [State.still, State.flagLive] using h)
      (fun u h => h) (fun u h => by simpa [State.still, State.flagLive] using h) ⟨rfl, rfl, rfl⟩
  obtain ⟨state, groups, still⟩ := alone
  exact .of_records state groups still ((RecordsGrow.of_moves h).kept _)

theorem evaluate (c : Fin 8) (s : State) : Steady s (evaluate c s) := .of_moves (.evaluate .refl)

theorem evaluateUsers (p : TermSource → Bool) (s : State) : Steady s (evaluateUsers p s) :=
  .each8 (fun c _ => .ite (fun _ => .evaluate c _) fun _ => .refl _) s

theorem forceCause (k : Cause) (c : Fin 8) (s : State) : Steady s (forceCause k c s) := .of_moves (.forceCause k .refl)

theorem withdrawCause (k : Cause) (c : Fin 8) (s : State) : Steady s (withdrawCause k c s) :=
  .of_moves (.withdrawCause k .refl)

theorem occurrence (k : FaultKind) (c : Fin 8) (s : State) : Steady s (occurrence k c s) :=
  .of_records (by simp) (by simp) (by simp [State.still, State.flagLive]) ((occurrence_grows k c s).kept _)

theorem takeLive (k : PowerKind) (b : Bool) (c : Fin 8) (s : State) : Steady s (takeLive k b c s) :=
  .of_records (by simp) (by simp) (by simp [State.still, State.flagLive]) (takeLive_kept k b c s)

theorem takeDiagnostic (k : PowerKind) (bits : Byte) (s : State) : Steady s (takeDiagnostic k bits s) :=
  .each8 (fun c s => .takeLive k _ c s) s

theorem raiseFailOn (c : Fin 8) (s : State) : Steady s (raiseFailOn c s) :=
  .trans (.of_moves ((ChannelMoves.refl.addCause .fault).enterReleasing .locked)) (.occurrence .failOn c _)

theorem confirmExpiryEnergizing (c : Fin 8) (s : State) : Steady s (confirmExpiryEnergizing c s) :=
  .ite (fun _ => .raiseFailOn c s) fun _ => .refl s

theorem confirmExpiryReleasing {c : Fin 8} (running : s.running = true) : Steady s (confirmExpiryReleasing c s) := by
  have locked : Steady s (enterState .locked c (oweHandBack c (addCause .fault c s))) :=
    .of_moves ((ChannelMoves.refl.addCause .fault).oweHandBack.enter .locked)
  have raised (u : State) (running : u.running = true) :
      Steady u (Machine.occurrence .stuckOn c (setLive c .stuckOn true u)) :=
    .of_records (by simp) (by simp) (by simp [State.still, State.flagLive]) (running ▸ raised_kept .stuckOn true c u)
  exact .ite (fun _ => locked.trans (raised _ (locked.running.trans running))) fun _ => .refl s

theorem offCheckExpiry (c : Fin 8) (s : State) : Steady s (offCheckExpiry c s) := by
  have stopped : Steady s (modChan c (fun r => { r with offCheck := none }) s) := .of_moves (ChannelMoves.refl.mod _)
  exact .ite (fun _ => .ite (fun _ => stopped) fun _ => stopped.trans (.raiseFailOn c _)) fun _ => .refl s

theorem acknowledge (m : Byte) (k : KindSet) (f : Bool) (s : State) : Steady s (acknowledge m k f s) := by
  have kinds : Steady s (acknowledgeKinds m k s) := by
    refine .of_records (by simp) (by simp) ?_ (acknowledgeKinds_kept m k s _)
    have all := each8_keeps State.still
      (fun c s => if maskBit m c then setRecord c ((s.faultRec c).acknowledge k) s else s)
      (fun c s => by split <;> rfl) s
    unfold acknowledgeKinds trackErr
    dsimp only
    split
    · exact all
    · simpa [State.still, State.flagLive] using all
  have causes (t : State) : Steady t (acknowledgeCauses m t) :=
    .each8 (fun c _ => .ite (fun _ => .withdrawCause .fault c _) fun _ => .refl _) t
  have flags (t : State) : Steady t (acknowledgeFlags t) := by
    refine .of_same (by simp) (by simp) ?_ fun c => ?_
    all_goals
      unfold acknowledgeFlags trackErr
      dsimp only
      split <;> simp [State.still, State.flagLive, State.faultRec]
  exact .ite (fun _ => (kinds.trans (causes _)).trans (flags _)) fun _ => kinds.trans (causes _)

/-! ## Zones, inputs, points, marks -/

theorem forceTrip (z : Fin 8) (s : State) : Steady s (forceTrip z s) :=
  .each8 (fun c _ => .ite (fun _ => .forceCause .trip c _) fun _ => .refl _) s

theorem setZone (z : Fin 8) (x : Zone) (s : State) : Steady s (setZone z x s) := .of_same rfl rfl rfl fun _ => rfl

theorem zoneChange (s : State) : Steady s (setZoneChange s) := .of_same rfl rfl rfl fun _ => rfl

theorem tripZone (z : Fin 8) (n : Station) (k : TripCause) (s : State) : Steady s (tripZone z n k s) := by
  have tripped := Steady.setZone z { s.zone z with tripped := true, station := some n, cause := some k } s
  exact .ite (fun _ => tripped) fun _ => (tripped.trans (.zoneChange _)).trans (.forceTrip z _)

theorem queueTrip (m : Byte) (k : TripCause) (s : State) : Steady s (queueTrip m k s) :=
  .of_same (by simp) (by simp) (by simp [State.still, State.flagLive]) fun c => by simp [State.faultRec]

theorem removeFromClear (z : Fin 8) (s : State) : Steady s (removeFromClear z s) :=
  .of_same (by simp) (by simp) (by simp [State.still, State.flagLive]) fun c => by simp [State.faultRec]

theorem takenTripZone (n : Station) (k : TripCause) (z : Fin 8) (s : State) : Steady s (takenTripZone n k z s) :=
  .ite (fun _ => .refl s) fun _ => .tripZone z n k s

theorem takenClearZone (z : Fin 8) (s : State) : Steady s (takenClearZone z s) := by
  have left (t : State) : Steady t (removeFromTrip z t) :=
    .of_same (by simp) (by simp) (by simp [State.still, State.flagLive]) fun c => by simp [State.faultRec]
  have withdrawn (t : State) : Steady t (withdrawTrip z t) :=
    .each8 (fun c _ => .ite (fun _ => .withdrawCause .trip c _) fun _ => .refl _) t
  refine .ite (fun _ => (Steady.tripZone z _ _ s).trans (.queueTrip _ _ _)) fun _ => .ite (fun _ => ?_) fun _ => .refl s
  exact (((Steady.setZone z _ s).trans (.zoneChange _)).trans (withdrawn _)).trans (left _)

theorem hostTripZone (z : Fin 8) (s : State) : Steady s (hostTripZone z s) := by
  unfold Machine.hostTripZone
  dsimp only
  split <;> exact (Steady.tripZone z _ _ s).trans (.removeFromClear z _)

theorem inputToZones (n : Fin 8) (s : State) : Steady s (inputToZones n s) := by
  unfold Machine.inputToZones
  split
  · exact .ite (fun _ => (((Steady.setZone _ _ s).trans (.tripZone _ _ _ _)).trans (.queueTrip _ _ _)).trans
      (.removeFromClear _ _)) fun _ => .setZone _ _ s
  · exact .ite (fun _ => .of_same (by simp) (by simp) (by simp [State.still, State.flagLive]) fun c => by simp [State.faultRec])
      fun _ => .refl s
  all_goals exact .refl s

theorem debounceExpires (n : Fin 8) (s : State) : Steady s (debounceExpires n s) := by
  have level (x : SenseInput) : Steady s (setInput n x s) := .of_same rfl rfl rfl fun _ => rfl
  have pend (t : State) : Steady t (pendSource (.sense n) t) :=
    .of_same (by simp) (by simp) (by simp [State.still, State.flagLive]) fun c => by simp [State.faultRec]
  exact .ite (fun _ => (((level _).trans (.evaluateUsers _ _)).trans (.inputToZones n _)).trans (pend _)) fun _ => .refl s

theorem shutdownChange (b : Bool) (s : State) : Steady s (shutdownChange b s) := by
  have field : Steady s { s with zones := { s.zones with shutdown := b } } := .of_same rfl rfl rfl fun _ => rfl
  have told := field.trans (.zoneChange _)
  refine .ite (fun _ => .refl s) fun _ => .ite (fun _ => field) fun _ => .ite (fun _ => .ite (fun _ => ?_) fun _ => ?_)
    fun _ => told
  · exact told.trans (.each8 (Steady.forceCause .shutdown) _)
  · exact told.trans (.each8 (Steady.withdrawCause .shutdown) _)

theorem setHoldOvers (p : Nat → Bool) (tm : Timer) (c : Fin 8) (s : State) : Steady s (setHoldOvers p tm c s) :=
  .of_moves (.setHoldOvers p tm .refl)

theorem pointsAtImage (n : Station) (ps : List PointPair) (s : State) : Steady s (pointsAtImage n ps s) := by
  have points (l : List Subscription) : Steady s { s with points := l } := .of_same rfl rfl rfl fun _ => rfl
  have flag (b : Bool) (t : State) : Steady t (if b then raiseFlag .foreignPublisher t else t) :=
    .ite (fun _ => .of_same (by simp) (by simp) (by simp [State.still, State.flagLive]) fun c => by simp [State.faultRec]) fun _ => .refl t
  exact (((points _).trans (flag _ _)).trans (.each8 (Steady.setHoldOvers _ none) _)).trans (.evaluateUsers _ _)

theorem ageExpiry (i : Nat) (s : State) : Steady s (ageExpiry i s) := by
  have points (l : List Subscription) : Steady s { s with points := l } := .of_same rfl rfl rfl fun _ => rfl
  unfold Machine.ageExpiry
  split
  · exact .refl s
  · exact .ite (fun _ => ((points _).trans (.each8 (fun c _ => .of_moves (.startHoldOvers _ .refl)) _)).trans
      (.evaluateUsers _ _)) fun _ => .refl s

theorem hostPointChange (n : Fin 8) (v : Bool) (s : State) : Steady s (hostPointChange n v s) := by
  have point : Steady s { s with host := { s.host with points := s.host.points.set n v } } :=
    .of_same rfl rfl rfl fun _ => rfl
  have pend (t : State) : Steady t (pendSource (.hostPoint n) t) :=
    .of_same (by simp) (by simp) (by simp [State.still, State.flagLive]) fun c => by simp [State.faultRec]
  exact .ite (fun _ => .refl s) fun _ => (point.trans (.evaluateUsers _ _)).trans (pend _)

theorem takeMark (n : Half) (s : State) : Steady s (takeMark n s) := by
  have number (m : MarkTimer) : Steady s (setMarks m s) := .of_same rfl rfl rfl fun _ => rfl
  have peers (t : State) : Steady t (peersMark t) := .of_same rfl rfl rfl fun _ => rfl
  exact ((number _).trans (.each8 (fun _ _ => .of_moves (.markEventAt .refl)) _)).trans (peers _)

theorem offer (f : Frame) (s : State) : Steady s (offer f s).1 :=
  .of_same (by simp) (by simp) (by simp [State.still, State.flagLive]) fun c => by simp [State.faultRec]

theorem markAtTimer (own : Bool) (n : Half) (s : State) : Steady s (markAtTimer own n s) := by
  have status (t : State) : Steady t (if t.onLine && t.statusDue n then sendStatus t else t) :=
    .ite (fun _ => .of_same (by simp) (by simp) (by simp [State.still, State.flagLive]) fun c => by simp [State.faultRec]) fun _ => .refl t
  have withdrawn : Steady s (if s.marks.queued && !own then withdrawFrames isMark s else s) :=
    .ite (fun _ => .of_same (by simp) (by simp) (by simp [State.still, State.flagLive]) fun c => by simp [State.faultRec]) fun _ => .refl s
  exact (withdrawn.trans (.takeMark n _)).trans (status _)

theorem markExpiry (s : State) : Steady s (markExpiry s) := by
  have waiting (m : MarkTimer) : Steady s (setMarks m s) := .of_same rfl rfl rfl fun _ => rfl
  unfold Machine.markExpiry
  dsimp only
  refine .ite (fun _ => .refl s) fun _ => .ite (fun _ => .ite (fun _ => ?_) fun _ => ?_) fun _ => .takeMark _ s
  · exact (waiting _).trans (.offer _ _)
  · exact ((waiting _).trans (.offer _ _)).trans (.takeMark _ _)

/-! ## The peer bus -/

theorem flushedNotice (f : Frame) (s : State) : Steady s (flushedNotice f s) := by
  cases f with
  | mark n => exact .takeMark n s
  | fault c l st m => exact .of_same rfl rfl rfl fun d => by simp [Machine.flushedNotice, State.faultRec]
  | _ => exact .of_same rfl rfl rfl fun _ => rfl

theorem flushedNotices (l : List Queued) (s : State) : Steady s (flushedNotices l s) := by
  induction l generalizing s with
  | nil => exact .refl s
  | cons q l ih => exact (Steady.flushedNotice q.frame s).trans (ih _)

theorem emptied (l : List Queued) (s : State) : Steady s (roomNotice (setQueue l s)) := .of_same rfl rfl rfl fun _ => rfl

theorem flushQueue (s : State) : Steady s (flushQueue s) :=
  .ite (fun _ => .refl s) fun _ => (Steady.emptied [] s).trans (.flushedNotices _ _)

theorem abandonedNotice (f : Frame) (s : State) : Steady s (abandonedNotice f s) := by
  cases f with
  | mark n => exact .takeMark n s
  | trip m k => exact .queueTrip _ _ s
  | claim g _ => exact .onGroup (fun e s => .of_groups (.claimAbandoned e s) (by simp [State.still, State.flagLive])
      fun c => by simp [State.faultRec]) g s
  | release g _ => exact .onGroup (fun e s => .of_groups (.releaseAbandoned e s) (by simp [State.still, State.flagLive])
      fun c => by simp [State.faultRec]) g s
  | fault c l st m => exact .of_same rfl rfl rfl fun d => by simp [Machine.abandonedNotice, State.faultRec]
  | hello j g => exact .ite (fun _ => .of_same rfl rfl rfl fun _ => rfl) fun _ => .refl s
  | _ => exact .of_same rfl rfl rfl fun _ => rfl

theorem abandonDue (s : State) : Steady s (abandonDue s) := by
  have flag (t : State) : Steady t (raiseFlag .frameAbandoned t) :=
    .of_same (by simp) (by simp) (by simp [State.still, State.flagLive]) fun c => by simp [State.faultRec]
  unfold Machine.abandonDue
  split
  · exact .refl s
  · exact ((Steady.emptied _ s).trans (flag _)).trans (.abandonedNotice _ _)

theorem buildDue (s : State) : Steady s (buildDue s) :=
  .of_groups (.buildDue s) (by simp [State.still, State.flagLive]) fun c => by simp [State.faultRec]

theorem takenNotice (f : Frame) (s : State) : Steady s (takenNotice f s) := by
  unfold Machine.takenNotice
  split
  · exact .of_same rfl rfl rfl fun _ => rfl
  · exact .ite (fun _ => .of_same rfl rfl rfl fun _ => rfl) fun _ => .refl s
  · exact .refl s

/-- The bus beside its state. -/
theorem setBus {b : Bus} (state : b.state = s.bus.state) : Steady s (setBus b s) := .of_same state rfl rfl fun _ => rfl

end Steady

end Sys2Proof.Machine
end

section
/-! PROOFS. Records, flags, node state and staging area stay sound: changes of bus state, of the link state and of the
node state, and every step (O58). -/

namespace Sys2Proof.Machine

open Sys2Proof

/-! ## The node's promises, part by part -/

/-- The node state's ties (R111, R155, R157, R161, R162). -/
structure NodeSound (s : State) : Prop where
  image : s.running = s.loader.image.isSome
  bus : s.running = (s.bus.state != .disabled)
  read : s.running = true ∨ s.held = true → s.loader.read = .idle
  held : s.held = true → s.loader.nodeState = .loading ∧ s.host.transaction = none

theorem State.nodeSound_iff (s : State) : s.nodeSound = true ↔ NodeSound s := by
  have read : (!(s.running || s.held) || s.loader.read == .idle) = true ↔
      (s.running = true ∨ s.held = true → s.loader.read = .idle) := by
    cases s.running <;> cases s.held <;> simp
  have held : (!s.held || (s.loader.nodeState == .loading && s.host.transaction.isNone)) = true ↔
      (s.held = true → s.loader.nodeState = .loading ∧ s.host.transaction = none) := by
    cases s.held <;> simp
  simp only [State.nodeSound, Bool.and_eq_true, beq_iff_eq, read, held]
  exact ⟨fun ⟨⟨⟨image, bus⟩, read⟩, held⟩ => ⟨image, bus, read, held⟩, fun h => ⟨⟨⟨h.image, h.bus⟩, h.read⟩, h.held⟩⟩

/-- The bus states that BUS-DEGRADED tells of (R120). -/
def BusState.degraded (b : BusState) : Bool := b == .muted || b == .offLine || b == .barred

theorem State.flagsSound_iff (s : State) : s.flagsSound = true ↔
    s.flagLive .busDegraded = s.bus.state.degraded ∧ s.flagLive .linkDown = !s.link.up := by
  simp [State.flagsSound, BusState.degraded]

/-- From s to t the promises of O58 are kept. -/
structure NodeKept (s t : State) : Prop where
  list : s.listSound = true → t.listSound = true
  records : s.nodeSound = true → s.recordsSound = true → t.recordsSound = true
  flags : s.flagsSound = true → t.flagsSound = true
  staging : s.stagingSound = true → t.stagingSound = true
  node : s.nodeSound = true → t.nodeSound = true
  entries : s.entriesSound = true → t.entriesSound = true

namespace NodeKept

variable {s t u : State}

theorem refl (s : State) : NodeKept s s := ⟨id, fun _ => id, id, id, id, id⟩

theorem trans (h : NodeKept s t) (k : NodeKept t u) : NodeKept s u where
  list x := k.list (h.list x)
  records x y := k.records (h.node x) (h.records x y)
  flags x := k.flags (h.flags x)
  staging x := k.staging (h.staging x)
  node x := k.node (h.node x)
  entries x := k.entries (h.entries x)

end NodeKept

theorem Steady.kept {s t : State} (h : Steady s t) : NodeKept s t := by
  have still := h.still
  simp only [State.still, Prod.mk.injEq] at still
  obtain ⟨loader, held, list, degraded, linkDown, up, transaction⟩ := still
  refine ⟨fun x => ?_, fun _ x => ?_, fun x => ?_, fun x => ?_, fun x => ?_, fun x => ?_⟩
  · simpa only [State.listSound, list] using x
  · rw [State.recordsSound_iff] at x ⊢
    exact fun c => h.running ▸ h.records c (x c)
  · rw [State.flagsSound_iff] at x ⊢
    rwa [degraded, linkDown, up, h.state]
  · simpa only [State.stagingSound, loader] using x
  · rw [State.nodeSound_iff] at x ⊢
    obtain ⟨image, bus, read, reset⟩ := x
    constructor <;> simpa only [h.running, loader, h.state, held, transaction]
  · rw [State.entriesSound_iff] at x ⊢
    exact ⟨h.entries.length ▸ x.1, h.onLine ▸ h.entries.sound x.2⟩

/-! ## Changes of bus state -/

theorem setFlagLive_still (f : NodeFlag) (b : Bool) (s : State) :
    (setFlagLive f b s).faults.list = s.faults.list ∧ (setFlagLive f b s).host.transaction = s.host.transaction ∧
    ∀ c, ((setFlagLive f b s).faultRec c).kinds = (s.faultRec c).kinds := by
  unfold setFlagLive
  (repeat' split) <;> simp [State.faultRec]

/-- From s to t the node turns to bus state b, the rest of its promises kept. -/
structure Turn (b : BusState) (s t : State) : Prop where
  state : t.bus.state = b
  rest : t.loader = s.loader ∧ t.held = s.held ∧ t.faults.list = s.faults.list ∧ t.link.up = s.link.up ∧
    t.host.transaction = s.host.transaction
  degraded : s.flagsSound = true → t.flagLive .busDegraded = b.degraded
  linkDown : t.flagLive .linkDown = s.flagLive .linkDown
  records : RecordsKept s.running s t
  entries : s.entriesSound = true → t.entriesSound = true

/-- A turn from one state of the bus to another keeps the promises (R111, R120). -/
theorem Turn.kept {b : BusState} {s t : State} (h : Turn b s t) (on : s.bus.state ≠ .disabled) (stays : b ≠ .disabled) :
    NodeKept s t := by
  obtain ⟨loader, held, list, up, transaction⟩ := h.rest
  have running : t.running = s.running := by simp only [State.running, loader]
  refine ⟨fun x => ?_, fun _ x => ?_, fun x => ?_, fun x => ?_, fun x => ?_, h.entries⟩
  · simpa only [State.listSound, list] using x
  · rw [State.recordsSound_iff] at x ⊢
    exact fun c => running ▸ h.records c (x c)
  · rw [State.flagsSound_iff]
    exact ⟨(h.degraded x).trans (by rw [h.state]), by rw [h.linkDown, up]; exact ((State.flagsSound_iff s).mp x).2⟩
  · simpa only [State.stagingSound, loader] using x
  · rw [State.nodeSound_iff] at x ⊢
    obtain ⟨image, bus, read, reset⟩ := x
    refine ⟨by rw [running, image, loader], ?_, by rwa [running, held, loader], by rwa [held, loader, transaction]⟩
    rw [running, bus, h.state, bne_iff_ne.mpr on, bne_iff_ne.mpr stays]

/-- Every entry leaves its claim where the node leaves ON-LINE or JOINING (R47). -/
theorem leaveTraffic_entries {s : State} (length : s.groups.length ≤ 8) (requests : ∀ x ∈ s.groups, x.requests.Nodup) :
    EntriesSound false (leaveTraffic s).groups := by
  intro y hy
  obtain ⟨i, hi⟩ := List.mem_iff_getElem?.mp hy
  have groups : (leaveTraffic s).groups = (each8 groupLeaves (flushQueue s)).groups := by
    simp [leaveTraffic]
  have same : (each8 groupLeaves (flushQueue s)).groups.length = s.groups.length := by
    have keeps := each8_keeps (fun s => s.groups.length) groupLeaves (fun e s => by
      obtain ⟨f, h, -⟩ := groupLeaves_entry e s
      rw [h, modifyAt_length]) (flushQueue s)
    simpa using keeps
  rw [groups] at hi
  have small : i < 8 := by
    have inside := (List.getElem?_eq_some_iff.mp hi).1
    omega
  obtain ⟨u, before, after⟩ := each8_around (R := fun s t => t.groups[i]? = s.groups[i]?) (f := groupLeaves)
    (fun _ => rfl) (fun h k => k.trans h) ⟨i, small⟩ (fun d other s => by
      obtain ⟨f, h, -⟩ := groupLeaves_entry d s
      rw [h, modifyAt_getElem?, if_neg]
      exact fun e => other (Fin.ext e.symm)) (flushQueue s)
  obtain ⟨f, changed, settled⟩ := groupLeaves_entry ⟨i, small⟩ u
  rw [after, changed, modifyAt_getElem?, if_pos rfl] at hi
  obtain ⟨x, hx, rfl⟩ := Option.map_eq_some_iff.mp hi
  obtain ⟨claiming, claimed, list⟩ := settled x hx
  rw [before] at hx
  exact ⟨.inr ⟨claiming, claimed⟩, list ▸ requests x (List.mem_of_getElem? (by simpa using hx))⟩

theorem Steady.leaveTraffic (s : State) : Steady s (leaveTraffic s) := by
  have leaves (e : Fin 8) (s : State) : Steady s (groupLeaves e s) := by
    refine .of_groups ⟨by simp, ?_⟩ (by simp [State.still, State.flagLive]) fun c => by simp [State.faultRec]
    obtain ⟨f, groups, settled⟩ := groupLeaves_entry e s
    rw [groups]
    refine .modify fun x read h => ?_
    obtain ⟨claiming, claimed, list⟩ := settled x read
    exact h.settled ⟨claiming, claimed⟩ list
  have blocked (t : State) : Steady t (setPubBlocked false t) := .of_same rfl rfl rfl fun _ => rfl
  have all (t : State) : Steady t (Machine.each8 groupLeaves t) := .each8 leaves t
  exact ((Steady.flushQueue s).trans (all _)).trans (blocked _)

/-- A turn: the bus state changes, steady operations follow, and BUS-DEGRADED is told (R120). -/
theorem Turn.of_steady {b : BusState} {s t u : State} (start : t.still = s.still) (state : t.bus.state = b)
    (kinds : ∀ c, (t.faultRec c).kinds = (s.faultRec c).kinds) (h : Steady t u)
    (entries : s.entriesSound = true → u.entriesSound = true) : Turn b s (setFlagLive .busDegraded b.degraded u) := by
  have still := h.still.trans start
  simp only [State.still, Prod.mk.injEq] at still
  obtain ⟨loader, held, list, -, linkDown, up, transaction⟩ := still
  obtain ⟨list', transaction', kinds'⟩ := setFlagLive_still .busDegraded b.degraded u
  have first : t.loader = s.loader := congrArg Prod.fst start
  have running : t.running = s.running := by simp only [State.running, first]
  refine ⟨by simpa using h.state.trans state, ⟨by simpa using loader, by simpa using held, list'.trans list,
    by simpa using up, transaction'.trans transaction⟩, fun _ => by simp, by simpa using linkDown, ?_, fun x => ?_⟩
  · have before : RecordsKept s.running s t := (RecordsGrow.of_kinds kinds).kept _
    have after : RecordsKept s.running u (setFlagLive .busDegraded b.degraded u) := (RecordsGrow.of_kinds kinds').kept _
    exact (before.trans (running ▸ h.records)).trans after
  · simpa [State.entriesSound, State.onLine] using entries x

/-- The node after the change of state that MUTED, OFF-LINE or BARRED begins with. -/
def State.silenced (b : BusState) (s : State) : State :=
  setFaultBlocked false (setBus { s.bus with
    state := b, phase := none, joinTimer := none, gapSeen := false,
    offLineTimer := if b == .offLine then some (s.now + Config.offLineTime) else none } s)

/-- Entry to MUTED, OFF-LINE or BARRED (R106, R116, R118, R119, R120). -/
theorem enterSilent_turn {b : BusState} (silent : b.degraded = true) (s : State) : Turn b s (enterSilent b s) := by
  have off : ∀ t : State, t.bus.state = b → t.onLine = false := fun t h => by
    cases b <;> simp_all [State.onLine, BusState.degraded]
  have steady : Steady (s.silenced b) (if s.learns then leaveTraffic (s.silenced b) else s.silenced b) :=
    .ite (fun _ => .leaveTraffic _) fun _ => .refl _
  have entries (x : s.entriesSound = true) :
      (if s.learns then leaveTraffic (s.silenced b) else s.silenced b).entriesSound = true := by
    rw [State.entriesSound_iff] at x ⊢
    obtain ⟨length, sound⟩ := x
    refine ⟨steady.entries.length.trans_le length, ?_⟩
    rw [steady.onLine, off _ rfl]
    split
    · exact leaveTraffic_entries (s := s.silenced b) length fun x hx => (sound x hx).requests
    next quiet =>
      have quiet : s.onLine = false := by simp_all [State.learns, State.onLine]
      exact fun x hx => quiet ▸ sound x hx
  have turn := Turn.of_steady (b := b) (s := s) (t := s.silenced b) rfl rfl (fun _ => rfl) steady entries
  rwa [silent] at turn

/-- Steady operations after a turn. -/
theorem Turn.steady {b : BusState} {s t u : State} (h : Turn b s t) (k : Steady t u) : Turn b s u := by
  have still := k.still
  simp only [State.still, Prod.mk.injEq] at still
  obtain ⟨loader, held, list, degraded, linkDown, up, transaction⟩ := still
  obtain ⟨loader', held', list', up', transaction'⟩ := h.rest
  have running : t.running = s.running := by simp only [State.running, loader']
  exact ⟨k.state.trans h.state, ⟨loader.trans loader', held.trans held', list.trans list', up.trans up',
    transaction.trans transaction'⟩, fun x => degraded.trans (h.degraded x), linkDown.trans h.linkDown,
    h.records.trans (running ▸ k.records), fun x => k.kept.entries (h.entries x)⟩

theorem Steady.offerHello (s : State) : Steady s (offerHello s) := by
  have phase : Steady s (Machine.setBus { s.bus with phase := some .helloQueued, joinTimer := none } s) := .setBus rfl
  exact phase.trans (.offer _ _)

/-- The entry to JOINING from a state that is not ON-LINE (R112, R120). -/
theorem enterJoining_turn {s : State} (quiet : s.onLine = false) : Turn .joining s (enterJoining s) := by
  have turn := Turn.of_steady (b := .joining) (s := s) (t := setFaultBlocked false
    (setBus { s.bus with state := .joining, gapSeen := false, offLineTimer := none } s)) rfl rfl (fun _ => rfl)
    (.refl _) fun x => by
      rw [State.entriesSound_iff] at x ⊢
      rw [quiet] at x
      exact x
  exact turn.steady (.offerHello _)

/-- The entry to ON-LINE from JOINING (R48, R70, R91, R114, R148). -/
theorem enterOnLine_turn {s : State} (joining : s.bus.state = .joining) : Turn .onLine s (enterOnLine s) := by
  have start : Turn .onLine s (setPubBlocked false (setFaultBlocked false
      (setBus { s.bus with state := .onLine, phase := none, joinTimer := none, gapSeen := false } s))) := by
    refine ⟨rfl, ⟨rfl, rfl, rfl, rfl, rfl⟩, fun x => ?_, rfl, fun _ => id, fun x => ?_⟩
    · exact ((State.flagsSound_iff s).mp x).1.trans (by rw [joining]; rfl)
    · rw [State.entriesSound_iff] at x ⊢
      exact ⟨x.1, fun y hy => ⟨.inl rfl, (x.2 y hy).requests⟩⟩
  have groups (t : State) : Steady t (each8 groupOnLine t) :=
    .each8 (fun e s => .of_groups (.groupOnLine e s) (by simp [State.still, State.flagLive])
      fun c => by simp [State.faultRec]) t
  have trips (t : State) : Steady t (zonesOnLine t) := .queueTrip _ _ t
  have waiting (c : Fin 8) (s : State) : Steady s (setFaultWaiting true c s) :=
    .of_same rfl rfl rfl fun d => by simp [State.faultRec]
  have sticky (t : State) : Steady t (pendStickyFaults t) :=
    .each8 (fun c s => .ite (fun _ => waiting c s) fun _ => .refl s) t
  have pend (t : State) : Steady t (pendAll t) := .of_same rfl rfl rfl fun _ => rfl
  exact (((start.steady (groups _)).steady (trips _)).steady (sticky _)).steady (pend _)

/-! ## The peer bus -/

namespace NodeKept

variable {s t u : State}

theorem steady (h : NodeKept s t) (k : Steady t u) : NodeKept s u := h.trans k.kept

theorem enterSilent {b : BusState} (silent : b.degraded = true) (on : s.bus.state ≠ .disabled) :
    NodeKept s (enterSilent b s) :=
  (enterSilent_turn silent s).kept on (by rintro rfl; cases silent)

theorem judgeScore (s : State) : NodeKept s (judgeScore s) := by
  unfold Machine.judgeScore
  split
  iterate 2
    next h =>
      split
      · exact .enterSilent rfl (by simp [h])
      · split
        · exact .enterSilent rfl (by simp [h])
        · exact .refl s
  next h =>
    split
    · exact (enterJoining_turn (by simp [State.onLine, h])).kept (by simp [h]) (by decide)
    · split
      · exact .enterSilent rfl (by simp [h])
      · exact .refl s
  all_goals exact .refl s

theorem failAttempt (s : State) : NodeKept s (failAttempt s) := by
  have failed (l : List Queued) : Steady s (setBus { s.bus with attempt := none, queue := l } s) := .setBus rfl
  have raised (t : State) : Steady t (raiseScore 8 t) := .setBus rfl
  unfold Machine.failAttempt
  dsimp only
  split
  · exact .refl s
  · exact ((((failed _).trans (raised _)).trans (.abandonDue _)).kept.trans (.judgeScore _)).steady (.buildDue _)

theorem duplicateFound (s : State) : NodeKept s (duplicateFound s) := by
  have flag : Steady s (raiseFlag .duplicateStation s) :=
    .of_same (by simp) (by simp) (by simp [State.still, State.flagLive]) fun c => by simp [State.faultRec]
  unfold Machine.duplicateFound
  split
  iterate 3
    next h => exact flag.kept.trans (.enterSilent rfl (by simp [h]))
  · exact flag.kept
  all_goals exact .refl s

theorem hearBad (s : State) : NodeKept s (hearBad s) := by
  have raised (b : Bool) : Steady s (raiseScore 1 (setRejecting b s)) := .of_same rfl rfl rfl fun _ => rfl
  unfold Machine.hearBad
  split
  · exact .refl s
  · exact ((raised _).kept.trans (.judgeScore _)).steady (.buildDue _)

/-- R152: the list holds at most sixteen entries. -/
theorem appendFault (n : Station) (c : Fin 8) (live sticky : KindSet) (m : Half) (s : State) :
    NodeKept s (appendFault n c live sticky m s) := by
  have list : s.listSound = true → (Machine.appendFault n c live sticky m s).listSound = true := by
    simp only [State.listSound, decide_eq_true_eq, Machine.appendFault]
    split <;> intro h
    · simp only [List.length_append, List.length_singleton]; omega
    · simp only [List.length_append, List.length_drop, List.length_singleton, listCapacity] at h ⊢; omega
  unfold Machine.appendFault at list ⊢
  dsimp only at list ⊢
  split
  next short =>
    rw [if_pos short] at list
    exact ⟨list, fun _ => id, id, id, id, id⟩
  next long =>
    rw [if_neg long] at list
    exact ⟨list, fun _ => id, id, id, id, id⟩

theorem atOwner (own : Bool) (n : Station) (f : Frame) (s : State) : NodeKept s (atOwner own n f s) := by
  have learnt (g : Fin 128) {op : Fin 8 → State → State} (h : ∀ e s, Steady s (op e s)) :
      NodeKept s (if s.learns then onGroup g op s else s) :=
    (Steady.ite (fun _ => .onGroup h g s) fun _ => .refl s).kept
  cases f with
  | mark m => exact (Steady.markAtTimer own m s).kept
  | trip m k => exact (Steady.onZones (Steady.takenTripZone n k) m s).kept
  | clear m => exact (Steady.onZones Steady.takenClearZone m s).kept
  | claim g c =>
    refine learnt g fun e s => ?_
    cases own
    · exact .of_groups (.foreignClaim e _ s) (by simp [State.still, State.flagLive]) fun c => by simp [State.faultRec]
    · exact .of_groups (.ownClaim e s) (by simp [State.still, State.flagLive]) fun c => by simp [State.faultRec]
  | hold g c o =>
    refine learnt g fun e s => ?_
    cases own
    · exact .of_groups (.foreignHold e _ o s) (by simp [State.still, State.flagLive]) fun c => by simp [State.faultRec]
    · exact .of_groups (.ownHold e s) (by simp [State.still, State.flagLive]) fun c => by simp [State.faultRec]
  | release g c =>
    refine learnt g fun e s => ?_
    cases own
    · exact .of_groups (.foreignRelease e _ s) (by simp [State.still, State.flagLive]) fun c => by simp [State.faultRec]
    · exact .of_groups (.ownRelease e s) (by simp [State.still, State.flagLive]) fun c => by simp [State.faultRec]
  | points ps => exact (Steady.pointsAtImage n ps s).kept
  | fault c l st m => exact .appendFault n c l st m s
  | faultAck t ch k fl => exact (Steady.ite (fun _ => .acknowledge ch k fl s) fun _ => .refl s).kept
  | status i => exact (Steady.of_same (by rfl) (by rfl) (by rfl) fun _ => by rfl).kept
  | hello j sig =>
    have peer (t : State) : Steady t (modPeer n (fun p => { p with signature := some sig }) t) :=
      .of_same rfl rfl rfl fun _ => rfl
    have holds (t : State) : Steady t (each8 groupHello t) :=
      .each8 (fun e s => .of_same (by simp) (by simp) (by simp [State.still, State.flagLive])
        fun c => by simp [State.faultRec]) t
    have trips (t : State) : Steady t (zonesHello t) := .queueTrip _ _ t
    have pend (t : State) : Steady t (pendAll t) := .of_same rfl rfl rfl fun _ => rfl
    exact ((Steady.ite (fun _ => ((holds s).trans (trips _)).trans (pend _)) fun _ => .refl s).trans (peer _)).kept

theorem dispatch (own : Bool) (n : Station) (f : Frame) (s : State) : NodeKept s (dispatch own n f s) := by
  have peer (t : State) : Steady t (refreshPeer n t) := .of_same rfl rfl rfl fun _ => rfl
  exact (NodeKept.atOwner own n f s).steady (peer _)

theorem hear (kind : Nat) (n : Station) (p : List Byte) (s : State) : NodeKept s (hear kind n p s) := by
  unfold Machine.hear
  split
  · exact .refl s
  · have lowered : Steady s (lowerScore (setRejecting false s)) := .of_same rfl rfl rfl fun _ => rfl
    have judged := lowered.kept.trans (.judgeScore _)
    have flag (t : State) : Steady t (raiseFlag .malformedFrame t) :=
      .of_same (by simp) (by simp) (by simp [State.still, State.flagLive]) fun c => by simp [State.faultRec]
    refine .steady ?_ (.buildDue _)
    split
    · exact judged.steady (flag _)
    · split
      · exact judged.trans (.duplicateFound _)
      · exact judged.trans (.dispatch _ _ _ _)

theorem readFrame (f : FrameRead) (s : State) : NodeKept s (readFrame f s) := by
  unfold Machine.readFrame
  split
  · exact .hearBad s
  · exact .hear _ _ _ s

theorem completeAttempt (f : Frame) (s : State) : NodeKept s (completeAttempt f s) := by
  have freed (l : List Queued) : Steady s (setBus { s.bus with attempt := none, queue := l } s) := .setBus rfl
  have room (n : Nat) (t : State) : Steady t (if n < s.bus.queue.length then roomNotice t else t) :=
    .ite (fun _ => .of_same rfl rfl rfl fun _ => rfl) fun _ => .refl t
  have lowered (t : State) : Steady t (lowerScore t) := .of_same rfl rfl rfl fun _ => rfl
  have notice (queued : Bool) (t : State) : Steady t (if queued then takenNotice f t else t) :=
    .ite (fun _ => .takenNotice f t) fun _ => .refl t
  unfold Machine.completeAttempt
  exact (((((((freed _).trans (room _ _)).trans (lowered _)).kept.trans (.judgeScore _)).trans
    (.dispatch true s.loader.station f _)).steady (notice _ _)).steady (.buildDue _))

theorem takeFrame (kind : Nat) (a : Arrival) (s : State) : NodeKept s (takeFrame kind a s) := by
  unfold Machine.takeFrame
  split
  · exact .hear _ _ _ s
  · split
    · split
      · exact .completeAttempt _ s
      · exact .refl s
    · exact .refl s

theorem offLineEnds (s : State) : NodeKept s (offLineEnds s) := by
  have score : Steady s (setScore 40 s) := .setBus rfl
  unfold Machine.offLineEnds
  split
  next ends =>
    have offLine : s.bus.state = .offLine := by simp_all
    exact score.kept.trans (.enterSilent rfl (by simp [offLine]))
  next => exact .refl s

theorem joinWaitEnds (s : State) : NodeKept s (joinWaitEnds s) := by
  unfold Machine.joinWaitEnds
  split
  next ends =>
    have joining : s.bus.state = .joining := by simp_all
    exact ((enterOnLine_turn joining).kept (by simp [joining]) (by decide)).steady (.buildDue _)
  next => exact .refl s

end NodeKept

end Sys2Proof.Machine
end

section
/-! PROOFS. The link, loading and RUNNING entry keep records, flags, node state and staging area sound; so does every
step (O58). -/

namespace Sys2Proof.Machine

open Sys2Proof

/-! ## The link -/

namespace Steady

variable {s t : State}

theorem setLink {l : Link} (up : l.up = s.link.up) : Steady s (setLink l s) :=
  .of_same rfl rfl (by simp [State.still, State.flagLive, up]) fun _ => rfl

theorem whenRunning {f : State → State} (h : ∀ s, Steady s (f s)) (s : State) : Steady s (whenRunning f s) :=
  .ite (fun _ => h s) fun _ => .refl s

theorem supplyLow (b : Bool) (s : State) : Steady s (setFlagLive .supplyLow b s) := by
  obtain ⟨list, transaction, kinds⟩ := setFlagLive_still .supplyLow b s
  exact .of_same (by simp) (by simp) (by simp [State.still, list, transaction]) kinds

theorem feedbackBits (b : Byte) (s : State) : Steady s (feedbackBits b s) :=
  .whenRunning (fun s => .each8 (fun _ _ => .of_moves (.feedbackAt b .refl)) s) s

theorem pathLost (s : State) : Steady s (pathLost s) := .each8 (fun _ _ => .of_moves (.pathLostAt .refl)) s

theorem pathReadyEvent (s : State) : Steady s (pathReadyEvent s) := .each8 (fun _ _ => .of_moves (.pathReadyAt .refl)) s

theorem setReleasingConfirm (tm : Timer) (s : State) : Steady s (setReleasingConfirm tm s) :=
  .each8 (fun _ _ => .of_moves (.confirmIfReleasing tm .refl)) s

theorem setFeedback (f : Feedback) (s : State) : Steady s (setFeedback f s) := .of_same rfl rfl rfl fun _ => rfl

theorem takeFeedback (f : Feedback) (s : State) : Steady s (takeFeedback f s) := by
  have judged (lost ready : Bool) (t : State) : Steady t (if lost then Machine.whenRunning Machine.pathLost t
      else if ready then Machine.whenRunning Machine.pathReadyEvent t else t) :=
    .ite (fun _ => .whenRunning .pathLost t) fun _ => .ite (fun _ => .whenRunning .pathReadyEvent t) fun _ => .refl t
  exact (((Steady.setFeedback f s).trans (judged _ _ _)).trans (.feedbackBits _ _)).trans (.supplyLow _ _)

theorem deliver (r : GoodReply) (s : State) : Steady s (deliver r s) := by
  unfold Machine.deliver
  split
  · exact .takeFeedback _ s
  · exact .takeDiagnostic _ _ s

theorem deliverLatest (l : LatestReplies) (k : PowerKind) (s : State) : Steady s (deliverLatest l k s) := by
  unfold Machine.deliverLatest
  split
  · exact .takeDiagnostic _ _ s
  · exact .refl s

theorem channelsUp (l : LatestReplies) (s : State) : Steady s (channelsUp l s) := by
  have reply (f : Option Feedback) (t : State) : Steady t (match f with
      | some f => Machine.setFeedback f t
      | none => t) := by
    cases f
    · exact .refl t
    · exact .setFeedback _ t
  have bits (f : Option Feedback) (t : State) : Steady t (match f with
      | some f => Machine.feedbackBits f.bits t
      | none => t) := by
    cases f
    · exact .refl t
    · exact .feedbackBits _ t
  have ready (t : State) : Steady t (if t.pathReady = true then Machine.whenRunning Machine.pathReadyEvent t else t) :=
    .ite (fun _ => .whenRunning .pathReadyEvent t) fun _ => .refl t
  exact (((reply l.feedback s).trans (.whenRunning (Steady.setReleasingConfirm _) _)).trans (ready _)).trans
    (bits l.feedback _)

end Steady

/-- The link state changes, steady operations follow, and LINK-DOWN is told (R128, R129). -/
theorem NodeKept.of_link {s u : State} {l : Link} (h : Steady (setLink l s) u) :
    NodeKept s (setFlagLive .linkDown (!l.up) u) := by
  have still := h.still
  simp only [State.still, Prod.mk.injEq] at still
  obtain ⟨loader, held, list, degraded, -, up, transaction⟩ := still
  obtain ⟨list', transaction', kinds'⟩ := setFlagLive_still .linkDown (!l.up) u
  have running : u.running = s.running := h.running
  refine ⟨fun x => ?_, fun _ x => ?_, fun x => ?_, fun x => ?_, fun x => ?_, fun x => ?_⟩
  · rw [State.listSound, list', list]
    exact x
  · rw [State.recordsSound_iff] at x ⊢
    intro c
    have sound : (u.faultRec c).soundWhen s.running := h.records c (x c)
    have run : (setFlagLive .linkDown (!l.up) u).running = s.running := by simpa [State.running] using running
    rw [run]
    simpa only [FaultRecord.soundWhen, kinds'] using sound
  · rw [State.flagsSound_iff] at x ⊢
    have state : (setFlagLive .linkDown (!l.up) u).bus.state = s.bus.state := by simpa using h.state
    refine ⟨?_, by simp [up]⟩
    rw [setFlagLive_flagLive, if_neg (by decide), degraded, state]
    exact x.1
  · simpa [State.stagingSound, loader] using x
  · have kept : u.nodeSound = true := h.kept.node (by exact x)
    rw [State.nodeSound_iff] at kept ⊢
    obtain ⟨image, bus, read, reset⟩ := kept
    exact ⟨by simpa [State.running] using image, by simpa [State.running] using bus,
      by simpa [State.running] using read, by simpa [transaction'] using reset⟩
  · have kept : u.entriesSound = true := h.kept.entries (by exact x)
    simpa [State.entriesSound, State.onLine] using kept

namespace NodeKept

variable {s t : State}

theorem linkUp (s : State) : NodeKept s (linkUp s) := by
  have supply (f : Option Feedback) (t : State) : Steady t (match f with
      | some f => setFlagLive .supplyLow f.supplyLow t
      | none => t) := by
    cases f
    · exact .refl t
    · exact .supplyLow _ t
  have latest (l : LatestReplies) (t : State) : Steady t (deliverLatest l .overload (deliverLatest l .shortSupply
      (deliverLatest l .openOff (deliverLatest l .openOn (deliverLatest l .overtemp t))))) :=
    ((((Steady.deliverLatest l _ t).trans (.deliverLatest l _ _)).trans (.deliverLatest l _ _)).trans
      (.deliverLatest l _ _)).trans (.deliverLatest l _ _)
  exact .of_link (l := { s.link with
    up := true, goodRun := 0, failedRun := 0, lastGood := some s.now, guarantee := none,
    latest := LatestReplies.none }) (((Steady.channelsUp s.link.latest _).trans (supply _ _)).trans (latest _ _))

theorem linkDown (s : State) : NodeKept s (linkDown s) :=
  .of_link (l := { s.link with
    up := false, goodRun := 0, failedRun := 0,
    guarantee := some (s.link.lastGood.getD s.now + Config.offGuaranteeTime) })
    (.whenRunning (fun s => (Steady.pathLost s).trans (.setReleasingConfirm none _)) _)

theorem judgeSlot (r : Option (BitVec 18)) (s : State) : NodeKept s (judgeSlot r s) := by
  have good (g : GoodReply) : NodeKept s (goodSlot g s) := by
    have counted : Steady s (setLink { s.link with
      goodRun := s.link.goodRun + 1, latest := s.link.latest.take g } s) := .setLink (by rfl)
    have heard : Steady s (setLink { s.link with failedRun := 0, lastGood := some s.now } s) := .setLink (by rfl)
    unfold goodSlot
    dsimp only
    split
    · exact (heard.trans (.deliver g _)).kept
    · split
      · exact counted.kept.trans (.linkUp _)
      · exact counted.kept
  have failed : NodeKept s (failedSlot s) := by
    have counted : Steady s (setLink { s.link with failedRun := s.link.failedRun + 1 } s) := .setLink (by rfl)
    have none' : Steady s (setLink { s.link with goodRun := 0 } s) := .setLink (by rfl)
    unfold failedSlot
    dsimp only
    split
    · split
      · exact counted.kept.trans (.linkDown _)
      · exact counted.kept
    · exact none'.kept
  unfold Machine.judgeSlot
  split
  · exact .refl s
  · refine .steady ?_ (.buildDue _)
    split
    · exact good _
    · exact failed

theorem guaranteeEnds (s : State) : NodeKept s (guaranteeEnds s) := by
  have stopped : Steady s (setLink { s.link with guarantee := none } s) := .setLink (by rfl)
  unfold Machine.guaranteeEnds
  split
  · exact (stopped.trans (.whenRunning (fun t => .each8 (fun _ _ => .of_moves (.offAssuredAt .refl)) t) _)).kept
  · exact .refl s

/-! ## Loading and resets -/

/-- A node with nothing listed, nothing live but LINK-DOWN, and no image, that is held in reset or loads. -/
theorem of_blank (list : t.faults.list = []) (records : t.faults.records = Eight.all FaultRecord.reset)
    (flags : t.faults.flags = NodeFlags.reset) (up : t.link.up = false) (bus : t.bus.state = .disabled)
    (loader : ∃ x n, t.loader = Loader.reset x n) (transaction : t.host.transaction = none) (groups : t.groups = []) :
    NodeKept s t := by
  obtain ⟨x, n, loader⟩ := loader
  have running : t.running = false := by simp [State.running, loader, Loader.reset]
  refine ⟨fun _ => by simp [State.listSound, list], fun _ _ => ?_, fun _ => ?_, fun _ => ?_, fun _ => ?_, fun _ => ?_⟩
  · rw [State.recordsSound_iff]
    intro c
    simp [State.faultRec, records, running, FaultRecord.soundWhen, FaultRecord.reset, KindRecord.reset]
  · rw [State.flagsSound_iff, bus, up, State.flagLive, State.flagLive, flags]
    decide
  · simp [State.stagingSound, loader, Loader.reset, Memory.wf, Memory.wfFrom]
  · rw [State.nodeSound_iff]
    refine ⟨?_, ?_, fun _ => ?_, fun _ => ⟨?_, transaction⟩⟩ <;> simp [running, loader, Loader.reset, bus]
  · rw [State.entriesSound_iff, groups]
    exact ⟨by simp, fun _ => nofun⟩

/-- The loader changes in a node that is not RUNNING and does not become so. -/
theorem of_loader {l : Loader} (quiet : s.nodeSound = true → s.running = false ∧ s.held = false ∧ l.nodeState ≠ .running)
    (image : l.image = s.loader.image) (staging : s.stagingSound = true → l.staging.wf = true) :
    NodeKept s (setLoader l s) := by
  have running (x : s.nodeSound = true) : (setLoader l s).running = false := by
    simpa [State.running, setLoader] using (quiet x).2.2
  refine ⟨id, fun node x => ?_, id, staging, fun x => ?_, id⟩
  · rw [State.recordsSound_iff, (quiet node).1] at x
    rw [State.recordsSound_iff, running node]
    exact x
  · have stopped := running x
    obtain ⟨idle, free, -⟩ := quiet x
    rw [State.nodeSound_iff] at x ⊢
    refine ⟨?_, ?_, fun h => ?_, fun h => ?_⟩
    · rw [stopped]
      exact idle.symm.trans (x.image.trans (by rw [← image]; rfl))
    · rw [stopped]
      exact idle.symm.trans x.bus
    · rw [stopped] at h
      exact absurd (h.resolve_left (by simp)) (by simp [setLoader, free])
    · exact absurd h (by simp [setLoader, free])

/-- A memory that is read belongs to a node that loads, and is not held (R157). -/
theorem reading {r : MemoryRead} (h : s.loader.read = r) (busy : r ≠ .idle) (x : s.nodeSound = true) :
    s.running = false ∧ s.held = false := by
  have read := ((State.nodeSound_iff s).mp x).read
  constructor
  · by_contra running
    exact busy (h.symm.trans (read (.inl (by simpa using running))))
  · by_contra held
    exact busy (h.symm.trans (read (.inr (by simpa using held))))

theorem stageBytes (o : Nat) (bytes : List Byte) (s : State) : NodeKept s (stageBytes o bytes s) := by
  refine ⟨id, fun _ => id, id, fun x => Memory.writeBytes_wf x o bytes, fun x => ?_, id⟩
  rw [State.nodeSound_iff] at x ⊢
  exact ⟨x.image, x.bus, x.read, x.held⟩

theorem enterConfigFault {r : FaultReason} {i : Nat} (quiet : s.nodeSound = true → s.running = false ∧ s.held = false) :
    NodeKept s (enterConfigFault r i s) :=
  .of_loader (fun x => ⟨(quiet x).1, (quiet x).2, nofun⟩) rfl id

theorem setRead {r : MemoryRead} (quiet : s.nodeSound = true → s.running = false ∧ s.held = false) :
    NodeKept s (setRead r s) :=
  .of_loader (fun x => ⟨(quiet x).1, (quiet x).2, by simpa [State.running] using (quiet x).1⟩) rfl id

theorem addressAnswer {b : Bool} {n : Nat} (quiet : s.nodeSound = true → s.running = false ∧ s.held = false) :
    NodeKept s (addressAnswer b n s) := by
  unfold Machine.addressAnswer
  split
  · exact .setRead quiet
  · split
    · exact .enterConfigFault quiet
    · exact .setRead quiet

/-- The end of a reset that is on (R155, R162). -/
theorem endReset (x : ResetSample) (held : s.held = true) : NodeKept s (endReset x s) := by
  have start (source : ImageSource) : NodeKept s { s with
      held := false,
      loader := Loader.reset source x.station,
      host := { s.host with response := Response.reset } } := by
    have idle (node : s.nodeSound = true) : s.running = false := by
      have loading := (((State.nodeSound_iff s).mp node).held held).1
      simp [State.running, loading]
    refine ⟨id, fun node y => ?_, id, fun _ => rfl, fun node => ?_, id⟩
    · rw [State.recordsSound_iff, idle node] at y
      rw [State.recordsSound_iff]
      exact y
    · have bus := ((State.nodeSound_iff s).mp node).bus
      rw [idle node] at bus
      rw [State.nodeSound_iff]
      exact ⟨rfl, bus, fun _ => rfl, nofun⟩
  unfold Machine.endReset
  dsimp only
  split
  · exact (start .memory).trans (.addressAnswer fun _ => ⟨rfl, rfl⟩)
  · exact start .host

end NodeKept

/-! ## RUNNING entry -/

theorem tripZone_grows (z : Fin 8) (n : Station) (k : TripCause) (s : State) : RecordsGrow s (tripZone z n k s) := by
  have forced (t : State) : RecordsGrow t (forceTrip z t) :=
    .each8 (fun c s => by
      split
      · exact .of_moves (.forceCause .trip .refl)
      · exact .refl s) t
  unfold tripZone
  dsimp only
  split
  · exact .of_kinds fun _ => rfl
  · refine .trans ?_ (forced _)
    exact .of_kinds fun _ => rfl

theorem firstInputToZones_grows (n : Fin 8) (s : State) : RecordsGrow s (firstInputToZones n s) := by
  have quiet (t : State) (z : Fin 8) (m : Byte) (k : TripCause) :
      RecordsGrow t (removeFromClear z (queueTrip m k t)) := .of_kinds fun c => by simp [State.faultRec]
  have entry (z : Fin 8) (x : Zone) : RecordsGrow s (setZone z x s) := .of_kinds fun _ => rfl
  have clear (m : Byte) : RecordsGrow s (queueClear m s) := .of_kinds fun c => by simp [State.faultRec]
  unfold firstInputToZones inputToZones tripInputActive tripInputInactive
  (repeat' split)
  · exact (entry _ _).trans ((tripZone_grows _ _ _ _).trans (quiet _ _ _ _))
  · exact clear _
  all_goals exact .refl s

/-- What RUNNING entry does before JOINING: the first levels and the SHUTDOWN field, then the occurrences. -/
def State.firstInputs (img : Image) (s : State) : State :=
  let t := each8 firstInputToZones (takeImage img s)
  if t.zones.shutdown then forceShutdown t else t

theorem firstInputs_grows (img : Image) (s : State) : RecordsGrow s (s.firstInputs img) := by
  have inputs : RecordsGrow (takeImage img s) (each8 firstInputToZones (takeImage img s)) :=
    .each8 firstInputToZones_grows _
  have start : RecordsGrow s (takeImage img s) := .of_kinds fun _ => rfl
  unfold State.firstInputs
  dsimp only
  split
  · exact (start.trans inputs).trans (.each8 (fun _ _ => .of_moves (.forceCause .shutdown .refl)) _)
  · exact start.trans inputs

theorem firstInputs_steady (img : Image) (s : State) : Steady (takeImage img s) (s.firstInputs img) := by
  have inputs : Steady (takeImage img s) (each8 firstInputToZones (takeImage img s)) :=
    .each8 (fun n s => .ite (fun _ => .inputToZones n s) fun _ => .refl s) _
  exact .ite (fun _ => inputs.trans (.each8 (Steady.forceCause .shutdown) _)) fun _ => inputs

theorem startOccurrences_steady (s : State) : Steady s (startOccurrences s) := by
  have go (live : Bool) (k : FaultKind) (c : Fin 8) (s : State) : Steady s (if live then occurrence k c s else s) :=
    .ite (fun _ => .occurrence k c s) fun _ => .refl s
  exact .each8 (fun c s => ((((go _ _ c s).trans (go _ _ c _)).trans (go _ _ c _)).trans (go _ _ c _)).trans
    (go _ _ c _)) s

/-- What RUNNING entry leaves between the occurrences and the end of the event. -/
theorem enterRunning_kept {img : Image} {s : State} (length : img.memberships.length ≤ 8)
    (quiet : s.nodeSound = true → s.running = false ∧ s.held = false) : NodeKept s (enterRunning img s) := by
  obtain ⟨u, hu⟩ : ∃ u, u = startOccurrences (s.firstInputs img) := ⟨_, rfl⟩
  have before : Steady (takeImage img s) u := hu ▸ (firstInputs_steady img s).trans (startOccurrences_steady _)
  have demands (t : State) : Steady t (each8 evaluate t) := .each8 Steady.evaluate t
  have offLine : u.onLine = false := before.onLine
  have turn := ((enterJoining_turn offLine).steady (demands _)).steady (.buildDue _)
  have result : enterRunning img s = buildDue (each8 evaluate (enterJoining u)) := by rw [hu]; rfl
  rw [← result] at turn
  have still := before.still
  simp only [State.still, Prod.mk.injEq] at still
  obtain ⟨loader, held, list, degraded, linkDown, up, transaction⟩ := still
  obtain ⟨loader', held', list', up', transaction'⟩ := turn.rest
  have loader := loader'.trans loader
  have running : (enterRunning img s).running = true := by rw [State.running, loader]; rfl
  refine ⟨fun x => ?_, fun node x => ?_, fun x => ?_, fun x => ?_, fun x => ?_, fun _ => turn.entries ?_⟩
  · rw [State.listSound, list', list]
    exact x
  · rw [State.recordsSound_iff, (quiet node).1] at x
    rw [State.recordsSound_iff, running]
    have grows := firstInputs_grows img s
    have counted := startOccurrences_counts (s := s.firstInputs img) fun c =>
      ⟨(KindRecord.sound_iff _).mpr fun l => absurd ((grows c .failOn).live l) (by simp [(x c).1]),
        (KindRecord.sound_iff _).mpr fun l => absurd ((grows c .stuckOn).live l) (by simp [(x c).2])⟩
    rw [← hu] at counted
    have run : u.running = true := before.running
    exact fun c => run ▸ turn.records c (run ▸ counted c)
  · rw [State.flagsSound_iff] at x ⊢
    refine ⟨?_, by rw [turn.linkDown, linkDown, up', up]; exact x.2⟩
    have told : (enterJoining u).flagLive .busDegraded = false := by
      have hello (t : State) : (offerHello t).flagLive .busDegraded = t.flagLive .busDegraded := by
        simp [offerHello, State.flagLive]
      rw [enterJoining, hello, setFlagLive_flagLive, if_pos rfl]
    have rest : Steady (enterJoining u) (enterRunning img s) := result ▸ (demands _).trans (.buildDue _)
    have after := rest.still
    simp only [State.still, Prod.mk.injEq] at after
    obtain ⟨-, -, -, degraded, -⟩ := after
    rw [turn.state, degraded, told]
    rfl
  · rw [State.stagingSound, loader]
    exact x
  · have free := (quiet x).2
    rw [State.nodeSound_iff]
    refine ⟨by rw [running, loader]; rfl, by rw [running, turn.state]; rfl, fun _ => by rw [loader]; rfl, fun h => ?_⟩
    rw [held', held] at h
    exact absurd (free.symm.trans h) (by decide)
  · rw [State.entriesSound_iff]
    refine ⟨before.entries.length.trans_le (by simpa [takeImage] using length), ?_⟩
    rw [before.onLine]
    refine before.entries.sound fun y hy => ?_
    rw [List.eq_of_mem_replicate hy]
    exact ⟨.inr ⟨nofun, nofun⟩, List.nodup_nil⟩

namespace NodeKept

variable {s : State}

theorem judgeImage (quiet : s.nodeSound = true → s.running = false ∧ s.held = false) : NodeKept s (judgeImage s) := by
  unfold Machine.judgeImage
  split
  next img accepted =>
    obtain ⟨bytes, passes, rfl⟩ := passes_of_checkImage accepted
    exact enterRunning_kept (by simpa [imageOf] using passes.counts.2.2) quiet
  next => exact .enterConfigFault quiet

theorem of_same {t : State} (state : t.bus.state = s.bus.state) (groups : t.groups = s.groups) (still : t.still = s.still)
    (kinds : ∀ c, (t.faultRec c).kinds = (s.faultRec c).kinds) : NodeKept s t :=
  (Steady.of_same state groups still kinds).kept

theorem takeBody (bytes : List Byte) (s : State) : NodeKept s (takeBody bytes s) := by
  unfold Machine.takeBody
  split
  next length read =>
    split
    · refine .trans (.stageBytes _ _ s) (.judgeImage fun x => ?_)
      exact reading (s := Machine.stageBytes headerSize bytes s) (r := .body length) read nofun x
    · exact .refl s
  all_goals exact .refl s

theorem takeHeader (bytes : List Byte) (s : State) : NodeKept s (takeHeader bytes s) := by
  unfold Machine.takeHeader
  split
  next read =>
    have quiet := reading (s := Machine.stageBytes 0 bytes s) (r := .header) read nofun
    dsimp only
    (repeat' split)
    · exact .trans (.stageBytes _ _ s) (.setRead quiet)
    · exact .trans (.stageBytes _ _ s) (.enterConfigFault quiet)
    · exact .refl s
  all_goals exact .refl s

theorem readFails (bytes : List Byte) (s : State) : NodeKept s (readFails bytes s) := by
  unfold Machine.readFails
  split
  next read =>
    split
    · exact .trans (.stageBytes _ _ s) (.enterConfigFault (reading (s := Machine.stageBytes 0 bytes s) read nofun))
    · exact .refl s
  next read =>
    split
    · exact .trans (.stageBytes _ _ s)
        (.enterConfigFault (reading (s := Machine.stageBytes headerSize bytes s) read nofun))
    · exact .refl s
  all_goals exact .refl s

theorem retryAddress (b : Bool) (s : State) : NodeKept s (retryAddress b s) := by
  unfold Machine.retryAddress
  split
  next read => exact .addressAnswer (reading read nofun)
  all_goals exact .refl s

/-- A transaction with a COMMIT CONFIG belongs to a node that is not RUNNING and not held (R162, R163). -/
theorem committing (configurable : s.configurable = true) (asked : s.host.transaction.isSome = true)
    (x : s.nodeSound = true) : s.running = false ∧ s.held = false := by
  constructor
  · unfold State.configurable at configurable
    unfold State.running
    split at configurable <;> simp_all
  · by_contra held
    have none := (((State.nodeSound_iff s).mp x).held (by simpa using held)).2
    simp [none] at asked

end NodeKept

/-- Every operation of a command keeps records, flags, node state and staging area sound. -/
theorem nodeKept : KeptByOperations NodeKept where
  refl := .refl
  trans h k := h.trans k
  power _ _ := .of_same rfl rfl rfl fun _ => rfl
  due s := (Steady.buildDue s).kept
  answer s r b free := by
    refine ⟨id, fun _ => id, id, id, fun x => ?_, id⟩
    rw [State.nodeSound_iff] at x ⊢
    exact ⟨x.image, x.bus, x.read, fun held => ⟨(x.held held).1, free held⟩⟩
  readEvents _ := .of_same rfl rfl rfl fun _ => rfl
  popFault s := by
    refine ⟨fun x => ?_, fun _ => id, id, id, id, id⟩
    simp only [State.listSound, decide_eq_true_eq, List.length_drop] at x ⊢
    omega
  hostPoint n v s _ := (Steady.hostPointChange n v s).kept
  acknowledge m k f s _ := (Steady.acknowledge m k f s).kept
  offer f s := (Steady.offer f s).kept
  tripZones m s _ := ((Steady.onZones Steady.hostTripZone m s).trans (.queueTrip m .host _)).kept
  clearZones m s := (Steady.of_same (by simp) (by simp) (by simp [State.still, State.flagLive])
    fun c => by simp [State.faultRec]).kept
  nodeReset s := .of_blank rfl rfl rfl rfl rfl ⟨_, _, rfl⟩ rfl rfl
  powerOn s := .of_blank rfl rfl rfl rfl rfl ⟨_, _, rfl⟩ rfl rfl
  endReset x s held := .endReset x held
  retryAddress := .retryAddress
  takeHeader := .takeHeader
  takeBody := .takeBody
  readFails := .readFails
  writeBlock o bytes s _ := .stageBytes o bytes s
  commit s configurable asked := .judgeImage (NodeKept.committing configurable asked)
  shutdown b s := (Steady.shutdownChange b s).kept
  pin n s := (Steady.of_same (by simp) (by simp) (by simp [State.still, State.flagLive])
    fun c => by simp [State.faultRec]).kept
  debounce n s _ := (Steady.debounceExpires n s).kept
  confirmEnergizing c s _ := (Steady.confirmExpiryEnergizing c s).kept
  confirmReleasing c s running := (Steady.confirmExpiryReleasing running).kept
  offCheck c s _ := (Steady.offCheckExpiry c s).kept
  holdOver c i s _ := (Steady.of_moves (.holdOverExpiry i .refl)).kept
  toGroups _ _ := .of_same rfl rfl rfl fun _ => rfl
  toChannels _ _ := .of_same rfl rfl rfl fun _ => rfl
  request e c s := (Steady.of_groups (.requestAt e c s) (by simp [State.still, State.flagLive])
    fun d => by simp [State.faultRec]).kept
  cancel e c s := (Steady.of_groups (.cancelAt e c s) (by simp [State.still, State.flagLive])
    fun d => by simp [State.faultRec]).kept
  done e c s := (Steady.of_groups (.doneAt e c s) (by simp [State.still, State.flagLive])
    fun d => by simp [State.faultRec]).kept
  grant c s _ := (Steady.of_moves (.grantAt .refl)).kept
  revoke c s _ := (Steady.of_moves (.revokeAt .refl)).kept
  hold e s := (Steady.of_groups (.holdExpiry e s) (by simp [State.still, State.flagLive])
    fun d => by simp [State.faultRec]).kept
  retry e s := (Steady.of_groups (.retryExpiry e s) (by simp [State.still, State.flagLive])
    fun d => by simp [State.faultRec]).kept
  lifetime e s := (Steady.of_groups (.lifetimeExpiry e s) (by simp [State.still, State.flagLive])
    fun d => by simp [State.faultRec]).kept
  window e s := (Steady.of_groups (.windowExpiry e s) (by simp [State.still, State.flagLive])
    fun d => by simp [State.faultRec]).kept
  dead e s := (Steady.of_groups (.deadExpiry e s) (by simp [State.still, State.flagLive])
    fun d => by simp [State.faultRec]).kept
  lapse e s := (Steady.of_groups (.lapseExpiry e s) (by simp [State.still, State.flagLive])
    fun d => by simp [State.faultRec]).kept
  mark s _ := (Steady.markExpiry s).kept
  age i s _ := (Steady.ageExpiry i s).kept
  refresh i s := (Steady.of_same (by simp) (by simp) (by simp [State.still, State.flagLive])
    fun c => by simp [State.faultRec]).kept
  offerHead l s := by
    unfold offerHead
    dsimp only
    (repeat' split) <;>
      first
      | exact .refl s
      | exact .of_same rfl rfl rfl fun _ => rfl
  failAttempt := .failAttempt
  readFrame := .readFrame
  hear := .hear
  hearRejected s := by
    unfold hearRejected
    split
    · exact .refl s
    · exact .of_same rfl rfl rfl fun _ => rfl
  takeFrame := .takeFrame
  offLine := .offLineEnds
  joinWait := .joinWaitEnds
  helloHoldOff s := by
    unfold helloHoldOffEnds
    split
    · exact (Steady.offerHello s).kept
    · exact .refl s
  slot s := by
    unfold startSlot
    split
    · exact .refl s
    · exact (Steady.setLink (by rfl)).kept
  judgeSlot := .judgeSlot
  guarantee := .guaranteeEnds

/-- Settles O58: every operation of a command keeps the six promises. -/
theorem recordAndNodeInvariantKept : Obligations.RecordAndNodeInvariantKept := by
  have kept (s t : State) (h : step s = .next t) : NodeKept s t :=
    nodeKept.step (fun s => .of_same rfl rfl rfl fun _ => rfl)
      (fun s l => .of_same rfl rfl rfl fun _ => rfl) h
  exact ⟨fun s t h => ⟨(kept s t h).list, (kept s t h).records, (kept s t h).flags⟩,
    fun s t h => ⟨(kept s t h).staging, (kept s t h).node, (kept s t h).entries⟩⟩

end Sys2Proof.Machine
end

section
/-! PROOFS. Start-up: what resets leave, the straps, the configuration memory and the staging area (O41 to O44, O60). -/

namespace Sys2Proof.Machine

open Sys2Proof

/-! ## What a node reset leaves -/

theorem reset_faultRec (c : Fin 8) : FaultTable.reset.records.get c = FaultRecord.reset := by
  simp [FaultTable.reset]

theorem reset_flags (f : NodeFlag) : NodeFlags.reset.live.getLsbD f.bit = decide (f = .linkDown) ∧
    NodeFlags.reset.sticky.getLsbD f.bit = decide (f = .linkDown) := by
  cases f <;> decide

theorem reset_peers {p : Peer} (h : p ∈ FaultTable.reset.peers) : p = Peer.reset := List.eq_of_mem_replicate h

theorem reset_points (n : Fin 8) : HostPort.reset.points.get n = false := by simp [HostPort.reset]

/-- Settles O41. -/
theorem afterPowerOn : Obligations.AfterPowerOn := by
  have kinds (c : Fin 8) (k : FaultKind) : (State.reset.faultRec c).kinds.get k =
      { live := false, sticky := false, count := 0, firstMark := none } := by
    rw [State.faultRec, State.reset, reset_faultRec, FaultRecord.reset, PerKind.get_all, KindRecord.reset]
  have records (c : Fin 8) : (State.reset.faultRec c).newest = none ∧ (State.reset.faultRec c).waiting = false := by
    rw [State.faultRec, State.reset, reset_faultRec]
    exact ⟨rfl, rfl⟩
  have list : State.reset.faults.peers.length = 62 := by simp [State.reset, FaultTable.reset]
  unfold Obligations.AfterPowerOn
  dsimp only
  refine ⟨rfl, rfl, rfl, rfl, rfl, rfl, fun _ => rfl, rfl, rfl, rfl, rfl, rfl, rfl, rfl, rfl, rfl, rfl, rfl, rfl, rfl, rfl,
    kinds, records, reset_flags, rfl, rfl, list, fun p => reset_peers, reset_points, rfl, rfl, rfl, rfl, rfl, rfl, rfl,
    rfl, rfl, rfl, ?_, rfl, rfl⟩
  decide

/-! ## A node reset (R155) -/

/-- A node reset with the SHUTDOWN field and the join counter that it leaves. -/
def State.resetWith (shutdown : Bool) (joinCounter : Half) (s : State) : State :=
  { nodeReset s with zones := ZoneTable.reset shutdown, bus := Bus.reset joinCounter }

theorem nodeReset_eq (s : State) : nodeReset s = s.resetWith s.zones.shutdown s.bus.joinCounter := rfl
theorem powerOn_eq (s : State) : powerOn s = s.resetWith false 0 := rfl

/-- What the end of a reset that is on leaves alone, and what it sets (R155, R162). -/
theorem endReset_leaves (x : ResetSample) (s : State) :
    (endReset x s).held = false ∧ (endReset x s).host = { s.host with response := Response.reset } ∧
    (endReset x s).loader.station = x.station ∧ (endReset x s).bus = s.bus ∧ (endReset x s).zones = s.zones ∧
    (endReset x s).power = s.power := by
  unfold endReset addressAnswer
  dsimp only
  (repeat' split) <;> exact ⟨rfl, rfl, rfl, rfl, rfl, rfl⟩

/-- Settles O42. -/
theorem nodeReset_obligation : Obligations.NodeReset := by
  refine ⟨fun s => ?_, fun s x asked => ?_⟩
  · intro isReset
    have reset (b : Bool) (j : Half) : isReset (s.resetWith b j) := by
      have kinds (c : Fin 8) (k : FaultKind) :
          ((s.resetWith b j).faultRec c).kinds.get k = KindRecord.reset := by
        rw [State.faultRec, State.resetWith, nodeReset, reset_faultRec, FaultRecord.reset, PerKind.get_all]
      have pins (n : Fin 8) : ((s.resetWith b j).inputs.get n) = SenseInput.reset (s.inputs.get n).pin :=
        Eight.get_of _ n
      refine ⟨rfl, rfl, rfl, rfl, rfl, rfl, rfl, rfl, fun _ => rfl, rfl, rfl, rfl, rfl, rfl, rfl, rfl, fun n => ?_, rfl,
        rfl, rfl, rfl, rfl, rfl, rfl, fun c k => ?_, reset_flags, rfl, rfl, fun p h => ?_, reset_points, rfl, rfl, rfl, rfl,
        rfl, rfl, rfl, rfl, rfl, rfl, rfl⟩
      · rw [pins]; exact ⟨rfl, rfl⟩
      · rw [kinds]; exact ⟨rfl, rfl, rfl, rfl⟩
      · rw [reset_peers h]; exact ⟨rfl, rfl⟩
    exact ⟨⟨_, rfl, reset _ _, rfl, rfl⟩, ⟨_, rfl, reset false 0, rfl, rfl⟩⟩
  · obtain ⟨held, host, station, bus, zones, power⟩ := endReset_leaves x (nodeReset s)
    refine ⟨nodeReset s, endReset x (nodeReset s), rfl, rfl, ?_, held, by rw [host]; rfl, station, by rw [bus]; rfl,
      by rw [zones]; rfl, power, by rw [host]; rfl⟩
    show Host.Outcome.next (whenTransaction (takeResetNode x) s) = _
    rw [whenTransaction, if_pos (Option.isSome_iff_ne_none.mpr asked), takeResetNode]

/-! ## The straps and the addressing (R155, R157) -/

theorem retryAddress_waiting {s : State} {n : Nat} (b : Bool) (h : s.loader.read = .retryWait n) :
    retryAddress b s = addressAnswer b (n + 1) s := by
  simp [retryAddress, h]

theorem addressAnswer_absent {n : Nat} (s : State) :
    (n < 10 → addressAnswer false n s = setRead (.retryWait n) s) ∧
    (10 ≤ n → addressAnswer false n s = enterConfigFault .memoryAbsent 0 s) := by
  constructor <;> intro h
  · rw [addressAnswer, if_neg (by simp), if_neg (by simp only [addressAttempts]; omega)]
  · rw [addressAnswer, if_neg (by simp), if_pos (by simpa only [addressAttempts] using h)]

/-- Settles O43. -/
theorem resetEndAndAddressing : Obligations.ResetEndAndAddressing := by
  intro s
  refine ⟨fun free x => ?_, fun held x => ?_, fun n waiting => ⟨?_, fun few => ?_, fun many => ?_⟩, fun idle b => ?_⟩
  · simp [exec, execNodeResetEnd, free]
  · cases high : x.cfgselHigh <;> cases ack : x.memoryAcknowledges <;>
      simp [exec, execNodeResetEnd, held, endReset, high, ack, addressAnswer, addressAttempts, setRead, setLoader,
        Loader.reset, Response.reset]
  · show Host.Outcome.next (retryAddress true s) = _
    rw [retryAddress_waiting true waiting]
    rfl
  · show Host.Outcome.next (retryAddress false s) = _
    rw [retryAddress_waiting false waiting, (addressAnswer_absent s).1 few]
    rfl
  · show Host.Outcome.next (retryAddress false s) = _
    rw [retryAddress_waiting false waiting, (addressAnswer_absent s).2 many]
    rfl
  · show Host.Outcome.next (retryAddress b s) = _
    cases read : s.loader.read <;> simp_all [retryAddress]

/-! ## Reading the configuration memory (R157) -/

/-- The bytes read stand in the staging area, and no other address changes. -/
theorem staged_read {m : Memory} (wf : m.wf = true) {offset : Nat} {bytes : List Byte}
    (fits : offset + bytes.length ≤ 2048) (a : Nat) :
    Memory.read (Memory.writeBytes m offset bytes) a =
      if offset ≤ a ∧ a < offset + bytes.length then bytes.getD (a - offset) 0 else Memory.read m a :=
  Memory.read_writeBytes wf offset bytes (by simpa [stagingSize] using fits) a

theorem half_toNat (a b : Byte) : (half a b).toNat = 256 * a.toNat + b.toNat := by
  rw [half, BitVec.toNat_append, ← Nat.shiftLeft_add_eq_or_of_lt b.isLt, Nat.shiftLeft_eq, Nat.mul_comm]

theorem imageHalfNat_zero (l : List Byte) : imageHalfNat l 0 = 256 * (l.getD 0 0).toNat + (l.getD 1 0).toNat :=
  half_toNat _ _

theorem lengthInRange_iff (n : Nat) : lengthInRange n = true ↔ 8 ≤ n ∧ n ≤ 2048 := decide_eq_true_iff

theorem takeHeader_six {bytes : List Byte} {s : State} (read : s.loader.read = .header) (six : bytes.length = 6) :
    takeHeader bytes s = if lengthInRange (imageHalfNat bytes 0) then
      setRead (.body (imageHalfNat bytes 0)) (stageBytes 0 bytes s)
      else enterConfigFault .imageLength 0 (stageBytes 0 bytes s) := by
  simp [takeHeader, read, six, headerSize]

theorem takeBody_last {bytes : List Byte} {length : Nat} {s : State} (read : s.loader.read = .body length)
    (last : 6 + bytes.length = length) : takeBody bytes s = judgeImage (stageBytes 6 bytes s) := by
  simp [takeBody, read, last, headerSize]

theorem enterRunning_loader (img : Image) (s : State) : (enterRunning img s).loader = (takeImage img s).loader := by
  have first := (firstInputs_steady img s).loader
  have occurrences := (startOccurrences_steady (s.firstInputs img)).loader
  have evaluated := (Steady.each8 Steady.evaluate (enterJoining (startOccurrences (s.firstInputs img)))).loader
  have result : enterRunning img s =
    buildDue (each8 evaluate (enterJoining (startOccurrences (s.firstInputs img)))) := rfl
  rw [result]
  simp [evaluated, occurrences, first]

/-- Settles O44. -/
theorem memoryLoading : Obligations.MemoryLoading := by
  refine ⟨fun s bytes sound => ⟨fun read six => ⟨fun range => ?_, fun range => ?_⟩, fun read short => ?_,
    fun length read short range => ?_, fun idle => ⟨?_, ?_, ?_⟩⟩, fun s bytes length sound read last range => ?_⟩
  · refine ⟨_, staged_read sound (by omega), ?_⟩
    show Host.Outcome.next (takeHeader bytes s) = _
    rw [← imageHalfNat_zero, ← lengthInRange_iff] at range
    rw [takeHeader_six read six, if_pos range, imageHalfNat_zero]
    rfl
  · refine ⟨_, staged_read sound (by omega), ?_⟩
    show Host.Outcome.next (takeHeader bytes s) = _
    rw [takeHeader_six read six, if_neg (by rw [lengthInRange_iff, imageHalfNat_zero]; omega)]
    rfl
  · refine ⟨_, staged_read sound (by omega), ?_⟩
    show Host.Outcome.next (readFails bytes s) = _
    simp only [readFails, read]
    rw [if_pos (show bytes.length < headerSize from short)]
    rfl
  · refine ⟨_, staged_read sound (by omega), ?_⟩
    show Host.Outcome.next (readFails bytes s) = _
    simp only [readFails, read]
    rw [if_pos (show headerSize + bytes.length < length from short)]
    rfl
  · show Host.Outcome.next (takeHeader bytes s) = _
    simp [takeHeader, idle]
  · show Host.Outcome.next (readFails bytes s) = _
    simp [readFails, idle]
  · show Host.Outcome.next (takeBody bytes s) = _
    simp [takeBody, idle]
  · have judged : exec (.memoryReadComplete bytes) s = .next (judgeImage (stageBytes 6 bytes s)) :=
      congrArg Host.Outcome.next (takeBody_last read last)
    refine ⟨Memory.writeBytes s.loader.staging 6 bytes, fun a => ?_, fun reason item refused => ?_, fun img accepted => ?_⟩
    · rw [staged_read sound (by omega), last]
    · rw [judged]
      simp only [judgeImage, stageBytes, setLoader, refused]
      rfl
    · have running : judgeImage (stageBytes 6 bytes s) = enterRunning img (stageBytes 6 bytes s) := by
        simp only [judgeImage, stageBytes, setLoader, accepted]
      refine ⟨_, judged, running, ?_, ?_⟩
      · rw [running, State.running, enterRunning_loader]; rfl
      · rw [running, enterRunning_loader]; rfl

/-- Settles O60. -/
theorem invariantsAtReset : Obligations.InvariantsAtReset := by
  refine ⟨?_, ?_, ?_, ?_, ?_, ?_, ?_, ?_, ?_, ?_, ?_, ?_, ?_, ?_⟩ <;> decide

end Sys2Proof.Machine
end

section
/-! PROOFS. Before RUNNING the blocks that work from an image take no event, and the bus is not read (O3). -/

namespace Sys2Proof.Machine

open Sys2Proof

/-! ## Frames due in a node that is not on the bus -/

/-- A node that is not ON-LINE has no frame due. -/
theorem buildDue_of_not_onLine {s : State} (h : s.onLine = false) : buildDue s = s := by
  have bus : s.bus.state ≠ .onLine := by simpa [State.onLine] using h
  have claim (e : Fin 8) : claimIfDue e s = s := by
    unfold claimIfDue
    (repeat' split) <;> simp_all
  have fault (c : Fin 8) : buildFault c s = s := by
    unfold buildFault
    rw [if_neg (by simp [bus])]
  have points : buildPoints s = s := by
    unfold buildPoints
    dsimp only
    rw [if_neg (by simp [h])]
  simp only [buildDue, buildFaults, each8, claim, fault, points]

/-! ## Nothing happens before RUNNING -/

/-- An event of a block that works from an image, in a node that is not RUNNING. -/
theorem event_before_running {s : State} (idle : s.running = false) (disabled : s.bus.state = .disabled)
    (f : State → State) : buildDue (whenRunning f s) = s := by
  rw [Machine.whenRunning.eq_def, if_neg (by simp [idle])]
  exact buildDue_of_not_onLine (by simp [State.onLine, disabled])

section
variable {s : State} (disabled : s.bus.state = .disabled)
include disabled

theorem listens_of_disabled : s.listens = false := by simp [State.listens, disabled, BusState.takesFrames]

theorem hear_of_disabled (k : Nat) (n : Station) (p : List Byte) : hear k n p s = s := by
  simp [hear, State.takesFrom, listens_of_disabled disabled]

theorem readFrame_of_disabled (f : FrameRead) : readFrame f s = s := by
  unfold readFrame
  split
  · simp [hearBad, State.reads, listens_of_disabled disabled]
  · exact hear_of_disabled disabled _ _ _

theorem takeFrame_of_disabled (quiet : s.bus.attempt = none) (k : Nat) (a : Arrival) : takeFrame k a s = s := by
  cases a with
  | own => simp [takeFrame, quiet]
  | heard n p => exact hear_of_disabled disabled k n p

end

/-- Settles O3: an event of a block that works from an image asks for RUNNING, and a bus that is DISABLED is not
read. -/
theorem nothingBeforeRunning : Obligations.NothingBeforeRunning := by
  intro s idle disabled quiet
  have event (f : State → State) : Host.Outcome.next (buildDue (whenRunning f s)) =
      (Host.Outcome.next s : Host.Outcome State Fault Refusal) :=
    congrArg _ (event_before_running idle disabled f)
  have same {t : State} (h : t = s) : Host.Outcome.next t = (Host.Outcome.next s : Host.Outcome State Fault Refusal) :=
    congrArg _ h
  have taken (k : Nat) (a : Arrival) := same (takeFrame_of_disabled disabled quiet k a)
  refine ⟨fun c n => ⟨event _, event _⟩, fun c => ?_, event _, fun _ => event _, fun _ => event _, fun l => same ?_,
    fun f => same (readFrame_of_disabled disabled f), same ?_, fun a => ?_,
    fun k n p => same (hear_of_disabled disabled _ n p), same ?_, same ?_, same ?_⟩
  · iterate 13 refine ⟨event _, ?_⟩
    exact event _
  · simp [offerHead, disabled, BusState.takesFrames]
  · simp [hearRejected, State.reads, listens_of_disabled disabled]
  · iterate 10 refine ⟨taken _ a, ?_⟩
    exact taken _ a
  · simp [offLineEnds, disabled]
  · simp [joinWaitEnds, disabled]
  · simp [helloHoldOffEnds, disabled]

end Sys2Proof.Machine
end

section
/-! PROOFS. Host transactions: the bytes of a request and of a response, and the order in which a request is
judged (O47, O48, O51). -/

namespace Sys2Proof.Machine

open Sys2Proof

/-! ## The sum of bytes (R171) -/

theorem foldl_add_byte (b : Byte) (l : List Byte) : l.foldl (· + ·) b = b + l.foldl (· + ·) 0 := by
  induction l generalizing b with
  | nil => exact (BitVec.add_zero b).symm
  | cons c l ih =>
    calc (c :: l).foldl (· + ·) b
      _ = b + c + l.foldl (· + ·) 0 := ih (b + c)
      _ = b + (0 + c + l.foldl (· + ·) 0) := by rw [BitVec.add_assoc, show (0 : Byte) + c = c from BitVec.zero_add c]
      _ = b + (c :: l).foldl (· + ·) 0 := by rw [List.foldl_cons, ih (0 + c)]

@[simp] theorem byteSum_nil : byteSum [] = 0 := rfl

@[simp] theorem byteSum_cons (b : Byte) (l : List Byte) : byteSum (b :: l) = b + byteSum l := by
  rw [byteSum, List.foldl_cons, foldl_add_byte, show (0 : Byte) + b = b from BitVec.zero_add b]
  rfl

@[simp] theorem byteSum_append (l m : List Byte) : byteSum (l ++ m) = byteSum l + byteSum m := by
  induction l with
  | nil => simp
  | cons b l ih => simp [ih, BitVec.add_assoc]

theorem byteSum_eq_sum (l : List Byte) : byteSum l = l.sum := by
  induction l with
  | nil => rfl
  | cons b l ih => simp [ih]

theorem byteSum_toNat (l : List Byte) : (byteSum l).toNat = (l.map BitVec.toNat).sum % 256 := by
  induction l with
  | nil => rfl
  | cons b l ih => simp [BitVec.toNat_add, ih]

theorem byteSum_is_255 (l : List Byte) : byteSum l = 255 ↔ (l.map BitVec.toNat).sum % 256 = 255 := by
  rw [← byteSum_toNat, ← BitVec.toNat_inj]
  rfl

theorem byteOf_toNat {n : Nat} (small : n < 256) : (byteOf n).toNat = n := by
  rw [byteOf, BitVec.toNat_ofNat, Nat.mod_eq_of_lt small]

/-! ## A request's bytes (R162, R171) -/

theorem judgeBytes_complete {command length : Byte} {rest : List Byte} (complete : length.toNat < rest.length)
    (good : byteSum ((command :: length :: rest).take (length.toNat + 3)) = 255) :
    judgeBytes (command :: length :: rest) = .request command (rest.take length.toNat) := by
  simp only [judgeBytes]
  rw [if_pos ⟨complete, good⟩]

theorem judgeBytes_incomplete {command length : Byte} {rest : List Byte} (short : rest.length ≤ length.toNat) :
    judgeBytes (command :: length :: rest) = .broken command := by
  simp only [judgeBytes]
  rw [if_neg fun h => absurd h.1 (by omega)]

theorem judgeBytes_bad_check {command length : Byte} {rest : List Byte}
    (bad : byteSum ((command :: length :: rest).take (length.toNat + 3)) ≠ 255) :
    judgeBytes (command :: length :: rest) = .broken command := by
  simp only [judgeBytes]
  rw [if_neg fun h => bad h.2]

/-- The bytes that spell a request, with fill bytes behind them. -/
def spelled (command : Byte) (arguments fill : List Byte) : List Byte :=
  command :: byteOf arguments.length :: arguments
    ++ [255 - (command + byteOf arguments.length + arguments.sum)] ++ fill

theorem judgeBytes_spelled (command : Byte) {arguments : List Byte} (fill : List Byte) (short : arguments.length < 256) :
    judgeBytes (spelled command arguments fill) = .request command arguments := by
  have length : (byteOf arguments.length).toNat = arguments.length := byteOf_toNat short
  have shape : spelled command arguments fill = command :: byteOf arguments.length ::
      (arguments ++ (255 - (command + byteOf arguments.length + arguments.sum)) :: fill) := by simp [spelled]
  rw [shape, judgeBytes_complete (by simp [length])]
  · simp [length]
  · rw [length, show arguments.length + 3 = arguments.length + 1 + 1 + 1 from rfl, List.take_succ_cons,
      List.take_succ_cons, List.take_append]
    simp only [List.take_of_length_le (Nat.le_succ _), Nat.add_sub_cancel_left, List.take_succ_cons, List.take_zero,
      byteSum_cons, byteSum_append, byteSum_nil, ← byteSum_eq_sum]
    generalize byteSum arguments = total
    bv_omega

/-- A request whose command or whose argument length R171 does not define is none; a block's own length is judged
with its arguments. -/
theorem requestOf_cases (command : Byte) (arguments : List Byte) :
    requestOf command arguments = none ∨
    (command.toNat ∈ [0, 1, 6, 8, 9, 14, 16] ∧ arguments.length = 0) ∨
    (command.toNat ∈ [2, 3, 4, 5, 7, 12, 13] ∧ arguments.length = 1) ∨
    (command.toNat = 10 ∧ arguments.length = 2) ∨ (command.toNat = 11 ∧ arguments.length = 4) ∨
    ∃ offset data, command = 15 ∧ arguments.length = data.length + 2 ∧
      requestOf command arguments = some (.writeConfigBlock offset data) := by
  match arguments with
  | [] =>
    have row : ∀ c : Byte, requestOf c [] = none ∨ c.toNat ∈ [0, 1, 6, 8, 9, 14, 16] := of_decide_eq_true (by rfl)
    exact (row command).imp_right fun h => .inl ⟨h, rfl⟩
  | [a] =>
    have row : ∀ c : Byte, requestOf c [a] = none ∨ c.toNat ∈ [2, 3, 4, 5, 7, 12, 13] := of_decide_eq_true (by rfl)
    exact (row command).imp_right fun h => .inr (.inl ⟨h, rfl⟩)
  | [a, b] =>
    have row : ∀ c : Byte, requestOf c [a, b] = none ∨ c.toNat = 10 ∨ c = 15 := of_decide_eq_true (by rfl)
    rcases row command with none | ten | rfl
    · exact .inl none
    · exact .inr (.inr (.inr (.inl ⟨ten, rfl⟩)))
    · exact .inr (.inr (.inr (.inr (.inr ⟨_, _, rfl, rfl, rfl⟩))))
  | [a, b, d] =>
    have row : ∀ c : Byte, requestOf c [a, b, d] = none ∨ c = 15 := of_decide_eq_true (by rfl)
    rcases row command with none | rfl
    · exact .inl none
    · exact .inr (.inr (.inr (.inr (.inr ⟨_, _, rfl, rfl, rfl⟩))))
  | [a, b, d, e] =>
    have row : ∀ c : Byte, requestOf c [a, b, d, e] = none ∨ c.toNat = 11 ∨ c = 15 := of_decide_eq_true (by rfl)
    rcases row command with none | eleven | rfl
    · exact .inl none
    · exact .inr (.inr (.inr (.inr (.inl ⟨eleven, rfl⟩))))
    · exact .inr (.inr (.inr (.inr (.inr ⟨_, _, rfl, rfl, rfl⟩))))
  | a :: b :: d :: e :: f :: l =>
    have row : ∀ c : Byte, requestOf c (a :: b :: d :: e :: f :: l) = none ∨ c = 15 := of_decide_eq_true (by rfl)
    rcases row command with none | rfl
    · exact .inl none
    · exact .inr (.inr (.inr (.inr (.inr ⟨_, _, rfl, rfl, rfl⟩))))

/-! ## The answer to a request (R162, R163) -/

section
variable {s : State} (f : State → State)

theorem whenTransaction_on (on : s.host.transaction ≠ none) : whenTransaction f s = f s := by
  rw [whenTransaction, if_pos (Option.isSome_iff_ne_none.mpr on)]

theorem whenTransaction_off (off : s.host.transaction = none) : whenTransaction f s = s := by
  simp [whenTransaction, off]

variable (command : Byte) {good : Bool} {admitted : State → Bool}

theorem judged_bad_arguments (bad : good = false) :
    judged command good admitted f s = respond command .refusedArgument [] s := by
  simp [judged, bad]

theorem judged_bad_state (ok : good = true) (bad : admitted s = false) :
    judged command good admitted f s = respond command .refusedState [] s := by
  simp [judged, ok, bad]

theorem judged_acts (ok : good = true) (admits : admitted s = true) : judged command good admitted f s = f s := by
  simp [judged, ok, admits]

variable {listed : State → Nat} {i : Byte}

theorem judgedIndex_before_running (idle : s.running = false) :
    judgedIndex command listed i f s = respond command .refusedState [] s := by
  simp [judgedIndex, idle]

theorem judgedIndex_unlisted (running : s.running = true) (h : listed s ≤ i.toNat) :
    judgedIndex command listed i f s = respond command .refusedArgument [] s := by
  simp [judgedIndex, running, h]

theorem judgedIndex_listed (running : s.running = true) (h : i.toNat < listed s) :
    judgedIndex command listed i f s = f s := by
  simp [judgedIndex, running, h]

end

/-! ## Arguments (R163, R170) -/

theorem channelOf_isSome (b : Byte) : (channelOf b).isSome = decide (b.toNat < 8) := by
  by_cases h : b.toNat < 8 <;> simp [channelOf, h]

theorem boolOf_isSome (b : Byte) : (boolOf b).isSome = decide (b.toNat < 2) := by
  by_cases off : b = 0
  · simp [boolOf, off]
  · by_cases on : b = 1
    · simp [boolOf, on]
    · rw [boolOf, if_neg off, if_neg on, Option.isSome_none, eq_comm, decide_eq_false_iff_not]
      bv_omega

theorem kindsOf_eq (b : Byte) : kindsOf b = if 128 ≤ b.toNat then none else some (kindSetOf b) := by
  have top : b.getLsbD 7 = decide (128 ≤ b.toNat) := by
    rw [← BitVec.msb_eq_getLsbD_last b, BitVec.msb_eq_decide]
  rw [kindsOf, top]
  simp only [decide_eq_true_eq]

theorem stationOf_none {b : Byte} (h : b.toNat = 0 ∨ 62 < b.toNat) : stationOf b = none := by
  rw [stationOf, dif_neg (by omega)]

theorem stationOf_some {b : Byte} (low : 1 ≤ b.toNat) (high : b.toNat ≤ 62) :
    ∃ st : Station, stationOf b = some st ∧ st.val = b.toNat := by
  rw [stationOf, dif_pos ⟨low, high⟩]
  exact ⟨_, rfl, rfl⟩

theorem boolOf_none {b : Byte} (h : 2 ≤ b.toNat) : boolOf b = none := by
  rw [← Option.not_isSome_iff_eq_none, boolOf_isSome, decide_eq_true_iff]
  omega

theorem boolOf_some {b : Byte} (h : b.toNat < 2) : ∃ v, boolOf b = some v := by
  rw [← Option.isSome_iff_exists, boolOf_isSome]
  simpa using h

theorem ackFaults_bad_arguments {p c k n : Byte} (s : State)
    (bad : p.toNat = 0 ∨ 62 < p.toNat ∨ 128 ≤ k.toNat ∨ 2 ≤ n.toNat) :
    takeAckFaults p c k n s = respond 11 .refusedArgument [] s := by
  unfold takeAckFaults
  split
  next st kinds flags station some_kinds some_flags =>
    rcases bad with zero | high | unknown | wrong
    · simp [stationOf_none (.inl zero)] at station
    · simp [stationOf_none (.inr high)] at station
    · simp [kindsOf_eq, unknown] at some_kinds
    · simp [boolOf_none wrong] at some_flags
  · rfl

theorem ackFaults_good_arguments {p k n : Byte} (c : Byte) (s : State) (low : 1 ≤ p.toNat) (high : p.toNat ≤ 62)
    (known : k.toNat < 128) (flag : n.toNat < 2) : ∃ (st : Station) (v : Bool), st.val = p.toNat ∧
      takeAckFaults p c k n s =
        if s.running then ackFaults st c (kindSetOf k) v s else respond 11 .refusedState [] s := by
  obtain ⟨st, station, value⟩ := stationOf_some low high
  obtain ⟨v, flagged⟩ := boolOf_some flag
  refine ⟨st, v, value, ?_⟩
  rw [takeAckFaults, station, flagged, kindsOf_eq, if_neg (by omega)]

theorem not_configurable {s : State}
    (closed : s.running = true ∨ (s.loader.nodeState = .loading ∧ s.loader.source = .memory)) :
    s.configurable = false := by
  rcases closed with running | ⟨loading, memory⟩
  · have state : s.loader.nodeState = .running := by simpa [State.running] using running
    simp [State.configurable, state]
  · simp [State.configurable, loading, memory]

/-- Settles O51. -/
theorem refusedRequests : Obligations.RefusedRequests := by
  intro s on
  have takes (f : State → State) {t : State} (h : f s = t) : Host.Outcome.next (whenTransaction f s) =
      (.next t : Host.Outcome State Fault Refusal) := by rw [whenTransaction_on f on, h]
  refine ⟨fun n v bad => takes _ ?_, fun p c k n bad => takes _ (ackFaults_bad_arguments s bad), takes _ rfl,
    takes _ rfl, fun o d bad => takes _ ?_, fun idle => ⟨fun n v channel value => takes _ ?_,
      fun p c k n low high known flag => takes _ ?_, fun m some_zone => ⟨takes _ ?_, takes _ ?_⟩⟩,
    fun running away => ⟨fun m some_zone => takes _ ?_, fun p c k n low high other known flag => takes _ ?_⟩,
    fun closed => ⟨takes _ ?_, fun o d some_byte few fits => takes _ ?_⟩⟩
  · exact judged_bad_arguments _ _ (by rw [channelOf_isSome, boolOf_isSome]; simp; omega)
  · exact judged_bad_arguments _ _ (decide_eq_false fun h => by simp only [stagingSize] at h; omega)
  · exact judged_bad_state _ _ (by rw [channelOf_isSome, boolOf_isSome]; simp [channel, value]) idle
  · obtain ⟨st, v, value, take⟩ := ackFaults_good_arguments c s low high known flag
    rw [take, idle]
    rfl
  · exact judged_bad_state _ _ (by simpa using some_zone) idle
  · exact judged_bad_state _ _ (by simpa using some_zone) (by simp [idle])
  · exact judged_bad_state _ _ (by simpa using some_zone) (by simp [State.onLine, away])
  · obtain ⟨st, v, value, take⟩ := ackFaults_good_arguments c s low high known flag
    have foreign : st ≠ s.loader.station := fun same => other (by rw [← same, value])
    rw [take, running, if_pos rfl, ackFaults, if_neg foreign, if_pos (by simp [State.onLine, away])]
    rfl
  · exact judged_bad_state _ _ rfl (not_configurable closed)
  · exact judged_bad_state _ _ (decide_eq_true ⟨some_byte, few, fits⟩) (not_configurable closed)

/-! ## A transaction and its bytes (R162) -/

/-- The answers to complete bytes with a good check whose command or length R171 does not define. -/
theorem takeBytes_undefined {command length : Byte} {rest : List Byte} (x : ResetSample) (s : State)
    (complete : length.toNat < rest.length)
    (good : byteSum ((command :: length :: rest).take (length.toNat + 3)) = 255)
    (undefined : ¬ ((command.toNat ∈ [0, 1, 6, 8, 9, 14, 16] ∧ length.toNat = 0) ∨
      (command.toNat ∈ [2, 3, 4, 5, 7, 12, 13] ∧ length.toNat = 1) ∨ (command.toNat = 10 ∧ length.toNat = 2) ∨
      (command.toNat = 11 ∧ length.toNat = 4) ∨ (command.toNat = 15 ∧ 3 ≤ length.toNat ∧ length.toNat ≤ 34))) :
    takeBytes (command :: length :: rest) x s = respond command .refusedArgument [] s := by
  have taken : (rest.take length.toNat).length = length.toNat := by
    rw [List.length_take]
    omega
  simp only [takeBytes, judgeBytes_complete complete good]
  rcases requestOf_cases command (rest.take length.toNat) with
    none | ⟨row, zero⟩ | ⟨row, one⟩ | ⟨ten, two⟩ | ⟨eleven, four⟩ | ⟨offset, data, rfl, size, block⟩
  · rw [none]
  · exact absurd (.inl ⟨row, taken ▸ zero⟩) undefined
  · exact absurd (.inr (.inl ⟨row, taken ▸ one⟩)) undefined
  · exact absurd (.inr (.inr (.inl ⟨ten, taken ▸ two⟩))) undefined
  · exact absurd (.inr (.inr (.inr (.inl ⟨eleven, taken ▸ four⟩)))) undefined
  · have outside : ¬ (3 ≤ length.toNat ∧ length.toNat ≤ 34) :=
      fun h => undefined (.inr (.inr (.inr (.inr ⟨rfl, h⟩))))
    rw [block]
    show takeWriteConfigBlock offset data s = _
    exact judged_bad_arguments _ _ (decide_eq_false fun h => outside (by omega))

/-- Settles O47. -/
theorem transactions : Obligations.Transactions := by
  refine ⟨fun s => ⟨fun held off => ?_, fun refused => ?_, fun t held off begun k => ?_, fun on => ?_⟩, fun s off => ?_⟩
  · show Host.Outcome.next (beginTransaction s) = _
    simp [beginTransaction, held, off]
  · show Host.Outcome.next (beginTransaction s) = _
    rw [beginTransaction, if_pos]
    simpa [Option.isSome_iff_ne_none] using refused
  · have out : t.host.transaction = some s.host.response.bytes := by
      cases begun
      simp [beginTransaction, held, off]
    refine ⟨fun inside => ?_, fun past => ?_, by simp [State.sdo, off]⟩
    · rw [sdo_of_transaction out, List.getD_eq_getElem?_getD, List.getElem?_eq_getElem inside]
      rfl
    · rw [sdo_of_transaction out, List.getD_eq_getElem?_getD, List.getElem?_eq_none past]
      rfl
  · have takes (f : State → State) {t : State} (h : f s = t) : Host.Outcome.next (whenTransaction f s) =
        (.next t : Host.Outcome State Fault Refusal) := by rw [whenTransaction_on f on, h]
    refine ⟨takes _ rfl, fun x command => takes _ rfl, fun x command length rest short => takes _ ?_,
      fun x command length rest complete bad => takes _ ?_,
      fun x command length rest complete good undefined => takes _ ?_⟩
    · simp only [takeBytes, judgeBytes_incomplete short]
      rfl
    · simp only [takeBytes, judgeBytes_bad_check fun h => bad ((byteSum_is_255 _).mp h)]
      rfl
    · exact takeBytes_undefined x s complete ((byteSum_is_255 _).mpr good) undefined
  · have stays (f : State → State) : Host.Outcome.next (whenTransaction f s) =
        (.next s : Host.Outcome State Fault Refusal) := by rw [whenTransaction_off f off]
    exact ⟨stays _, stays _, fun _ => stays _, fun _ => ⟨stays _, stays _, stays _⟩, stays _, fun _ => stays _, stays _,
      stays _, fun _ _ => stays _, fun _ _ _ _ => stays _, fun _ => ⟨stays _, stays _⟩, fun _ => stays _,
      fun _ _ => stays _, stays _, fun _ _ => stays _, stays _⟩

/-! ## Requests and responses read back (R171) -/

/-- Good bytes act as the request they spell. -/
theorem exec_spelled {command : Byte} {arguments : List Byte} (short : arguments.length < 256) {r : Request} {c : Instr}
    {s : State} {x : ResetSample} (request : requestOf command arguments = some r)
    (acts : exec c s = .next (whenTransaction (takeRequest r x) s)) (fill : List Byte) :
    exec (.checkError (spelled command arguments fill) x) s = exec c s := by
  have taken : takeBytes (spelled command arguments fill) x s = takeRequest r x s := by
    simp only [takeBytes, judgeBytes_spelled command fill short, request]
  rw [acts]
  show Host.Outcome.next (whenTransaction (takeBytes (spelled command arguments fill) x) s) = _
  simp only [whenTransaction, taken]

theorem halfBytes_toNat (h : Half) : 256 * (hiByte h).toNat + (loByte h).toNat = h.toNat := by
  simp only [hiByte, loByte, BitVec.extractLsb'_toNat, Nat.shiftRight_eq_div_pow]
  have := h.isLt
  omega

theorem responseBytes_eq (r : Response) : ∃ check, r.bytes =
    r.command :: r.status.code :: hiByte (halfOf r.data.length) :: loByte (halfOf r.data.length) :: r.data ++ [check] ∧
    byteSum r.bytes = 255 := by
  refine ⟨_, rfl, ?_⟩
  show byteSum (_ ++ [_]) = 255
  rw [byteSum_append, byteSum_cons, byteSum_nil]
  generalize byteSum _ = total
  bv_omega

/-- Settles O48. -/
theorem hostBytesReadBack : Obligations.HostBytesReadBack := by
  refine ⟨fun s x fill => ?_, fun r size => ?_⟩
  · exact ⟨exec_spelled (by simp) rfl rfl fill, exec_spelled (by simp) rfl rfl fill,
      fun _ => exec_spelled (by simp) rfl rfl fill, fun _ => exec_spelled (by simp) rfl rfl fill,
      fun _ => exec_spelled (by simp) rfl rfl fill, fun _ => exec_spelled (by simp) rfl rfl fill,
      exec_spelled (by simp) rfl rfl fill, fun _ => exec_spelled (by simp) rfl rfl fill,
      exec_spelled (by simp) rfl rfl fill, exec_spelled (by simp) rfl rfl fill,
      fun _ _ => exec_spelled (by simp) rfl rfl fill, fun _ _ _ _ => exec_spelled (by simp) rfl rfl fill,
      fun _ => exec_spelled (by simp) rfl rfl fill, fun _ => exec_spelled (by simp) rfl rfl fill,
      exec_spelled (by simp) rfl rfl fill,
      fun hi lo data few => exec_spelled (by simp; omega) rfl rfl fill, exec_spelled (by simp) rfl rfl fill⟩
  · obtain ⟨check, shape, sum⟩ := responseBytes_eq r
    have length : (halfOf r.data.length).toNat = r.data.length := by
      rw [halfOf, BitVec.toNat_ofNat, Nat.mod_eq_of_lt size]
    refine ⟨(byteSum_is_255 _).mp sum, by simp [shape], by simp [shape], ?_, ?_, by simp [shape]⟩
    · rw [shape]
      rfl
    · rw [shape]
      exact (halfBytes_toNat _).trans length

end Sys2Proof.Machine
end

section
/-! PROOFS. The host's read requests, the data of their answers, and the configuration requests (O49, O50, O52). -/

namespace Sys2Proof.Machine

open Sys2Proof

/-! ## A read answers (R163, R164) -/

/-- The state in which a response stands and the transaction has ended. -/
def State.answers (s : State) (command : Byte) (status : Status) (t : State) : Prop :=
  ∃ data, t = respond command status data s ∧ (status ≠ .accepted → data = [])

section
variable {s : State} {command : Byte}

theorem answers_accepted (data : List Byte) : s.answers command .accepted (respond command .accepted data s) :=
  ⟨data, rfl, fun h => absurd rfl h⟩

theorem answers_refused (status : Status) : s.answers command status (respond command status [] s) :=
  ⟨[], rfl, fun _ => rfl⟩

/-- A read of an entry that the held image lists. -/
theorem judgedIndex_answers {listed : State → Nat} {i : Byte} {f : State → State} {n : Nat} (count : listed s = n)
    (reads : i.toNat < n → s.answers command .accepted (f s)) :
    s.answers command (if s.running = false then .refusedState else if n ≤ i.toNat then .refusedArgument
      else .accepted) (judgedIndex command listed i f s) := by
  by_cases running : s.running = true
  · rw [if_neg (by simp [running])]
    by_cases unlisted : n ≤ i.toNat
    · rw [if_pos unlisted, judgedIndex_unlisted _ _ running (count ▸ unlisted)]
      exact answers_refused _
    · rw [if_neg unlisted, judgedIndex_listed _ _ running (by omega)]
      exact reads (by omega)
  · rw [if_pos (by simpa using running), judgedIndex_before_running _ _ (by simpa using running)]
    exact answers_refused _

end

theorem readChannel_answers (c : Byte) (s : State) : s.answers 2
    (if 8 ≤ c.toNat then .refusedArgument else if s.running = true then .accepted else .refusedState)
    (takeReadChannel c s) := by
  by_cases none : 8 ≤ c.toNat
  · rw [if_pos none, takeReadChannel, judged_bad_arguments _ _ (by simpa [channelOf_isSome] using none)]
    exact answers_refused _
  · have channel : (channelOf c).isSome = true := by simpa [channelOf_isSome] using none
    by_cases running : s.running = true
    · rw [if_neg none, if_pos running, takeReadChannel, judged_acts _ _ channel running]
      exact answers_accepted _
    · rw [if_neg none, if_neg running, takeReadChannel, judged_bad_state _ _ channel (by simpa using running)]
      exact answers_refused _

theorem readPeer_answers (p : Byte) (s : State) : s.answers 7
    (if 1 ≤ p.toNat ∧ p.toNat ≤ 62 then .accepted else .refusedArgument) (takeReadPeer p s) := by
  by_cases station : 1 ≤ p.toNat ∧ p.toNat ≤ 62
  · obtain ⟨st, some, -⟩ := stationOf_some station.1 station.2
    rw [if_pos station, takeReadPeer, some]
    exact answers_accepted _
  · rw [if_neg station, takeReadPeer, stationOf_none (by omega)]
    exact answers_refused _

theorem readSubscription_answers (i : Byte) {s : State} (h : s.points.length = s.config.subscriptions.length) :
    s.answers 3 (if s.running = false then .refusedState
      else if s.config.subscriptions.length ≤ i.toNat then .refusedArgument else .accepted)
      (takeReadSubscription i s) :=
  judgedIndex_answers h fun inside => by
    rw [List.getElem?_eq_getElem inside, List.getElem?_eq_getElem (h ▸ inside)]
    exact answers_accepted _

theorem readPublication_answers (i : Byte) {s : State} (h : s.pubs.entries.length = s.config.publications.length) :
    s.answers 4 (if s.running = false then .refusedState
      else if s.config.publications.length ≤ i.toNat then .refusedArgument else .accepted)
      (takeReadPublication i s) :=
  judgedIndex_answers h fun inside => by
    rw [List.getElem?_eq_getElem inside, List.getElem?_eq_getElem (h ▸ inside)]
    exact answers_accepted _

theorem readGroup_answers (i : Byte) {s : State} (h : s.groups.length = s.config.memberships.length) :
    s.answers 5 (if s.running = false then .refusedState
      else if s.config.memberships.length ≤ i.toNat then .refusedArgument else .accepted)
      (takeReadGroup i s) :=
  judgedIndex_answers h fun inside => by
    rw [List.getElem?_eq_getElem inside, List.getElem?_eq_getElem (h ▸ inside)]
    exact answers_accepted _

/-! ## The data of POP FAULT LIST and READ EVENTS -/

theorem halfBytes_eq (h : Half) : halfBytes h = [byteOf (h.toNat / 256), byteOf h.toNat] := by
  have low : loByte h = byteOf h.toNat := by
    apply BitVec.eq_of_toNat_eq
    simp [loByte, byteOf]
  have high : hiByte h = byteOf (h.toNat / 256) := by
    apply BitVec.eq_of_toNat_eq
    simp [hiByte, byteOf, Nat.shiftRight_eq_div_pow]
  rw [halfBytes, low, high]

theorem eventsByte_eq : ∀ a b c : Bool, HostEvents.byte ⟨a, b, c⟩ =
    (if a = true then 1 else 0) + (if b = true then 2 else 0) + (if c = true then 4 else 0) := by decide

/-- Settles O49. -/
theorem readRequests : Obligations.ReadRequests := by
  refine ⟨fun s on => ?_, fun s on => ?_⟩
  · have takes (f : State → State) {command : Byte} {status : Status} (h : s.answers command status (f s)) :
        ∃ data, Host.Outcome.next (whenTransaction f s) =
          (.next (respond command status data s) : Host.Outcome State Fault Refusal) ∧
          (status ≠ .accepted → data = []) := by
      obtain ⟨data, result, none⟩ := h
      exact ⟨data, by rw [whenTransaction_on f on, result], none⟩
    exact ⟨congrArg Host.Outcome.next (whenTransaction_on takeNop on), takes takeReadNode (answers_accepted _),
      takes takeReadZones (answers_accepted _), fun c => takes (takeReadChannel c) (readChannel_answers c s),
      fun p => takes (takeReadPeer p) (readPeer_answers p s),
      fun i h => takes (takeReadSubscription i) (readSubscription_answers i h),
      fun i h => takes (takeReadPublication i) (readPublication_answers i h),
      fun i h => takes (takeReadGroup i) (readGroup_answers i h)⟩
  · have takes (f : State → State) {t : State} (h : f s = t) : Host.Outcome.next (whenTransaction f s) =
        (.next t : Host.Outcome State Fault Refusal) := by rw [whenTransaction_on f on, h]
    refine ⟨fun empty => takes _ ?_, fun e es list => takes _ ?_, takes _ ?_⟩
    · simp [takePopFaultList, popBytes, respond, empty, optionalBytes]
      rfl
    · simp [takePopFaultList, popBytes, respond, list, optionalBytes, listEntryBytes, halfBytes_eq, channelByte]
    · rw [takeReadEvents, respond, ← eventsByte_eq]

/-! ## Encodings (R171) -/

theorem faultReason_position (r : FaultReason) : r.position = byteOf ([FaultReason.memoryAbsent, .memoryRead,
    .imageLength, .imageCheck, .formatVersion, .noStation, .fieldRange, .duplicateSubscription, .duplicatePublication,
    .duplicateGroup, .termReference, .groupMembership, .memberBacklink, .timeRange, .inputRole].idxOf r) := by
  cases r <;> rfl

theorem busState_position (x : BusState) :
    x.position = byteOf ([BusState.disabled, .joining, .onLine, .muted, .offLine, .barred].idxOf x) := by
  cases x <;> rfl

theorem joinPhase_position (x : JoinPhase) :
    x.position = byteOf ([JoinPhase.helloQueued, .joinWait, .helloHoldOff].idxOf x) := by
  cases x <;> rfl

theorem entryState_position (x : EntryState) : x.position = byteOf ([EntryState.unknown, .free, .dead, .heldRemote,
    .claiming, .claimed, .heldLocal, .releasingLocal].idxOf x) := by
  cases x <;> rfl

theorem channelState_position (x : ChannelState) : x.position = byteOf ([ChannelState.off, .waiting, .armed,
    .energizing, .on, .disarming, .releasing, .suspended, .locked].idxOf x) := by
  cases x <;> rfl

theorem causeSet_byte : ∀ a b c : Bool, CauseSet.byte ⟨a, b, c⟩ = boolByte a + 2 * boolByte b + 4 * boolByte c := by
  decide

theorem hostEvents_byte : ∀ a b c : Bool,
    HostEvents.byte ⟨a, b, c⟩ = boolByte a + 2 * boolByte b + 4 * boolByte c := by
  decide

theorem latchMask_byte : ∀ a b c d e : Bool, kindSetByte ⟨a, b, c, d, e, false, false⟩ =
    boolByte a + 2 * boolByte b + 4 * boolByte c + 8 * boolByte d + 16 * boolByte e := by
  decide

theorem halfBytes_halfOf (n : Nat) : halfBytes (halfOf n) = [byteOf (n / 256), byteOf n] := by
  have low : byteOf (halfOf n).toNat = byteOf n := by
    apply BitVec.eq_of_toNat_eq
    simp only [byteOf, halfOf, BitVec.toNat_ofNat]
    omega
  have high : byteOf ((halfOf n).toNat / 256) = byteOf (n / 256) := by
    apply BitVec.eq_of_toNat_eq
    simp only [byteOf, halfOf, BitVec.toNat_ofNat]
    omega
  rw [halfBytes_eq, low, high]

theorem halfBytes_flagHalf (f : BitVec 9) : halfBytes (flagHalf f) = [byteOf (f.toNat / 256), byteOf f.toNat] := by
  have value : (flagHalf f).toNat = f.toNat := by
    rw [flagHalf, BitVec.toNat_setWidth, Nat.mod_eq_of_lt (by have := f.isLt; omega)]
  rw [halfBytes_eq, value]

theorem mapFrom_length {α β : Type} (f : Nat → α → β) (i : Nat) (l : List α) : (mapFrom f i l).length = l.length := by
  induction l generalizing i with
  | nil => rfl
  | cons a l ih => simp [mapFrom, ih]

/-! ## Each part of READ NODE's data, and the other reads' -/

/-- The list of what a function gives of each of the eight. -/
theorem Eight.toList_map {α β : Type} (e : Eight α) (f : α → β) :
    e.toList.map f = [0, 1, 2, 3, 4, 5, 6, 7].flatMap fun n => [f (e.get n)] := rfl

theorem Eight.toList_flatMap {α β : Type} (e : Eight α) (f : α → List β) :
    e.toList.flatMap f = [0, 1, 2, 3, 4, 5, 6, 7].flatMap fun n => f (e.get n) := rfl

theorem takeReadPeer_station {s : State} {st : Station} {x : Peer} (low : 1 ≤ st.val) (high : st.val ≤ 62)
    (peer : s.faults.peers[st.val - 1]? = some x) :
    takeReadPeer (byteOf st.val) s = respond 7 .accepted (peerBytes x) s := by
  have value : (byteOf st.val).toNat = st.val := byteOf_toNat (by omega)
  obtain ⟨st', some, same⟩ := stationOf_some (b := byteOf st.val) (by omega) (by omega)
  obtain rfl : st' = st := Fin.ext (by omega)
  simp only [takeReadPeer, some, peerIndex, List.getD_eq_getElem?_getD, peer, Option.getD_some]

section
variable {s : State} (running : s.running = true) {i : Byte}
include running

theorem takeReadSubscription_listed {cfg : SubscriptionConfig} {x : Subscription}
    (listed : s.config.subscriptions[i.toNat]? = some cfg) (entry : s.points[i.toNat]? = some x) :
    takeReadSubscription i s = respond 3 .accepted (subscriptionBytes cfg x) s := by
  rw [takeReadSubscription, judgedIndex_listed _ _ running (List.getElem?_eq_some_iff.mp entry).1, listed, entry]

theorem takeReadPublication_listed {cfg : PublicationConfig} {x : Publication}
    (listed : s.config.publications[i.toNat]? = some cfg) (entry : s.pubs.entries[i.toNat]? = some x) :
    takeReadPublication i s = respond 4 .accepted (publicationBytes cfg x s) s := by
  rw [takeReadPublication, judgedIndex_listed _ _ running (List.getElem?_eq_some_iff.mp entry).1, listed, entry]

theorem takeReadGroup_listed {cfg : MembershipConfig} {x : Entry}
    (listed : s.config.memberships[i.toNat]? = some cfg) (entry : s.groups[i.toNat]? = some x) :
    takeReadGroup i s = respond 5 .accepted (groupBytes cfg x) s := by
  rw [takeReadGroup, judgedIndex_listed _ _ running (List.getElem?_eq_some_iff.mp entry).1, listed, entry]

theorem takeReadChannel_number (c : Fin 8) :
    takeReadChannel (byteOf c.val) s = respond 2 .accepted (channelBytes c s) s := by
  have value : (byteOf c.val).toNat = c.val := byteOf_toNat (by omega)
  have same : eightOf c.val = c := by simp [eightOf]
  rw [takeReadChannel, judged_acts _ _ (by rw [channelOf_isSome, value]; simp) running, value, same]

end

/-- Settles O50. -/
theorem readData : Obligations.ReadData := by
  intro s on flag two maybe maybeMark number answers eight held level
  have takes (f : State → State) {data : List Byte} (h : (f s).host.response.data = data) :
      ∃ t, Host.Outcome.next (whenTransaction f s) = (.next t : Host.Outcome State Fault Refusal) ∧
        t.host.response.data = data := ⟨f s, by rw [whenTransaction_on f on], h⟩
  have flagged (b : Bool) : boolByte b = flag b := rfl
  have optional (o : Option Byte) : optionalByte o = maybe o := by cases o <;> rfl
  have half (h : Half) : halfBytes h = two h.toNat := halfBytes_eq h
  have halves (o : Option Half) : optionalHalf o = maybeMark o := by
    cases o with
    | none => rfl
    | some h => exact congrArg (1 :: ·) (half h)
  have counted (n : Nat) : halfBytes (halfOf n) = two n := halfBytes_halfOf n
  have while_held (b : Byte) : optionalByte (whileHeld s b) = held b := by
    by_cases running : s.running = true <;> simp [whileHeld, held, running, optionalByte, optionalBytes]
  have levelled (b : Bool) : levelByte b = level b := rfl
  refine ⟨takes _ ?_, takes _ ?_, fun st x low high peer => takes _ ?_, fun running => ⟨fun i cfg x listed entry => takes _ ?_,
    fun i cfg x listed entry => takes _ ?_, fun i cfg x listed entry => takes _ ?_, fun c => ?_⟩⟩
  · show nodeBytes s = _
    have events : s.host.events.byte = flag s.host.events.zoneChange + 2 * flag s.host.events.lockChange
        + 4 * flag s.host.events.nodeFlag := hostEvents_byte _ _ _
    have reason : s.loader.reason.map FaultReason.position = s.loader.reason.map (fun r => byteOf
        ([FaultReason.memoryAbsent, .memoryRead, .imageLength, .imageCheck, .formatVersion, .noStation, .fieldRange,
          .duplicateSubscription, .duplicatePublication, .duplicateGroup, .termReference, .groupMembership,
          .memberBacklink, .timeRange, .inputRole].idxOf r)) :=
      congrArg (Option.map · s.loader.reason) (funext faultReason_position)
    have phase : s.bus.phase.map JoinPhase.position = s.bus.phase.map fun p =>
        byteOf ([JoinPhase.helloQueued, .joinWait, .helloHoldOff].idxOf p) :=
      congrArg (Option.map · s.bus.phase) (funext joinPhase_position)
    have item : optionalHalf (s.loader.item.map halfOf) =
        (match s.loader.item with | some i => 1 :: two i | none => [0, 0, 0]) := by
      cases s.loader.item with
      | none => rfl
      | some i => exact congrArg (1 :: ·) (counted i)
    have flags (f : BitVec 9) : halfBytes (flagHalf f) = two f.toNat := halfBytes_flagHalf f
    have drive : optionalBytes 2 (fun w => [boolByte (driveEnable w), driveBits w]) s.link.driveWord =
        (match s.link.driveWord with
          | some w => [1, flag (driveEnable w), driveBits w] | none => [0, 0, 0]) := by
      cases s.link.driveWord <;> rfl
    have feedback : optionalBytes 2 (fun f => [f.bits, boolByte f.supplyLow]) s.channels.feedback =
        (match s.channels.feedback with
          | some f => [1, f.bits, flag f.supplyLow] | none => [0, 0, 0]) := by
      cases s.channels.feedback <;> rfl
    simp only [nodeBytes, loaderBytes, busBytes, markBytes, linkBytes, inputBytes, Eight.toList_map,
      Eight.toList_flatMap, while_held, flags, item, drive, feedback]
    simp only [optional, half, halves, flagged, levelled, events, reason, phase, busState_position, countedBytes,
      ← List.map_eq_flatMap, List.append_assoc]
    rfl
  · show zonesBytes s = _
    have cause (o : Option TripCause) : optionalByte (o.map TripCause.code) =
        maybe (o.map fun k => match k with | .input => 1 | .host => 2 | .reassert => 3) := by
      rcases o with _ | _ | _ <;> rfl
    simp only [zonesBytes, Eight.toList_flatMap, zoneBytes, cause]
    simp only [optional, flagged]
    rfl
  · rw [takeReadPeer_station low high peer]
    show peerBytes x = _
    have status : optionalBytes 10 (fun st => st.info.bytes ++ halfBytes st.arrival) x.status =
        (match x.status with
          | some r => 1 :: two r.info.flags.toNat ++ [r.info.drive, r.info.locked, r.info.sticky, r.info.tripped]
              ++ two r.info.mark.toNat ++ two r.arrival.toNat
          | none => [0, 0, 0, 0, 0, 0, 0, 0, 0, 0, 0]) := by
      cases x.status with
      | none => rfl
      | some r =>
        have flags : halfBytes (flagHalf r.info.flags) = two r.info.flags.toNat := halfBytes_flagHalf _
        simp only [optionalBytes, StatusInfo.bytes, flags, half, List.append_assoc, List.cons_append]
    simp only [peerBytes, halves, status]
    rfl
  · rw [takeReadSubscription_listed running listed entry]
    show subscriptionBytes cfg x = _
    simp only [subscriptionBytes, counted, optional, halves]
    rfl
  · rw [takeReadPublication_listed running listed entry]
    show publicationBytes cfg x s = _
    simp only [publicationBytes, counted, optional, flagged]
    rfl
  · rw [takeReadGroup_listed running listed entry]
    show groupBytes cfg x = _
    have holder : optionalBytes 2 holderBytes x.holder =
        (match x.holder with
          | some h => [1, byteOf h.station.val, number h.channel] | none => [0, 0, 0]) := by
      cases x.holder <;> rfl
    simp only [groupBytes, counted, optional, flagged, holder, entryState_position, countedBytes, ← List.map_eq_flatMap]
    rfl
  · refine takes (takeReadChannel (number c)) ?_
    rw [takeReadChannel_number running]
    show channelBytes c s = _
    have terms : (termValues s c).length = (s.cfg c).terms.length := mapFrom_length _ _ _
    have causes : (s.chan c).causes.byte = flag (s.chan c).causes.trip + 2 * flag (s.chan c).causes.shutdown
        + 4 * flag (s.chan c).causes.fault := causeSet_byte _ _ _
    have term : termBytes = fun v => match v with | some b => [1, 1, flag b] | none => [0, 0, 0] := by
      funext v
      cases v <;> rfl
    simp only [channelBytes, channelConfigBytes, channelRunBytes, faultRecordBytes, kindRecordBytes, latchMask_byte,
      causes, terms, term, channelState_position, countedBytes, counted, optional, halves, List.append_assoc]
    rfl

/-! ## Configuration requests (R158, R167) -/

theorem configurable_of {s : State}
    (h : s.loader.nodeState = .configFault ∨ (s.loader.nodeState = .loading ∧ s.loader.source = .host)) :
    s.configurable = true := by
  rcases h with fault | ⟨loading, host⟩ <;> simp [State.configurable, *]

theorem respond_eq (command : Byte) (status : Status) (data : List Byte) (u : State) :
    respond command status data u = { u with host := { u.host with
      transaction := none, response := { command := command, status := status, data := data } } } := rfl

theorem respond_running (command : Byte) (status : Status) (data : List Byte) (u : State) :
    (respond command status data u).running = u.running := rfl

theorem respond_image (command : Byte) (status : Status) (data : List Byte) (u : State) :
    (respond command status data u).loader.image = u.loader.image := rfl

theorem respond_busState (command : Byte) (status : Status) (data : List Byte) (u : State) :
    (respond command status data u).bus.state = u.bus.state := rfl

theorem enterRunning_joins (img : Image) (s : State) : (enterRunning img s).bus.state = .joining := by
  obtain ⟨u, hu⟩ : ∃ u, u = startOccurrences (s.firstInputs img) := ⟨_, rfl⟩
  have before : Steady (takeImage img s) u := hu ▸ (firstInputs_steady img s).trans (startOccurrences_steady _)
  have offLine : u.onLine = false := before.onLine
  have demands (t : State) : Steady t (each8 evaluate t) := .each8 Steady.evaluate t
  have result : enterRunning img s = buildDue (each8 evaluate (enterJoining u)) := by rw [hu]; rfl
  rw [result]
  exact (((enterJoining_turn offLine).steady (demands _)).steady (.buildDue _)).state

/-- Settles O52. -/
theorem configurationRequests : Obligations.ConfigurationRequests := by
  intro s on sound node
  have admits := configurable_of node
  refine ⟨fun o d some_byte few fits => ?_, fun reason item refused => ?_, fun img accepted => ?_⟩
  · refine ⟨Memory.writeBytes s.loader.staging o.toNat d, ?_, staged_read sound fits⟩
    show Host.Outcome.next (whenTransaction (takeWriteConfigBlock o d) s) = _
    rw [whenTransaction_on _ on, takeWriteConfigBlock, judged_acts _ _ (decide_eq_true ⟨some_byte, few, fits⟩) admits]
    rfl
  · have judge : judgeImage s = enterConfigFault reason item s := by simp only [judgeImage, refused]
    show Host.Outcome.next (whenTransaction takeCommitConfig s) = _
    rw [whenTransaction_on _ on, takeCommitConfig, judged_acts _ _ rfl admits, judge]
    rfl
  · have judge : judgeImage s = enterRunning img s := by simp only [judgeImage, accepted]
    have running : (enterRunning img s).running = true := by
      rw [State.running, enterRunning_loader]
      rfl
    refine ⟨respond 16 .accepted [] (enterRunning img s), ?_, respond_eq 16 .accepted [] (enterRunning img s), ?_, ?_, ?_⟩
    · show Host.Outcome.next (whenTransaction takeCommitConfig s) = _
      rw [whenTransaction_on _ on, takeCommitConfig, judged_acts _ _ rfl admits, judge]
      simp only [running, if_true]
    · rw [respond_running, running]
    · rw [respond_image, enterRunning_loader]
      rfl
    · rw [respond_busState, enterRunning_joins]

end Sys2Proof.Machine
end

section
/-! PROOFS. A channel that starts, stops and takes a demand change; the demand that its sources give (R3 to R5, R9, R10). -/

namespace Sys2Proof.Machine

open Sys2Proof

/-! ## A channel starts (R9) -/

/-- The state that a channel starts with. -/
def ChannelConfig.startState (x : ChannelConfig) : ChannelState :=
  match x.group, x.timing with
  | some _, _ => .waiting
  | none, .marked => .armed
  | none, .immediate => .energizing

section
variable (c : Fin 8) (s : State)

theorem messageOf_none {m : ToGroupMsg} (h : (s.cfg c).group = none) : s.messageOf c m = [] := by
  simp [State.messageOf, h]

theorem startChannel_chan : (startChannel c s).chan c =
    { s.chan c with state := (s.cfg c).startState, confirm := confirmAtEntry (s.cfg c).startState s, offCheck := none } := by
  unfold startChannel
  split
  next e group =>
    have state : (s.cfg c).startState = .waiting := by simp [ChannelConfig.startState, group]
    rw [state]
    simp [confirmAtEntry, ChannelState.confirmedOn]
  next group =>
    split
    next timing =>
      have state : (s.cfg c).startState = .armed := by simp [ChannelConfig.startState, group, timing]
      rw [state]
      simp [confirmAtEntry, ChannelState.confirmedOn]
    next timing =>
      have state : (s.cfg c).startState = .energizing := by simp [ChannelConfig.startState, group, timing]
      rw [state]
      simp [confirmAtEntry, ChannelState.confirmedOn]

theorem startChannel_sentBy : (startChannel c s).sentBy c = s.sentBy c ++ s.messageOf c .request := by
  unfold startChannel
  split
  next group => simp
  next group => split <;> simp [messageOf_none, group]

/-- A channel acts on its demand in OFF (R9). -/
def State.starts (s : State) (c : Fin 8) : Bool :=
  (s.chan c).demand && !(s.chan c).rearm && s.pathReady && (s.cfg c).enabled

theorem startIfDue_of_due (h : s.starts c = true) : startIfDue c s = startChannel c s := if_pos h

theorem startIfDue_of_not_due (h : s.starts c = false) : startIfDue c s = s :=
  if_neg (by rw [State.starts] at h; simp only [h]; exact Bool.false_ne_true)

theorem seeDemandInOff_off (h : (s.chan c).demand = false) :
    seeDemandInOff c s = modChan c (fun r => { r with rearm := false }) s := if_neg (by simp [h])

theorem seeDemandInOff_on (h : (s.chan c).demand = true) : seeDemandInOff c s = startIfDue c s := if_pos h

/-! ## Entry to OFF (R10) -/

/-- The record as a channel enters OFF. -/
theorem enterState_off_chan : (enterState .off c s).chan c =
    { s.chan c with state := .off, confirm := none, offCheck := none } := by
  simp [confirmAtEntry, ChannelState.confirmedOn]

theorem enterState_off_starts : (enterState .off c s).starts c = s.starts c := by
  rw [State.starts, enterState_off_chan]
  simp [State.starts]

theorem enterOff_demand_off (h : (s.chan c).demand = false) :
    (enterOff c s).chan c = { s.chan c with state := .off, rearm := false, confirm := none, offCheck := none } ∧
    (enterOff c s).sentBy c = s.sentBy c := by
  rw [enterOff, seeDemandInOff_off _ _ (by simpa using h)]
  simp [confirmAtEntry, ChannelState.confirmedOn]

theorem enterOff_not_due (on : (s.chan c).demand = true) (h : s.starts c = false) :
    (enterOff c s).chan c = { s.chan c with state := .off, confirm := none, offCheck := none } ∧
    (enterOff c s).sentBy c = s.sentBy c := by
  rw [enterOff, seeDemandInOff_on _ _ (by simpa using on),
    startIfDue_of_not_due _ _ ((enterState_off_starts c s).trans h)]
  simp [confirmAtEntry, ChannelState.confirmedOn]

theorem enterOff_due (h : s.starts c = true) :
    (enterOff c s).chan c = { s.chan c with
      state := (s.cfg c).startState, confirm := confirmAtEntry (s.cfg c).startState s, offCheck := none } ∧
    (enterOff c s).sentBy c = s.sentBy c ++ s.messageOf c .request := by
  have on : (s.chan c).demand = true := by
    simp only [State.starts, Bool.and_eq_true] at h
    exact h.1.1.1
  rw [enterOff, seeDemandInOff_on _ _ (by simpa using on),
    startIfDue_of_due _ _ ((enterState_off_starts c s).trans h), startChannel_chan, startChannel_sentBy,
    enterState_off_chan]
  simp [confirmAtEntry]

end

/-- What entry to OFF does, by the demand and by what R9 asks for. -/
theorem enterOff_cases (c : Fin 8) (s : State) : ∃ r,
    (enterOff c s).chan c = r ∧ r.causes = (s.chan c).causes ∧ r.demand = (s.chan c).demand ∧
      r.handBack = (s.chan c).handBack ∧ r.holdOvers = (s.chan c).holdOvers := by
  by_cases off : (s.chan c).demand = false
  · exact ⟨_, (enterOff_demand_off c s off).1, rfl, rfl, rfl, rfl⟩
  · have on : (s.chan c).demand = true := by simpa using off
    by_cases due : s.starts c = true
    · exact ⟨_, (enterOff_due c s due).1, rfl, rfl, rfl, rfl⟩
    · exact ⟨_, (enterOff_not_due c s on (by simpa using due)).1, rfl, rfl, rfl, rfl⟩

/-! ## A demand change (section 1.6) -/

section
variable (c : Fin 8) (s : State)

/-- The state in which a channel has the new demand, before it acts on it. -/
def State.demanded (s : State) (c : Fin 8) (d : Bool) : State := modChan c (fun r => { r with demand := d }) s

theorem demanded_reads (d : Bool) : (s.demanded c d).chan c = { s.chan c with demand := d } ∧
    (s.demanded c d).sentBy c = s.sentBy c ∧ (s.demanded c d).cfg c = s.cfg c ∧
    (s.demanded c d).pathReady = s.pathReady ∧ (s.demanded c d).messageOf c = s.messageOf c ∧
    (s.demanded c d).now = s.now ∧ (s.demanded c d).link = s.link := by
  simp [State.demanded]

theorem fallFromOn_took (off : (s.chan c).state = .on) :
    (fallFromOn c s).sentBy c = s.sentBy c ∧
    match (s.cfg c).timing with
    | .marked => (fallFromOn c s).chan c = { s.chan c with state := .disarming, confirm := none }
    | .immediate => (fallFromOn c s).chan c = { s.chan c with
        state := .releasing, target := .off, offCheck := none,
        confirm := if s.link.up = true then some (s.now + 5000) else none } := by
  unfold fallFromOn
  cases timing : (s.cfg c).timing <;>
    simp [enterReleasing, confirmAtEntry, ChannelState.confirmedOn, off, Config.confirmTime]

end

theorem demandChange_took (c : Fin 8) (d : Bool) (s : State) : s.tookDemand (demandChange c d s) d c := by
  obtain ⟨chan, sent, cfg, ready, message, now, link⟩ := demanded_reads c s d
  have change : demandChange c d s = match (s.chan c).state with
    | .off => seeDemandInOff c (s.demanded c d)
    | .waiting => if d then s.demanded c d else enterOff c (sendToGroup c .cancel (s.demanded c d))
    | .armed => if d then s.demanded c d else enterOff c (sendToGroup c .doneNeverDriven (s.demanded c d))
    | .on => if d then s.demanded c d else fallFromOn c (s.demanded c d)
    | .disarming => if d then enterState .on c (s.demanded c d) else s.demanded c d
    | .energizing | .releasing | .suspended | .locked => s.demanded c d := rfl
  rw [change, State.tookDemand]
  clear change
  generalize s.demanded c d = t at *
  have demand : (t.chan c).demand = d := by rw [chan]
  generalize s.chan c = r at *
  obtain ⟨state, demanded, causes, target, rearm, handBack, confirm, offCheck, holdOvers⟩ := r
  dsimp only at *
  cases state <;> dsimp only
  case off =>
    cases d with
    | false =>
      rw [seeDemandInOff_off _ _ demand, if_pos rfl]
      simp [chan, sent]
    | true =>
      have due : t.starts c = (!rearm && s.pathReady && (s.cfg c).enabled) := by
        simp [State.starts, chan, ready, cfg]
      rw [seeDemandInOff_on _ _ demand, if_neg (by decide)]
      by_cases starts : t.starts c = true
      · have clear : rearm = false := by
          rw [due, Bool.and_eq_true, Bool.and_eq_true] at starts
          simpa using starts.1.1
        rw [startIfDue_of_due _ _ starts, ← due, if_neg (by simp [starts]), startChannel_chan, startChannel_sentBy, sent,
          message, cfg]
        refine ⟨demand, by rw [chan, clear], rfl, rfl, fun energizing => ?_⟩
        rw [show (s.cfg c).startState = .energizing from energizing]
        simp [confirmAtEntry, now, Config.confirmTime]
      · rw [startIfDue_of_not_due _ _ (by simpa using starts), ← due, if_pos (by simpa using starts)]
        exact ⟨chan, sent⟩
  case waiting =>
    cases d with
    | true => exact ⟨chan, sent⟩
    | false =>
      obtain ⟨record, sends⟩ := enterOff_demand_off c (sendToGroup c .cancel t) (by simpa using demand)
      simp only [Bool.false_eq_true, if_false, record, sends]
      simp [chan, sent, message]
  case armed =>
    cases d with
    | true => exact ⟨chan, sent⟩
    | false =>
      obtain ⟨record, sends⟩ := enterOff_demand_off c (sendToGroup c .doneNeverDriven t) (by simpa using demand)
      simp only [Bool.false_eq_true, if_false, record, sends]
      simp [chan, sent, message]
  case on =>
    cases d with
    | true => exact ⟨chan, sent⟩
    | false =>
      obtain ⟨sends, falls⟩ := fallFromOn_took c t (by rw [chan])
      simp only [Bool.false_eq_true, if_false, sends]
      rw [cfg] at falls
      cases timing : (s.cfg c).timing <;> rw [timing] at falls <;> simp [falls, chan, sent, now, link]
  case disarming =>
    cases d with
    | false => exact ⟨chan, sent⟩
    | true => simp [chan, sent, ChannelState.confirmedOn]
  all_goals exact ⟨chan, sent⟩

/-- A demand change leaves the channel with that demand, and with the causes, the hand-back and the hold-over timers
it had. -/
theorem demandChange_settles (c : Fin 8) (d : Bool) (s : State) :
    ((demandChange c d s).chan c).demand = d ∧ ((demandChange c d s).chan c).causes = (s.chan c).causes ∧
    ((demandChange c d s).chan c).handBack = (s.chan c).handBack ∧
    ((demandChange c d s).chan c).holdOvers = (s.chan c).holdOvers := by
  have seen (t : State) : ((seeDemandInOff c t).chan c).demand = (t.chan c).demand ∧
      ((seeDemandInOff c t).chan c).causes = (t.chan c).causes ∧
      ((seeDemandInOff c t).chan c).handBack = (t.chan c).handBack ∧
      ((seeDemandInOff c t).chan c).holdOvers = (t.chan c).holdOvers := by
    by_cases off : (t.chan c).demand = false
    · rw [seeDemandInOff_off _ _ off]
      simp
    · rw [seeDemandInOff_on _ _ (by simpa using off)]
      by_cases due : t.starts c = true
      · rw [startIfDue_of_due _ _ due, startChannel_chan]
        exact ⟨rfl, rfl, rfl, rfl⟩
      · rw [startIfDue_of_not_due _ _ (by simpa using due)]
        exact ⟨rfl, rfl, rfl, rfl⟩
  have entered (t : State) : ((enterOff c t).chan c).demand = (t.chan c).demand ∧
      ((enterOff c t).chan c).causes = (t.chan c).causes ∧
      ((enterOff c t).chan c).handBack = (t.chan c).handBack ∧
      ((enterOff c t).chan c).holdOvers = (t.chan c).holdOvers := by
    simpa [enterOff] using seen (enterState .off c t)
  unfold demandChange
  (repeat' split) <;> simp [seen, entered, fallFromOn, enterReleasing]
  split <;> simp

/-! ## The sources of a channel's demand (R3 to R5) -/

/-- Two states in which channel c has the same sources, under the same image, with the same hold-over timers. -/
structure SameSources (c : Fin 8) (s t : State) : Prop where
  loader : t.loader = s.loader
  inputs : t.inputs = s.inputs
  hostPoints : t.host.points = s.host.points
  points : t.points = s.points
  holdOvers : (t.chan c).holdOvers = (s.chan c).holdOvers

namespace SameSources

variable {c : Fin 8} {s t u : State}

theorem refl (c : Fin 8) (s : State) : SameSources c s s := ⟨rfl, rfl, rfl, rfl, rfl⟩

theorem trans (h : SameSources c s t) (k : SameSources c t u) : SameSources c s u :=
  ⟨k.loader.trans h.loader, k.inputs.trans h.inputs, k.hostPoints.trans h.hostPoints, k.points.trans h.points,
    k.holdOvers.trans h.holdOvers⟩

/-- The same sources give the same demand. -/
theorem evalDemand (h : SameSources c s t) : evalDemand t c = evalDemand s c := by
  have cfg : t.cfg c = s.cfg c := by simp [State.cfg, State.config, h.loader]
  have raw (slot : Fin 4) (x : Term) : rawTermValue t c slot x = rawTermValue s c slot x := by
    unfold rawTermValue
    simp only [State.senseOn, State.config, h.loader, h.inputs, h.hostPoints, h.points, h.holdOvers, cfg]
  simp only [Machine.evalDemand, termValues, termValue, raw, cfg]

end SameSources

theorem evaluate_sources (c d : Fin 8) (s : State) : SameSources c s (evaluate d s) := by
  refine ⟨by simp, by simp, by simp, by simp, ?_⟩
  by_cases same : c = d
  · subst same
    unfold evaluate
    dsimp only
    split
    · rfl
    · exact (demandChange_settles c _ s).2.2.2
  · simp [same]

/-- What an evaluation leaves of its channel, and the demand it settles. -/
theorem evaluate_settles (c : Fin 8) (s : State) : ((evaluate c s).chan c).demand = evalDemand s c ∧
    ((evaluate c s).chan c).causes = (s.chan c).causes := by
  unfold evaluate
  dsimp only
  split
  next same => exact ⟨(eq_of_beq same).symm, rfl⟩
  · exact ⟨(demandChange_settles c _ s).1, (demandChange_settles c _ s).2.1⟩

theorem evaluate_evaluated (c : Fin 8) (s : State) : s.evaluated (evaluate c s) c := by
  rw [State.evaluated, (evaluate_sources c c s).evalDemand]
  unfold evaluate
  dsimp only
  split
  · exact ⟨rfl, rfl⟩
  · exact demandChange_took c _ s

/-! ## Likeness for a channel and its sources -/

/-- Two states that are alike for channel c, its sources included. -/
structure AlikeSources (c : Fin 8) (s t : State) : Prop extends Alike c s t where
  inputs : t.inputs = s.inputs
  hostPoints : t.host.points = s.host.points
  points : t.points = s.points

namespace AlikeSources

variable {c : Fin 8} {s t u : State}

theorem refl (c : Fin 8) (s : State) : AlikeSources c s s := ⟨.refl c s, rfl, rfl, rfl⟩

theorem trans (h : AlikeSources c s t) (k : AlikeSources c t u) : AlikeSources c s u :=
  ⟨h.toAlike.trans k.toAlike, k.inputs.trans h.inputs, k.hostPoints.trans h.hostPoints, k.points.trans h.points⟩

theorem sources (h : AlikeSources c s t) : SameSources c s t :=
  ⟨h.loader, h.inputs, h.hostPoints, h.points, by rw [h.chan]⟩

theorem evalDemand (h : AlikeSources c s t) : evalDemand t c = evalDemand s c := h.sources.evalDemand

end AlikeSources

section
variable {c : Fin 8} {s s' t t' : State} {d : Bool}

theorem Alike.tookDemand (h : Alike c s s') (h' : Alike c t t') (r : s.tookDemand t d c) : s'.tookDemand t' d c := by
  unfold State.tookDemand at r ⊢
  rw [h.chan, h'.chan, h.sent, h'.sent, h.cfg, h.pathReady, h.messageOf, h.now, h.link]
  exact r

theorem AlikeSources.evaluated (h : Alike c s s') (h' : AlikeSources c t t') (r : s.evaluated t c) :
    s'.evaluated t' c := by
  unfold State.evaluated at r ⊢
  rw [h'.evalDemand, h.chan]
  split at r
  next same => rw [if_pos same]; exact h.sameChannel h'.toAlike r
  next change => rw [if_neg change]; exact h.tookDemand h'.toAlike r

end

/-! ## Every channel with a term on a source evaluates its demand (R5) -/

theorem evaluate_alike {c d : Fin 8} (other : d ≠ c) (s : State) : AlikeSources c s (evaluate d s) := by
  refine ⟨⟨by simp, by simp, by simp, by simp, ?_, ?_⟩, by simp, by simp, by simp⟩
  · exact (evaluate_local other.symm s).1
  · exact (evaluate_local other.symm s).2.1

/-- The evaluation of the users of a source is, for each channel, its own. -/
theorem evaluateUsers_around (p : TermSource → Bool) (c : Fin 8) (s : State) : ∃ u, AlikeSources c s u ∧
    AlikeSources c (if u.usesSource p c then evaluate c u else u) (evaluateUsers p s) :=
  each8_around (f := fun c s => if s.usesSource p c then evaluate c s else s) (AlikeSources.refl c) AlikeSources.trans c
    (fun d other t => by
    split
    · exact evaluate_alike other t
    · exact .refl c t) s

section
variable {p : TermSource → Bool} {c : Fin 8} {s : State}

theorem usesSource_alike {t : State} (h : AlikeSources c s t) : t.usesSource p c = s.usesSource p c := by
  simp only [State.usesSource, h.cfg]

theorem evaluateUsers_evaluated (uses : s.usesSource p c = true) : s.evaluated (evaluateUsers p s) c ∧
    ((evaluateUsers p s).chan c).demand = evalDemand (evaluateUsers p s) c ∧
    ((evaluateUsers p s).chan c).causes = (s.chan c).causes := by
  obtain ⟨u, before, after⟩ := evaluateUsers_around p c s
  rw [usesSource_alike before, uses, if_pos rfl] at after
  obtain ⟨demand, causes⟩ := evaluate_settles c u
  refine ⟨AlikeSources.evaluated before.symm after (evaluate_evaluated c u), ?_, ?_⟩
  · rw [after.chan, after.evalDemand, (evaluate_sources c c u).evalDemand, demand]
  · rw [after.chan, causes, before.chan]

theorem evaluateUsers_other (uses : s.usesSource p c = false) : AlikeSources c s (evaluateUsers p s) := by
  obtain ⟨u, before, after⟩ := evaluateUsers_around p c s
  rw [usesSource_alike before, uses, if_neg (by decide)] at after
  exact before.trans after

end

/-! ## The publications of a source become pending (R86) -/

theorem pendWhere_waiting {p : PublicationConfig → Bool} {i : Nat} {cfg : PublicationConfig} (named : p cfg = true)
    {cs : List PublicationConfig} {es : List Publication} (listed : cs[i]? = some cfg) (inside : i < es.length) :
    ((pendWhere p cs es).map Publication.waiting)[i]? = some true := by
  induction cs generalizing i es with
  | nil => simp at listed
  | cons x cs ih =>
    cases es with
    | nil => simp at inside
    | cons e es =>
      cases i with
      | zero =>
        obtain rfl : x = cfg := by simpa using listed
        simp [pendWhere, named]
      | succ i => simpa [pendWhere] using ih (by simpa using listed) (by simpa using inside)

@[simp] theorem pendWhere_length (p : PublicationConfig → Bool) (cs : List PublicationConfig) (es : List Publication) :
    (pendWhere p cs es).length = es.length := by
  induction cs generalizing es with
  | nil => rfl
  | cons x cs ih => cases es <;> simp [pendWhere, ih]

theorem pendSource_waiting {source : PubSource} {s : State} {i : Nat} (inside : i < s.pubs.entries.length)
    (named : (s.config.publications.map PublicationConfig.source)[i]? = some source) :
    ((pendSource source s).pubs.entries.map Publication.waiting)[i]? = some true := by
  obtain ⟨cfg, listed, rfl⟩ := by simpa using named
  exact pendWhere_waiting (by simp) listed inside

/-! ## Publications that become pending, and no others (R86) -/

/-- A publication as it was, or as it was but pending. -/
def Publication.pends (e e' : Publication) : Prop := e' = e ∨ e' = { e with waiting := true }

theorem Publication.pends.trans {e e' e'' : Publication} (h : e.pends e') (k : e'.pends e'') : e.pends e'' := by
  rcases h with rfl | rfl
  · exact k
  · rcases k with rfl | rfl <;> exact .inr rfl

/-- From s to t, publications became pending, and nothing else of the Publication Table changed. -/
structure PendsOnly (s t : State) : Prop where
  blocked : t.pubs.blocked = s.pubs.blocked
  length : t.pubs.entries.length = s.pubs.entries.length
  entry : ∀ (i : Nat) (e : Publication), s.pubs.entries[i]? = some e → ∃ e', t.pubs.entries[i]? = some e' ∧ e.pends e'

theorem pendWhere_pends (p : PublicationConfig → Bool) {cs : List PublicationConfig} {es : List Publication} {i : Nat}
    {e : Publication} (h : es[i]? = some e) : ∃ e', (pendWhere p cs es)[i]? = some e' ∧ e.pends e' := by
  induction cs generalizing es i with
  | nil => exact ⟨e, h, .inl rfl⟩
  | cons c cs ih =>
    cases es with
    | nil => simp at h
    | cons x es =>
      cases i with
      | zero =>
        obtain rfl : x = e := by simpa using h
        refine ⟨_, rfl, ?_⟩
        by_cases named : p c
        · exact .inr (if_pos named)
        · exact .inl (if_neg named)
      | succ i => exact ih (by simpa using h)

namespace PendsOnly

variable {s t u : State}

theorem of_same (h : t.pubs = s.pubs) : PendsOnly s t :=
  ⟨by rw [h], by rw [h], fun _ e x => ⟨e, by rw [h, x], .inl rfl⟩⟩

theorem refl (s : State) : PendsOnly s s := of_same rfl

theorem trans (h : PendsOnly s t) (k : PendsOnly t u) : PendsOnly s u := by
  refine ⟨k.blocked.trans h.blocked, k.length.trans h.length, fun i e x => ?_⟩
  obtain ⟨e', x', pends⟩ := h.entry i e x
  obtain ⟨e'', x'', pends'⟩ := k.entry i e' x'
  exact ⟨e'', x'', pends.trans pends'⟩

/-- What is pending stays so. -/
theorem waiting (h : PendsOnly s t) {i : Nat} (w : (s.pubs.entries.map Publication.waiting)[i]? = some true) :
    (t.pubs.entries.map Publication.waiting)[i]? = some true := by
  obtain ⟨e, x, on⟩ := by simpa using w
  obtain ⟨e', x', pends⟩ := h.entry i e x
  rcases pends with rfl | rfl <;> simp [x', on]

theorem pendSource (p : PubSource) (s : State) : PendsOnly s (pendSource p s) :=
  ⟨rfl, pendWhere_length _ _ _, fun _ _ x => pendWhere_pends _ x⟩

theorem setLive (c : Fin 8) (k : FaultKind) (b : Bool) (s : State) : PendsOnly s (setLive c k b s) := by
  unfold Machine.setLive
  dsimp only
  split
  · exact of_same rfl
  · exact (of_same rfl : PendsOnly s (setRecord c _ s)).trans (.pendSource _ _)

theorem enterState (x : ChannelState) (c : Fin 8) (s : State) : PendsOnly s (enterState x c s) := by
  have told (u : State) : PendsOnly u (if (s.chan c).state.confirmedOn == x.confirmedOn then u
      else Machine.pendSource (.feedback c) u) := by
    split
    · exact .refl u
    · exact .pendSource _ u
  have news (u : State) : PendsOnly u (if (s.chan c).state.isLocked == x.isLocked then u else setLockChange u) := by
    split <;> exact of_same rfl
  have falls (u : State) : PendsOnly u (if (s.chan c).state.isLocked && !x.isLocked
      then Machine.setLive c .stuckOn false u else u) := by
    split
    · exact .setLive c .stuckOn false u
    · exact .refl u
  exact .trans (.trans (.trans (of_same rfl : PendsOnly s (setChan c _ s)) (told _)) (news _)) (falls _)

theorem of_moves {c : Fin 8} (h : ChannelMoves c s t) : PendsOnly s t :=
  h.keeps (fun _ _ h => h.trans (of_same rfl))
    (fun m u h => h.trans (of_same (by simp)))
    (fun x _ h => h.trans (.enterState x c _)) (fun _ h => h.trans (of_same rfl))
    (fun _ h => h.trans (.setLive c .stuckOn false _)) (.refl s)

theorem each8 {f : Fin 8 → State → State} (h : ∀ n s, PendsOnly s (f n s)) (s : State) : PendsOnly s (each8 f s) :=
  each8_relates refl trans h s

theorem evaluateUsers (p : TermSource → Bool) (s : State) : PendsOnly s (evaluateUsers p s) :=
  .each8 (fun c t => by
    split
    · exact .of_moves (ChannelMoves.refl.evaluate)
    · exact .refl t) s

end PendsOnly

/-! ## SET HOST POINT (R78, R165) -/

theorem eightOf_toNat (n : Fin 8) : eightOf (byteOf n.val).toNat = n := by
  rw [byteOf_toNat (by omega)]
  simp [eightOf]

theorem takeSetHostPoint_good {s : State} (running : s.running = true) (n : Fin 8) (v : Bool) :
    takeSetHostPoint (byteOf n.val) (boolByte v) s = respond 10 .accepted [] (buildDue (hostPointChange n v s)) := by
  have channel : (channelOf (byteOf n.val)).isSome = true := by
    rw [channelOf_isSome, byteOf_toNat (by omega)]
    simp
  have value : (boolOf (boolByte v)).isSome = true := by cases v <;> rfl
  have given : (boolByte v == 1) = v := by cases v <;> rfl
  rw [takeSetHostPoint, judged_acts _ _ (by rw [channel, value]; rfl) running, eightOf_toNat, given]

/-- What the building of due frames and the answer leave alike for a channel. -/
theorem buildDue_alike (c : Fin 8) (s : State) : AlikeSources c s (buildDue s) :=
  ⟨⟨by simp, by simp, by simp, by simp, by simp [State.chan], by simp [State.sentBy]⟩, by simp, by simp, by simp⟩

theorem respond_alike (c : Fin 8) (command : Byte) (status : Status) (data : List Byte) (s : State) :
    AlikeSources c s (respond command status data s) := ⟨⟨rfl, rfl, rfl, rfl, rfl, rfl⟩, rfl, rfl, rfl⟩

theorem pendSource_alike (c : Fin 8) (p : PubSource) (s : State) : AlikeSources c s (pendSource p s) :=
  ⟨⟨rfl, rfl, rfl, rfl, rfl, rfl⟩, rfl, rfl, rfl⟩

section
variable (n : Fin 8) (v : Bool) (s : State)

/-- The state whose host point n has the value v, before anything acts on it. -/
def State.withPoint (s : State) (n : Fin 8) (v : Bool) : State :=
  { s with host := { s.host with points := s.host.points.set n v } }

theorem hostPointChange_same (h : s.host.points.get n = v) : hostPointChange n v s = s := by
  simp [hostPointChange, h]

theorem hostPointChange_other (h : s.host.points.get n ≠ v) : hostPointChange n v s =
    pendSource (.hostPoint n) (evaluateUsers (· == .hostPoint n) (s.withPoint n v)) := by
  simp [hostPointChange, h, State.withPoint]

theorem hostPointChange_points : (hostPointChange n v s).host.points = s.host.points.set n v := by
  by_cases h : s.host.points.get n = v
  · rw [hostPointChange_same _ _ _ h, ← h, Eight.set_get_same]
  · rw [hostPointChange_other _ _ _ h]
    simp [State.withPoint]

/-- What a host point's change leaves beside the channels and the publications. -/
theorem hostPointChange_frame : (hostPointChange n v s).loader = s.loader ∧ (hostPointChange n v s).zones = s.zones ∧
    (hostPointChange n v s).inputs = s.inputs ∧ (hostPointChange n v s).points = s.points ∧
    (hostPointChange n v s).marks = s.marks ∧ (hostPointChange n v s).link = s.link ∧
    (hostPointChange n v s).power = s.power ∧ (hostPointChange n v s).held = s.held ∧
    (hostPointChange n v s).bus = s.bus := by
  by_cases h : s.host.points.get n = v
  · simp [hostPointChange_same _ _ _ h]
  · rw [hostPointChange_other _ _ _ h]
    simp [State.withPoint]

theorem hostPointChange_channel (c : Fin 8) :
    if (s.usesSource (fun x => x == .hostPoint n) c && s.host.points.get n != v) = true then
      s.evaluated (hostPointChange n v s) c
    else s.sameChannel (hostPointChange n v s) c := by
  by_cases same : s.host.points.get n = v
  · rw [if_neg (by simp [same]), hostPointChange_same _ _ _ same]
    exact ⟨rfl, rfl⟩
  · rw [hostPointChange_other _ _ _ same]
    have like : Alike c (s.withPoint n v) s := ⟨rfl, rfl, rfl, rfl, rfl, rfl⟩
    have users : (s.withPoint n v).usesSource (fun x => x == .hostPoint n) c =
      s.usesSource (fun x => x == .hostPoint n) c := rfl
    by_cases uses : s.usesSource (fun x => x == .hostPoint n) c = true
    · rw [if_pos (by simp [uses, same])]
      exact AlikeSources.evaluated like (pendSource_alike c _ _)
        (evaluateUsers_evaluated (s := s.withPoint n v) (users.trans uses)).1
    · rw [if_neg (by simp [uses])]
      have other := evaluateUsers_other (p := (· == .hostPoint n)) (c := c) (s := s.withPoint n v)
        (users.trans (by simpa using uses))
      exact like.sameChannel (pendSource_alike c _ _).toAlike ⟨other.chan, other.sent⟩

end

/-- Settles O53. -/
theorem setHostPoint : Obligations.SetHostPoint := by
  intro s n v on running
  obtain ⟨loader, zones, inputs, points, marks, link, power, held, bus⟩ := hostPointChange_frame n v s
  refine ⟨respond 10 .accepted [] (buildDue (hostPointChange n v s)), ?_, ?_, rfl, rfl, ?_⟩
  · show Host.Outcome.next (whenTransaction (takeSetHostPoint (byteOf n.val) (boolByte v)) s) = _
    rw [whenTransaction_on _ on, takeSetHostPoint_good running]
  · simpa [respond] using hostPointChange_points n v s
  · refine ⟨by simp [respond, loader], by simp [respond, zones], by simp [respond, inputs], by simp [respond, points],
      by simp [respond, marks], by simp [respond, link], by simp [respond, power], by simp [respond, held],
      fun c => ?_, fun change away i inside named => ?_⟩
    · have after : AlikeSources c (hostPointChange n v s) (respond 10 .accepted [] (buildDue (hostPointChange n v s))) :=
        (buildDue_alike c _).trans (respond_alike c _ _ _ _)
      have took := hostPointChange_channel n v s c
      split at took
      next evaluates => rw [if_pos evaluates]; exact AlikeSources.evaluated (.refl c s) after took
      next stays => rw [if_neg stays]; exact (Alike.refl c s).sameChannel after.toAlike took
    · have quiet : (hostPointChange n v s).onLine = false := by simp [State.onLine, bus, away]
      rw [respond_pubs, buildDue_of_not_onLine quiet, hostPointChange_other _ _ _ change]
      have kept := PendsOnly.evaluateUsers (· == .hostPoint n) (s.withPoint n v)
      have config : (evaluateUsers (· == .hostPoint n) (s.withPoint n v)).config = s.config := by
        simp [State.config, State.withPoint]
      exact pendSource_waiting (by rw [kept.length]; exact inside) (by rw [config]; exact named)

end Sys2Proof.Machine
end

section
/-! PROOFS. The ageing of a point, the hold-over of a term, and the demand of the terms (O6). -/

namespace Sys2Proof.Machine

open Sys2Proof

/-- While RUNNING a block takes its event. -/
theorem whenRunning_of {s : State} (running : s.running = true) (f : State → State) : whenRunning f s = f s :=
  if_pos running

/-! ## Lists -/

theorem modifyAt_eq_set {α : Type} {l : List α} {i : Nat} {a : α} (h : l[i]? = some a) (f : α → α) :
    modifyAt l i f = l.set i (f a) := by
  apply List.ext_getElem?
  intro j
  rw [modifyAt_getElem?, List.getElem?_set]
  by_cases same : j = i
  · subst same
    have inside : j < l.length := (List.getElem?_eq_some_iff.mp h).1
    rw [List.getElem?_eq_getElem inside, Option.some.injEq] at h
    simp [inside, h]
  · simp [same, Ne.symm same]

theorem mapFrom_getElem? {α β : Type} (f : Nat → α → β) (i : Nat) (l : List α) (k : Nat) :
    (mapFrom f i l)[k]? = l[k]?.map (f (i + k)) := by
  induction l generalizing i k with
  | nil => simp [mapFrom]
  | cons a l ih =>
    cases k with
    | zero => simp [mapFrom]
    | succ k => simp [mapFrom, ih, Nat.add_comm, Nat.add_left_comm]

/-! ## The hold-over timers (R4) -/

/-- Term `slot` of channel c is on a subscription entry that meets a test. -/
def State.slotOn (s : State) (p : Nat → Bool) (c : Fin 8) (slot : Fin 4) : Bool :=
  match (s.cfg c).terms[slot.val]? with
  | some t => (match t.source with | .subscription i => p i | _ => false)
  | none => false

section
variable (p : Nat → Bool) (tm : Timer) (c : Fin 8) (s : State)

/-- One of four, set where a test holds. -/
def Four.setIf {α : Type} (on : Fin 4 → Bool) (a : α) (n : Fin 4) (h : Four α) : Four α :=
  if on n then h.set n a else h

theorem Four.setIf_get {α : Type} (on : Fin 4 → Bool) (a : α) (n m : Fin 4) (h : Four α) :
    (h.setIf on a n).get m = if m = n ∧ on m then a else h.get m := by
  unfold Four.setIf
  by_cases set : on n = true
  · rw [if_pos set, Four.get_set]
    by_cases same : m = n <;> simp [same, set]
  · by_cases same : m = n <;> simp [same, set]

theorem setHoldOvers_holdOvers : ((setHoldOvers p tm c s).chan c).holdOvers =
    ((((s.chan c).holdOvers.setIf (s.slotOn p c) tm 0).setIf (s.slotOn p c) tm 1).setIf (s.slotOn p c) tm 2).setIf
      (s.slotOn p c) tm 3 := by
  unfold setHoldOvers
  rw [modChan_chan, if_pos rfl]
  rfl

theorem setHoldOvers_get (slot : Fin 4) : ((setHoldOvers p tm c s).chan c).holdOvers.get slot =
    if s.slotOn p c slot then tm else (s.chan c).holdOvers.get slot := by
  rw [setHoldOvers_holdOvers]
  simp only [Four.setIf_get]
  fin_cases slot <;> simp

/-- Of the channel, the hold-over timers alone change. -/
theorem setHoldOvers_chan : (setHoldOvers p tm c s).chan c =
    { s.chan c with holdOvers := ((setHoldOvers p tm c s).chan c).holdOvers } := by
  unfold setHoldOvers
  simp

theorem setHoldOvers_sentBy (d : Fin 8) : (setHoldOvers p tm c s).sentBy d = s.sentBy d := by
  unfold setHoldOvers
  simp

/-- The hold-over timers of a channel start (R4). -/
theorem startHoldOvers_none (h : (s.cfg c).failPolicy = .failOff ∨ (s.cfg c).holdOver = 0) :
    startHoldOvers p c s = s := by
  unfold startHoldOvers
  rcases h with off | zero
  · rw [off]
  · split
    · rfl
    · rw [if_pos zero]

theorem startHoldOvers_some (hold : (s.cfg c).failPolicy = .failHold) (some : (s.cfg c).holdOver ≠ 0) :
    startHoldOvers p c s = setHoldOvers p (.some (s.now + 50000 * (s.cfg c).holdOver)) c s := by
  unfold startHoldOvers
  rw [hold]
  simp only []
  rw [if_neg some]

end

/-- A change of the hold-over timers of one channel leaves another alike, and of its own but those timers. -/
theorem startHoldOvers_alike (p : Nat → Bool) {c d : Fin 8} (other : d ≠ c) (s : State) :
    AlikeSources c s (startHoldOvers p d s) := by
  refine ⟨⟨by simp, by simp, by simp, by simp, ?_, ?_⟩, by simp, by simp, by simp⟩
  · exact (startHoldOvers_local p other.symm s).1
  · exact (startHoldOvers_local p other.symm s).2.1

theorem startHoldOvers_chan (p : Nat → Bool) (c : Fin 8) (s : State) : (startHoldOvers p c s).chan c =
    { s.chan c with holdOvers := ((startHoldOvers p c s).chan c).holdOvers } ∧
    (startHoldOvers p c s).sentBy c = s.sentBy c := by
  by_cases none : (s.cfg c).failPolicy = .failOff ∨ (s.cfg c).holdOver = 0
  · rw [startHoldOvers_none _ _ _ none]
    exact ⟨rfl, rfl⟩
  · obtain ⟨hold, some⟩ := not_or.mp none
    have hold : (s.cfg c).failPolicy = .failHold := by cases h : (s.cfg c).failPolicy <;> simp_all
    rw [startHoldOvers_some _ _ _ hold some]
    exact ⟨setHoldOvers_chan _ _ _ _, setHoldOvers_sentBy _ _ _ _ _⟩

/-- The hold-over timers of every channel start, each its own. -/
theorem startHoldOvers_around (p : Nat → Bool) (c : Fin 8) (s : State) : ∃ u, AlikeSources c s u ∧
    AlikeSources c (startHoldOvers p c u) (each8 (startHoldOvers p) s) :=
  each8_around (AlikeSources.refl c) AlikeSources.trans c (fun _ other t => startHoldOvers_alike p other t) s

theorem evaluateUsers_sources (p : TermSource → Bool) (c : Fin 8) (s : State) : SameSources c s (evaluateUsers p s) :=
  each8_relates (SameSources.refl c) SameSources.trans (fun d t => by
    split
    · exact evaluate_sources c d t
    · exact .refl c t) s

theorem onEntryIndex_eq (i : Nat) : onEntryIndex (· == i) = fun y => y == .subscription i := by
  funext y
  cases y <;> simp [onEntryIndex, beq_eq_decide]

theorem slotOn_iff (s : State) (i : Nat) (c : Fin 8) (slot : Fin 4) : s.slotOn (· == i) c slot = true ↔
    ((s.cfg c).terms[slot.val]?).map Term.source = some (.subscription i) := by
  unfold State.slotOn
  cases (s.cfg c).terms[slot.val]? with
  | none => simp
  | some t => cases h : t.source <;> simp [h]

/-! ## A point grows STALE (R4, R83) -/

/-- The state whose entry i is STALE, before the channels see it. -/
def State.aged (s : State) (i : Nat) : State :=
  { s with points := modifyAt s.points i fun e => { e with age := .stale, timer := none } }

theorem ageExpiry_of_fresh {s : State} {i : Nat} {x : Subscription} (entry : s.points[i]? = some x)
    (fresh : x.age = .fresh) (timer : x.timer ≠ none) : ageExpiry i s =
      evaluateUsers (fun y => y == .subscription i) (each8 (startHoldOvers (· == i)) (s.aged i)) := by
  have runs : x.timer.isSome = true := Option.isSome_iff_ne_none.mpr timer
  simp only [ageExpiry, entry, fresh, runs, onEntryIndex_eq, State.aged, beq_self_eq_true, Bool.and_self, if_true]

/-- Each channel when its hold-over timers have started. -/
theorem heldOver_chan (s : State) (i : Nat) (c : Fin 8) : ∃ v, v = each8 (startHoldOvers (· == i)) (s.aged i) ∧
    v.chan c = { s.chan c with holdOvers := (v.chan c).holdOvers } ∧ v.sentBy c = s.sentBy c ∧
    ((s.cfg c).failPolicy = .failOff ∨ (s.cfg c).holdOver = 0 → v.chan c = s.chan c) ∧
    ((s.cfg c).failPolicy = .failHold → (s.cfg c).holdOver ≠ 0 → ∀ slot, (v.chan c).holdOvers.get slot =
      if s.slotOn (· == i) c slot then some (s.now + 50000 * (s.cfg c).holdOver)
      else (s.chan c).holdOvers.get slot) := by
  obtain ⟨u, before, after⟩ := startHoldOvers_around (· == i) c (s.aged i)
  obtain ⟨v, stage⟩ : ∃ v, v = each8 (startHoldOvers (· == i)) (s.aged i) := ⟨_, rfl⟩
  rw [← stage] at after
  have cfg : u.cfg c = s.cfg c := before.cfg c
  have chan : u.chan c = s.chan c := before.chan
  obtain ⟨record, sent⟩ := startHoldOvers_chan (· == i) c u
  refine ⟨v, stage, ?_, ?_, fun none => ?_, fun hold some slot => ?_⟩
  · rw [after.chan, record, chan]
  · rw [after.sent, sent, before.sent]
    rfl
  · rw [after.chan, startHoldOvers_none _ _ _ (cfg ▸ none), chan]
  · have on : u.slotOn (· == i) c slot = s.slotOn (· == i) c slot := by simp only [State.slotOn, cfg]
    have now : u.now = s.now := before.now
    rw [after.chan, startHoldOvers_some _ _ _ (cfg ▸ hold) (cfg ▸ some), setHoldOvers_get, on, chan, cfg, now]

/-- The stages before the evaluation leave what an evaluation reads beside the timers and the points. -/
theorem heldOver_frame (s : State) (i : Nat) : ∃ v, v = each8 (startHoldOvers (· == i)) (s.aged i) ∧
    v.loader = s.loader ∧ v.points = (s.aged i).points ∧ v.inputs = s.inputs ∧ v.host = s.host ∧ v.zones = s.zones ∧
    v.marks = s.marks ∧ v.link = s.link ∧ v.power = s.power ∧ v.now = s.now ∧
    v.channels.feedback = s.channels.feedback := by
  refine ⟨_, rfl, ?_⟩
  simp only [each8]
  simp [State.aged]

/-! ## The demand of the terms (R3, R5) -/

theorem termValues_getElem? (s : State) (c : Fin 8) (k : Nat) :
    (termValues s c)[k]? = (s.cfg c).terms[k]?.map fun x => termValue s c (Fin.ofNat 4 k) x := by
  rw [termValues, mapFrom_getElem?]
  simp

theorem evalDemand_iff (s : State) (c : Fin 8) : evalDemand s c = true ↔ (s.cfg c).enabled = true ∧
    (∀ v ∈ termValues s c, v ≠ none) ∧
    match (s.cfg c).combine with
    | .and => ∀ v ∈ termValues s c, v = some true
    | .or => some true ∈ termValues s c := by
  have usable : (termValues s c).all Option.isSome = true ↔ ∀ v ∈ termValues s c, v ≠ none := by
    simp [List.all_eq_true, Option.isSome_iff_ne_none]
  rw [evalDemand, Bool.and_eq_true, Bool.and_eq_true, usable, and_assoc]
  cases (s.cfg c).combine <;> simp

/-- A term on a STALE entry without a running hold-over keeps the demand OFF. -/
theorem evalDemand_of_stale {s : State} {c : Fin 8} {i : Nat} {e : Subscription} (entry : s.points[i]? = some e)
    (stale : e.age = .stale) (uses : s.usesSource (fun y => y == .subscription i) c = true)
    (ends : (s.cfg c).failPolicy = .failOff ∨ (s.chan c).holdOvers = Four.all none) : evalDemand s c = false := by
  obtain ⟨x, listed, source⟩ := List.any_eq_true.mp uses
  obtain ⟨k, at_k⟩ := List.mem_iff_getElem?.mp listed
  have unusable (slot : Fin 4) : termValue s c slot x = none := by
    rw [termValue, rawTermValue, eq_of_beq source]
    simp only [entry, stale]
    rcases ends with off | none
    · simp [off]
    · cases (s.cfg c).failPolicy <;> simp [none]
  refine Bool.eq_false_iff.mpr fun on => ?_
  have usable := ((evalDemand_iff s c).mp on).2.1
  refine usable none (List.mem_iff_getElem?.mpr ⟨k, ?_⟩) rfl
  rw [termValues_getElem?, at_k, Option.map_some, unusable]

/-- A channel and what it read, before and after its evaluation in an event that set its hold-over timers. -/
theorem withHoldOvers_alike {c : Fin 8} {s t v : State} (now : v.now = s.now) (loader : v.loader = s.loader)
    (link : v.link = s.link) (feedback : v.channels.feedback = s.channels.feedback)
    (chan : v.chan c = { s.chan c with holdOvers := (v.chan c).holdOvers }) (sent : v.sentBy c = s.sentBy c)
    (timers : (t.chan c).holdOvers = (v.chan c).holdOvers) : Alike c v (s.withHoldOvers t c) := by
  refine ⟨now.symm, loader.symm, link.symm, feedback.symm, ?_, sent.symm⟩
  rw [chan, State.withHoldOvers, modChan_chan, if_pos rfl, timers]

theorem failHold_of {x : FailPolicy} (h : x ≠ .failOff) : x = .failHold := by
  cases x <;> simp_all

theorem slotOn_of_not_uses {s : State} {i : Nat} {c : Fin 8} {slot : Fin 4}
    (h : s.usesSource (fun y => y == .subscription i) c = false) : s.slotOn (· == i) c slot = false := by
  refine Bool.eq_false_iff.mpr fun on => ?_
  obtain ⟨x, listed, source⟩ := by simpa using (slotOn_iff s i c slot).mp on
  have uses : s.usesSource (fun y => y == .subscription i) c = true :=
    List.any_eq_true.mpr ⟨x, List.mem_of_getElem? listed, by simp [source]⟩
  simp [uses] at h

theorem Four.ext_get {α : Type} {a b : Four α} (h : ∀ n, a.get n = b.get n) : a = b := by
  have h₀ := h 0
  have h₁ := h 1
  have h₂ := h 2
  have h₃ := h 3
  cases a
  cases b
  simp_all [Four.get]

/-- Settles O6. -/
theorem ageAndHoldOver : Obligations.AgeAndHoldOver := by
  refine ⟨fun s running => ⟨fun i x entry fresh timer => ?_, fun c slot runs => ?_⟩,
    fun s c => ⟨mapFrom_length _ _ _, fun slot x listed => ?_, evalDemand_iff s c⟩⟩
  · obtain ⟨v, stage, loader, points, inputs, host, zones, marks, link, power, now, feedback⟩ := heldOver_frame s i
    have points : v.points = s.points.set i.val { x with age := .stale, timer := none } :=
      points.trans (modifyAt_eq_set entry _)
    refine ⟨buildDue (evaluateUsers (fun y => y == .subscription i.val) v), ?_, by simp [points], by simp [loader],
      by simp [zones], by simp [inputs], by simp [marks], by simp [link], by simp [power], by simp [host], fun c => ?_⟩
    · show Host.Outcome.next (buildDue (whenRunning (ageExpiry i.val) s)) = _
      rw [whenRunning_of running, ageExpiry_of_fresh entry fresh timer, stage]
    · obtain ⟨v', stage', chan, sent, none, starts⟩ := heldOver_chan s i c
      obtain rfl : v' = v := stage'.trans stage.symm
      have cfg : v'.cfg c = s.cfg c := by simp only [State.cfg, State.config, loader]
      have users : v'.usesSource (fun y => y == .subscription i.val) c = s.usesSource (fun y => y == .subscription i.val) c := by
        simp only [State.usesSource, cfg]
      have after := buildDue_alike c (evaluateUsers (fun y => y == .subscription i.val) v')
      generalize buildDue (evaluateUsers (fun y => y == .subscription i.val) v') = t at *
      refine ⟨fun other => ?_, fun uses => ?_⟩
      · have same := evaluateUsers_other (users.trans other)
        refine ⟨after.chan.trans (same.chan.trans ?_), after.sent.trans (same.sent.trans sent)⟩
        by_cases off : (s.cfg c).failPolicy = .failOff ∨ (s.cfg c).holdOver = 0
        · exact none off
        · obtain ⟨policy, some⟩ := not_or.mp off
          have timers : (v'.chan c).holdOvers = (s.chan c).holdOvers := Four.ext_get fun slot => by
            rw [starts (failHold_of policy) some slot, slotOn_of_not_uses other, if_neg (by decide)]
          rw [chan, timers]
      · obtain ⟨evaluated, demand, causes⟩ := evaluateUsers_evaluated (users.trans uses)
        have timers : (t.chan c).holdOvers = (v'.chan c).holdOvers := by
          rw [after.chan, (evaluateUsers_sources _ c v').holdOvers]
        have settles : (t.chan c).demand = evalDemand t c := by rw [after.chan, after.evalDemand, demand]
        have stale : t.points[i.val]? = Option.some { x with age := .stale, timer := Option.none } := by
          have inside : i.val < s.points.length := (List.getElem?_eq_some_iff.mp entry).1
          rw [after.points, (evaluateUsers_sources _ c v').points, points, List.getElem?_set_self inside]
        have config : t.cfg c = s.cfg c := by
          simp only [State.cfg, State.config, after.loader, (evaluateUsers_sources _ c v').loader, loader]
        refine ⟨settles, by rw [after.chan, causes, chan], ?_, fun off => ?_, fun ends => ?_, fun policy some slot => ⟨fun on => ?_, fun out => ?_⟩⟩
        · exact AlikeSources.evaluated (withHoldOvers_alike now loader link feedback chan sent timers) after evaluated
        · exact AlikeSources.evaluated ⟨now.symm, loader.symm, link.symm, feedback.symm, (none off).symm, sent.symm⟩ after evaluated
        · rw [settles]
          refine evalDemand_of_stale stale rfl (by simpa only [State.usesSource, config] using uses) ?_
          rw [config]
          exact ends.imp_right fun ⟨zero, stopped⟩ => by rw [timers, none (.inr zero), stopped]
        · rw [timers, starts policy some slot, if_pos ((slotOn_iff s i c slot).mpr on)]
        · rw [timers, starts policy some slot, if_neg (fun on => out ((slotOn_iff s i c slot).mp on))]
  · have runs' : ((s.chan c).holdOvers.get slot).isSome = true := Option.isSome_iff_ne_none.mpr runs
    have expires : holdOverExpiry c slot s = evaluate c (modChan c (fun r => { r with holdOvers := r.holdOvers.set slot none }) s) :=
      if_pos runs'
    have after := buildDue_alike c (holdOverExpiry c slot s)
    have timers : ((buildDue (holdOverExpiry c slot s)).chan c).holdOvers = (s.chan c).holdOvers.set slot none := by
      rw [after.chan, expires, (evaluate_sources c c _).holdOvers]
      simp
    obtain ⟨demand, causes⟩ := evaluate_settles c (modChan c (fun r => { r with holdOvers := r.holdOvers.set slot none }) s)
    refine ⟨buildDue (holdOverExpiry c slot s), ?_, by simp, by simp, by simp, by simp, by simp, by simp, by simp,
      fun d other => ?_, timers, ?_, ?_, ?_⟩
    · show Host.Outcome.next (buildDue (whenRunning (holdOverExpiry c slot) s)) = _
      rw [whenRunning_of running]
    · have like := evaluate_alike (c := d) other.symm (modChan c (fun r => { r with holdOvers := r.holdOvers.set slot none }) s)
      have own := (buildDue_alike d (holdOverExpiry c slot s)).toAlike
      rw [expires] at own ⊢
      exact ⟨by rw [own.chan, like.chan]; simp [other], by rw [own.sent, like.sent]; simp⟩
    · rw [after.chan, after.evalDemand, expires, demand, (evaluate_sources c c _).evalDemand]
    · rw [after.chan, expires, causes]
      simp
    · have start : s.withHoldOvers (buildDue (holdOverExpiry c slot s)) c =
          modChan c (fun r => { r with holdOvers := r.holdOvers.set slot none }) s := by
        rw [State.withHoldOvers, timers]
        rfl
      rw [start]
      exact AlikeSources.evaluated (.refl c _) after (expires ▸ evaluate_evaluated c _)
  · have number : Fin.ofNat 4 slot.val = slot := Fin.ext (Nat.mod_eq_of_lt slot.isLt)
    have inverted (v : Bool) : (v != x.invert) = if x.invert = true then !v else v := by cases v <;> cases x.invert <;> rfl
    rw [termValues_getElem?, listed, Option.map_some, number, termValue]
    simp only [inverted]
    congr 2
    cases source : x.source with
    | sense n =>
      simp only [rawTermValue, source, State.senseOn, beq_eq_decide]
    | hostPoint n => simp only [rawTermValue, source]
    | subscription i =>
      simp only [rawTermValue, source]
      cases s.points[i]? with
      | none => rfl
      | some e =>
        cases age : e.age with
        | unseen => simp only [age]
        | fresh => simp only [age]
        | stale =>
          simp only [age]
          cases (s.cfg c).failPolicy <;> simp [Option.isSome_iff_ne_none]

end Sys2Proof.Machine
end

section
/-! PROOFS. What the frames due after an event leave as it was; the confirm timer and the off-check (O5). -/

namespace Sys2Proof.Machine

open Sys2Proof

/-! ## Nothing but traffic -/

namespace State

variable {s t u : State}

/-- The fields that frames due after an event do not touch, the queue's owner apart. -/
def beyondTraffic (s : State) : Nat × Bool × Loader × ChannelLogic × MarkTimer × ZoneTable × Eight SenseInput ×
    List Subscription × Link × PowerDie × List Instr :=
  (s.now, s.held, s.loader, s.channels, s.marks, s.zones, s.inputs, s.points, s.link, s.power, s.pending)

/-- The fields of the fault records and of the host port that they do not touch. -/
def quiet (s : State) : BitVec 9 × List ListEntry × Nat × List Peer × Eight Bool × Response × Option (List Byte) :=
  (s.faults.flags.live, s.faults.list, s.faults.overrun, s.faults.peers, s.host.points, s.host.response,
    s.host.transaction)

theorem sameButTraffic_of (fields : t.beyondTraffic = s.beyondTraffic) (line : t.bus = { s.bus with queue := t.bus.queue })
    (quiet : t.quiet = s.quiet) (records : ∀ c, (t.faultRec c).kinds = (s.faultRec c).kinds ∧
      (t.faultRec c).newest = (s.faultRec c).newest) : s.sameButTraffic t := by
  refine ⟨?_, records, congrArg (fun q => q.1) quiet⟩
  obtain ⟨now, held, loader, channels, groups, marks, zones, inputs, points, pubs, bus, faults, host, link, power, pending⟩ := t
  obtain ⟨records, blocked, flags, list, overrun, peers⟩ := faults
  obtain ⟨response, events, hostPoints, transaction⟩ := host
  simp only [beyondTraffic, State.quiet, Prod.mk.injEq] at fields quiet line
  obtain ⟨rfl, rfl, rfl, rfl, rfl, rfl, rfl, rfl, rfl, rfl, rfl⟩ := fields
  obtain ⟨-, rfl, rfl, rfl, rfl, rfl, rfl⟩ := quiet
  rw [← line]

theorem sameButTraffic.trans (h : s.sameButTraffic t) (k : t.sameButTraffic u) : s.sameButTraffic u := by
  obtain ⟨h, records, live⟩ := h
  obtain ⟨k, records', live'⟩ := k
  refine ⟨?_, fun c => ⟨(records' c).1.trans (records c).1, (records' c).2.trans (records c).2⟩, live'.trans live⟩
  rw [k, h]

end State

theorem buildDue_sameButTraffic (s : State) : s.sameButTraffic (buildDue s) :=
  State.sameButTraffic_of (by simp [State.beyondTraffic]) (Traffic.buildDue s).line (by simp [State.quiet])
    fun c => by simp [State.faultRec]

/-! ## What the owners of frames do when they build and offer them -/

/-- The states that the owners of frames can bring about by offers and by their own bookkeeping. -/
inductive Offered (s : State) : State → Prop
  | refl : Offered s s
  | offer {t : State} (f : Frame) : Offered s t → Offered s (offer f t).1
  | entry {t : State} (e : Fin 8) (f : Entry → Entry) : Offered s t → Offered s (modEntry e f t)
  | pubs {t : State} (es : List Publication) : Offered s t → Offered s (setPubs es t)
  | pubBlocked {t : State} (b : Bool) : Offered s t → Offered s (setPubBlocked b t)
  | waiting {t : State} (b : Bool) (c : Fin 8) : Offered s t → Offered s (setFaultWaiting b c t)
  | blocked {t : State} (b : Bool) : Offered s t → Offered s (setFaultBlocked b t)

namespace Offered

variable {s t u : State}

/-- A property that each of these steps keeps. -/
theorem keeps {P : State → Prop} (offer : ∀ f u, P u → P (Machine.offer f u).1)
    (entry : ∀ e f u, P u → P (modEntry e f u)) (pubs : ∀ es u, P u → P (setPubs es u))
    (pubBlocked : ∀ b u, P u → P (setPubBlocked b u)) (waiting : ∀ b c u, P u → P (setFaultWaiting b c u))
    (blocked : ∀ b u, P u → P (setFaultBlocked b u)) (h : Offered s t) (start : P s) : P t := by
  induction h with
  | refl => exact start
  | offer f _ ih => exact offer f _ ih
  | entry e f _ ih => exact entry e f _ ih
  | pubs es _ ih => exact pubs es _ ih
  | pubBlocked b _ ih => exact pubBlocked b _ ih
  | waiting b c _ ih => exact waiting b c _ ih
  | blocked b _ ih => exact blocked b _ ih

theorem trans (h : Offered s t) (k : Offered t u) : Offered s u :=
  k.keeps (P := Offered s) (fun f _ => .offer f) (fun e f _ => .entry e f) (fun es _ => .pubs es)
    (fun b _ => .pubBlocked b) (fun b c _ => .waiting b c) (fun b _ => .blocked b) h

theorem claimIfDue (e : Fin 8) (s : State) : Offered s (claimIfDue e s) := by
  unfold Machine.claimIfDue claimGroup
  dsimp only
  (repeat' split) <;>
    first
      | exact .refl
      | exact .offer _ (.entry e _ .refl)
      | exact .entry e _ (.offer _ (.entry e _ .refl))

theorem buildFault (c : Fin 8) (s : State) : Offered s (buildFault c s) := by
  unfold Machine.buildFault
  dsimp only
  (repeat' split) <;>
    first
      | exact .refl
      | exact .waiting _ c (.offer _ .refl)
      | exact .blocked _ (.offer _ .refl)

theorem buildPoints (s : State) : Offered s (buildPoints s) := by
  unfold Machine.buildPoints offerOnly
  dsimp only
  (repeat' split) <;>
    first
      | exact .refl
      | exact .offer _ (.pubs _ .refl)
      | exact .pubBlocked _ (.offer _ .refl)

theorem each8 {f : Fin 8 → State → State} (h : ∀ n s, Offered s (f n s)) (s : State) : Offered s (each8 f s) :=
  each8_relates (R := Offered) (fun _ => .refl) trans h s

theorem buildDue (s : State) : Offered s (buildDue s) :=
  ((Offered.each8 claimIfDue s).trans (Offered.each8 buildFault _)).trans (buildPoints _)

theorem lockChange (h : Offered s t) : t.host.events.lockChange = s.host.events.lockChange := by
  have raised (f : NodeFlag) (u : State) : (raiseFlag f u).host.events.lockChange = u.host.events.lockChange := by
    unfold raiseFlag trackErr
    dsimp only
    split <;> simp [setNodeFlagEvent]
  refine h.keeps (P := fun u => u.host.events.lockChange = s.host.events.lockChange) (fun f u same => ?_)
    (fun _ _ _ same => same) (fun _ _ same => same) (fun _ _ same => same) (fun _ _ _ same => same)
    (fun _ _ same => same) rfl
  rw [← same]
  unfold Machine.offer
  (repeat' split) <;> simp [raised, setQueue]

end Offered

/-! ## The fault records of a channel that enters a state -/

/-- Entry to a state changes the records only where the channel leaves LOCKED (R24). -/
theorem enterState_faults {c : Fin 8} {s : State} {x : ChannelState}
    (stays : ((s.chan c).state.isLocked && !x.isLocked) = false) : (enterState x c s).faults = s.faults := by
  unfold enterState
  dsimp only
  rw [stays, if_neg (by decide)]
  (repeat' split) <;> simp [setLockChange, setChan]

/-- Entry to LOCKED from another state, and the way out of it, set LOCK-CHANGE (R25). -/
theorem enterState_lockChange {c : Fin 8} {s : State} {x : ChannelState}
    (changes : (s.chan c).state.isLocked ≠ x.isLocked) : (enterState x c s).host.events.lockChange = true := by
  unfold enterState
  dsimp only
  have told (u : State) : (if (s.chan c).state.isLocked == x.isLocked then u else setLockChange u) = setLockChange u :=
    if_neg (by simpa only [beq_iff_eq] using changes)
  rw [told]
  split <;> simp

theorem forceCause_of_has {k : Cause} {c : Fin 8} {s : State} (h : (s.chan c).causes.has k = true) :
    forceCause k c s = s := if_pos h

/-! ## An occurrence on a channel that FAULT holds already (R146) -/

section
variable {c : Fin 8} {s : State}

/-- A record set, with ERR told where it changed. -/
theorem trackRecord_faultRec (r : FaultRecord) (d : Fin 8) :
    (trackErr (setRecord c r) s).faultRec d = if d = c then r else s.faultRec d := by
  unfold trackErr
  dsimp only
  split <;> simp [State.faultRec, setRecord, Eight.get_set]

theorem occurrence_of_fault (k : FaultKind) (held : (s.chan c).causes.fault = true) :
    occurrence k c s = trackErr (setRecord c ((s.faultRec c).occur k s.marks.number)) s := by
  unfold occurrence
  dsimp only
  split
  · exact forceCause_of_has (by simpa [CauseSet.has] using held)
  · rfl

theorem FaultRecord.occur_get (r : FaultRecord) (k j : FaultKind) (m : Half) : (r.occur k m).kinds.get j =
    if j = k then { live := (r.kinds.get k).live, sticky := true, count := min 255 ((r.kinds.get k).count + 1), firstMark := if (r.kinds.get k).sticky = true then (r.kinds.get k).firstMark else some m }
    else r.kinds.get j := by
  simp only [FaultRecord.occur, PerKind.get_set]

/-! ## FAIL-ON (R13, R15) -/

theorem failOn_holds (driven : (s.chan c).state.isLocked = false) :
    (enterReleasing .locked c (addCause .fault c s)).chan c = { s.chan c with
      state := .releasing, target := .locked, causes := { (s.chan c).causes with fault := true }, offCheck := none,
      confirm := if s.link.up = true then some (s.now + 5000) else none } ∧
    (enterReleasing .locked c (addCause .fault c s)).faults = s.faults ∧
    (enterReleasing .locked c (addCause .fault c s)).sentBy c = s.sentBy c := by
  have records := enterState_faults (c := c) (s := addCause .fault c s) (x := .releasing) (by simp [addCause, driven])
  refine ⟨?_, ?_, by simp [enterReleasing, addCause]⟩
  · simp [enterReleasing, addCause, confirmAtEntry, ChannelState.confirmedOn, CauseSet.put, Config.confirmTime]
    rfl
  · rw [enterReleasing]
    exact records

theorem raiseFailOn_leaves (driven : (s.chan c).state.isLocked = false) :
    (raiseFailOn c s).chan c = { s.chan c with
      state := .releasing, target := .locked, causes := { (s.chan c).causes with fault := true }, offCheck := none,
      confirm := if s.link.up = true then some (s.now + 5000) else none } ∧
    (raiseFailOn c s).sentBy c = s.sentBy c ∧
    ∀ d, (raiseFailOn c s).faultRec d =
      if d = c then (s.faultRec c).occur .failOn s.marks.number else s.faultRec d := by
  obtain ⟨chan, records, sent⟩ := failOn_holds driven
  have record (d : Fin 8) : (enterReleasing .locked c (addCause .fault c s)).faultRec d = s.faultRec d := by
    simp only [State.faultRec, records]
  have mark : (enterReleasing .locked c (addCause .fault c s)).marks = s.marks := by simp
  have raise : raiseFailOn c s = trackErr (setRecord c ((s.faultRec c).occur .failOn s.marks.number))
      (enterReleasing .locked c (addCause .fault c s)) := by
    rw [raiseFailOn, occurrence_of_fault .failOn (by rw [chan]), record, mark]
  rw [raise]
  exact ⟨by simpa using chan, by simpa using sent, fun d => by rw [trackRecord_faultRec, record]⟩

end

theorem confirmExpiryEnergizing_of_runs {c : Fin 8} {s : State} (state : (s.chan c).state = .energizing)
    (runs : (s.chan c).confirm ≠ none) : confirmExpiryEnergizing c s = raiseFailOn c s :=
  if_pos (by simp [state, Option.isSome_iff_ne_none, runs])

theorem confirmExpiryEnergizing_of_idle {c : Fin 8} {s : State}
    (idle : (s.chan c).state ≠ .energizing ∨ (s.chan c).confirm = none) : confirmExpiryEnergizing c s = s :=
  if_neg (by rcases idle with h | h <;> simp [h])

/-! ## STUCK-ON (R18) -/

/-- The state in which a channel stands LOCKED over its unconfirmed release. -/
def State.unreleased (s : State) (c : Fin 8) : State :=
  setLive c .stuckOn true (enterState .locked c (oweHandBack c (addCause .fault c s)))

section
variable {c : Fin 8} {s : State}

theorem oweHandBack_chan : (oweHandBack c s).chan c =
    { s.chan c with handBack := (s.chan c).handBack || (s.cfg c).group.isSome } := by
  unfold oweHandBack
  cases group : (s.cfg c).group <;> simp

theorem oweHandBack_sentBy (d : Fin 8) : (oweHandBack c s).sentBy d = s.sentBy d := by
  unfold oweHandBack
  split <;> simp

theorem oweHandBack_faults : (oweHandBack c s).faults = s.faults := by
  unfold oweHandBack
  split <;> rfl

theorem unreleased_chan : (s.unreleased c).chan c = { s.chan c with
    state := .locked, causes := { (s.chan c).causes with fault := true }, confirm := none, offCheck := none,
    handBack := (s.chan c).handBack || (s.cfg c).group.isSome } := by
  simp [State.unreleased, oweHandBack_chan, addCause, confirmAtEntry, ChannelState.confirmedOn, CauseSet.put]

theorem unreleased_sentBy : (s.unreleased c).sentBy c = s.sentBy c := by
  simp [State.unreleased, oweHandBack_sentBy, addCause]

theorem unreleased_faultRec (d : Fin 8) : (s.unreleased c).faultRec d =
    if d = c then ⟨(s.faultRec c).kinds.set .stuckOn { (s.faultRec c).kinds.stuckOn with live := true },
      (s.faultRec c).newest, (s.faultRec c).waiting⟩ else s.faultRec d := by
  have records : (enterState .locked c (oweHandBack c (addCause .fault c s))).faults = s.faults := by
    rw [enterState_faults (by simp [ChannelState.isLocked]), oweHandBack_faults]
    rfl
  have record (d : Fin 8) : (enterState .locked c (oweHandBack c (addCause .fault c s))).faultRec d = s.faultRec d := by
    simp only [State.faultRec, records]
  rw [State.unreleased, setLive_faultRec, record, record]
  rfl

theorem unreleased_lockChange (releasing : (s.chan c).state = .releasing) :
    (s.unreleased c).host.events.lockChange = true := by
  have entered : (enterState .locked c (oweHandBack c (addCause .fault c s))).host.events.lockChange = true :=
    enterState_lockChange (by simp [oweHandBack_chan, addCause, releasing, ChannelState.isLocked])
  simpa [State.unreleased] using entered

theorem confirmExpiryReleasing_of_runs (state : (s.chan c).state = .releasing) (runs : (s.chan c).confirm ≠ none) :
    confirmExpiryReleasing c s =
      trackErr (setRecord c (((s.unreleased c).faultRec c).occur .stuckOn s.marks.number)) (s.unreleased c) := by
  have expires : confirmExpiryReleasing c s = occurrence .stuckOn c (s.unreleased c) :=
    if_pos (by simp [state, Option.isSome_iff_ne_none, runs])
  have mark : (s.unreleased c).marks = s.marks := by simp [State.unreleased, addCause]
  rw [expires, occurrence_of_fault .stuckOn (by rw [unreleased_chan]), mark]

theorem confirmExpiryReleasing_of_idle (idle : (s.chan c).state ≠ .releasing ∨ (s.chan c).confirm = none) :
    confirmExpiryReleasing c s = s :=
  if_neg (by rcases idle with h | h <;> simp [h])

end

/-! ## The off-check (R15) -/

section
variable {c : Fin 8} {s : State}

theorem offCheckExpiry_of_idle (idle : ((s.chan c).state ≠ .on ∧ (s.chan c).state ≠ .disarming) ∨ (s.chan c).offCheck = none) :
    offCheckExpiry c s = s :=
  if_neg (by
    rcases idle with ⟨on, disarming⟩ | stopped
    · cases state : (s.chan c).state <;> simp_all [ChannelState.confirmedOn]
    · simp [stopped])

theorem offCheckExpiry_of_runs (state : (s.chan c).state = .on ∨ (s.chan c).state = .disarming)
    (runs : (s.chan c).offCheck ≠ none) : offCheckExpiry c s =
      if (s.faultRec c).kinds.overtemp.live || s.supplyLowSeen then modChan c (fun r => { r with offCheck := none }) s
      else raiseFailOn c (modChan c (fun r => { r with offCheck := none }) s) :=
  if_pos (by rcases state with h | h <;> simp [h, ChannelState.confirmedOn, Option.isSome_iff_ne_none, runs])

end

/-- What the building of due frames leaves of every channel and of every record's kinds. -/
theorem buildDue_channels (s : State) (d : Fin 8) : (buildDue s).chan d = s.chan d ∧
    (buildDue s).sentBy d = s.sentBy d ∧ ((buildDue s).faultRec d).kinds = (s.faultRec d).kinds := by
  simp [State.chan, State.sentBy, State.faultRec]

theorem exec_running {s : State} (running : s.running = true) (f : State → State) :
    Host.Outcome.next (buildDue (whenRunning f s)) = (.next (buildDue (f s)) : Host.Outcome State Fault Refusal) := by
  rw [whenRunning_of running]

/-- A kind's record after an occurrence at a mark number (R146). -/
def KindRecord.counts (x : KindRecord) (m : Half) : KindRecord :=
  { live := x.live, sticky := true, count := min 255 (x.count + 1),
    firstMark := if x.sticky = true then x.firstMark else some m }

theorem FaultRecord.occur_counts (r : FaultRecord) (k j : FaultKind) (m : Half) :
    (r.occur k m).kinds.get j = if j = k then (r.kinds.get k).counts m else r.kinds.get j := r.occur_get k j m

theorem raiseFailOn_kinds {c : Fin 8} {s : State} (driven : (s.chan c).state.isLocked = false) (d : Fin 8)
    (j : FaultKind) : ((raiseFailOn c s).faultRec d).kinds.get j =
      if d = c ∧ j = .failOn then ((s.faultRec c).kinds.get .failOn).counts s.marks.number
      else (s.faultRec d).kinds.get j := by
  obtain ⟨-, -, records⟩ := raiseFailOn_leaves driven
  by_cases own : d = c
  · subst own
    rw [records, if_pos rfl, FaultRecord.occur_counts]
    simp
  · rw [records, if_neg own, if_neg (fun h => own h.1)]

theorem confirmExpiryReleasing_kinds {c : Fin 8} {s : State} (state : (s.chan c).state = .releasing)
    (runs : (s.chan c).confirm ≠ none) (d : Fin 8) (j : FaultKind) :
    ((confirmExpiryReleasing c s).faultRec d).kinds.get j = if d = c ∧ j = .stuckOn then
        { (s.faultRec c).kinds.stuckOn with live := true }.counts s.marks.number
      else (s.faultRec d).kinds.get j := by
  rw [confirmExpiryReleasing_of_runs state runs, trackRecord_faultRec]
  by_cases own : d = c
  · subst own
    rw [if_pos rfl, FaultRecord.occur_counts, unreleased_faultRec, if_pos rfl]
    by_cases kind : j = .stuckOn <;> simp [PerKind.get_set, kind]
  · rw [if_neg own, unreleased_faultRec, if_neg own, if_neg (fun h => own h.1)]

/-- Settles O5. -/
theorem confirmAndOffCheckExpiry : Obligations.ConfirmAndOffCheckExpiry := by
  refine ⟨fun s c running => ?_, fun s c running => ?_, fun s c running => ?_⟩
  · have due := buildDue_channels (confirmExpiryEnergizing c s)
    refine ⟨buildDue (confirmExpiryEnergizing c s), exec_running running _, by simp, by simp, by simp, by simp, by simp,
      by simp, by simp, fun d other => ?_, fun d k other => ?_, fun state runs => ?_, fun idle => ?_⟩
    · exact ⟨by rw [(due d).1]; simp [other], by rw [(due d).2.1]; simp [other]⟩
    · rw [(due d).2.2]
      by_cases runs : (s.chan c).state = .energizing ∧ (s.chan c).confirm ≠ none
      · rw [confirmExpiryEnergizing_of_runs runs.1 runs.2, raiseFailOn_kinds (by simp [runs.1, ChannelState.isLocked]),
          if_neg (by tauto)]
      · rw [confirmExpiryEnergizing_of_idle (by tauto)]
    · have driven : (s.chan c).state.isLocked = false := by rw [state]; rfl
      obtain ⟨chan, sent, -⟩ := raiseFailOn_leaves driven
      have record := raiseFailOn_kinds driven c .failOn
      rw [if_pos ⟨rfl, rfl⟩] at record
      rw [(due c).1, (due c).2.1, (due c).2.2, confirmExpiryEnergizing_of_runs state runs]
      exact ⟨chan, sent, record⟩
    · rw [confirmExpiryEnergizing_of_idle idle]
      exact buildDue_sameButTraffic s
  · have due := buildDue_channels (confirmExpiryReleasing c s)
    refine ⟨buildDue (confirmExpiryReleasing c s), exec_running running _, by simp, by simp, by simp, by simp, by simp,
      by simp, by simp, fun d other => ?_, fun d k other => ?_, fun state runs => ?_, fun idle => ?_⟩
    · exact ⟨by rw [(due d).1]; simp [other], by rw [(due d).2.1]; simp [other]⟩
    · rw [(due d).2.2]
      by_cases runs : (s.chan c).state = .releasing ∧ (s.chan c).confirm ≠ none
      · rw [confirmExpiryReleasing_kinds runs.1 runs.2, if_neg (by tauto)]
      · rw [confirmExpiryReleasing_of_idle (by tauto)]
    · have record := confirmExpiryReleasing_kinds state runs c .stuckOn
      rw [if_pos ⟨rfl, rfl⟩] at record
      rw [(due c).1, (due c).2.1, (due c).2.2, (Offered.buildDue _).lockChange]
      refine ⟨?_, ?_, ?_, record⟩
      · rw [confirmExpiryReleasing_of_runs state runs, (trackRecord_channel c c _ _).1, unreleased_chan]
      · rw [confirmExpiryReleasing_of_runs state runs, (trackRecord_channel c c _ _).2.1, unreleased_sentBy]
      · rw [confirmExpiryReleasing_of_runs state runs]
        have told (r : FaultRecord) (u : State) : (trackErr (setRecord c r) u).host = u.host := by
          unfold trackErr
          dsimp only
          split <;> rfl
        rw [told, unreleased_lockChange state]
    · rw [confirmExpiryReleasing_of_idle idle]
      exact buildDue_sameButTraffic s
  · have due := buildDue_channels (offCheckExpiry c s)
    have idle_or (h : ¬ (((s.chan c).state = .on ∨ (s.chan c).state = .disarming) ∧ (s.chan c).offCheck ≠ none)) :
        offCheckExpiry c s = s := offCheckExpiry_of_idle (by tauto)
    have driven (state : (s.chan c).state = .on ∨ (s.chan c).state = .disarming) :
        ((modChan c (fun r => { r with offCheck := none }) s).chan c).state.isLocked = false := by
      rcases state with h | h <;> simp [h, ChannelState.isLocked]
    refine ⟨buildDue (offCheckExpiry c s), exec_running running _, by simp, by simp, by simp, by simp, by simp,
      by simp, by simp, fun d other => ?_, ?_, fun d k other => ?_, fun state runs excused => ?_,
      fun state runs failed => ?_, fun idle => ?_⟩
    · exact ⟨by rw [(due d).1]; simp [other], by rw [(due d).2.1]; simp [other]⟩
    · rw [(due c).2.1]
      by_cases h : ((s.chan c).state = .on ∨ (s.chan c).state = .disarming) ∧ (s.chan c).offCheck ≠ none
      · rw [offCheckExpiry_of_runs h.1 h.2]
        split
        · simp
        · rw [(raiseFailOn_leaves (driven h.1)).2.1]
          simp
      · rw [idle_or h]
    · rw [(due d).2.2]
      by_cases h : ((s.chan c).state = .on ∨ (s.chan c).state = .disarming) ∧ (s.chan c).offCheck ≠ none
      · rw [offCheckExpiry_of_runs h.1 h.2]
        split
        · rfl
        · rw [raiseFailOn_kinds (driven h.1), if_neg (by tauto)]
          rfl
      · rw [idle_or h]
    · rw [(due c).1, (due c).2.2, offCheckExpiry_of_runs state runs, if_pos excused]
      exact ⟨by simp, rfl⟩
    · obtain ⟨chan, -, -⟩ := raiseFailOn_leaves (driven state)
      have record := raiseFailOn_kinds (driven state) c .failOn
      rw [if_pos ⟨rfl, rfl⟩] at record
      rw [(due c).1, (due c).2.2, offCheckExpiry_of_runs state runs, if_neg failed]
      refine ⟨?_, congrArg KindRecord.sticky record, congrArg KindRecord.count record⟩
      rw [chan, modChan_chan, if_pos rfl]
      rfl
    · rw [offCheckExpiry_of_idle idle]
      exact buildDue_sameButTraffic s

end Sys2Proof.Machine
end

section
/-! PROOFS. A grant and a revoke at their channel (O7). -/

namespace Sys2Proof.Machine

open Sys2Proof

/-! ## The next message (R8) -/

/-- The state without the message that a channel takes. -/
def State.taking (s : State) (rest : List ToChannel) : State :=
  { s with channels := { s.channels with toChannels := rest } }

theorem deliverToChannel_next {s : State} {c : Fin 8} {before after : List ToChannel} {m : ToChannelMsg}
    (queue : s.channels.toChannels = before ++ ⟨c, m⟩ :: after) (first : ∀ x ∈ before, x.channel ≠ c)
    {p : ToChannelMsg → Bool} (meets : p m = true) (f : State → State) :
    deliverToChannel c p f s = f (s.taking (before ++ after)) := by
  have skipped : before.find? (fun x => x.channel == c) = none :=
    List.find?_eq_none.mpr fun x h => by simpa using first x h
  have found : s.channels.toChannels.find? (fun x => x.channel == c) = some ⟨c, m⟩ := by
    rw [queue, List.find?_append, skipped]
    simp
  have erased : s.channels.toChannels.erase ⟨c, m⟩ = before ++ after := by
    rw [queue, List.erase_append_right _ fun h => first _ h rfl]
    simp
  simp only [deliverToChannel, found, meets, if_true, erased]
  rfl

theorem taking_alike (s : State) (rest : List ToChannel) (c : Fin 8) : AlikeSources c s (s.taking rest) :=
  ⟨⟨rfl, rfl, rfl, rfl, rfl, rfl⟩, rfl, rfl, rfl⟩

/-! ## A grant (R8, R11) -/

section
variable {c : Fin 8} {s : State}

theorem grantAt_waiting (state : (s.chan c).state = .waiting) : (grantAt c s).sentBy c = s.sentBy c ∧
    (grantAt c s).chan c = { s.chan c with
      state := (match (s.cfg c).timing with | .marked => .armed | .immediate => .energizing),
      confirm := (match (s.cfg c).timing with | .marked => none | .immediate => some (s.now + 5000)),
      offCheck := none } := by
  unfold grantAt
  rw [state]
  cases (s.cfg c).timing <;> simp [confirmAtEntry, ChannelState.confirmedOn, Config.confirmTime]

theorem grantAt_elsewhere (state : (s.chan c).state ≠ .waiting) : grantAt c s = sendToGroup c .doneNeverDriven s := by
  unfold grantAt
  split
  · contradiction
  · rfl

/-! ## A revoke (R8, R23) -/

theorem revokeAt_armed (state : (s.chan c).state = .armed) :
    revokeAt c s = enterOff c (sendToGroup c .doneNeverDriven s) := by
  unfold revokeAt
  rw [state]

theorem revokeAt_driven (state : (s.chan c).state.driven = true) :
    (revokeAt c s).chan c = { s.chan c with
      state := .releasing, target := .off, offCheck := none,
      confirm := if s.link.up = true then some (s.now + 5000) else none } ∧
    (revokeAt c s).sentBy c = s.sentBy c := by
  have release : revokeAt c s = enterReleasing .off c s := by
    unfold revokeAt
    cases h : (s.chan c).state <;> simp_all [ChannelState.driven]
  rw [release]
  refine ⟨?_, by simp [enterReleasing]⟩
  simp [enterReleasing, confirmAtEntry, ChannelState.confirmedOn, Config.confirmTime]

theorem revokeAt_elsewhere (armed : (s.chan c).state ≠ .armed) (driven : (s.chan c).state.driven = false) :
    revokeAt c s = s := by
  unfold revokeAt
  cases h : (s.chan c).state <;> simp_all [ChannelState.driven]

end

/-- A grant or a revoke leaves the channel its causes, its demand and its hand-back. -/
theorem grantAt_lasting (c : Fin 8) (s : State) : ((grantAt c s).chan c).causes = (s.chan c).causes ∧
    ((grantAt c s).chan c).demand = (s.chan c).demand ∧ ((grantAt c s).chan c).handBack = (s.chan c).handBack := by
  by_cases state : (s.chan c).state = .waiting
  · rw [(grantAt_waiting state).2]
    exact ⟨rfl, rfl, rfl⟩
  · simp [grantAt_elsewhere state]

theorem revokeAt_lasting (c : Fin 8) (s : State) : ((revokeAt c s).chan c).causes = (s.chan c).causes ∧
    ((revokeAt c s).chan c).demand = (s.chan c).demand ∧ ((revokeAt c s).chan c).handBack = (s.chan c).handBack := by
  by_cases armed : (s.chan c).state = .armed
  · obtain ⟨r, chan, causes, demand, handBack, -⟩ := enterOff_cases c (sendToGroup c .doneNeverDriven s)
    rw [revokeAt_armed armed, chan]
    exact ⟨by simpa using causes, by simpa using demand, by simpa using handBack⟩
  · by_cases driven : (s.chan c).state.driven = true
    · rw [(revokeAt_driven driven).1]
      exact ⟨rfl, rfl, rfl⟩
    · rw [revokeAt_elsewhere armed (by simpa using driven)]
      exact ⟨rfl, rfl, rfl⟩

section
variable {c : Fin 8} {s u : State} (like : Alike c s u)
include like

/-- A revoke in ARMED with demand OFF. -/
theorem revoke_armed_off (off : (s.chan c).demand = false) :
    ((enterOff c (sendToGroup c .doneNeverDriven u)).chan c).state = .off ∧
    ((enterOff c (sendToGroup c .doneNeverDriven u)).chan c).rearm = false ∧
    (enterOff c (sendToGroup c .doneNeverDriven u)).sentBy c = s.sentBy c ++ s.messageOf c .doneNeverDriven := by
  obtain ⟨chan, sent⟩ := enterOff_demand_off c (sendToGroup c .doneNeverDriven u) (by rw [sendToGroup_chan, like.chan, off])
  rw [chan, sent, sendToGroup_sentBy, like.sent, like.messageOf]
  exact ⟨rfl, rfl, rfl⟩

/-- A revoke in ARMED with demand ON that R9 does not let start again. -/
theorem revoke_armed_stays (on : (s.chan c).demand = true) (stays : (s.chan c).rearm = true ∨ s.pathReady = false) :
    ((enterOff c (sendToGroup c .doneNeverDriven u)).chan c).state = .off ∧
    ((enterOff c (sendToGroup c .doneNeverDriven u)).chan c).rearm = (s.chan c).rearm ∧
    (enterOff c (sendToGroup c .doneNeverDriven u)).sentBy c = s.sentBy c ++ s.messageOf c .doneNeverDriven := by
  have idle : (sendToGroup c .doneNeverDriven u).starts c = false := by
    simp only [State.starts, sendToGroup_chan, sendToGroup_pathReady, like.chan, like.pathReady]
    rcases stays with h | h <;> simp [h]
  obtain ⟨chan, sent⟩ := enterOff_not_due c (sendToGroup c .doneNeverDriven u) (by rw [sendToGroup_chan, like.chan, on]) idle
  rw [chan, sent, sendToGroup_sentBy, sendToGroup_chan, like.chan, like.sent, like.messageOf]
  exact ⟨rfl, rfl, rfl⟩

/-- A revoke in ARMED with demand ON of a grouped channel that starts again (R9). -/
theorem revoke_armed_asks (on : (s.chan c).demand = true) (clear : (s.chan c).rearm = false) (ready : s.pathReady = true)
    (enabled : (s.cfg c).enabled = true) (grouped : (s.cfg c).group ≠ none) :
    ((enterOff c (sendToGroup c .doneNeverDriven u)).chan c).state = .waiting ∧
    (enterOff c (sendToGroup c .doneNeverDriven u)).sentBy c =
      s.sentBy c ++ s.messageOf c .doneNeverDriven ++ s.messageOf c .request := by
  have cfg : (sendToGroup c .doneNeverDriven u).cfg c = s.cfg c := by simp [like.cfg]
  have due : (sendToGroup c .doneNeverDriven u).starts c = true := by
    simp [State.starts, like.chan, like.pathReady, like.cfg, on, clear, ready, enabled]
  have waits : (s.cfg c).startState = .waiting := by
    obtain ⟨e, group⟩ := Option.ne_none_iff_exists'.mp grouped
    simp [ChannelConfig.startState, group]
  obtain ⟨chan, sent⟩ := enterOff_due c (sendToGroup c .doneNeverDriven u) due
  rw [chan, sent, cfg]
  refine ⟨waits, ?_⟩
  simp [like.sent, like.messageOf]

end

/-- Settles O7. -/
theorem grantAndRevoke : Obligations.GrantAndRevoke := by
  intro s c before after m running queue first
  have like := (taking_alike s (before ++ after) c).toAlike
  cases m with
  | grant =>
    have next := deliverToChannel_next queue first (p := (· == .grant)) rfl (grantAt c)
    obtain ⟨causes, demand, handBack⟩ := grantAt_lasting c (s.taking (before ++ after))
    have due := buildDue_channels (grantAt c (s.taking (before ++ after)))
    refine ⟨buildDue (grantAt c (s.taking (before ++ after))), (exec_running running _).trans (by rw [next]), by simp; rfl,
      by simp; rfl, by simp; rfl, by simp; rfl, by simp; rfl, by simp; rfl, by simp; rfl, by simp; rfl,
      fun d other => ?_, ?_⟩
    · exact ⟨by rw [(due d).1]; simp [other]; rfl, by rw [(due d).2.1]; simp [other]; rfl⟩
    · rw [(due c).1, (due c).2.1, causes, demand, handBack]
      refine ⟨rfl, rfl, rfl, ?_⟩
      cases state : (s.chan c).state <;> dsimp only
      case waiting =>
        obtain ⟨sent, chan⟩ := grantAt_waiting (c := c) (s := s.taking (before ++ after)) (by rw [like.chan, state])
        rw [sent, chan, like.cfg, like.now, like.sent]
        exact ⟨rfl, rfl, rfl⟩
      all_goals
        rw [grantAt_elsewhere (by rw [like.chan, state]; decide), sendToGroup_chan, sendToGroup_sentBy, like.chan, like.sent,
          like.messageOf]
        exact ⟨rfl, rfl⟩
  | revoke =>
    have next := deliverToChannel_next queue first (p := (· == .revoke)) rfl (revokeAt c)
    obtain ⟨causes, demand, handBack⟩ := revokeAt_lasting c (s.taking (before ++ after))
    have due := buildDue_channels (revokeAt c (s.taking (before ++ after)))
    refine ⟨buildDue (revokeAt c (s.taking (before ++ after))), (exec_running running _).trans (by rw [next]), by simp; rfl,
      by simp; rfl, by simp; rfl, by simp; rfl, by simp; rfl, by simp; rfl, by simp; rfl, by simp; rfl,
      fun d other => ?_, ?_⟩
    · exact ⟨by rw [(due d).1]; simp [other]; rfl, by rw [(due d).2.1]; simp [other]; rfl⟩
    · rw [(due c).1, (due c).2.1, causes, demand, handBack]
      refine ⟨rfl, rfl, rfl, ?_⟩
      cases state : (s.chan c).state <;> dsimp only
      case armed =>
        rw [revokeAt_armed (c := c) (s := s.taking (before ++ after)) (by rw [like.chan, state])]
        exact ⟨revoke_armed_off like, revoke_armed_stays like, revoke_armed_asks like⟩
      case energizing | on | disarming =>
        obtain ⟨chan, sent⟩ := revokeAt_driven (c := c) (s := s.taking (before ++ after)) (by rw [like.chan, state]; rfl)
        rw [chan, sent, like.chan, like.link, like.now, like.sent]
        exact ⟨rfl, rfl⟩
      all_goals
        have stays : revokeAt c (s.taking (before ++ after)) = s.taking (before ++ after) :=
          revokeAt_elsewhere (by rw [like.chan, state]; decide) (by rw [like.chan, state]; rfl)
        rw [State.sameChannel, (due c).1, (due c).2.1, stays]
        exact ⟨rfl, rfl⟩

end Sys2Proof.Machine
end

section
/-! PROOFS. What the transmit queue does with an offer (R100 to R102, O18). -/

namespace Sys2Proof.Machine

open Sys2Proof

/-! ## Where an entry stands in the queue -/

/-- A queue cut at the place of a kind code: behind every frame of lower or equal code, before the first of a
larger one. -/
def cutAt (code : Nat) (l a b : List Queued) : Prop :=
  l = a ++ b ∧ (∀ x ∈ a, x.frame.code ≤ code) ∧ ∀ x, b.head? = some x → code < x.frame.code

theorem insertByCode_cut (q : Queued) (l : List Queued) :
    ∃ a b, cutAt q.frame.code l a b ∧ insertByCode q l = a ++ q :: b := by
  induction l with
  | nil => exact ⟨[], [], ⟨rfl, by simp, by simp⟩, rfl⟩
  | cons x l ih =>
    unfold insertByCode
    split
    · next behind =>
      obtain ⟨a, b, ⟨rfl, low, high⟩, inserted⟩ := ih
      exact ⟨x :: a, b, ⟨rfl, by simpa [behind] using low, high⟩, by rw [inserted]; rfl⟩
    · next before =>
      exact ⟨[], x :: l, ⟨rfl, by simp, fun y head => by
        obtain rfl : x = y := by simpa using head
        omega⟩, rfl⟩

theorem replaceContent_at {f m : Frame} {before : List Queued} {q : Queued} {after : List Queued}
    (free : ∀ x ∈ before, sameLimit x.frame f = false) (limit : sameLimit q.frame f = true) :
    replaceContent f m (before ++ q :: after) = before ++ { q with frame := m } :: after := by
  induction before with
  | nil => simp [replaceContent, limit]
  | cons x before ih =>
    rw [List.forall_mem_cons] at free
    simp [replaceContent, free.1, ih free.2]

theorem find?_sameLimit {f : Frame} {before : List Queued} {q : Queued} {after : List Queued}
    (free : ∀ x ∈ before, sameLimit x.frame f = false) (limit : sameLimit q.frame f = true) :
    (before ++ q :: after).find? (fun x => sameLimit x.frame f) = some q :=
  List.find?_eq_some_iff_append.mpr ⟨limit, before, after, rfl, by simpa using free⟩

theorem filter_sameLimit {f : Frame} {before : List Queued} {q : Queued} {after : List Queued}
    (free : ∀ x ∈ before, sameLimit x.frame f = false) (limit : sameLimit q.frame f = true)
    (alike : ∀ g, sameLimit q.frame g = sameLimit f g) (sound : limitsHold (before ++ q :: after) = true) :
    (before ++ q :: after).filter (fun x => !sameLimit x.frame f) = before ++ after := by
  rw [limitsHold_iff, List.pairwise_append, List.pairwise_cons] at sound
  obtain ⟨-, ⟨apart, -⟩, -⟩ := sound
  have freeAfter : ∀ x ∈ after, sameLimit x.frame f = false := fun x inside => by
    rw [sameLimit_comm, ← alike]
    exact apart x inside
  rw [List.filter_append, List.filter_cons_of_neg (by simp [limit]),
    List.filter_eq_self.mpr (by simpa using free), List.filter_eq_self.mpr (by simpa using freeAfter)]

theorem TripCause.higher_eq (c d : TripCause) :
    c.higher d = if c = .reassert ∨ d = .reassert then .reassert
      else if c = .host ∨ d = .host then .host else .input := by
  cases c <;> cases d <;> decide

/-! ## The branches of an offer -/

/-- The bus state takes this offer (R100). -/
theorem admits_iff (b : BusState) (f : Frame) :
    admits b f = true ↔ b = .onLine ∨ (b = .joining ∧ f.code = 10) := by
  cases b <;> cases f <;> simp [admits, Frame.code]

theorem offer_of_not_admitted {s : State} {f : Frame} (out : admits s.bus.state f = false) :
    offer f s = (s, false) := by
  simp [offer, out]

section
variable {s : State} {f : Frame} (admitted : admits s.bus.state f = true)
include admitted

theorem offer_of_merge {before : List Queued} {q : Queued} {after : List Queued} {m : Frame}
    (queue : s.bus.queue = before ++ q :: after) (free : ∀ x ∈ before, sameLimit x.frame f = false)
    (limit : sameLimit q.frame f = true) (merged : mergeFrames q.frame f = some m) :
    offer f s = (setQueue (before ++ { q with frame := m } :: after) s, true) := by
  simp [offer, admitted, queue, find?_sameLimit free limit, replaceContent_at free limit, merged]

theorem offer_of_replace {before : List Queued} {q : Queued} {after : List Queued}
    (queue : s.bus.queue = before ++ q :: after) (free : ∀ x ∈ before, sameLimit x.frame f = false)
    (limit : sameLimit q.frame f = true) (merged : mergeFrames q.frame f = none)
    (replaced : replacesHold q.frame f = true) (alike : ∀ g, sameLimit q.frame g = sameLimit f g)
    (sound : limitsHold s.bus.queue = true) :
    offer f s = (setQueue (insertByCode (newEntry s.now f) (before ++ after)) s, true) := by
  rw [queue] at sound
  simp [offer, admitted, queue, find?_sameLimit free limit, merged, replaced,
    filter_sameLimit free limit alike sound, -List.filter_append]

theorem offer_of_limit {before : List Queued} {q : Queued} {after : List Queued}
    (queue : s.bus.queue = before ++ q :: after) (free : ∀ x ∈ before, sameLimit x.frame f = false)
    (limit : sameLimit q.frame f = true) (merged : mergeFrames q.frame f = none)
    (replaced : replacesHold q.frame f = false) : offer f s = (s, false) := by
  simp [offer, admitted, queue, find?_sameLimit free limit, merged, replaced]

section
variable (free : ∀ x ∈ s.bus.queue, sameLimit x.frame f = false)
include free

theorem offer_of_room (room : s.bus.queue.length < 12) :
    offer f s = (setQueue (insertByCode (newEntry s.now f) s.bus.queue) s, true) := by
  have none : s.bus.queue.find? (fun x => sameLimit x.frame f) = none := by simpa using free
  simp [offer, admitted, none, queueCapacity, room]

theorem offer_of_full {rest : List Queued} {last : Queued} (queue : s.bus.queue = rest ++ [last])
    (full : 12 ≤ s.bus.queue.length) (low : last.frame.code ≤ f.code) :
    offer f s = (raiseFlag .queueOverflow s, false) := by
  have none : s.bus.queue.find? (fun x => sameLimit x.frame f) = none := by simpa using free
  have noRoom : ¬ s.bus.queue.length < 12 := by omega
  have tail : s.bus.queue.getLast? = some last := by rw [queue, List.getLast?_concat]
  simp [offer, admitted, none, queueCapacity, noRoom, tail, Nat.not_lt.mpr low]

theorem offer_of_displacing {rest : List Queued} {last : Queued} (queue : s.bus.queue = rest ++ [last])
    (full : 12 ≤ s.bus.queue.length) (above : f.code < last.frame.code) :
    offer f s = (displacedNotice last.frame (raiseFlag .queueOverflow
      (setQueue (insertByCode (newEntry s.now f) rest) s)), true) := by
  have none : s.bus.queue.find? (fun x => sameLimit x.frame f) = none := by simpa using free
  have noRoom : ¬ s.bus.queue.length < 12 := by omega
  have tail : s.bus.queue.getLast? = some last := by rw [queue, List.getLast?_concat]
  have front : s.bus.queue.dropLast = rest := by rw [queue, List.dropLast_concat]
  simp [offer, admitted, none, queueCapacity, noRoom, tail, above, front]

end

end

/-! ## What a displaced frame carried -/

theorem displacedNotice_flagSticky (f : Frame) (s : State) (k : NodeFlag) :
    (displacedNotice f s).flagSticky k = s.flagSticky k := by
  cases f <;> rfl

theorem displacedNotice_points {pairs : List PointPair} {s : State} {k : Nat} {cfg : PublicationConfig}
    (listed : s.config.publications[k]? = some cfg) (inside : k < s.pubs.entries.length)
    (carried : ∃ p ∈ pairs, p.point = cfg.point) :
    (displacedNotice (.points pairs) s).pubs.entries[k]?.map Publication.waiting = some true := by
  rw [← List.getElem?_map]
  exact pendWhere_waiting (by simpa using carried) listed inside

@[simp] theorem raiseFlag_pubs_length (k : NodeFlag) (s : State) :
    (raiseFlag k s).pubs.entries.length = s.pubs.entries.length := by
  simp only [raiseFlag, trackErr, setNodeFlagEvent]
  split
  · rfl
  · simp [pendSource, setFlags]

theorem displacedNotice_fault (c : Fin 8) (l d : KindSet) (m : Half) (s : State) :
    ((displacedNotice (.fault c l d m) s).faultRec c).waiting = true := by
  simp [displacedNotice, setFaultWaiting, setRecord, State.faultRec]

/-- Settles O18, by the branches of an offer. -/
theorem offers : Obligations.Offers := by
  intro s f
  refine ⟨fun ⟨offLine, notHello⟩ => offer_of_not_admitted (Bool.eq_false_iff.mpr fun admitted =>
    ((admits_iff _ _).mp admitted).elim offLine notHello), fun line => ?_⟩
  have admitted := (admits_iff s.bus.state f).mpr line
  refine ⟨fun before q after queue free limit => ?_, fun free => ⟨fun room => ?_, fun rest last queue full => ?_⟩⟩
  · refine ⟨fun z c z' c' held offered => ?_, fun z z' held offered => ?_, fun g c o g' c' o' held offered => ?_,
      fun i i' held offered => ?_, fun g c o g' c' held offered sound => ?_, fun g c o offered other => ?_,
      fun g c offered other => ?_, fun single => ?_⟩
    · exact offer_of_merge admitted queue free limit (by rw [held, offered, mergeFrames, TripCause.higher_eq])
    · exact offer_of_merge admitted queue free limit (by rw [held, offered, mergeFrames])
    · exact offer_of_merge admitted queue free limit (by rw [held, offered, mergeFrames])
    · exact offer_of_merge admitted queue free limit (by rw [held, offered, mergeFrames])
    · subst offered
      have same : g = g' := by simpa [held, sameLimit, Frame.group] using limit
      subst same
      rw [offer_of_replace admitted queue free limit (by rw [held]; rfl) (by rw [held]; rfl)
        (fun x => by rw [held]; cases x <;> rfl) sound]
      obtain ⟨a, b, ⟨split, low, high⟩, inserted⟩ :=
        insertByCode_cut (newEntry s.now (.release g c')) (before ++ after)
      exact ⟨a, b, split, low, high, by rw [inserted]; rfl⟩
    · subst offered
      exact offer_of_limit admitted queue free limit
        (by cases h : q.frame <;> simp_all [mergeFrames, Frame.code]) (by cases q.frame <;> rfl)
    · subst offered
      exact offer_of_limit admitted queue free limit
        (by cases q.frame <;> rfl) (by cases h : q.frame <;> simp_all [replacesHold, Frame.code])
    · have lone : ∀ x, mergeFrames x f = none ∧ replacesHold x f = false := by
        intro x
        cases f <;> simp [Frame.code] at single <;> cases x <;> exact ⟨rfl, rfl⟩
      exact offer_of_limit admitted queue free limit (lone _).1 (lone _).2
  · obtain ⟨a, b, ⟨split, low, high⟩, inserted⟩ := insertByCode_cut (newEntry s.now f) s.bus.queue
    exact ⟨a, b, split, low, high, by rw [offer_of_room admitted free room, inserted]; rfl⟩
  · refine ⟨fun low => ?_, fun above => ?_, fun above => ?_⟩
    · rw [offer_of_full admitted free queue full low]
      exact ⟨rfl, by simp, raiseFlag_flagSticky _ _⟩
    · rw [offer_of_displacing admitted free queue full above]
      obtain ⟨a, b, ⟨split, low, high⟩, inserted⟩ := insertByCode_cut (newEntry s.now f) rest
      exact ⟨rfl, by rw [displacedNotice_flagSticky, raiseFlag_flagSticky], a, b, split, low, high, by
        rw [← show newEntry s.now f = { frame := f, age := s.now, retries := 0, onLine := false } from rfl,
          ← inserted]
        simp [setQueue]⟩
    · rw [offer_of_displacing admitted free queue full above]
      cases displaced : last.frame <;> try trivial
      case points pairs =>
        intro k cfg listed x entry carried
        exact displacedNotice_points (by simpa [State.config] using listed)
          (by simpa [setQueue] using (List.getElem?_eq_some_iff.mp entry).1) carried
      case fault c l d m => exact displacedNotice_fault c l d m _

end Sys2Proof.Machine
end

section
/-! PROOFS. The SHUTDOWN pin (R60, R72, R73, O15). -/

namespace Sys2Proof.Machine

open Sys2Proof

/-- The SHUTDOWN field alone changed (R73). -/
def State.withShutdown (s : State) (b : Bool) : State := { s with zones := { s.zones with shutdown := b } }

section
variable {s : State} {b : Bool}

theorem shutdownChange_same (same : s.zones.shutdown = b) : shutdownChange b s = s := by
  rw [shutdownChange, if_pos (by simp [same])]

theorem shutdownChange_other (change : s.zones.shutdown ≠ b) : shutdownChange b s =
    if s.held then s.withShutdown b
    else if s.running then
      if b then forceShutdown (setZoneChange (s.withShutdown b)) else withdrawShutdown (setZoneChange (s.withShutdown b))
    else setZoneChange (s.withShutdown b) := by
  rw [shutdownChange, if_neg (by simpa using change)]
  rfl

theorem shutdownChange_running (change : s.zones.shutdown ≠ b) (awake : s.held = false) (running : s.running = true) :
    shutdownChange b s = if b then forceShutdown (setZoneChange (s.withShutdown b))
      else withdrawShutdown (setZoneChange (s.withShutdown b)) := by
  simp [shutdownChange_other change, awake, running]

/-- A change while RUNNING: the field and the event (R72). -/
theorem shutdownChange_zones (change : s.zones.shutdown ≠ b) (awake : s.held = false) (running : s.running = true) :
    (shutdownChange b s).zones = { s.zones with shutdown := b } ∧ (shutdownChange b s).host.points = s.host.points ∧
    (shutdownChange b s).host.events.zoneChange = true := by
  rw [shutdownChange_running change awake running]
  have forced (u : State) : (forceShutdown u).host.events.zoneChange = u.host.events.zoneChange ∧
      (forceShutdown u).host.points = u.host.points :=
    ⟨each8_keeps (fun s => s.host.events.zoneChange) (forceCause .shutdown) (fun c s => by simp) u,
      each8_keeps (fun s => s.host.points) (forceCause .shutdown) (fun c s => by simp) u⟩
  have withdrawn (u : State) : (withdrawShutdown u).host.events.zoneChange = u.host.events.zoneChange ∧
      (withdrawShutdown u).host.points = u.host.points :=
    ⟨each8_keeps (fun s => s.host.events.zoneChange) (withdrawCause .shutdown) (fun c s => by simp) u,
      each8_keeps (fun s => s.host.points) (withdrawCause .shutdown) (fun c s => by simp) u⟩
  split
  · simp [forced, State.withShutdown, setZoneChange]
  · simp [withdrawn, State.withShutdown, setZoneChange]

theorem shutdownChange_channel (change : s.zones.shutdown ≠ b) (awake : s.held = false) (running : s.running = true)
    (c : Fin 8) : if b = true then s.forced (shutdownChange b s) .shutdown c
      else s.withdrawn (shutdownChange b s) .shutdown c := by
  rw [shutdownChange_running change awake running]
  have told : Alike c (setZoneChange (s.withShutdown b)) s := ⟨rfl, rfl, rfl, rfl, rfl, rfl⟩
  cases b
  · exact told.withdrawn (withdrawShutdown_alike c _) (withdrawCause_withdrawn .shutdown c _)
  · exact told.forced (forceShutdown_alike c _) (forceCause_forced .shutdown c _)

end

theorem exec_shutdown (b : Bool) (s : State) :
    exec (if b = true then .shutdownAsserted else .shutdownReleased) s = .next (buildDue (shutdownChange b s)) := by
  cases b <;> rfl

/-- Settles O15: the frames due after the change touch no channel, and off the line none is due. -/
theorem shutdownPin : Obligations.ShutdownPin := by
  intro s asserted
  dsimp only
  rw [exec_shutdown]
  refine ⟨fun same off => ?_, fun change held off => ?_, fun change awake idle off => ?_,
    fun change awake running => ⟨_, rfl, ?_⟩⟩
  · rw [shutdownChange_same same, buildDue_of_not_onLine (by simpa [State.onLine] using off)]
  · rw [shutdownChange_other change, if_pos held,
      buildDue_of_not_onLine (by simpa [State.onLine, State.withShutdown] using off)]
    rfl
  · rw [shutdownChange_other change, if_neg (by simp [awake]), if_neg (by simp [idle]),
      buildDue_of_not_onLine (by simpa [State.onLine, State.withShutdown] using off)]
    rfl
  · obtain ⟨zones, host, event⟩ := shutdownChange_zones change awake running
    have stillRunning : (buildDue (shutdownChange asserted s)).running = true := by
      simpa [State.running] using running
    refine ⟨by simp [zones], (buildDue_news _).event.trans event, ?_, by simp, by simp,
      by simp, by simp, by simp, by simp, by simp [host], fun c => ?_⟩
    · simp [State.enable, stillRunning, zones]
    · have due := (buildDue_alike c (shutdownChange asserted s)).toAlike
      have told := shutdownChange_channel change awake running c
      cases asserted
      · exact (Alike.refl c s).withdrawn due told
      · exact (Alike.refl c s).forced due told

end Sys2Proof.Machine
end

section
/-! PROOFS. What stands in the transmit queue after an offer and after the frames due (R32, R89, R100 to R102,
R148). -/

namespace Sys2Proof.Machine

open Sys2Proof

/-! ## One offer -/

/-- An offer is refused, merges into an entry under its limit, or enters: then every other entry stays, but for
those of larger kind code and, under a RELEASE, those of its group (R101, R102). -/
theorem offer_cases (f : Frame) (s : State) :
    ((offer f s).2 = false ∧ (offer f s).1.bus = s.bus) ∨
    (∃ before q after m, s.bus.queue = before ++ q :: after ∧ sameLimit q.frame f = true ∧
      mergeFrames q.frame f = some m ∧
      offer f s = (setQueue (before ++ { q with frame := m } :: after) s, true)) ∨
    ((offer f s).2 = true ∧ ∃ kept, (∀ q ∈ kept, q ∈ s.bus.queue) ∧
      (∀ q ∈ s.bus.queue, q.frame.code ≤ f.code → (f.code = 3 → sameLimit q.frame f = false) → q ∈ kept) ∧
      (offer f s).1.bus.queue = insertByCode (newEntry s.now f) kept) := by
  cases admitted : admits s.bus.state f
  · exact .inl (by simp [offer_of_not_admitted admitted])
  by_cases free : ∀ x ∈ s.bus.queue, sameLimit x.frame f = false
  · by_cases room : s.bus.queue.length < 12
    · refine .inr (.inr ?_)
      rw [offer_of_room admitted free room]
      exact ⟨rfl, s.bus.queue, fun _ => id, fun q inside _ _ => inside, rfl⟩
    · obtain ⟨rest, last, queue⟩ : ∃ rest last, s.bus.queue = rest ++ [last] :=
        by
        simpa using (List.eq_nil_or_concat s.bus.queue).resolve_left fun e => by simp [e] at room
      by_cases above : f.code < last.frame.code
      · refine .inr (.inr ?_)
        rw [offer_of_displacing admitted free queue (by omega) above]
        refine ⟨rfl, rest, fun q inside => by simp [queue, inside], fun q inside low _ => ?_, by simp [setQueue]⟩
        rw [queue, List.mem_append, List.mem_singleton] at inside
        rcases inside with inside | rfl
        · exact inside
        · omega
      · exact .inl (by simp [offer_of_full admitted free queue (by omega) (by omega)])
  · push Not at free
    obtain ⟨x, inside, same⟩ := free
    replace same := Bool.eq_true_of_not_eq_false same
    obtain ⟨q, found⟩ : ∃ q, s.bus.queue.find? (fun x => sameLimit x.frame f) = some q :=
      Option.isSome_iff_exists.mp (List.find?_isSome.mpr ⟨x, inside, same⟩)
    obtain ⟨limit, before, after, queue, none⟩ := List.find?_eq_some_iff_append.mp found
    replace none : ∀ x ∈ before, sameLimit x.frame f = false := by simpa using none
    cases merged : mergeFrames q.frame f with
    | some m => exact .inr (.inl ⟨before, q, after, m, queue, limit, merged,
        offer_of_merge admitted queue none limit merged⟩)
    | none =>
      cases replaced : replacesHold q.frame f
      · exact .inl (by simp [offer_of_limit admitted queue none limit merged replaced])
      · refine .inr (.inr ?_)
        have release : f.code = 3 := by
          cases f <;> cases h : q.frame <;> simp_all [replacesHold, Frame.code]
        have eq : offer f s = (setQueue (insertByCode (newEntry s.now f)
            (s.bus.queue.filter fun x => !sameLimit x.frame f)) s, true) := by
          simp [offer, admitted, found, merged, replaced]
        rw [eq]
        exact ⟨rfl, _, fun q inside => List.mem_of_mem_filter inside,
          fun q inside _ apart => List.mem_filter.mpr ⟨inside, by simp [apart release]⟩, rfl⟩

theorem mergeFrames_code {q f m : Frame} (merged : mergeFrames q f = some m) : m.code = f.code := by
  unfold mergeFrames at merged
  split at merged <;> cases merged <;> rfl

theorem mem_offer {f : Frame} {s : State} {q : Queued} (inside : q ∈ (offer f s).1.bus.queue) :
    q ∈ s.bus.queue ∨ q.frame.code = f.code := by
  rcases offer_cases f s with ⟨-, same⟩ | ⟨before, p, after, m, queue, limit, merged, eq⟩ | ⟨-, kept, sub, -, eq⟩
  · exact .inl (by rwa [same] at inside)
  · rw [eq] at inside
    simp only [setQueue_bus, List.mem_append, List.mem_cons] at inside
    rw [queue]
    simp only [List.mem_append, List.mem_cons]
    rcases inside with inside | rfl | inside
    · exact .inl (.inl inside)
    · exact .inr (mergeFrames_code merged)
    · exact .inl (.inr (.inr inside))
  · rw [eq] at inside
    rcases mem_insertByCode inside with rfl | inside
    · exact .inr rfl
    · exact .inl (sub q inside)

/-- The kinds of a frame that no queued frame takes in and that takes no queued frame's place (R101). -/
def Frame.lone (f : Frame) : Prop := (∀ g, mergeFrames g f = none) ∧ f.code ≠ 3

theorem Frame.lone_of_code {f : Frame}
    (h : f.code = 0 ∨ f.code = 5 ∨ f.code = 6 ∨ f.code = 7 ∨ f.code = 8 ∨ f.code = 10) : f.lone := by
  refine ⟨fun g => ?_, by omega⟩
  cases f <;> simp [Frame.code] at h <;> cases g <;> rfl

theorem offer_keeps_entry {f : Frame} {s : State} {q : Queued} (inside : q ∈ s.bus.queue)
    (low : q.frame.code ≤ f.code) (apart : sameLimit q.frame f = false ∨ f.lone) : q ∈ (offer f s).1.bus.queue := by
  rcases offer_cases f s with ⟨-, same⟩ | ⟨before, p, after, m, queue, limit, merged, eq⟩ | ⟨-, kept, -, stays, eq⟩
  · rwa [same]
  · rw [eq]
    rw [queue] at inside
    simp only [setQueue_bus, List.mem_append, List.mem_cons] at inside ⊢
    rcases inside with inside | rfl | inside
    · exact .inl inside
    · rcases apart with apart | ⟨lone, -⟩
      · rw [limit] at apart; cases apart
      · rw [lone] at merged; cases merged
    · exact .inr (.inr inside)
  · rw [eq, (insertByCode_perm _ _).mem_iff]
    exact List.mem_cons_of_mem _ (stays q inside low fun release => apart.resolve_right fun lone => lone.2 release)

/-- An offer that is taken up is in the queue, as itself or merged (R100, R101). -/
theorem offer_taken_mem {f : Frame} {s : State} (taken : (offer f s).2 = true) :
    ∃ q ∈ (offer f s).1.bus.queue, q.frame = f ∨ ∃ g, mergeFrames g f = some q.frame := by
  rcases offer_cases f s with ⟨refused, -⟩ | ⟨before, p, after, m, queue, limit, merged, eq⟩ | ⟨-, kept, -, -, eq⟩
  · rw [taken] at refused; cases refused
  · rw [eq]
    exact ⟨{ p with frame := m }, by simp [setQueue], .inr ⟨p.frame, merged⟩⟩
  · exact ⟨newEntry s.now f, by rw [eq, (insertByCode_perm _ _).mem_iff]; exact List.mem_cons_self, .inl rfl⟩

/-- From s to t the queue took up to k frames and lost none, and no flag was raised. -/
def GrowsBy (k : Nat) (s t : State) : Prop :=
  (∀ q ∈ s.bus.queue, q ∈ t.bus.queue) ∧ t.bus.queue.length ≤ s.bus.queue.length + k ∧
    t.faults.flags = s.faults.flags

theorem GrowsBy.of_same {s t : State} (k : Nat) (bus : t.bus = s.bus) (flags : t.faults.flags = s.faults.flags) :
    GrowsBy k s t := ⟨fun q inside => by rwa [bus], by rw [bus]; omega, flags⟩

theorem GrowsBy.trans {j k : Nat} {s t u : State} (h : GrowsBy j s t) (h' : GrowsBy k t u) : GrowsBy (j + k) s u := by
  obtain ⟨stay, length, flags⟩ := h
  obtain ⟨stay', length', flags'⟩ := h'
  exact ⟨fun q inside => stay' q (stay q inside), by omega, flags'.trans flags⟩

theorem GrowsBy.after {k : Nat} {s t u : State} (bus : t.bus = s.bus) (flags : t.faults.flags = s.faults.flags)
    (h : GrowsBy k t u) : GrowsBy k s u := by
  simpa only [GrowsBy, bus, flags] using h

/-- In a queue with room, a frame that neither merges nor replaces takes nothing out (R100 to R102). -/
theorem offer_in_room {f : Frame} {s : State} (lone : f.lone) (room : s.bus.queue.length < 12) :
    GrowsBy 1 s (offer f s).1 := by
  cases admitted : admits s.bus.state f
  · rw [offer_of_not_admitted admitted]
    exact .of_same 1 rfl rfl
  by_cases free : ∀ x ∈ s.bus.queue, sameLimit x.frame f = false
  · rw [offer_of_room admitted free room]
    have perm := insertByCode_perm (newEntry s.now f) s.bus.queue
    exact ⟨fun q inside => perm.mem_iff.mpr (List.mem_cons_of_mem _ inside), perm.length_eq.le, rfl⟩
  · have refused : (offer f s).1 = s := by
      obtain ⟨x, inside, same⟩ : ∃ x ∈ s.bus.queue, sameLimit x.frame f = true := by simpa using free
      obtain ⟨q, found⟩ : ∃ q, s.bus.queue.find? (fun x => sameLimit x.frame f) = some q :=
        Option.isSome_iff_exists.mp (List.find?_isSome.mpr ⟨x, inside, same⟩)
      have replaced : replacesHold q.frame f = false := by
        obtain ⟨-, other⟩ := lone
        cases f <;> simp_all [Frame.code, replacesHold]
      simp [offer, admitted, found, lone.1, replaced]
    rw [refused]
    exact .of_same 1 rfl rfl

theorem sameLimit_of_code {a b : Frame} (same : a.code = b.code) (low : a.code ≤ 2) : sameLimit a b = true := by
  cases a <;> simp [Frame.code] at low <;> cases b <;> simp [Frame.code] at same <;> rfl

/-- A queue of MARK, TRIP and CLEAR frames alone holds three at most (R101). -/
theorem queueFits.length_of_low {l : List Queued} (fits : queueFits l) (low : ∀ q ∈ l, q.frame.code ≤ 2) :
    l.length ≤ 3 := by
  have distinct : (l.map fun q => q.frame.code).Nodup :=
    List.pairwise_map.mpr (fits.imp_of_mem fun {a b} ha _ ⟨apart, _⟩ same => by
      rw [sameLimit_of_code same (low a ha)] at apart
      cases apart)
  have within : (l.map fun q => q.frame.code) ⊆ List.range 3 := fun n inside => by
    obtain ⟨q, mem, rfl⟩ := List.mem_map.mp inside
    exact List.mem_range.mpr (Nat.lt_succ_of_le (low q mem))
  simpa using (distinct.subperm within).length_le

/-- An ON-LINE node whose queue keeps its limits and its order takes up a MARK, a TRIP or a CLEAR, unless a queued
frame of its limit is left as it is (R100 to R102). -/
theorem offer_low_taken {f : Frame} {s : State} (low : f.code ≤ 2) (onLine : s.bus.state = .onLine)
    (fits : queueFits s.bus.queue)
    (merges : ∀ q ∈ s.bus.queue, sameLimit q.frame f = true → (mergeFrames q.frame f).isSome = true) :
    (offer f s).2 = true := by
  have admitted : admits s.bus.state f = true := by rw [onLine]; rfl
  by_cases free : ∀ x ∈ s.bus.queue, sameLimit x.frame f = false
  · by_cases room : s.bus.queue.length < 12
    · rw [offer_of_room admitted free room]
    · obtain ⟨rest, last, queue⟩ : ∃ rest last, s.bus.queue = rest ++ [last] := by
        simpa using (List.eq_nil_or_concat s.bus.queue).resolve_left fun e => by simp [e] at room
      have above : f.code < last.frame.code := by
        by_contra notAbove
        have order := fits
        rw [queue, queueFits, List.pairwise_append] at order
        have short := fits.length_of_low fun q inside => by
          rw [queue, List.mem_append, List.mem_singleton] at inside
          rcases inside with inside | rfl
          · have := (order.2.2 q inside last (by simp)).2
            omega
          · omega
        omega
      rw [offer_of_displacing admitted free queue (by omega) above]
  · obtain ⟨x, inside, same⟩ : ∃ x ∈ s.bus.queue, sameLimit x.frame f = true := by simpa using free
    obtain ⟨q, found⟩ : ∃ q, s.bus.queue.find? (fun x => sameLimit x.frame f) = some q :=
      Option.isSome_iff_exists.mp (List.find?_isSome.mpr ⟨x, inside, same⟩)
    obtain ⟨m, merged⟩ := Option.isSome_iff_exists.mp (merges q (List.mem_of_find?_eq_some found)
      (by simpa using List.find?_some found))
    simp [offer, admitted, found, merged]

/-! ## The frames due after an event -/

/-- From s to t, CLAIM, FAULT and POINTS frames may have joined the queue, and no frame of kind code 0 to 5 left it
(R32, R89, R148). -/
structure DueOnly (s t : State) : Prop where
  joined : ∀ q ∈ t.bus.queue, q ∈ s.bus.queue ∨ q.frame.code = 5 ∨ q.frame.code = 7 ∨ q.frame.code = 8
  stays : ∀ q ∈ s.bus.queue, q.frame.code ≤ 5 → q ∈ t.bus.queue

namespace DueOnly

variable {s t u : State}

theorem of_same (h : t.bus = s.bus) : DueOnly s t := ⟨fun q inside => .inl (by rwa [h] at inside), fun q inside _ => by rwa [h]⟩

theorem trans (h : DueOnly s t) (k : DueOnly t u) : DueOnly s u :=
  ⟨fun q inside => (k.joined q inside).elim (h.joined q) .inr, fun q inside low => k.stays q (h.stays q inside low) low⟩

theorem offer {f : Frame} (due : f.code = 5 ∨ f.code = 7 ∨ f.code = 8) (same : t.bus = s.bus) :
    DueOnly s (offer f t).1 :=
  ⟨fun q inside => same ▸ (mem_offer inside).imp_right fun code => by rwa [code],
    fun q inside low => offer_keeps_entry (same ▸ inside) (by omega) (.inr (Frame.lone_of_code (by omega)))⟩

theorem claimIfDue (e : Fin 8) (s : State) : DueOnly s (claimIfDue e s) := by
  have claim (c : Fin 8) : DueOnly s (claimGroup e c s) := by
    have offered : DueOnly s (Machine.offer (.claim (s.member e).group c)
        (modEntry e (fun x => { x.moved .claiming with claimChannel := some c }) s)).1 :=
      offer (.inl rfl) rfl
    unfold claimGroup
    dsimp only
    split
    · exact offered
    · exact offered.trans (of_same (by simp))
  unfold Machine.claimIfDue
  (repeat' split) <;> first | exact of_same rfl | exact claim _

theorem buildFault (c : Fin 8) (s : State) : DueOnly s (buildFault c s) := by
  have offered : DueOnly s (Machine.offer (faultFrame s c) s).1 :=
    offer (.inr (.inl rfl)) rfl
  unfold Machine.buildFault
  dsimp only
  split
  · split
    · exact offered.trans (of_same (by simp))
    · exact offered.trans (of_same (by simp))
  · exact of_same rfl

theorem buildPoints (s : State) : DueOnly s (buildPoints s) := by
  unfold Machine.buildPoints offerOnly
  generalize pendingPairs s pairsPerFrame s.config.publications s.pubs.entries = pairs
  dsimp only
  split
  · split
    · exact offer (.inr (.inr rfl)) rfl
    · have offered : DueOnly s (Machine.offer (.points pairs) s).1 := offer (.inr (.inr rfl)) rfl
      exact offered.trans (of_same (by simp))
  · exact of_same rfl

theorem buildDue (s : State) : DueOnly s (buildDue s) := by
  have claims := each8_relates (R := DueOnly) (fun _ => of_same rfl) trans claimIfDue s
  have faults := each8_relates (R := DueOnly) (fun _ => of_same rfl) trans buildFault (each8 Machine.claimIfDue s)
  exact (claims.trans faults).trans (buildPoints _)

end DueOnly

/-- Eight steps, each from what the steps before it left. -/
theorem each8_counted {P : Nat → State → Prop} {f : Fin 8 → State → State}
    (step : ∀ (n : Fin 8) u, P n.val u → P (n.val + 1) (f n u)) {s : State} (start : P 0 s) : P 8 (each8 f s) :=
  step 7 _ (step 6 _ (step 5 _ (step 4 _ (step 3 _ (step 2 _ (step 1 _ (step 0 _ start)))))))

theorem Offered.groups_length {s t : State} (h : Offered s t) : t.groups.length = s.groups.length :=
  h.keeps (P := fun u => u.groups.length = s.groups.length) (fun f u same => by simpa using same)
    (fun e f u same => by simpa using same) (fun _ _ same => same) (fun _ _ same => same)
    (fun _ _ _ same => by simpa using same) (fun _ _ same => same) rfl

/-- Where the queue has room for a CLAIM of each entry, the CLAIMs due take no frame out of it (R32). -/
theorem claims_in_room {s : State} (room : s.bus.queue.length + s.groups.length ≤ 12) :
    GrowsBy s.groups.length s (each8 claimIfDue s) := by
  have all := each8_counted (f := claimIfDue) (s := s)
    (P := fun n u => u.groups.length = s.groups.length ∧ GrowsBy (min n s.groups.length) s u)
    (fun e u ⟨groups, grown⟩ => ?_) ⟨rfl, .of_same _ rfl rfl⟩
  · obtain ⟨-, stay, length, flags⟩ := all
    exact ⟨stay, by omega, flags⟩
  · have kept := (Offered.claimIfDue e u).groups_length.trans groups
    refine ⟨kept, ?_⟩
    cases entry : u.entry e with
    | none =>
      have same : claimIfDue e u = u := by simp [claimIfDue, entry]
      rw [same]
      obtain ⟨stay, length, flags⟩ := grown
      exact ⟨stay, by omega, flags⟩
    | some x =>
      have listed : e.val < s.groups.length := by
        rw [← groups]
        exact (List.getElem?_eq_some_iff.mp entry).1
      have shorter : u.bus.queue.length < 12 := by
        obtain ⟨-, length, -⟩ := grown
        omega
      have one : GrowsBy 1 u (claimIfDue e u) := by
        have claim (c : Fin 8) : GrowsBy 1 u (offer (.claim (u.member e).group c)
            (modEntry e (fun x => { x.moved .claiming with claimChannel := some c }) u)).1 :=
          .after (t := modEntry e _ u) rfl rfl (offer_in_room (Frame.lone_of_code (.inr (.inl rfl))) shorter)
        have still : GrowsBy 1 u u := .of_same 1 rfl rfl
        unfold claimIfDue claimGroup
        dsimp only
        (repeat' split) <;>
          first
            | exact still
            | exact claim _
      have next := grown.trans one
      rwa [show min (e.val + 1) s.groups.length = min e.val s.groups.length + 1 by omega]

theorem faults_in_room {s : State} (room : s.bus.queue.length + 8 ≤ 12) : GrowsBy 8 s (buildFaults s) := by
  refine each8_counted (f := buildFault) (s := s) (P := fun n u => n ≤ 8 → GrowsBy n s u) (fun c u grown _ => ?_)
    (fun _ => .of_same 0 rfl rfl) (Nat.le_refl 8)
  have grown := grown (by omega)
  refine grown.trans ?_
  have shorter : u.bus.queue.length < 12 := by
    obtain ⟨-, length, -⟩ := grown
    omega
  have offered := offer_in_room (f := faultFrame u c) (Frame.lone_of_code (by simp [faultFrame, Frame.code])) shorter
  unfold buildFault
  dsimp only
  split
  · split
    · exact offered.trans (.of_same 0 (by simp) (by simp [setFaultWaiting]))
    · exact offered.trans (.of_same 0 (by simp) (by simp))
  · exact .of_same 1 rfl rfl

theorem points_in_room {s : State} (room : s.bus.queue.length < 12) : GrowsBy 1 s (buildPoints s) := by
  have offered (pairs : List PointPair) (u : State) (bus : u.bus = s.bus) (flags : u.faults.flags = s.faults.flags) :
      GrowsBy 1 s (offer (.points pairs) u).1 :=
    .after bus flags (offer_in_room (Frame.lone_of_code (by simp [Frame.code])) (by rwa [bus]))
  unfold buildPoints offerOnly
  generalize pendingPairs s pairsPerFrame s.config.publications s.pubs.entries = pairs
  dsimp only
  split
  · split
    · exact offered pairs _ rfl rfl
    · exact (offered pairs s rfl rfl).trans (.of_same 0 (by simp) (by simp))
  · exact .of_same 1 rfl rfl

/-- In a queue with room for all that may be due, the frames due take out nothing and raise no flag (R32, R89,
R148). -/
theorem buildDue_grows {s : State} (room : s.bus.queue.length + s.groups.length + 9 ≤ 12) :
    GrowsBy (s.groups.length + 8 + 1) s (buildDue s) := by
  have claims := claims_in_room (s := s) (by omega)
  have faults := claims.trans (faults_in_room (by obtain ⟨-, length, -⟩ := claims; omega))
  exact faults.trans (points_in_room (by obtain ⟨-, length, -⟩ := faults; omega))

end Sys2Proof.Machine
end

section
/-! PROOFS. TRIP ZONES and CLEAR ZONES (R62 to R65, R67, O55). -/

namespace Sys2Proof.Machine

open Sys2Proof

/-! ## Masks by their bits -/

theorem byte_ext {m n : Byte} (h : ∀ z, maskBit m z = maskBit n z) : m = n :=
  BitVec.eq_of_getLsbD_eq fun i low => h ⟨i, low⟩

@[simp] theorem maskBit_and (m n : Byte) (z : Fin 8) : maskBit (m &&& n) z = (maskBit m z && maskBit n z) := by
  simp [maskBit]

@[simp] theorem maskBit_zero (z : Fin 8) : maskBit 0 z = false := by
  simp [maskBit]

theorem and_or_self (m n : Byte) : m &&& (n ||| m) = m := by
  ext
  simp +contextual

/-! ## The zones that the queued CLEARs name -/

/-- No queued CLEAR names zone z. -/
def noClearOf (z : Fin 8) (l : List Queued) : Prop := ∀ q ∈ l, ∀ m, q.frame = .clear m → maskBit m z = false

/-- From s to t, zone z came into no queued CLEAR. -/
def StaysUncleared (z : Fin 8) (s t : State) : Prop := noClearOf z s.bus.queue → noClearOf z t.bus.queue

namespace StaysUncleared

variable {z : Fin 8} {s t u : State}

theorem refl (s : State) : StaysUncleared z s s := id

theorem trans (h : StaysUncleared z s t) (k : StaysUncleared z t u) : StaysUncleared z s u := k ∘ h

theorem of_joined (h : ∀ q ∈ t.bus.queue, q ∈ s.bus.queue ∨ q.frame.code ≠ 2) : StaysUncleared z s t :=
  fun none q inside m clear => (h q inside).elim (fun old => none q old m clear) fun other => by
    rw [clear] at other
    exact absurd rfl other

theorem offer {f : Frame} (other : f.code ≠ 2) (s : State) : StaysUncleared z s (offer f s).1 :=
  of_joined fun _ inside => (mem_offer inside).imp_right fun same => by rwa [same]

theorem buildDue (s : State) : StaysUncleared z s (buildDue s) :=
  of_joined fun q inside => ((DueOnly.buildDue s).joined q inside).imp_right fun _ => by omega

end StaysUncleared

/-- The CLEARs that stay in the queue are those queued, without the zone (R63). -/
theorem mem_removeFromClear {z : Fin 8} {s : State} {q : Queued} {m : Byte}
    (inside : q ∈ (removeFromClear z s).bus.queue) (clear : q.frame = .clear m) :
    ∃ p ∈ s.bus.queue, ∃ n, p.frame = .clear n ∧ m = n &&& ~~~(1#8 <<< z.val) := by
  rw [removeFromClear, withdrawFrames_queue, editFrames_queue] at inside
  obtain ⟨p, mem, rfl⟩ := List.mem_map.mp (List.mem_of_mem_filter inside)
  cases h : p.frame <;> simp only [withoutZoneClear, h, reduceCtorEq, Frame.clear.injEq] at clear
  exact ⟨p, mem, _, h, clear.symm⟩

theorem removeFromClear_uncleared (y z : Fin 8) (s : State) : StaysUncleared y s (removeFromClear z s) :=
  fun none q inside m clear => by
    obtain ⟨p, mem, n, was, rfl⟩ := mem_removeFromClear inside clear
    rw [maskBit_without, none p mem n was, Bool.false_and]

theorem removeFromClear_leaves (z : Fin 8) (s : State) : noClearOf z (removeFromClear z s).bus.queue :=
  fun q inside m clear => by
    obtain ⟨p, mem, n, was, rfl⟩ := mem_removeFromClear inside clear
    rw [maskBit_without]
    simp

theorem withoutZoneClear_standsFor (z : Fin 8) (f : Frame) : (withoutZoneClear z f).standsFor f := by
  cases f <;> exact ⟨rfl, fun g => by cases g <;> rfl⟩

theorem removeFromClear_fits {z : Fin 8} {s : State} (fits : queueFits s.bus.queue) :
    queueFits (removeFromClear z s).bus.queue := by
  rw [removeFromClear, withdrawFrames_queue, editFrames_queue]
  refine List.Pairwise.sublist List.filter_sublist (fits.map _ fun a b h => ?_)
  have sa := withoutZoneClear_standsFor z a.frame
  have sb := withoutZoneClear_standsFor z b.frame
  exact ⟨by rw [sa.2, sb.limit_right]; exact h.1, by rw [sa.1, sb.1]; exact h.2⟩

theorem removeFromClear_queueTrips (y z : Fin 8) (s : State) :
    queueTrips y (removeFromClear z s).bus.queue = queueTrips y s.bus.queue := by
  rw [removeFromClear, withdrawFrames_queue, editFrames_queue, queueTrips_filter fun q _ empty => by
    cases h : q.frame <;> simp_all [emptyClear, Frame.tripsZone]]
  simp only [queueTrips, List.any_map]
  congr
  funext q
  show (withoutZoneClear z q.frame).tripsZone y = q.frame.tripsZone y
  cases q.frame <;> rfl

theorem removeFromClear_beside (z : Fin 8) (s : State) : Beside (· = z) s (removeFromClear z s) where
  kept := by simp [State.beyondZones]
  line := by simp
  event := by simp
  fits := removeFromClear_fits
  zone y _ := by simp [State.zone]
  trips y _ := removeFromClear_queueTrips y z s
  channel c _ := by simp [State.sameChannel, State.chan, State.sentBy]

/-! ## TRIP ZONES at one zone (R65) -/

/-- The entry of a zone after the host's TRIP ZONES. -/
def hostTurn (station : Station) (x : Zone) : Zone :=
  { x with
    tripped := true,
    station := some (if x.localActive = true then x.station.getD station else station),
    cause := some (if x.localActive = true then x.cause.getD .input else .host) }

theorem hostTripZone_step : ZoneStep hostTripZone hostTurn := by
  intro z s
  unfold hostTripZone hostTurn
  dsimp only
  have after (u : State) := removeFromClear_beside z u
  by_cases held : (s.zone z).localActive = true
  · simp only [if_pos held]
    exact (tripZone_turned z _ _ s).quiet (after _) (by simp) (by simp)
  · simp only [if_neg held]
    exact (tripZone_turned z _ _ s).quiet (after _) (by simp) (by simp)

theorem hostTripZone_uncleared (y z : Fin 8) (s : State) : StaysUncleared y s (hostTripZone z s) := by
  have tripped (n : Station) (k : TripCause) : StaysUncleared y s (tripZone z n k s) := fun none => by simpa using none
  unfold hostTripZone
  dsimp only
  split <;> exact (tripped _ _).trans (removeFromClear_uncleared y z _)

/-- Each zone of the mask leaves the own queued CLEAR (R65). -/
theorem onZones_hostTripZone_uncleared {mask : Byte} {z : Fin 8} (named : maskBit mask z = true) (s : State) :
    noClearOf z (onZones mask hostTripZone s).bus.queue := by
  obtain ⟨u, -, after⟩ := each8_around (R := StaysUncleared z) .refl .trans
    (f := fun z s => if maskBit mask z then hostTripZone z s else s) z (fun d _ s => by
      split
      · exact hostTripZone_uncleared z d s
      · exact .refl s) s
  rw [if_pos named] at after
  exact after (removeFromClear_leaves z _)

/-- A channel sees the turn of its own zone where the mask names it, and nothing of the others (R64). -/
theorem ZoneStep.onZones_channel {f : Fin 8 → State → State} {turn : Station → Zone → Zone} (step : ZoneStep f turn)
    (mask : Byte) (s : State) (c : Fin 8) : match (s.cfg c).zone with
      | none => s.sameChannel (onZones mask f s) c
      | some z => if maskBit mask z = true then
          s.turned (onZones mask f s) (s.zone z).tripped (turn s.loader.station (s.zone z)).tripped c
        else s.sameChannel (onZones mask f s) c := by
  have beside := step.onZones_beside mask s
  cases zone : (s.cfg c).zone with
  | none => exact beside.channel c (by simp [zone])
  | some z =>
    dsimp only
    split
    next named => exact (step.onZones_turned named s).2.2 c zone
    next unnamed =>
      refine beside.channel c fun y hy => ?_
      rw [zone, Option.some.injEq] at hy
      exact hy ▸ unnamed

/-! ## A TRIP or a CLEAR for a mask -/

theorem queueTrip_mask {mask : Byte} {k : TripCause} {s : State} (onLine : s.bus.state = .onLine)
    (fits : queueFits s.bus.queue) (named : mask ≠ 0) :
    ∃ q ∈ (queueTrip mask k s).bus.queue, ∃ m c, q.frame = .trip m c ∧ mask &&& m = mask := by
  have due : queueTrip mask k s = (offer (.trip mask k) s).1 :=
    if_pos (by simpa [State.onLine, onLine] using named)
  obtain ⟨q, inside, here | ⟨g, merged⟩⟩ := offer_taken_mem (offer_trip_taken (m := mask) (k := k) onLine fits)
  · exact ⟨q, due ▸ inside, mask, k, here, by simp⟩
  · refine ⟨q, due ▸ inside, ?_⟩
    cases g <;> simp only [mergeFrames, reduceCtorEq, Option.some.injEq] at merged
    exact ⟨_, _, merged.symm, and_or_self mask _⟩

theorem queueTrip_uncleared (z : Fin 8) (mask : Byte) (k : TripCause) (s : State) :
    StaysUncleared z s (queueTrip mask k s) := by
  unfold queueTrip offerOnly
  split
  · exact .offer (by simp [Frame.code]) s
  · exact .refl s

/-- The zones that a clear may ask for. -/
theorem withoutLocal_eq (mask : Byte) (s : State) :
    withoutLocal mask s = mask &&& ~~~zonesWhere Zone.localActive s := rfl

theorem queueClear_mask {mask : Byte} {s : State} (onLine : s.bus.state = .onLine) (fits : queueFits s.bus.queue)
    (named : withoutLocal mask s ≠ 0) : ∃ q ∈ (queueClear mask s).bus.queue, ∃ m, q.frame = .clear m ∧
      withoutLocal mask s &&& m = withoutLocal mask s := by
  have due : queueClear mask s = (offer (.clear (withoutLocal mask s)) s).1 :=
    if_pos (by simpa [State.onLine, onLine] using named)
  rw [due]
  obtain ⟨q, inside, here | ⟨g, merged⟩⟩ := offer_taken_mem (offer_low_taken
    (f := .clear (withoutLocal mask s)) (Nat.le_refl 2) onLine fits fun q _ same => by
      cases h : q.frame <;> simp only [h, sameLimit, Frame.group, Bool.false_eq_true] at same
      rfl)
  · exact ⟨q, inside, _, here, by simp⟩
  · refine ⟨q, inside, ?_⟩
    cases g <;> simp only [mergeFrames, reduceCtorEq, Option.some.injEq] at merged
    exact ⟨_, merged.symm, and_or_self _ _⟩

theorem queueClear_none {mask : Byte} {s : State} (none : withoutLocal mask s = 0) : queueClear mask s = s := by
  simp [queueClear, none]

theorem offer_sameButTraffic (f : Frame) (s : State) : s.sameButTraffic (offer f s).1 :=
  State.sameButTraffic_of (by simp [State.beyondTraffic]) (Traffic.offer f s).line (by simp [State.quiet])
    fun c => by simp [State.faultRec]

theorem State.sameButTraffic_refl (s : State) : s.sameButTraffic s := ⟨rfl, fun _ => ⟨rfl, rfl⟩, rfl⟩

theorem queueClear_sameButTraffic (mask : Byte) (s : State) : s.sameButTraffic (queueClear mask s) := by
  unfold queueClear offerOnly
  split
  · exact offer_sameButTraffic _ s
  · exact s.sameButTraffic_refl

/-! ## The requests -/

theorem exec_tripZones {s : State} {mask : Byte} (transaction : s.host.transaction ≠ none)
    (running : s.running = true) (named : mask ≠ 0) : exec (.tripZones mask) s =
      .next (respond 12 .accepted [] (buildDue (queueTrip mask .host (onZones mask hostTripZone s)))) := by
  show Host.Outcome.next (whenTransaction (takeTripZones mask) s) = _
  rw [whenTransaction_on _ transaction, takeTripZones, judged_acts _ _ (by simpa using named) running]
  rfl

theorem exec_clearZones {s : State} {mask : Byte} (transaction : s.host.transaction ≠ none)
    (running : s.running = true) (onLine : s.bus.state = .onLine) (named : mask ≠ 0) :
    exec (.clearZones mask) s = .next (respond 13 .accepted [] (buildDue (queueClear mask s))) := by
  show Host.Outcome.next (whenTransaction (takeClearZones mask) s) = _
  rw [whenTransaction_on _ transaction, takeClearZones,
    judged_acts _ _ (by simpa using named) (by simp [running, State.onLine, onLine])]

section
variable (command : Byte) (status : Status) (data : List Byte) (u : State)

/-- An answer is the host port's response alone (R164). -/
theorem respond_beside : (respond command status data u).beyondZones = u.beyondZones ∧
    (respond command status data u).zones = u.zones ∧ (respond command status data u).channels = u.channels ∧
    (respond command status data u).bus = u.bus ∧ (respond command status data u).faults = u.faults ∧
    (respond command status data u).host.events = u.host.events := ⟨rfl, rfl, rfl, rfl, rfl, rfl⟩

theorem respond_answer : (respond command status data u).host.transaction = none ∧
    (respond command status data u).host.response = { command := command, status := status, data := data } :=
  ⟨rfl, rfl⟩

/-- The state without the answer. -/
theorem respond_undone {s : State} (same : s.sameButTraffic u) : s.sameButTraffic { respond command status data u with
    host := { (respond command status data u).host with
      response := s.host.response, transaction := s.host.transaction } } := by
  have back : { respond command status data u with
      host := { (respond command status data u).host with
        response := s.host.response, transaction := s.host.transaction } } = u := by
    show { u with host := { u.host with response := s.host.response, transaction := s.host.transaction } } = u
    obtain ⟨eq, -, -⟩ := same
    rw [eq]
  rwa [back]

end

theorem queueTrip_event (mask : Byte) (k : TripCause) (v : State) :
    (queueTrip mask k v).host.events.zoneChange = v.host.events.zoneChange := by
  unfold queueTrip offerOnly
  split
  · exact (offer_news _ v).event
  · rfl

theorem queueTrip_beyondZones (mask : Byte) (k : TripCause) (v : State) :
    (queueTrip mask k v).beyondZones = v.beyondZones := by
  simp [State.beyondZones]

theorem buildDue_beyondZones (v : State) : (buildDue v).beyondZones = v.beyondZones := by
  simp [State.beyondZones]

/-- Settles O55: the host's trip is a turn of each zone of the mask, in which the other zones take no part; the frames
queued afterwards touch no zone. -/
theorem tripAndClearZones : Obligations.TripAndClearZones := by
  refine ⟨fun s mask transaction running named => ⟨_, exec_tripZones transaction running named,
      (respond_answer ..).1, (respond_answer ..).2, ?_⟩,
    fun s mask transaction running onLine named =>
      ⟨_, exec_clearZones transaction running onLine named, (respond_answer ..).1, (respond_answer ..).2,
        respond_undone _ _ _ _ ((queueClear_sameButTraffic mask s).trans (buildDue_sameButTraffic _)), fun none q inside clear => ?_,
        fun some sound ordered => ?_⟩⟩
  · have beside := hostTripZone_step.onZones_beside mask s
    have turned := fun z named => hostTripZone_step.onZones_turned (mask := mask) (z := z) named s
    have told := hostTripZone_step.onZones_channel mask s
    have cleared := fun z named => onZones_hostTripZone_uncleared (mask := mask) (z := z) named s
    generalize onZones mask hostTripZone s = v at *
    obtain ⟨kept, zones, channels, line, -, events⟩ := respond_beside 12 .accepted [] (buildDue (queueTrip mask .host v))
    have event : (buildDue (queueTrip mask .host v)).host.events.zoneChange = v.host.events.zoneChange :=
      (buildDue_news _).event.trans (queueTrip_event mask .host v)
    rw [← events] at event
    rw [buildDue_beyondZones, queueTrip_beyondZones] at kept
    replace zones := zones.trans (by simp : _ = v.zones)
    replace channels := channels.trans (by simp : _ = v.channels)
    generalize respond 12 .accepted [] (buildDue (queueTrip mask .host v)) = t at *
    have all := kept.trans beside.kept
    have zone : ∀ z, t.zone z = v.zone z := fun z => by rw [State.zone, zones]; rfl
    have due (c : Fin 8) : Alike c v t := alike_of_channels kept channels c
    simp only [State.beyondZones, Prod.mk.injEq] at all
    obtain ⟨-, -, loader, marks, inputs, points, link, power, host, shutdown, -⟩ := all
    refine ⟨loader, inputs, points, marks, link, power, shutdown, host, fun z unnamed => ?_, fun z is => ?_,
      fun ⟨z, is, clear⟩ => ?_, fun c => ?_, fun q inside m clear => byte_ext fun z => ?_, fun onLine sound ordered => ?_⟩
    · rw [zone]
      exact beside.zone z (by simp [unnamed])
    · rw [zone, (turned z is).1]
      refine ⟨rfl, rfl, fun free => by simp [hostTurn, free], fun held station cause => ?_⟩
      obtain ⟨n, hn⟩ := Option.ne_none_iff_exists'.mp station
      obtain ⟨k, hk⟩ := Option.ne_none_iff_exists'.mp cause
      simp [hostTurn, held, hn, hk]
    · rw [event]
      exact (turned z is).2.1 (by simp [hostTurn, clear])
    · have told := told c
      cases inZone : (s.cfg c).zone with
      | none =>
        rw [inZone] at told
        exact (Alike.refl c s).sameChannel (due c) told
      | some z =>
        rw [inZone] at told
        dsimp only at told ⊢
        cases is : maskBit mask z
        · simpa [is] using (Alike.refl c s).sameChannel (due c) (by simpa [is] using told)
        · rw [if_pos is] at told
          have here := (Alike.refl c s).turned (due c) told
          cases was : (s.zone z).tripped <;> simpa [State.turned, hostTurn, was] using here
    · rw [maskBit_and, maskBit_zero]
      cases is : maskBit mask z
      · rfl
      · rw [line] at inside
        exact StaysUncleared.buildDue _ (queueTrip_uncleared z mask .host v (cleared z is)) q inside m clear
    · obtain ⟨q, inside, m, k, trip, covers⟩ := queueTrip_mask (k := .host) (beside.line.1.trans onLine)
        (beside.fits (queueFits_of_sound sound ordered)) named
      rw [line]
      exact ⟨q, (DueOnly.buildDue _).stays q inside (by simp [trip, Frame.code]), m, k, trip, covers⟩
  · rw [respond_bus] at inside
    have due := (DueOnly.buildDue (queueClear mask s)).joined q inside
    rw [queueClear_none (withoutLocal_eq mask s ▸ none)] at due
    exact due.resolve_right fun code => by cases h : q.frame <;> simp_all [isClear, Frame.code]
  · rw [← withoutLocal_eq] at some ⊢
    obtain ⟨q, inside, m, clear, covers⟩ := queueClear_mask onLine (queueFits_of_sound sound ordered) some
    rw [respond_bus]
    have stays := (DueOnly.buildDue _).stays q inside (by simp [clear, Frame.code])
    exact ⟨q, stays, m, clear, covers⟩

end Sys2Proof.Machine
end

section
/-! PROOFS. What the channels' moves leave of the fault records, and ACK FAULTS (R147, R149, R166, O54). -/

namespace Sys2Proof.Machine

open Sys2Proof

/-! ## The fault records under a channel's moves -/

/-- From s to t, of the fault records nothing changed but that STUCK-ON may have ceased to be live (R19, R20). -/
structure OnlyStuckFalls (s t : State) : Prop where
  kinds : ∀ c k, (t.faultRec c).kinds.get k = (s.faultRec c).kinds.get k ∨
    (k = .stuckOn ∧ (t.faultRec c).kinds.get k = { (s.faultRec c).kinds.get k with live := false })
  rest : ∀ c, (t.faultRec c).newest = (s.faultRec c).newest ∧ (t.faultRec c).waiting = (s.faultRec c).waiting
  others : t.faults = { s.faults with records := t.faults.records }

namespace OnlyStuckFalls

variable {s t u : State}

theorem of_same (h : t.faults = s.faults) : OnlyStuckFalls s t :=
  ⟨fun c k => .inl (by rw [State.faultRec, h, State.faultRec]), fun c => by simp [State.faultRec, h], by rw [h]⟩

theorem trans (h : OnlyStuckFalls s t) (k : OnlyStuckFalls t u) : OnlyStuckFalls s u where
  kinds c x := by
    rcases k.kinds c x with same | ⟨stuck, fallen⟩
    · rw [same]; exact h.kinds c x
    · refine .inr ⟨stuck, ?_⟩
      rw [fallen]
      rcases h.kinds c x with same | ⟨-, before⟩
      · rw [same]
      · rw [before]
  rest c := ⟨(k.rest c).1.trans (h.rest c).1, (k.rest c).2.trans (h.rest c).2⟩
  others := by rw [k.others, h.others]

theorem stuckOn (c : Fin 8) (s : State) : OnlyStuckFalls s (setLive c .stuckOn false s) where
  kinds d k := by
    rw [setLive_faultRec]
    split
    next here =>
      subst here
      by_cases stuck : k = .stuckOn
      · subst stuck; exact .inr ⟨rfl, by simp⟩
      · exact .inl (by simp [PerKind.get_set, stuck])
    next => exact .inl rfl
  rest d := by
    rw [setLive_faultRec]
    split
    next here => subst here; exact ⟨rfl, rfl⟩
    next => exact ⟨rfl, rfl⟩
  others := by
    unfold setLive
    dsimp only
    split <;> simp [setRecord]

theorem enterState (x : ChannelState) (c : Fin 8) (s : State) : OnlyStuckFalls s (enterState x c s) := by
  have last {left : Bool} {u : State} (h : OnlyStuckFalls s u) :
      OnlyStuckFalls s (if left then setLive c .stuckOn false u else u) := by
    split
    · exact h.trans (stuckOn c u)
    · exact h
  unfold Machine.enterState
  refine last (of_same ?_)
  (repeat' split) <;> simp

theorem of_moves {c : Fin 8} (h : ChannelMoves c s t) : OnlyStuckFalls s t :=
  h.keeps (P := OnlyStuckFalls s) (fun _ _ k => k.trans (of_same rfl)) (fun m u k => k.trans (of_same (by simp)))
    (fun x u k => k.trans (enterState x c u)) (fun _ k => k.trans (of_same rfl)) (fun u k => k.trans (stuckOn c u))
    (of_same rfl)

theorem sticky (h : OnlyStuckFalls s t) (c : Fin 8) : (t.faultRec c).sticky = (s.faultRec c).sticky := by
  have kind (k : FaultKind) : ((t.faultRec c).kinds.get k).sticky = ((s.faultRec c).kinds.get k).sticky := by
    rcases h.kinds c k with same | ⟨-, fallen⟩
    · rw [same]
    · rw [fallen]
  simp only [FaultRecord.sticky, kind]

end OnlyStuckFalls

/-! ## An acknowledgement (R147, R149) -/

section
variable {m : Byte} {kinds : KindSet} {s : State}

theorem trackErr_same {f : State → State} : (trackErr f s).faults = (f s).faults ∧
    (trackErr f s).host = (f s).host := by
  unfold trackErr
  dsimp only
  split <;> simp

theorem acknowledgeKinds_faultRec (m : Byte) (kinds : KindSet) (s : State) (c : Fin 8) :
    (acknowledgeKinds m kinds s).faultRec c =
      if maskBit m c = true then (s.faultRec c).acknowledge kinds else s.faultRec c := by
  obtain ⟨u, before, after⟩ := each8_around (R := fun s t => t.faultRec c = s.faultRec c)
    (f := fun c s => if maskBit m c then setRecord c ((s.faultRec c).acknowledge kinds) s else s)
    (fun _ => rfl) (fun h k => k.trans h) c (fun d other s => by
      split
      · simp [State.faultRec, setRecord, Eight.get_set, other.symm]
      · rfl) s
  rw [State.faultRec, acknowledgeKinds, trackErr_same.1, ← State.faultRec, after, ← before]
  split
  · simp [State.faultRec, setRecord]
  · rfl

theorem acknowledgeKinds_others (m : Byte) (kinds : KindSet) (s : State) :
    (acknowledgeKinds m kinds s).faults = { s.faults with records := (acknowledgeKinds m kinds s).faults.records } := by
  rw [acknowledgeKinds, trackErr_same.1]
  refine each8_relates (R := fun s t => t.faults = { s.faults with records := t.faults.records }) (fun _ => rfl)
    (fun h k => by rw [k, h]) (fun c s => ?_) s
  split <;> rfl

theorem acknowledgeCauses_records (m : Byte) (s : State) : OnlyStuckFalls s (acknowledgeCauses m s) :=
  each8_relates (R := OnlyStuckFalls) (fun _ => .of_same rfl) .trans (fun c s => by
    split
    · exact .of_moves (.withdrawCause .fault .refl)
    · exact .of_same rfl) s

theorem acknowledgeCauses_host (m : Byte) (s : State) :
    (acknowledgeCauses m s).host.points = s.host.points :=
  each8_keeps (fun s => s.host.points) (fun c s =>
    if maskBit m c && noLatchingSticky (s.cfg c).latchMask (s.faultRec c).sticky then
      withdrawCause .fault c s else s) (fun c s => by split <;> simp) s

/-- FAULT leaves the named channels on which no latching kind is sticky, and the others are not touched (R147). -/
theorem acknowledgeCauses_channel (m : Byte) (s : State) (c : Fin 8) :
    if (maskBit m c && noLatchingSticky (s.cfg c).latchMask (s.faultRec c).sticky) = true then
      s.withdrawn (acknowledgeCauses m s) .fault c
    else s.sameChannel (acknowledgeCauses m s) c := by
  obtain ⟨u, ⟨before, sticky⟩, after, -⟩ := each8_around
    (R := fun s t => Alike c s t ∧ (t.faultRec c).sticky = (s.faultRec c).sticky)
    (f := fun c s => if maskBit m c && noLatchingSticky (s.cfg c).latchMask (s.faultRec c).sticky then
      withdrawCause .fault c s else s)
    (fun s => ⟨.refl c s, rfl⟩) (fun h k => ⟨h.1.trans k.1, k.2.trans h.2⟩) c (fun d other s => by
      split
      · exact ⟨by constructor <;> simp [other.symm], (OnlyStuckFalls.of_moves (.withdrawCause .fault .refl)).sticky c⟩
      · exact ⟨.refl c s, rfl⟩) s
  rw [before.cfg, sticky] at after
  split
  next withdrawn =>
    rw [if_pos withdrawn] at after
    exact before.symm.withdrawn after (withdrawCause_withdrawn .fault c u)
  next stays =>
    rw [if_neg stays] at after
    exact before.symm.sameChannel after ⟨rfl, rfl⟩

theorem acknowledgeFlags_faults (s : State) : (acknowledgeFlags s).faults = { s.faults with
    flags := { s.faults.flags with sticky := s.faults.flags.sticky &&& s.faults.flags.live } } := by
  rw [acknowledgeFlags, trackErr_same.1]
  rfl

end

/-- The flags are the last to go (R147). -/
theorem acknowledge_flags_last (m : Byte) (kinds : KindSet) (nodeFlags : Bool) (s : State) :
    let w := acknowledgeCauses m (acknowledgeKinds m kinds s)
    (∀ c, Alike c w (acknowledge m kinds nodeFlags s)) ∧ (acknowledge m kinds nodeFlags s).host = w.host ∧
    (acknowledge m kinds nodeFlags s).faults = { w.faults with
      flags := { w.faults.flags with sticky := if nodeFlags = true then w.faults.flags.sticky &&& w.faults.flags.live
                                               else w.faults.flags.sticky } } := by
  cases nodeFlags
  · exact ⟨fun c => .refl c _, rfl, rfl⟩
  · exact ⟨fun c => by constructor <;> simp [acknowledge, State.chan, State.sentBy], by simp [acknowledge],
      acknowledgeFlags_faults _⟩

/-- R147, R149: what an acknowledgement leaves of the records, of the flags and of the channels. -/
theorem acknowledge_leaves (m : Byte) (kinds : KindSet) (nodeFlags : Bool) (s : State) :
    (acknowledge m kinds nodeFlags s).host.points = s.host.points ∧
    (acknowledge m kinds nodeFlags s).faults = { s.faults with
      records := (acknowledge m kinds nodeFlags s).faults.records,
      flags := { s.faults.flags with sticky := if nodeFlags = true then s.faults.flags.sticky &&& s.faults.flags.live
                                               else s.faults.flags.sticky } } ∧
    (∀ c k, let x := (s.faultRec c).kinds.get k
      let y := ((acknowledge m kinds nodeFlags s).faultRec c).kinds.get k
      y.count = x.count ∧ y.firstMark = x.firstMark ∧ (k ≠ .stuckOn → y.live = x.live) ∧
      y.sticky = (x.sticky && (!(maskBit m c && kinds.get k) || x.live))) ∧
    ∀ c, if (maskBit m c && noLatchingSticky (s.cfg c).latchMask
        ((acknowledge m kinds nodeFlags s).faultRec c).sticky) = true then
        s.withdrawn (acknowledge m kinds nodeFlags s) .fault c
      else s.sameChannel (acknowledge m kinds nodeFlags s) c := by
  obtain ⟨last, host, faults⟩ := acknowledge_flags_last m kinds nodeFlags s
  have named := acknowledgeKinds_faultRec m kinds s
  have kept := acknowledgeKinds_others m kinds s
  have told (c : Fin 8) : Alike c s (acknowledgeKinds m kinds s) := by
    constructor <;> simp [State.chan, State.sentBy]
  have points : (acknowledgeKinds m kinds s).host = s.host := by simp
  generalize acknowledgeKinds m kinds s = u at *
  have fell := acknowledgeCauses_records m u
  have causes := acknowledgeCauses_channel m u
  have pointsKept := acknowledgeCauses_host m u
  generalize acknowledgeCauses m u = w at *
  generalize acknowledge m kinds nodeFlags s = t at *
  have record (c : Fin 8) : t.faultRec c = w.faultRec c := by rw [State.faultRec, faults]; rfl
  refine ⟨by rw [host, pointsKept, points], ?_, fun c k => ?_, fun c => ?_⟩
  · rw [faults, fell.others, kept]
  · have before : (u.faultRec c).kinds.get k = { (s.faultRec c).kinds.get k with
        sticky := ((s.faultRec c).kinds.get k).sticky &&
          (!(maskBit m c && kinds.get k) || ((s.faultRec c).kinds.get k).live) } := by
      rw [named]
      cases inMask : maskBit m c <;> cases inKinds : kinds.get k <;> simp [FaultRecord.acknowledge, inKinds]
    rw [record]
    rcases fell.kinds c k with same | ⟨stuck, fallen⟩
    · rw [same, before]
      exact ⟨rfl, rfl, fun _ => rfl, rfl⟩
    · rw [fallen, before]
      exact ⟨rfl, rfl, fun other => absurd stuck other, rfl⟩
  · have causes := causes c
    rw [(told c).cfg, ← fell.sticky c, ← record c] at causes
    split
    next withdrawn =>
      rw [if_pos withdrawn] at causes
      exact (told c).symm.withdrawn (last c) causes
    next stays =>
      rw [if_neg stays] at causes
      exact (told c).symm.sameChannel (last c) causes

/-! ## The frames due, beside QUEUE-OVERFLOW and in a queue with room -/

/-- Offers raise no flag but QUEUE-OVERFLOW (R102). -/
theorem Offered.flags {s t : State} (h : Offered s t) {f : NodeFlag} (other : f ≠ .queueOverflow) :
    t.flagSticky f = s.flagSticky f := by
  refine h.keeps (P := fun u => u.flagSticky f = s.flagSticky f) (fun g u same => ?_) (fun _ _ _ same => same)
    (fun _ _ same => same) (fun _ _ same => same) (fun _ _ _ same => same) (fun _ _ same => same) rfl
  have raised (u : State) : (raiseFlag .queueOverflow u).flagSticky f = u.flagSticky f := by
    have apart : NodeFlag.queueOverflow.mask.getLsbD f.bit = false := by
      cases f <;> first | exact absurd rfl other | rfl
    simp [State.flagSticky, raiseFlag_sticky, apart]
  rw [← same]
  unfold Machine.offer
  (repeat' split) <;> simp only [displacedNotice_flagSticky, raised] <;> rfl

theorem buildFault_stays (c : Fin 8) (s : State) {q : Queued} (inside : q ∈ s.bus.queue) (low : q.frame.code ≤ 7) :
    q ∈ (buildFault c s).bus.queue := by
  have offered := offer_keeps_entry (f := faultFrame s c) inside low (.inr (Frame.lone_of_code (by simp [faultFrame, Frame.code])))
  unfold buildFault
  dsimp only
  split
  · split <;> simpa using offered
  · exact inside

theorem buildPoints_stays (s : State) {q : Queued} (inside : q ∈ s.bus.queue) (low : q.frame.code ≤ 8) :
    q ∈ (buildPoints s).bus.queue := by
  have offered (pairs : List PointPair) (u : State) (same : u.bus = s.bus) : q ∈ (offer (.points pairs) u).1.bus.queue :=
    offer_keeps_entry (by rwa [same]) low (.inr (Frame.lone_of_code (by simp [Frame.code])))
  unfold buildPoints offerOnly
  generalize pendingPairs s pairsPerFrame s.config.publications s.pubs.entries = pairs
  dsimp only
  split
  · split
    · exact offered pairs _ rfl
    · simpa using offered pairs s rfl
  · exact inside

/-- Where the queue has room for a CLAIM of each entry, the frames due take out no frame up to a FAULT (R32, R148). -/
theorem buildDue_in_room {s : State} (room : s.bus.queue.length + s.groups.length ≤ 12) {q : Queued}
    (inside : q ∈ s.bus.queue) (low : q.frame.code ≤ 7) : q ∈ (buildDue s).bus.queue := by
  have faults := each8_relates (R := fun s t => q ∈ s.bus.queue → q ∈ t.bus.queue) (fun _ => id)
    (fun h k => k ∘ h) (fun c s here => buildFault_stays c s here low) (each8 claimIfDue s)
  exact buildPoints_stays _ (faults ((claims_in_room room).1 q inside)) (by omega)

/-! ## The request -/

theorem sameLimit_faultAck (a : Frame) (t : Station) (m : Byte) (k : KindSet) (b : Bool) :
    sameLimit a (.faultAck t m k b) = false := by
  cases a <;> rfl

theorem respond_faultRec (command : Byte) (status : Status) (data : List Byte) (u : State) (c : Fin 8) :
    (respond command status data u).faultRec c = u.faultRec c := rfl

theorem respond_flagSticky (command : Byte) (status : Status) (data : List Byte) (u : State) (f : NodeFlag) :
    (respond command status data u).flagSticky f = u.flagSticky f := rfl

theorem exec_ackFaults {s : State} {target : Station} {channels kinds : Byte} (nodeFlags : Bool)
    (transaction : s.host.transaction ≠ none) (running : s.running = true) (known : kinds.toNat < 128)
    (low : 1 ≤ target.val) (high : target.val ≤ 62) :
    exec (.ackFaults (byteOf target.val) channels kinds (boolByte nodeFlags)) s =
      .next (ackFaults target channels (kindSetOf kinds) nodeFlags s) := by
  have value : (byteOf target.val).toNat = target.val := byteOf_toNat (by omega)
  obtain ⟨st, station, same⟩ := stationOf_some (b := byteOf target.val) (by omega) (by omega)
  obtain rfl : st = target := Fin.ext (same.trans value)
  have flag : boolOf (boolByte nodeFlags) = some nodeFlags := by cases nodeFlags <;> rfl
  show Host.Outcome.next (whenTransaction (takeAckFaults _ _ _ _) s) = _
  rw [whenTransaction_on _ transaction, takeAckFaults, station, kindsOf_eq, if_neg (by omega), flag]
  dsimp only
  rw [if_pos running]

/-- The answer to a FAULT-ACK for another station, by what the queue does with it (R102, R166). -/
theorem ackFaults_other {s : State} {target : Station} {channels : Byte} {kinds : KindSet} {nodeFlags : Bool}
    (onLine : s.bus.state = .onLine) (other : target ≠ s.loader.station) :
    ackFaults target channels kinds nodeFlags s =
      respond 11 (if (offer (.faultAck target channels kinds nodeFlags) s).2 then .accepted else .busy) []
        (buildDue (offer (.faultAck target channels kinds nodeFlags) s).1) := by
  rw [ackFaults, if_neg other, if_neg (by simp [State.onLine, onLine])]

/-- Settles O54: the own acknowledgement acts in two steps, on the records and then on the channels; a FAULT-ACK for
another station is an offer. -/
theorem ackFaultsRequest : Obligations.AckFaults := by
  refine ⟨fun s channels kinds nodeFlags transaction running known low high =>
      ⟨_, exec_ackFaults nodeFlags transaction running known low high, ?_⟩,
    fun s target channels kinds nodeFlags transaction running onLine known low high other =>
      ⟨_, exec_ackFaults nodeFlags transaction running known low high, ?_⟩⟩
  · rw [Machine.ackFaults, if_pos rfl]
    obtain ⟨points, faults, kindsLeft, causes⟩ := acknowledge_leaves channels (kindSetOf kinds) nodeFlags s
    have same : (acknowledge channels (kindSetOf kinds) nodeFlags s).loader = s.loader ∧
        (acknowledge channels (kindSetOf kinds) nodeFlags s).zones = s.zones ∧
        (acknowledge channels (kindSetOf kinds) nodeFlags s).inputs = s.inputs ∧
        (acknowledge channels (kindSetOf kinds) nodeFlags s).points = s.points ∧
        (acknowledge channels (kindSetOf kinds) nodeFlags s).marks = s.marks ∧
        (acknowledge channels (kindSetOf kinds) nodeFlags s).link = s.link ∧
        (acknowledge channels (kindSetOf kinds) nodeFlags s).power = s.power := by simp
    generalize acknowledge channels (kindSetOf kinds) nodeFlags s = u at *
    obtain ⟨loader, zones, inputs, pointImage, marks, link, power⟩ := same
    have recorded (c : Fin 8) (k : FaultKind) :
        ((respond 11 .accepted [] (buildDue u)).faultRec c).kinds.get k = (u.faultRec c).kinds.get k := by
      rw [respond_faultRec, (buildDue_channels u c).2.2]
    have sticky (c : Fin 8) : ((respond 11 .accepted [] (buildDue u)).faultRec c).sticky = (u.faultRec c).sticky := by
      simp only [FaultRecord.sticky, recorded]
    have due (c : Fin 8) : Alike c u (respond 11 .accepted [] (buildDue u)) :=
      ((buildDue_alike c u).trans (respond_alike c 11 .accepted [] _)).toAlike
    have flags (f : NodeFlag) (ordinary : f ≠ .queueOverflow) :
        (respond 11 .accepted [] (buildDue u)).flagSticky f = u.flagSticky f := by
      rw [respond_flagSticky, (Offered.buildDue u).flags ordinary]
    have quiet : (respond 11 .accepted [] (buildDue u)).faults.flags.live = u.faults.flags.live ∧
        (respond 11 .accepted [] (buildDue u)).faults.list = u.faults.list ∧
        (respond 11 .accepted [] (buildDue u)).host.points = u.host.points := by simp
    refine ⟨(respond_answer ..).1, ?_, (respond_answer ..).2, by simp [loader], by simp [zones],
      by simp [inputs], by simp [pointImage], by simp [marks], by simp [link], by simp [power], ?_, ?_, fun c k => ?_, fun c => ?_, fun f ordinary => ?_⟩
    · rw [quiet.2.2, points]
    · rw [quiet.1, faults]
    · rw [quiet.2.1, faults]
    · rw [recorded]
      exact kindsLeft c k
    · rw [sticky]
      have causes := causes c
      split
      next withdrawn =>
        rw [if_pos withdrawn] at causes
        exact (Alike.refl c s).withdrawn (due c) causes
      next stays =>
        rw [if_neg stays] at causes
        exact (Alike.refl c s).sameChannel (due c) causes
    · rw [flags f ordinary, State.flagSticky, faults]
      cases nodeFlags <;> simp [State.flagSticky, State.flagLive]
  · rw [ackFaults_other onLine other]
    have admitted : admits s.bus.state (.faultAck target channels (kindSetOf kinds) nodeFlags) = true := by
      rw [onLine]; rfl
    have free : ∀ x ∈ s.bus.queue, sameLimit x.frame (.faultAck target channels (kindSetOf kinds) nodeFlags) = false :=
      fun x _ => sameLimit_faultAck x.frame _ _ _ _
    have full {last : Queued} (tail : s.bus.queue.getLast? = some last) : ∃ rest, s.bus.queue = rest ++ [last] :=
      List.getLast?_eq_some_iff.mp tail
    refine ⟨respond_undone _ _ _ _ ((offer_sameButTraffic _ s).trans (buildDue_sameButTraffic _)),
      (respond_answer ..).1, fun room => ?_,
      fun last tail length low => ?_, fun last tail length above => ?_, fun room => ?_⟩
    · rw [offer_of_room admitted free room]
      exact (respond_answer ..).2
    · obtain ⟨rest, queue⟩ := full tail
      rw [offer_of_full admitted free queue (by omega) low]
      rw [respond_flagSticky]
      exact ⟨(respond_answer ..).2, (buildDue_news _).flags _ (raiseFlag_flagSticky _ _)⟩
    · obtain ⟨rest, queue⟩ := full tail
      rw [offer_of_displacing admitted free queue (by omega) above]
      rw [respond_flagSticky]
      exact ⟨(respond_answer ..).2, (buildDue_news _).flags _ (by rw [displacedNotice_flagSticky, raiseFlag_flagSticky])⟩
    · rw [offer_of_room admitted free (by omega), respond_bus]
      have perm := insertByCode_perm (newEntry s.now (.faultAck target channels (kindSetOf kinds) nodeFlags)) s.bus.queue
      refine ⟨newEntry s.now (.faultAck target channels (kindSetOf kinds) nodeFlags),
        buildDue_in_room ?_ (perm.mem_iff.mpr List.mem_cons_self) (by simp [newEntry, Frame.code]), rfl⟩
      have length := perm.length_eq
      simp only [setQueue_bus, setQueue_groups, List.length_cons] at length ⊢
      omega

end Sys2Proof.Machine
end

section
/-! PROOFS. The sense inputs (R61, R62, R67, R76, R77, O16). -/

namespace Sys2Proof.Machine

open Sys2Proof

/-! ## The pin (R76) -/

theorem pinChange_reader {n : Fin 8} {s : State} (running : s.running = true)
    (role : (s.config.inputs.get n).role ≠ .unused) : pinChange n s = setInput n { s.inputs.get n with
      pin := !(s.inputs.get n).pin,
      timer := if (s.inputs.get n).pin = (s.inputs.get n).level then some (s.now + 1000 * s.config.debounce)
        else none } s := by
  rw [pinChange, if_pos (by simp [running, role])]
  generalize s.inputs.get n = x
  obtain ⟨pin, level, timer⟩ := x
  cases pin <;> cases level <;> rfl

theorem pinChange_idle {n : Fin 8} {s : State}
    (idle : s.running = false ∨ (s.config.inputs.get n).role = .unused) :
    pinChange n s = setInput n { s.inputs.get n with pin := !(s.inputs.get n).pin } s := by
  rw [pinChange, if_neg (by rcases idle with h | h <;> simp [h])]

/-! ## A trip input at its zone (R61, R62) -/

/-- A zone's local source active, and then its trip. -/
theorem setZone_then_turned {z : Fin 8} {x y : Zone} {s t : State} (stays : x.tripped = (s.zone z).tripped)
    (h : ZoneTurned z (setZone z x s) t y) : ZoneTurned z s t y where
  beside := (setZone_beside z x s).trans h.beside
  zone := h.zone
  event turned := h.event (by rw [setZone_zone, if_pos rfl, stays]; exact turned)
  channel c zone := by
    have same : Alike c (setZone z x s) s := ⟨rfl, rfl, rfl, rfl, rfl, rfl⟩
    have turned := h.channel c zone
    rw [setZone_zone, if_pos rfl, stays] at turned
    exact same.turned (.refl c t) turned

theorem tripInputActive_turned (z : Fin 8) (s : State) : ZoneTurned z s (tripInputActive z s)
    { tripped := true, station := some s.loader.station, cause := some .input, localActive := true } := by
  have tripped := tripZone_turned z s.loader.station .input (setZone z { s.zone z with localActive := true } s)
  rw [setZone_zone, if_pos rfl] at tripped
  have queued := tripped.quiet (queueTrip_beside z .input _) (by simp) (by simp)
  have left := queued.quiet (removeFromClear_beside z _) (by simp) (by simp)
  exact setZone_then_turned (x := { s.zone z with localActive := true }) rfl left

theorem tripInputActive_trips {z : Fin 8} {s : State} (onLine : s.bus.state = .onLine)
    (fits : queueFits s.bus.queue) : queueTrips z (tripInputActive z s).bus.queue = true := by
  rw [tripInputActive, removeFromClear_queueTrips]
  exact queueTrip_trips (by simpa using onLine) (by simpa using fits)

theorem tripInputActive_uncleared (z : Fin 8) (s : State) : noClearOf z (tripInputActive z s).bus.queue :=
  removeFromClear_leaves z _

theorem tripInputInactive_turned (z : Fin 8) (s : State) : ZoneTurned z s (tripInputInactive z s)
    { s.zone z with localActive := s.tripSource z } := setZone_turned rfl

/-! ## A debounced level at the Zone Table -/

section
variable {n z : Fin 8} {mask : Byte} {s : State}

theorem inputToZones_trip_active (role : (s.config.inputs.get n).role = .trip z) (active : s.senseOn n = true) :
    inputToZones n s = tripInputActive z s := by simp [inputToZones, role, active]

theorem inputToZones_trip_inactive (role : (s.config.inputs.get n).role = .trip z) (inactive : s.senseOn n = false) :
    inputToZones n s = tripInputInactive z s := by simp [inputToZones, role, inactive]

theorem inputToZones_clear_active (role : (s.config.inputs.get n).role = .clear mask) (active : s.senseOn n = true) :
    inputToZones n s = queueClear mask s := by simp [inputToZones, role, active]

theorem inputToZones_clear_inactive (role : (s.config.inputs.get n).role = .clear mask)
    (inactive : s.senseOn n = false) : inputToZones n s = s := by simp [inputToZones, role, inactive]

/-- An input without the role of a trip touches no zone and no channel (R67, R77). -/
theorem inputToZones_not_trip (role : ∀ z, (s.config.inputs.get n).role ≠ .trip z) :
    (inputToZones n s).zones = s.zones ∧ (inputToZones n s).channels = s.channels ∧
    (inputToZones n s).host.points = s.host.points := by
  unfold inputToZones
  split
  next z trip => exact absurd trip (role z)
  next => split <;> simp
  all_goals exact ⟨rfl, rfl, rfl⟩

/-- What an input's change leaves beside the zone it trips (R61, R62, R67). -/
theorem inputToZones_beside : (inputToZones n s).host.points = s.host.points ∧
    (inputToZones n s).zones.shutdown = s.zones.shutdown ∧
    (∀ z, (s.config.inputs.get n).role ≠ .trip z → (inputToZones n s).zone z = s.zone z) ∧
    ∀ c, ((s.cfg c).zone = none ∨ s.senseOn n = false ∨ (∀ z, (s.config.inputs.get n).role ≠ .trip z)) →
      Alike c s (inputToZones n s) := by
  by_cases trip : ∃ z, (s.config.inputs.get n).role = .trip z
  · obtain ⟨z, role⟩ := trip
    have turn {t : State} {x : Zone} (turned : ZoneTurned z s t x)
        (alike : ∀ c, ((s.cfg c).zone = none ∨ s.senseOn n = false) → Alike c s t) :
        t.host.points = s.host.points ∧ t.zones.shutdown = s.zones.shutdown ∧
        (∀ y, (s.config.inputs.get n).role ≠ .trip y → t.zone y = s.zone y) ∧
        ∀ c, ((s.cfg c).zone = none ∨ s.senseOn n = false ∨ (∀ z, (s.config.inputs.get n).role ≠ .trip z)) →
          Alike c s t := by
      have kept := turned.beside.kept
      simp only [State.beyondZones, Prod.mk.injEq] at kept
      obtain ⟨-, -, -, -, -, -, -, -, host, shutdown, -⟩ := kept
      refine ⟨host, shutdown, fun y other => turned.beside.zone y fun same => other (same ▸ role), fun c apart => ?_⟩
      rcases apart with none | inactive | other
      · exact alike c (.inl none)
      · exact alike c (.inr inactive)
      · exact absurd role (other z)
    cases active : s.senseOn n
    · rw [inputToZones_trip_inactive role active]
      rw [active] at turn
      exact turn (tripInputInactive_turned z s) fun c _ => ⟨rfl, rfl, rfl, rfl, rfl, rfl⟩
    · rw [inputToZones_trip_active role active]
      rw [active] at turn
      refine turn (tripInputActive_turned z s) fun c apart => (tripInputActive_turned z s).beside.alike fun y zone => ?_
      rw [apart.resolve_right (by decide)] at zone
      cases zone
  · have other : ∀ z, (s.config.inputs.get n).role ≠ .trip z := fun z same => trip ⟨z, same⟩
    obtain ⟨zones, channels, host⟩ := inputToZones_not_trip other
    refine ⟨host, by rw [zones], fun z _ => by rw [State.zone, zones, State.zone], fun c _ => ?_⟩
    constructor <;> simp [State.chan, State.sentBy, channels]

end

/-! ## A debounced level that changes -/

/-- The level takes the pin, and the channels with a term on it evaluate their demand (R76, R77). -/
def State.levelTaken (s : State) (n : Fin 8) : State :=
  setInput n { pin := (s.inputs.get n).pin, level := (s.inputs.get n).pin, timer := none } s

theorem exec_debounceExpiry {n : Fin 8} {s : State} (running : s.running = true) (runs : (s.inputs.get n).timer ≠ none) :
    exec (.debounceExpiry n) s = .next (buildDue (pendSource (.sense n)
      (inputToZones n (evaluateUsers (· == .sense n) (s.levelTaken n))))) := by
  show Host.Outcome.next (buildDue (whenRunning (debounceExpires n) s)) = _
  rw [exec_running running, debounceExpires, if_pos (Option.isSome_iff_ne_none.mpr runs)]
  rfl

/-- What the Zone Table finds when the level reaches it: the channels have evaluated their demand, the rest is as the
level left it. -/
structure LevelSeen (n : Fin 8) (s u : State) : Prop where
  kept : u.beyondZones = (s.levelTaken n).beyondZones
  zones : u.zones = s.zones
  bus : u.bus = s.bus
  channel : ∀ c, if s.usesSource (fun x => x == .sense n) c = true then s.evaluated u c else s.sameChannel u c
  causes : ∀ c, (u.cfg c).zone = (s.cfg c).zone ∧ (u.cfg c).enabled = (s.cfg c).enabled

theorem evaluateUsers_feedback (p : TermSource → Bool) (s : State) :
    (evaluateUsers p s).channels.feedback = s.channels.feedback := by
  rw [evaluateUsers]
  exact each8_keeps (fun s => s.channels.feedback) _ (fun c s => by split <;> simp) s

theorem levelTaken_seen (n : Fin 8) (s : State) : LevelSeen n s (evaluateUsers (· == .sense n) (s.levelTaken n)) := by
  have same (c : Fin 8) : Alike c (s.levelTaken n) s := ⟨rfl, rfl, rfl, rfl, rfl, rfl⟩
  refine ⟨?_, by simp [State.levelTaken, setInput], by simp [State.levelTaken, setInput], fun c => ?_, fun c => ?_⟩
  · simp [State.beyondZones, evaluateUsers_feedback]
  · have uses : s.usesSource (fun x => x == .sense n) c = (s.levelTaken n).usesSource (fun x => x == .sense n) c := rfl
    rw [uses]
    split
    next does => exact AlikeSources.evaluated (same c) (.refl c _) (evaluateUsers_evaluated does).1
    next not =>
      have other := evaluateUsers_other (p := fun x => x == .sense n) (Bool.eq_false_iff.mpr not)
      exact ⟨other.chan, other.sent⟩
  · simp [State.cfg, State.config, State.levelTaken, setInput]

/-- From tripped or not to TRIPPED: TRIP stands on the enabled channels of the zone (R64). -/
theorem State.turned.causes {s t : State} {c : Fin 8} (turned : s.turned t false true c)
    (enabled : (s.cfg c).enabled = true) : (t.chan c).causes.trip = true := by
  simp only [State.turned, Bool.true_eq_false, if_false, enabled, if_true, State.forced] at turned
  cases has : (s.chan c).causes.has .trip
  · simp only [has, Bool.false_eq_true, if_false] at turned
    rw [turned.1]
    rfl
  · simp only [has, if_true] at turned
    rw [turned.1]
    exact has

/-- Settles O16: the level is taken and evaluated, then the Zone Table sees it; what follows touches neither. -/
theorem senseInputs : Obligations.SenseInputs := by
  refine ⟨fun s n => ⟨fun running role same => ?_, fun running role apart => ?_, fun idle => ?_⟩,
    fun s n running runs => ⟨_, exec_debounceExpiry running runs, ?_⟩⟩
  · show Host.Outcome.next (pinChange n s) = _
    rw [pinChange_reader running role, if_pos same]
    rfl
  · show Host.Outcome.next (pinChange n s) = _
    rw [pinChange_reader running role, if_neg apart]
    rfl
  · show Host.Outcome.next (pinChange n s) = _
    rw [pinChange_idle idle]
    rfl
  · have seen := levelTaken_seen n s
    generalize evaluateUsers (· == .sense n) (s.levelTaken n) = u at *
    have all := seen.kept
    simp only [State.beyondZones, Prod.mk.injEq] at all
    obtain ⟨-, -, loader, marks, inputs, points, link, power, host, shutdown, -⟩ := all
    have config : u.config = s.config := by rw [State.config, loader]; rfl
    have level : u.senseOn n = ((s.inputs.get n).pin == (s.config.inputs.get n).activeHigh) := by
      rw [State.senseOn, config, inputs]
      simp [State.levelTaken, setInput]
    have zoneSeen (z : Fin 8) : u.zone z = s.zone z := by rw [State.zone, seen.zones, State.zone]
    obtain ⟨hostKept, shutdownKept, zoneKept, channelKept⟩ := inputToZones_beside (n := n) (s := u)
    have zone (z : Fin 8) : (buildDue (pendSource (.sense n) (inputToZones n u))).zone z = (inputToZones n u).zone z := by
      simp [State.zone]
    have line : (pendSource (.sense n) (inputToZones n u)).bus = (inputToZones n u).bus := by simp
    have due (c : Fin 8) : AlikeSources c (inputToZones n u) (buildDue (pendSource (.sense n) (inputToZones n u))) :=
      (pendSource_alike c _ _).trans (buildDue_alike c _)
    have evaluatedKept (c : Fin 8) (h : Alike c u (inputToZones n u)) :
        AlikeSources c u (buildDue (pendSource (.sense n) (inputToZones n u))) :=
      AlikeSources.trans ⟨h, by simp, hostKept, by simp⟩ (due c)
    have event : (buildDue (pendSource (.sense n) (inputToZones n u))).host.events.zoneChange =
        (inputToZones n u).host.events.zoneChange := (buildDue_news _).event.trans (by simp)
    refine ⟨?_, ?_, ?_, ?_, ?_, ?_, ?_, ?_, fun z other => ?_, fun z role active => ⟨?_, fun clear => ?_,
      fun onLine sound ordered => ?_, ?_⟩, fun mask role onLine => ⟨fun active some sound ordered => ?_, fun none => ?_⟩,
      fun off notTrip => ?_, fun z role inactive => ?_, fun c apart => ?_⟩
    · simp [inputs, State.levelTaken, setInput]
    · simp [loader, State.levelTaken, setInput]
    · simp [points, State.levelTaken, setInput]
    · simp [marks, State.levelTaken, setInput]
    · simp [link, State.levelTaken, setInput]
    · simp [power, State.levelTaken, setInput]
    · simp [hostKept, host, State.levelTaken, setInput]
    · simp [shutdownKept, shutdown, State.levelTaken, setInput]
    · rw [zone, zoneKept z (config ▸ other), zoneSeen]
    · rw [zone, inputToZones_trip_active (config ▸ role) (level.trans active), (tripInputActive_turned z u).zone, loader]
      rfl
    · have turned := tripInputActive_turned z u
      have same := inputToZones_trip_active (config ▸ role) (level.trans active)
      refine ⟨event.trans (same ▸ turned.event (by simp [zoneSeen, clear])), fun c enabled inZone => ?_⟩
      have forced := turned.channel c ((seen.causes c).1.trans inZone)
      rw [zoneSeen, clear] at forced
      rw [(due c).chan, same]
      exact forced.causes ((seen.causes c).2.trans enabled)
    · rw [← queueTrips_iff, buildDue_queueTrips, line, inputToZones_trip_active (config ▸ role) (level.trans active)]
      exact tripInputActive_trips (seen.bus ▸ onLine) (seen.bus ▸ queueFits_of_sound sound ordered)
    · refine StaysUncleared.buildDue _ ?_
      rw [line, inputToZones_trip_active (config ▸ role) (level.trans active)]
      exact tripInputActive_uncleared z u
    · have asked : withoutLocal mask u = mask &&& ~~~zonesWhere Zone.localActive s := by
        rw [withoutLocal_eq, zonesWhere, zonesWhere]
        simp only [zoneSeen]
      rw [← asked] at some ⊢
      obtain ⟨q, inside, m, clear, covers⟩ := queueClear_mask (seen.bus ▸ onLine)
        (seen.bus ▸ queueFits_of_sound sound ordered) some
      refine ⟨q, (DueOnly.buildDue _).stays q ?_ (by simp [clear, Frame.code]), m, clear, covers⟩
      rwa [line, inputToZones_clear_active (config ▸ role) (level.trans active)]
    · have asked : withoutLocal mask u = mask &&& ~~~zonesWhere Zone.localActive s := by
        rw [withoutLocal_eq, zonesWhere, zonesWhere]
        simp only [zoneSeen]
      have same : inputToZones n u = u := by
        cases active : u.senseOn n
        · exact inputToZones_clear_inactive (config ▸ role) active
        · rw [inputToZones_clear_active (config ▸ role) active]
          refine queueClear_none (asked.trans (none.resolve_left fun inactive => ?_))
          rw [← level, active] at inactive
          cases inactive
      intro q inside clear
      have joined := (DueOnly.buildDue _).joined q inside
      rw [line, same, seen.bus] at joined
      exact joined.resolve_right fun code => by cases h : q.frame <;> simp_all [isClear, Frame.code]
    · have quiet : (inputToZones n u).bus = u.bus := by
        unfold inputToZones
        rw [config]
        split
        next z trip => exact absurd trip (notTrip z)
        next => split <;> simp [queueClear, State.onLine, seen.bus, off]
        all_goals rfl
      rw [buildDue_of_not_onLine (by simp [State.onLine, quiet, seen.bus, off]), line, quiet, seen.bus]
    · rw [zone, inputToZones_trip_inactive (config ▸ role) (level.trans inactive), (tripInputInactive_turned z u).zone,
        zoneSeen]
      have sources : (buildDue (pendSource (.sense n) (tripInputInactive z u))).tripSource z = u.tripSource z := by
        simp [State.tripSource, State.senseOn, State.config]
      rw [sources]
    · have kept := evaluatedKept c (channelKept c (by rwa [(seen.causes c).1, level, config]))
      have told := seen.channel c
      split
      next uses =>
        rw [if_pos uses] at told
        exact AlikeSources.evaluated (.refl c s) kept told
      next not =>
        rw [if_neg not] at told
        exact (Alike.refl c s).sameChannel kept.toAlike told

end Sys2Proof.Machine
end

section
/-! PROOFS. Frames read back as themselves (R98, R169, R170, O26). -/

namespace Sys2Proof.Machine

open Sys2Proof

/-! ## The fields of a payload -/

theorem byteOf_eq_iff {n : Nat} (small : n < 256) (b : Byte) : b = byteOf n ↔ b.toNat = n := by
  rw [← BitVec.toNat_inj, byteOf_toNat small]

theorem half_eq_iff (a b : Byte) (h : Half) : half a b = h ↔ a = hiByte h ∧ b = loByte h := by
  have parts := halfBytes_toNat h
  have whole := half_toNat a b
  have low := (loByte h).isLt
  have low' := b.isLt
  constructor
  · rintro rfl
    constructor <;> apply BitVec.eq_of_toNat_eq <;> omega
  · rintro ⟨rfl, rfl⟩
    apply BitVec.eq_of_toNat_eq
    omega

theorem halfBytes_of_half (a b : Byte) : halfBytes (half a b) = [a, b] := by
  obtain ⟨high, low⟩ := (half_eq_iff a b _).mp rfl
  rw [halfBytes, ← high, ← low]

theorem half_of_halfBytes (h : Half) : half (hiByte h) (loByte h) = h := (half_eq_iff _ _ h).mpr ⟨rfl, rfl⟩

theorem groupOf_iff (b : Byte) (g : Fin 128) : groupOf b = some g ↔ b = byteOf g.val := by
  rw [byteOf_eq_iff (by omega), groupOf]
  split
  · simp [Fin.ext_iff]
  · simp; omega

theorem channelOf_iff (b : Byte) (c : Fin 8) : channelOf b = some c ↔ b = byteOf c.val := by
  rw [byteOf_eq_iff (by omega), channelOf]
  split
  · simp [Fin.ext_iff]
  · simp; omega

theorem stationOf_iff (b : Byte) (t : Station) :
    stationOf b = some t ↔ b = byteOf t.val ∧ 1 ≤ t.val ∧ t.val ≤ 62 := by
  rw [byteOf_eq_iff (by omega), stationOf]
  split
  · simp [Fin.ext_iff]; omega
  · simp; omega

theorem boolOf_iff (b : Byte) (v : Bool) : boolOf b = some v ↔ b = boolByte v := by
  unfold boolOf boolByte
  by_cases zero : b = 0
  · subst zero; cases v <;> decide
  · by_cases one : b = 1
    · subst one; cases v <;> decide
    · rw [if_neg zero, if_neg one]
      cases v
      · exact ⟨(nomatch ·), fun same => absurd same zero⟩
      · exact ⟨(nomatch ·), fun same => absurd same one⟩

theorem causeOf_iff (b : Byte) (c : TripCause) : causeOf b = some c ↔ b = c.code := by
  unfold causeOf
  by_cases one : b = 1
  · subst one; cases c <;> decide
  · by_cases two : b = 2
    · subst two; cases c <;> decide
    · by_cases three : b = 3
      · subst three; cases c <;> decide
      · rw [if_neg one, if_neg two, if_neg three]
        cases c
        · exact ⟨(nomatch ·), fun same => absurd same one⟩
        · exact ⟨(nomatch ·), fun same => absurd same two⟩
        · exact ⟨(nomatch ·), fun same => absurd same three⟩

theorem kindSetByte_bit (k : KindSet) (i : Fin 8) : (kindSetByte k).getLsbD i.val =
    (Eight.mk k.openOff k.shortSupply k.openOn k.overload k.overtemp k.failOn k.stuckOn false).get i :=
  maskBit_maskOf _ i

theorem kindsOf_iff (b : Byte) (k : KindSet) : kindsOf b = some k ↔ b = kindSetByte k := by
  constructor
  · intro named
    unfold kindsOf at named
    split at named
    · cases named
    next top =>
      rw [Option.some.injEq] at named
      subst named
      refine BitVec.eq_of_getLsbD_eq fun i low => ?_
      have same := kindSetByte_bit (kindSetOf b) ⟨i, low⟩
      simp only at same
      rw [same]
      match i, low with
      | 0, _ | 1, _ | 2, _ | 3, _ | 4, _ | 5, _ | 6, _ => rfl
      | 7, _ => exact Bool.eq_false_iff.mpr top
  · rintro rfl
    rw [kindsOf, kindSetByte_bit7, if_neg (by decide), kindSetOf_byte]

theorem flagsOf_iff (h : Half) (f : BitVec 9) : flagsOf h = some f ↔ h = flagHalf f := by
  have high := h.isLt
  have low := f.isLt
  have flag : (flagHalf f).toNat = f.toNat := by simp [flagHalf]; omega
  have field : (h.setWidth 9).toNat = h.toNat % 512 := by simp
  have top : h >>> 9 = 0 ↔ h.toNat / 512 = 0 := by
    rw [← BitVec.toNat_inj]
    simp [Nat.shiftRight_eq_div_pow]
  rw [← BitVec.toNat_inj, flag]
  unfold flagsOf
  split
  next clear =>
    rw [Option.some.injEq, ← BitVec.toNat_inj, field]
    have small := top.mp clear
    omega
  next set =>
    have large := mt top.mpr set
    simp only [reduceCtorEq, false_iff]
    omega

theorem PointPair.word_toNat (p : PointPair) :
    p.word.toNat = (if p.value = true then 2 else 1) * 16384 + p.point.val := by
  have small := p.point.isLt
  have point : (BitVec.ofNat 16 p.point.val).toNat = p.point.val := by simp; omega
  unfold PointPair.word
  rw [BitVec.toNat_or, point]
  have or (a : Nat) := (Nat.two_pow_add_eq_or_of_lt (i := 14) (b := p.point.val) (by omega) a).symm
  cases p.value
  · exact or 1
  · exact or 2

theorem pointPairOf_iff (w : Half) (p : PointPair) : pointPairOf w = some p ↔ w = p.word := by
  have high := w.isLt
  have small := p.point.isLt
  have number : (w.extractLsb' 0 14).toNat = w.toNat % 16384 := by simp
  have code : (w.extractLsb' 14 2).toNat = w.toNat / 16384 := by
    simp [Nat.shiftRight_eq_div_pow]
    omega
  have one : w.extractLsb' 14 2 = 1 ↔ w.toNat / 16384 = 1 := by
    rw [← BitVec.toNat_inj, code]; rfl
  have two : w.extractLsb' 14 2 = 2 ↔ w.toNat / 16384 = 2 := by
    rw [← BitVec.toNat_inj, code]; rfl
  rw [← BitVec.toNat_inj, p.word_toNat]
  obtain ⟨point, value⟩ := p
  have same (v : Bool) (h : (w.extractLsb' 0 14).toNat < 512) :
      (some (PointPair.mk ⟨(w.extractLsb' 0 14).toNat, h⟩ v) = some ⟨point, value⟩) ↔
        w.toNat % 16384 = point.val ∧ v = value := by
    rw [Option.some.injEq, PointPair.mk.injEq, Fin.ext_iff]
    show (w.extractLsb' 0 14).toNat = _ ∧ _ ↔ _
    rw [number]
  unfold pointPairOf
  split
  next inside =>
    split
    next off =>
      rw [one] at off
      rw [same]
      cases value <;> simp <;> omega
    next notOff =>
      rw [one] at notOff
      split
      next on =>
        rw [two] at on
        rw [same]
        cases value <;> simp <;> omega
      next notOn =>
        rw [two] at notOn
        cases value <;> simp <;> omega
  next outside =>
    cases value <;> simp at * <;> omega

theorem pointPairsOf_cons (hi lo : Byte) (rest : List Byte) (ps : List PointPair) :
    pointPairsOf (hi :: lo :: rest) = some ps ↔
      ∃ p qs, pointPairOf (half hi lo) = some p ∧ pointPairsOf rest = some qs ∧ p :: qs = ps := by
  rw [pointPairsOf]
  cases pointPairOf (half hi lo) <;> cases pointPairsOf rest <;> simp

theorem pointPairsOf_iff : ∀ (bytes : List Byte) (ps : List PointPair),
    pointPairsOf bytes = some ps ↔ bytes = ps.flatMap fun p => halfBytes p.word
  | [], ps => by cases ps <;> simp [pointPairsOf, halfBytes]
  | [b], ps => by cases ps <;> simp [pointPairsOf, halfBytes]
  | hi :: lo :: rest, ps => by
    rw [pointPairsOf_cons]
    simp only [pointPairOf_iff, pointPairsOf_iff rest, half_eq_iff]
    cases ps with
    | nil => simp
    | cons p ps => simp [halfBytes]; tauto

theorem pairs_payload_length (ps : List PointPair) :
    (ps.flatMap fun p => halfBytes p.word).length = 2 * ps.length := by
  induction ps with
  | nil => rfl
  | cons p ps ih => simp [halfBytes] at *; omega

/-! ## Frames -/

theorem parse_of_payload {f : Frame} (inRange : f.inRange = true) : Frame.parse f.code f.payload = some f := by
  cases f with
  | mark n => simp [Frame.code, Frame.payload, Frame.parse, halfBytes, half_of_halfBytes]
  | trip z c => simp [Frame.code, Frame.payload, Frame.parse, (causeOf_iff _ c).mpr rfl]
  | clear z => rfl
  | release g c =>
    simp [Frame.code, Frame.payload, Frame.parse, (groupOf_iff _ g).mpr rfl, (channelOf_iff _ c).mpr rfl]
  | hold g c o =>
    simp [Frame.code, Frame.payload, Frame.parse, (groupOf_iff _ g).mpr rfl, (channelOf_iff _ c).mpr rfl,
      (boolOf_iff _ o).mpr rfl]
  | claim g c =>
    simp [Frame.code, Frame.payload, Frame.parse, (groupOf_iff _ g).mpr rfl, (channelOf_iff _ c).mpr rfl]
  | faultAck t m k n =>
    have target : 1 ≤ t.val ∧ t.val ≤ 62 := by simpa [Frame.inRange] using inRange
    simp [Frame.code, Frame.payload, Frame.parse, (stationOf_iff _ t).mpr ⟨rfl, target⟩, (kindsOf_iff _ k).mpr rfl,
      (boolOf_iff _ n).mpr rfl]
  | fault c l s m =>
    simp [Frame.code, Frame.payload, Frame.parse, halfBytes, half_of_halfBytes, (channelOf_iff _ c).mpr rfl,
      (kindsOf_iff _ l).mpr rfl, (kindsOf_iff _ s).mpr rfl]
  | points ps =>
    have few : 1 ≤ ps.length ∧ ps.length ≤ 7 := by simpa [Frame.inRange] using inRange
    have count : (byteOf ps.length).toNat = ps.length := byteOf_toNat (by omega)
    simp only [Frame.code, Frame.payload, Frame.parse, count, pairs_payload_length, (pointPairsOf_iff _ ps).mpr rfl]
    simp [few]
  | status i =>
    simp [Frame.code, Frame.payload, Frame.parse, StatusInfo.bytes, halfBytes, half_of_halfBytes,
      (flagsOf_iff _ i.flags).mpr rfl]
  | hello t s => simp [Frame.code, Frame.payload, Frame.parse, halfBytes, half_of_halfBytes]

theorem payload_of_parse {kind : Nat} {payload : List Byte} {f : Frame} (parsed : Frame.parse kind payload = some f) :
    f.code = kind ∧ f.payload = payload ∧ f.inRange = true := by
  unfold Frame.parse at parsed
  split at parsed
  next a b =>
    cases parsed
    exact ⟨rfl, halfBytes_of_half a b, rfl⟩
  next z b =>
    obtain ⟨c, cause, rfl⟩ := Option.map_eq_some_iff.mp parsed
    exact ⟨rfl, by rw [(causeOf_iff b c).mp cause]; rfl, rfl⟩
  next z =>
    cases parsed
    exact ⟨rfl, rfl, rfl⟩
  next a b =>
    split at parsed
    next g c group channel =>
      cases parsed
      exact ⟨rfl, by rw [(groupOf_iff a g).mp group, (channelOf_iff b c).mp channel]; rfl, rfl⟩
    next => cases parsed
  next a b d =>
    split at parsed
    next g c o group channel objection =>
      cases parsed
      exact ⟨rfl, by rw [(groupOf_iff a g).mp group, (channelOf_iff b c).mp channel, (boolOf_iff d o).mp objection]; rfl,
        rfl⟩
    next => cases parsed
  next a b =>
    split at parsed
    next g c group channel =>
      cases parsed
      exact ⟨rfl, by rw [(groupOf_iff a g).mp group, (channelOf_iff b c).mp channel]; rfl, rfl⟩
    next => cases parsed
  next a m b d =>
    split at parsed
    next t k n station kinds flags =>
      cases parsed
      obtain ⟨target, range⟩ := (stationOf_iff a t).mp station
      exact ⟨rfl, by rw [target, (kindsOf_iff b k).mp kinds, (boolOf_iff d n).mp flags]; rfl, decide_eq_true range⟩
    next => cases parsed
  next a b d m n =>
    split at parsed
    next c l k channel live sticky =>
      cases parsed
      exact ⟨rfl, by rw [(channelOf_iff a c).mp channel, (kindsOf_iff b l).mp live, (kindsOf_iff d k).mp sticky,
        Frame.payload, halfBytes_of_half]; rfl, rfl⟩
    next => cases parsed
  next n rest =>
    split at parsed
    next range =>
      obtain ⟨ps, pairs, rfl⟩ := Option.map_eq_some_iff.mp parsed
      obtain ⟨low, high, length⟩ := range
      have bytes := (pointPairsOf_iff rest ps).mp pairs
      have count : ps.length = n.toNat := by
        rw [bytes, pairs_payload_length] at length
        omega
      exact ⟨rfl, by rw [Frame.payload, ← bytes, count, ((byteOf_eq_iff (by omega) n).mpr rfl : n = byteOf n.toNat).symm],
        decide_eq_true (by omega)⟩
    next => cases parsed
  next a b d l k t m n =>
    obtain ⟨f, flags, rfl⟩ := Option.map_eq_some_iff.mp parsed
    exact ⟨rfl, by simp [Frame.payload, StatusInfo.bytes, ← (flagsOf_iff _ f).mp flags, halfBytes_of_half], rfl⟩
  next a b d e =>
    cases parsed
    exact ⟨rfl, by rw [Frame.payload, halfBytes_of_half, halfBytes_of_half]; rfl, rfl⟩
  next => cases parsed

theorem payload_length {f : Frame} (inRange : f.inRange = true) : f.payload.length ≤ 16 := by
  cases f with
  | points ps =>
    have few : 1 ≤ ps.length ∧ ps.length ≤ 7 := by simpa [Frame.inRange] using inRange
    simp only [Frame.payload, List.length_cons, pairs_payload_length]
    omega
  | _ => simp [Frame.payload, halfBytes, StatusInfo.bytes]

/-- Settles O26, by the codecs of the fields, each an equivalence. -/
theorem framesReadBack : Obligations.FramesReadBack := by
  refine ⟨fun f inRange => ⟨parse_of_payload inRange, payload_length inRange, by cases f <;> simp [Frame.code]⟩,
    fun kind payload f => payload_of_parse, fun f source inRange => ?_⟩
  have short := payload_length inRange
  have length : (BitVec.ofNat 5 f.payload.length).toNat = f.payload.length := by
    rw [BitVec.toNat_ofNat]
    omega
  simp [FrameRead.isBad, Frame.onLine, length, short]

end Sys2Proof.Machine
end

section
/-! PROOFS. A frame that arrives: what the node is when the frame reaches its owner, and what follows (R95 to R99). -/

namespace Sys2Proof.Machine

open Sys2Proof

/-! ## The node as its owner finds it -/

section
variable {s : State} {source : Station}

theorem hears_learns (h : s.hears source) : s.learns = true → s.bus.score ≤ 96 := by
  obtain ⟨-, -, -, -, -, limit⟩ := h
  intro learns
  cases b : s.bus.state <;> simp_all [State.learns]

theorem hears_muted (h : s.hears source) : s.bus.state = .muted → s.bus.score ≤ 200 := by
  obtain ⟨-, -, -, -, -, limit⟩ := h
  intro muted
  simp_all

/-- Where the score leaves the bus state alone, a heard frame changes the score and the reject mark alone (R96). -/
theorem afterHearing_unmoved (h : s.hears source) (stays : s.staysMuted) : s.afterHearing =
    { s with bus := { s.bus with rejecting := false, score := s.bus.score - 1 } } := by
  have judged := judgeScore_after_good (s := setRejecting false s) (hears_learns h) (hears_muted h)
  rcases judged with same | ⟨muted, joins⟩
  · exact same
  · have high := stays muted
    have kept : judgeScore (lowerScore (setRejecting false s)) = lowerScore (setRejecting false s) := by
      have state : (lowerScore (setRejecting false s)).bus.state = .muted := muted
      have score : (lowerScore (setRejecting false s)).bus.score = s.bus.score - 1 := rfl
      have low := hears_muted h muted
      unfold judgeScore
      rw [state]
      dsimp only
      rw [score, if_neg (by omega), if_neg (by omega)]
    exact kept

/-- The own frame's entry has left the queue, or what the frame did not carry stands in its place (R104). -/
def State.settledQueue (s : State) (f : Frame) : State :=
  { s with bus := { s.bus with attempt := none, queue := settleTaken f s.bus.queue, score := s.bus.score - 1 } }

theorem afterSending_unmoved {f : Frame} (h : s.sends f) : s.afterSending f =
    if (settleTaken f s.bus.queue).length < s.bus.queue.length then roomNotice (s.settledQueue f)
    else s.settledQueue f := by
  obtain ⟨-, onLine, -, score⟩ := h
  have stays (t : State) (state : t.bus.state = .onLine) (low : t.bus.score ≤ 96) :
      judgeScore (lowerScore t) = lowerScore t := by
    rcases judgeScore_after_good (s := t) (fun _ => low) (fun muted => by rw [state] at muted; cases muted) with
      same | ⟨muted, -⟩
    · exact same
    · rw [state] at muted; cases muted
  unfold State.afterSending
  dsimp only
  split
  · exact stays _ onLine score
  · exact stays _ onLine score

end

/-- From s, the node is u when the frame reaches its owner: beyond what `Accepted` says, the entries, the fault
records and lists and the last sent values are as they were, and so are the flags, but for BUS-DEGRADED where a good
frame brings JOINING, and for QUEUE-OVERFLOW. -/
structure Received (s u : State) : Prop extends Accepted s u where
  groups : u.groups = s.groups
  records : ∀ c, (u.faultRec c).kinds = (s.faultRec c).kinds
  list : u.faults.list = s.faults.list ∧ u.faults.overrun = s.faults.overrun
  sticky : ∀ f, f ≠ .queueOverflow → u.flagSticky f = s.flagSticky f
  live : ∀ f, (f = .busDegraded → s.staysMuted) → u.flagLive f = s.flagLive f
  sent : u.pubs.entries.map Publication.lastSent = s.pubs.entries.map Publication.lastSent
  shorter : s.bus.state = .onLine → u.bus.queue.length ≤ s.bus.queue.length

namespace Received

variable {s u : State}

theorem of_bus (accepted : Accepted s u) (groups : u.groups = s.groups) (records : u.faults.records = s.faults.records)
    (flags : u.faults.flags = s.faults.flags)
    (list : u.faults.list = s.faults.list ∧ u.faults.overrun = s.faults.overrun)
    (pubs : u.pubs.entries = s.pubs.entries)
    (shorter : s.bus.state = .onLine → u.bus.queue.length ≤ s.bus.queue.length) : Received s u :=
  { accepted with
    groups := groups, list := list, records := fun c => by rw [State.faultRec, records, State.faultRec],
    sticky := fun f _ => by rw [State.flagSticky, flags, State.flagSticky],
    live := fun f _ => by rw [State.flagLive, flags, State.flagLive], sent := by rw [pubs], shorter := shorter }

end Received

theorem pendWhere_lastSent (p : PublicationConfig → Bool) (cs : List PublicationConfig) (es : List Publication) :
    (pendWhere p cs es).map Publication.lastSent = es.map Publication.lastSent := by
  induction cs generalizing es with
  | nil => rfl
  | cons c cs ih =>
    cases es with
    | nil => rfl
    | cons e es =>
      simp only [pendWhere, List.map_cons, ih]
      split <;> rfl

theorem raiseFlag_lastSent (f : NodeFlag) (s : State) :
    (raiseFlag f s).pubs.entries.map Publication.lastSent = s.pubs.entries.map Publication.lastSent := by
  unfold raiseFlag trackErr
  dsimp only
  split
  · rfl
  · simp [pendSource, pendWhere_lastSent]

theorem offer_lastSent (f : Frame) (s : State) :
    (offer f s).1.pubs.entries.map Publication.lastSent = s.pubs.entries.map Publication.lastSent := by
  have displaced (g : Frame) (u : State) :
      (displacedNotice g u).pubs.entries.map Publication.lastSent = u.pubs.entries.map Publication.lastSent := by
    cases g <;> simp [displacedNotice, pendPairs, pendWhere_lastSent]
  unfold offer
  (repeat' split) <;> simp [displaced, raiseFlag_lastSent, setQueue]

theorem setFlagLive_false_faults (f : NodeFlag) (s : State) : (setFlagLive f false s).faults =
    { s.faults with flags := { s.faults.flags with live := (setFlagLive f false s).faults.flags.live } } ∧
    (setFlagLive f false s).pubs = s.pubs := by
  unfold setFlagLive
  split
  · exact ⟨rfl, rfl⟩
  · exact ⟨rfl, rfl⟩

/-- What a HELLO and JOINING leave: of the flags, BUS-DEGRADED ceases to be live (R112, R120). -/
theorem enterJoining_leaves (s : State) : (enterJoining s).groups = s.groups ∧
    (∀ c, ((enterJoining s).faultRec c).kinds = (s.faultRec c).kinds) ∧
    ((enterJoining s).faults.list = s.faults.list ∧ (enterJoining s).faults.overrun = s.faults.overrun) ∧
    (∀ f, f ≠ .queueOverflow → (enterJoining s).flagSticky f = s.flagSticky f) ∧
    (∀ f, f ≠ .busDegraded → (enterJoining s).flagLive f = s.flagLive f) ∧
    (enterJoining s).pubs.entries.map Publication.lastSent = s.pubs.entries.map Publication.lastSent := by
  unfold enterJoining offerHello offerOnly
  generalize joining : setFaultBlocked false (setBus { s.bus with state := .joining, gapSeen := false, offLineTimer := none } s) = t
  have groups : t.groups = s.groups := by subst t; rfl
  have faults : t.faults = { s.faults with blocked := false } := by subst t; rfl
  have pubs : t.pubs = s.pubs := by subst t; rfl
  obtain ⟨quiet, pubsKept⟩ := setFlagLive_false_faults .busDegraded t
  have records : (setFlagLive .busDegraded false t).faults.records = s.faults.records := by rw [quiet, faults]
  have list : (setFlagLive .busDegraded false t).faults.list = s.faults.list ∧
      (setFlagLive .busDegraded false t).faults.overrun = s.faults.overrun := by rw [quiet, faults]; exact ⟨rfl, rfl⟩
  have live (f : NodeFlag) := setFlagLive_flagLive .busDegraded f false t
  have groupsKept : (setFlagLive .busDegraded false t).groups = s.groups := by simp [groups]
  generalize setFlagLive .busDegraded false t = u at *
  generalize hello : Frame.hello u.bus.joinCounter u.config.signature = g
  generalize queuing : setBus { u.bus with phase := some .helloQueued, joinTimer := none } u = v
  have faultsKept : v.faults = u.faults := by subst v; rfl
  have pubsAgain : v.pubs = u.pubs := by subst v; rfl
  have groupsAgain : v.groups = u.groups := by subst v; rfl
  refine ⟨by simp [groupsAgain, groupsKept], fun c => ?_, ?_, fun f ordinary => ?_, fun f other => ?_, ?_⟩
  · simp [State.faultRec, faultsKept, records]
  · simp [faultsKept, list]
  · rw [(Offered.offer g .refl).flags ordinary, State.flagSticky, faultsKept, quiet, faults, State.flagSticky]
  · have liveKept : (offer g v).1.flagLive f = v.flagLive f := by simp [State.flagLive]
    have same : v.flagLive f = u.flagLive f := by rw [State.flagLive, faultsKept, State.flagLive]
    rw [liveKept, same, live, if_neg other, State.flagLive, faults, State.flagLive]
  · rw [offer_lastSent, pubsAgain, pubsKept, pubs]

theorem afterHearing_received {s : State} {source : Station} (h : s.hears source) : Received s s.afterHearing := by
  have accepted := afterHearing_accepted h
  by_cases stays : s.staysMuted
  · refine .of_bus accepted ?_ ?_ ?_ ⟨?_, ?_⟩ ?_ fun _ => ?_ <;> rw [afterHearing_unmoved h stays]
  · have judged := judgeScore_after_good (s := setRejecting false s) (hears_learns h) (hears_muted h)
    rcases judged with same | ⟨muted, joins⟩
    · refine .of_bus accepted ?_ ?_ ?_ ⟨?_, ?_⟩ ?_ fun _ => ?_ <;> rw [State.afterHearing, same] <;> rfl
    · obtain ⟨groups, records, list, sticky, live, sent⟩ := enterJoining_leaves (lowerScore (setRejecting false s))
      rw [← joins] at groups records list sticky live sent
      exact { accepted with
        groups := groups, records := records, list := list, sticky := sticky, sent := sent,
        live := fun f ordinary => live f fun degraded => stays (ordinary degraded)
        shorter := fun onLine => by
          have muted : s.bus.state = .muted := muted
          rw [onLine] at muted
          cases muted }

theorem settleTaken_length (f : Frame) (l : List Queued) : (settleTaken f l).length ≤ l.length :=
  (BusKept.settleTaken_cases f l).elim List.Sublist.length_le fun edited => edited.length_eq.ge

theorem afterSending_received {s : State} {f : Frame} (h : s.sends f) : Received s (s.afterSending f) := by
  have accepted := afterSending_accepted h
  have length := settleTaken_length f s.bus.queue
  refine .of_bus accepted ?_ ?_ ?_ ?_ ?_ fun _ => ?_ <;> rw [afterSending_unmoved h] <;> split <;> trivial

/-! ## A frame that arrives -/

/-- The frame was heard, or it is the own one (R97). -/
def isOwn (a : Arrival) : Bool :=
  match a with
  | .own => true
  | .heard _ _ => false

/-- The node when a frame reaches its owner (R95, R96). -/
def State.received (s : State) (f : Frame) (a : Arrival) : State :=
  match a with
  | .own => s.afterSending f
  | .heard _ _ => s.afterHearing

/-- The node when the owner of a taken frame has acted: the notice "taken" follows the own frame (R90, R113). -/
def State.delivered (s : State) (f : Frame) (source : Station) (a : Arrival) : State :=
  if isOwn a && s.bus.queue.any Queued.onLine then takenNotice f (dispatch (isOwn a) source f (s.received f a))
  else dispatch (isOwn a) source f (s.received f a)

/-- A frame that arrives reaches its owner; frames are due after it (R97 to R99). -/
theorem exec_taken {s : State} {f : Frame} {source : Station} {a : Arrival} (h : s.arrives f source a) :
    Received s (s.received f a) ∧ exec (f.taken a) s = .next (buildDue (s.delivered f source a)) := by
  have command : exec (f.taken a) s = .next (takeFrame f.code a s) := by cases f <;> rfl
  rw [command]
  cases a with
  | heard station payload =>
    obtain ⟨rfl, rfl, inRange, hears⟩ := h
    refine ⟨afterHearing_received hears, ?_⟩
    rw [takeFrame, hear_of_hears hears (parse_of_payload inRange), State.delivered, if_neg (by simp [isOwn])]
    rfl
  | own =>
    obtain ⟨sends, rfl⟩ := h
    refine ⟨afterSending_received sends, ?_⟩
    obtain ⟨-, -, attempt, -⟩ := sends
    simp only [takeFrame, attempt, if_true]
    rfl

/-- The frames whose owner hears nothing more of them (R97). -/
theorem delivered_silent {s : State} {f : Frame} {source : Station} {a : Arrival} (silent : ∀ t, takenNotice f t = t) :
    s.delivered f source a = dispatch (isOwn a) source f (s.received f a) := by
  rw [State.delivered, silent, ite_self]

theorem sameSurroundings_of_kept {s t : State} (kept : t.beyondZones = s.beyondZones) :
    s.sameSurroundings t ∧ t.marks = s.marks ∧ t.points = s.points := by
  simp only [State.beyondZones, Prod.mk.injEq] at kept
  obtain ⟨-, held, loader, marks, inputs, points, link, power, host, shutdown, feedback⟩ := kept
  exact ⟨⟨held, loader, inputs, host, link, power, shutdown, feedback⟩, marks, points⟩

/-! ## What follows the owner -/

/-- From v, where the owner of a frame has acted, the event ends in t: the source is marked present, and the frames
due are built (R99). -/
structure Concluded (source : Station) (v t : State) : Prop where
  kept : t.beyondZones = v.beyondZones
  zones : t.zones = v.zones
  score : t.bus.score = v.bus.score
  event : t.host.events.zoneChange = v.host.events.zoneChange
  alike : ∀ c, Alike c v t
  records : ∀ c, (t.faultRec c).kinds = (v.faultRec c).kinds
  list : t.faults.list = v.faults.list ∧ t.faults.overrun = v.faults.overrun
  peers : t.faults.peers = (refreshPeer source v).faults.peers
  raised : ∀ f, v.flagSticky f = true → t.flagSticky f = true
  sticky : ∀ f, f ≠ .queueOverflow → t.flagSticky f = v.flagSticky f
  due : DueOnly v t
  grows : v.bus.queue.length + v.groups.length + 9 ≤ 12 → GrowsBy (v.groups.length + 8 + 1) v t

theorem concludes (source : Station) (v : State) : Concluded source v (v.concluded source) := by
  obtain ⟨kept, zones, -, score, event⟩ := concluded_same v source
  have refreshed : (refreshPeer source v).faults.flags = v.faults.flags := rfl
  have list : (refreshPeer source v).faults.list = v.faults.list ∧
      (refreshPeer source v).faults.overrun = v.faults.overrun ∧ (refreshPeer source v).faults.records = v.faults.records :=
    ⟨rfl, rfl, rfl⟩
  have due : DueOnly v (refreshPeer source v) := .of_same rfl
  have alike := fun c => concluded_alike c v source
  have grows (room : v.bus.queue.length + v.groups.length + 9 ≤ 12) :
      GrowsBy (v.groups.length + 8 + 1) v (buildDue (refreshPeer source v)) :=
    .after (t := refreshPeer source v) rfl rfl (buildDue_grows room)
  unfold State.concluded at *
  generalize same : refreshPeer source v = w at *
  refine ⟨kept, zones, score, event, alike, fun c => ?_, by simp [list], by simp [same], fun f raised => ?_,
    fun f ordinary => ?_, due.trans (.buildDue w), grows⟩
  · rw [(buildDue_channels w c).2.2, State.faultRec, list.2.2, State.faultRec]
  · exact (buildDue_news w).flags f (by rwa [State.flagSticky, refreshed])
  · rw [(Offered.buildDue w).flags ordinary, State.flagSticky, refreshed, State.flagSticky]

/-- What the obligations say of every taken frame whose owner touches no zone (R97 to R99). -/
theorem Concluded.outcome {s u v t : State} {source : Station} (ended : Concluded source v t) (received : Received s u)
    (kept : v.beyondZones = u.beyondZones) (zones : v.zones = u.zones) (score : v.bus.score = u.bus.score) :
    t.zones = s.zones ∧ t.points = s.points ∧ t.marks = s.marks ∧ s.sameSurroundings t ∧
    t.bus.score = s.bus.score - 1 := by
  obtain ⟨surroundings, marks, points⟩ := sameSurroundings_of_kept ((ended.kept.trans kept).trans received.kept)
  exact ⟨(ended.zones.trans zones).trans received.zones, points, marks, surroundings,
    (ended.score.trans score).trans received.score⟩

/-- The event of a taken frame whose owner hears nothing more of it (R97, R99). -/
theorem exec_silent {s : State} {f : Frame} {source : Station} {a : Arrival} (h : s.arrives f source a)
    (silent : ∀ t, takenNotice f t = t) : ∃ u t, Received s u ∧ Concluded source (atOwner (isOwn a) source f u) t ∧
      exec (f.taken a) s = .next t := by
  obtain ⟨received, command⟩ := exec_taken h
  rw [delivered_silent silent] at command
  exact ⟨_, _, received, concludes source _, command⟩

theorem Alike.same {s t : State} {c : Fin 8} (h : Alike c s t) : s.sameChannel t c := ⟨h.chan, h.sent⟩

end Sys2Proof.Machine
end

section
/-! PROOFS. FAULT, FAULT-ACK and STATUS frames taken (R147, R152, R154, O40). -/

namespace Sys2Proof.Machine

open Sys2Proof

/-! ## The owners -/

/-- The entry that a FAULT frame makes in the network fault list (R152). -/
def State.faultEntry (s : State) (source : Station) (c : Fin 8) (live sticky : KindSet) (mark : Half) : ListEntry :=
  { source := source, channel := c, live := { live with failOn := false }, sticky := sticky, firstMark := mark,
    arrival := s.marks.number }

theorem appendFault_room {source : Station} {c : Fin 8} {live sticky : KindSet} {mark : Half} {s : State}
    (room : s.faults.list.length < 16) :
    (appendFault source c live sticky mark s).faults.list = s.faults.list ++ [s.faultEntry source c live sticky mark] ∧
    (appendFault source c live sticky mark s).faults.overrun = s.faults.overrun := by
  rw [appendFault, if_pos (show s.faults.list.length < listCapacity from room)]
  exact ⟨rfl, rfl⟩

theorem appendFault_full {source : Station} {c : Fin 8} {live sticky : KindSet} {mark : Half} {s : State}
    (full : 16 ≤ s.faults.list.length) : (appendFault source c live sticky mark s).faults.list =
      s.faults.list.drop 1 ++ [s.faultEntry source c live sticky mark] ∧
    (appendFault source c live sticky mark s).faults.overrun = min 255 (s.faults.overrun + 1) := by
  rw [appendFault, if_neg (show ¬(s.faults.list.length < listCapacity) from Nat.not_lt.mpr full)]
  exact ⟨rfl, rfl⟩

theorem appendFault_beside (source : Station) (c : Fin 8) (live sticky : KindSet) (mark : Half) (s : State) :
    (appendFault source c live sticky mark s).beyondZones = s.beyondZones ∧
    (appendFault source c live sticky mark s).zones = s.zones ∧
    (appendFault source c live sticky mark s).channels = s.channels ∧
    (appendFault source c live sticky mark s).bus = s.bus ∧
    (appendFault source c live sticky mark s).faults.records = s.faults.records := by
  unfold appendFault
  dsimp only
  split <;> exact ⟨rfl, rfl, rfl, rfl, rfl⟩

theorem acknowledge_beyondZones (m : Byte) (kinds : KindSet) (nodeFlags : Bool) (s : State) :
    (acknowledge m kinds nodeFlags s).beyondZones = s.beyondZones := by
  have causes (u : State) : (acknowledgeCauses m u).channels.feedback = u.channels.feedback := by
    rw [acknowledgeCauses]
    exact each8_keeps (fun s => s.channels.feedback) _ (fun c s => by split <;> simp) u
  have feedback : (acknowledge m kinds nodeFlags s).channels.feedback = s.channels.feedback :=
    (((acknowledge_flags_last m kinds nodeFlags s).1 0).feedback.trans (causes _)).trans (by simp)
  simp [State.beyondZones, (acknowledge_leaves m kinds nodeFlags s).1, feedback]

/-- R153: a station's entry of the peer table, and the other entries. -/
theorem modPeer_get (source : Station) (f : Peer → Peer) (s : State) (i : Nat) :
    (modPeer source f s).faults.peers[i]? =
      if i = source.val - 1 then (s.faults.peers[i]?).map f else s.faults.peers[i]? :=
  modifyAt_getElem? s.faults.peers (peerIndex source) i f

/-- Settles O40: each owner writes its own table, and the frames due afterwards write none of them. -/
theorem faultFramesTaken : Obligations.FaultFramesTaken := by
  intro s source a c live sticky kinds mark target channels flags info
  refine ⟨fun arrives => ?_, fun arrives => ?_, fun arrives => ?_⟩
  · obtain ⟨u, t, received, ended, command⟩ := exec_silent arrives fun _ => rfl
    have marks : u.marks = s.marks := (sameSurroundings_of_kept received.kept).2.1
    have held : u.held = s.held := (sameSurroundings_of_kept received.kept).1.1
    have room := appendFault_room (source := source) (c := c) (live := live) (sticky := sticky) (mark := mark) (s := u)
    have full := appendFault_full (source := source) (c := c) (live := live) (sticky := sticky) (mark := mark) (s := u)
    obtain ⟨kept, zones, untouched, line, records⟩ := appendFault_beside source c live sticky mark u
    have ended : Concluded source (appendFault source c live sticky mark u) t := ended
    generalize appendFault source c live sticky mark u = v at *
    obtain ⟨sameZones, points, sameMarks, surroundings, score⟩ := ended.outcome received kept zones (by rw [line])
    rw [received.list.1, received.list.2, State.faultEntry, marks] at room full
    refine ⟨t, command, sameZones, points, sameMarks, surroundings, score, fun d => ?_, fun d => ?_, fun few => ?_,
      fun many => ?_, ?_⟩
    · exact (((received.alike d).trans (alike_of_channels kept untouched d)).trans (ended.alike d)).same
    · rw [ended.records, State.faultRec, records, ← State.faultRec, received.records]
    · rw [ended.list.1, ended.list.2]
      exact room few
    · rw [ended.list.1, ended.list.2]
      exact full many
    · have some_entry : t.faults.list.isEmpty = false := by
        rw [ended.list.1]
        by_cases few : s.faults.list.length < 16
        · rw [(room few).1]; simp
        · rw [(full (by omega)).1]; simp
      rw [State.irq, some_entry, surroundings.1]
      simp
  · obtain ⟨u, t, received, ended, command⟩ := exec_silent arrives fun _ => rfl
    have loader : u.loader = s.loader := (received.alike 0).loader
    by_cases own : target = s.loader.station
    · have ended : Concluded source (acknowledge channels kinds flags u) t := by
        simpa only [atOwner, loader, if_pos own] using ended
      have kept := acknowledge_beyondZones channels kinds flags u
      have zones : (acknowledge channels kinds flags u).zones = u.zones := by simp
      have line : (acknowledge channels kinds flags u).bus = u.bus := by simp
      obtain ⟨-, faults, kindsLeft, causes⟩ := acknowledge_leaves channels kinds flags u
      generalize acknowledge channels kinds flags u = v at *
      obtain ⟨sameZones, points, sameMarks, surroundings, score⟩ := ended.outcome received kept zones (by rw [line])
      refine ⟨t, command, sameZones, points, sameMarks, surroundings, score, ?_, fun other => absurd own other,
        fun _ => ⟨fun c k => ?_, fun c => ?_, fun f ordinary awake => ?_⟩⟩
      · rw [ended.list.1, faults]
        exact received.list.1
      · obtain ⟨count, -, -, left⟩ := kindsLeft c k
        rw [ended.records, ← received.records]
        exact ⟨count, left⟩
      · have sticky : (t.faultRec c).sticky = (v.faultRec c).sticky := by simp only [FaultRecord.sticky, ended.records]
        have causes := causes c
        rw [← sticky, (received.alike c).cfg] at causes
        split
        next withdrawn =>
          rw [if_pos withdrawn] at causes
          exact (received.alike c).symm.withdrawn (ended.alike c) causes
        next stays =>
          rw [if_neg stays] at causes
          exact (received.alike c).symm.sameChannel (ended.alike c) causes
      · have live := received.live f awake
        have was := received.sticky f ordinary
        rw [ended.sticky f ordinary, State.flagSticky, faults, ← was, ← live]
        cases flags <;> simp [State.flagSticky, State.flagLive]
    · have ended : Concluded source u t := by simpa only [atOwner, loader, if_neg own] using ended
      obtain ⟨sameZones, points, sameMarks, surroundings, score⟩ := ended.outcome received rfl rfl rfl
      refine ⟨t, command, sameZones, points, sameMarks, surroundings, score, ?_,
        fun _ => ⟨fun d => ?_, fun d => ?_⟩, fun same => absurd same own⟩
      · rw [ended.list.1, received.list.1]
      · exact ((received.alike d).trans (ended.alike d)).same
      · rw [ended.records, received.records]
  · obtain ⟨u, t, received, ended, command⟩ := exec_silent arrives fun _ => rfl
    have marks : u.marks = s.marks := (sameSurroundings_of_kept received.kept).2.1
    have ended : Concluded source (modPeer source (fun p => { p with status := some ⟨info, u.marks.number⟩ }) u) t := ended
    obtain ⟨sameZones, points, sameMarks, surroundings, score⟩ := ended.outcome received rfl rfl rfl
    refine ⟨t, command, sameZones, points, sameMarks, surroundings, score, fun d => ?_, ?_, fun i p entry => ?_⟩
    · have told : Alike d u (modPeer source (fun p => { p with status := some ⟨info, u.marks.number⟩ }) u) :=
        ⟨rfl, rfl, rfl, rfl, rfl, rfl⟩
      exact (((received.alike d).trans told).trans (ended.alike d)).same
    · rw [ended.list.1]
      exact received.list.1
    · rw [ended.peers, refreshPeer, modPeer_get, modPeer_get, received.peers, entry, marks]
      split <;> simp_all

end Sys2Proof.Machine
end

section
/-! PROOFS. The mark timer and the marks taken (R52 to R58, R151, R153, O12, O13). -/

namespace Sys2Proof.Machine

open Sys2Proof

/-! ## A mark event at the channels (R56) -/

/-- From s to t, channel c took a mark event. -/
def State.tookMarkAt (s t : State) (c : Fin 8) : Prop :=
  t.sentBy c = s.sentBy c ∧
    let r := s.chan c
    match r.state with
    | .armed => t.chan c = { r with state := .energizing, confirm := some (s.now + 5000), offCheck := none }
    | .disarming => t.chan c = { r with
        state := .releasing, target := .off, offCheck := none,
        confirm := if s.link.up = true then some (s.now + 5000) else none }
    | .off | .waiting | .energizing | .on | .releasing | .suspended | .locked => t.chan c = r

theorem tookMarkEvent_iff (s t : State) : s.tookMarkEvent t ↔ ∀ c, s.tookMarkAt t c := Iff.rfl

theorem Alike.tookMarkAt {c : Fin 8} {s s' t t' : State} (h : Alike c s s') (h' : Alike c t t')
    (r : s.tookMarkAt t c) : s'.tookMarkAt t' c := by
  simpa only [State.tookMarkAt, h.chan, h.sent, h'.chan, h'.sent, h.now, h.link] using r

theorem markEventAt_took (c : Fin 8) (s : State) : s.tookMarkAt (markEventAt c s) c := by
  unfold State.tookMarkAt markEventAt
  dsimp only
  cases state : (s.chan c).state
  case armed => simp [state, confirmAtEntry, Config.confirmTime, ChannelState.confirmedOn]
  case disarming =>
    simp [state, enterReleasing, confirmAtEntry, Config.confirmTime, ChannelState.confirmedOn]
  all_goals exact ⟨rfl, rfl⟩

theorem markEvent_took (s : State) : s.tookMarkEvent (markEvent s) := by
  rw [tookMarkEvent_iff]
  intro c
  have peers : Alike c (each8 markEventAt s) (markEvent s) := ⟨rfl, rfl, rfl, rfl, rfl, rfl⟩
  exact (Alike.refl c s).tookMarkAt ((markEvent_alike c s).trans peers) (markEventAt_took c s)

/-! ## A mark adopted (R53 to R55) -/

theorem takeMark_marks (n : Half) (s : State) : (takeMark n s).marks =
    { number := n, queued := false, timer := some (s.now + 1000 * s.config.mark + 250 * s.loader.station.val) } := by
  have interval : s.now + s.markInterval = s.now + 1000 * s.config.mark + 250 * s.loader.station.val := by
    rw [State.markInterval, Config.takeoverStep]
    omega
  rw [takeMark, interval]
  simp [setMarks]

theorem takeMark_took (n : Half) (s : State) : s.tookMarkEvent (takeMark n s) := by
  have told : ∀ c, Alike c (setMarks { number := n, timer := some (s.now + s.markInterval), queued := false } s) s :=
    fun c => ⟨rfl, rfl, rfl, rfl, rfl, rfl⟩
  exact fun c => (told c).tookMarkAt (.refl c _) (markEvent_took _ c)

theorem each8_markEventAt_apart (s : State) : (each8 markEventAt s).channels.feedback = s.channels.feedback ∧
    (each8 markEventAt s).faults.peers = s.faults.peers ∧ (each8 markEventAt s).faults.flags = s.faults.flags ∧
    (each8 markEventAt s).host.points = s.host.points :=
  ⟨each8_keeps (fun s => s.channels.feedback) markEventAt (fun c s => by simp) s,
    each8_keeps (fun s => s.faults.peers) markEventAt (fun c s => by simp) s,
    each8_keeps (fun s => s.faults.flags) markEventAt (fun c s => by simp) s,
    each8_keeps (fun s => s.host.points) markEventAt (fun c s => by simp) s⟩

/-- A mark changes the timer, the channels and the peer table alone. -/
theorem takeMark_leaves (n : Half) (s : State) : s.sameSurroundings (takeMark n s) ∧ (takeMark n s).zones = s.zones ∧
    (takeMark n s).points = s.points ∧ (takeMark n s).bus = s.bus ∧ (takeMark n s).groups = s.groups ∧
    (takeMark n s).faults.flags = s.faults.flags ∧
    (takeMark n s).faults.peers = s.faults.peers.map Peer.markSilent := by
  obtain ⟨feedback, peers, flags, host⟩ :=
    each8_markEventAt_apart (setMarks { number := n, timer := some (s.now + s.markInterval), queued := false } s)
  refine ⟨⟨by simp, by simp, by simp, host, by simp, by simp, by simp, feedback⟩, by simp, by simp, by simp, by simp,
    flags, ?_⟩
  rw [takeMark, markEvent, peersMark_faults, peers]
  rfl

/-! ## The timer's expiry (R54) -/

theorem sameLimit_mark (a : Frame) (n : Half) : sameLimit a (.mark n) = isMark a := by
  cases a <;> rfl

theorem not_mark_of_code {f : Frame} (h : f.code ≠ 0) : isMark f = false := by
  cases f <;> simp_all [isMark, Frame.code]

theorem code_of_not_mark {f : Frame} (h : isMark f = false) : 0 < f.code := by
  cases f <;> simp_all [isMark, Frame.code]

/-- A queue without a MARK takes one up, on the line (R55, R102). -/
theorem offer_mark_taken {s : State} {n : Half} (onLine : s.bus.state = .onLine)
    (none : ∀ q ∈ s.bus.queue, isMark q.frame = false) : (offer (.mark n) s).2 = true := by
  have admitted : admits s.bus.state (.mark n) = true := by rw [onLine]; rfl
  have free : ∀ x ∈ s.bus.queue, sameLimit x.frame (.mark n) = false := fun x inside => by
    rw [sameLimit_mark, none x inside]
  by_cases room : s.bus.queue.length < 12
  · rw [offer_of_room admitted free room]
  · obtain ⟨rest, last, queue⟩ : ∃ rest last, s.bus.queue = rest ++ [last] := by
      simpa using (List.eq_nil_or_concat s.bus.queue).resolve_left fun e => by simp [e] at room
    have above := code_of_not_mark (none last (by simp [queue]))
    rw [offer_of_displacing admitted free queue (by omega) above]

theorem markExpiry_idle {s : State} (idle : s.marks.timer = none) : markExpiry s = s := by
  rw [markExpiry, idle]
  rfl

theorem markExpiry_off_line {s : State} (runs : s.marks.timer ≠ none) (off : s.bus.state ≠ .onLine) :
    markExpiry s = takeMark (s.marks.number + 1) s := by
  obtain ⟨tm, some⟩ := Option.ne_none_iff_exists'.mp runs
  simp [markExpiry, some, State.onLine, off]

theorem markExpiry_on_line {s : State} (runs : s.marks.timer ≠ none) (onLine : s.bus.state = .onLine)
    (noMark : ∀ q ∈ s.bus.queue, isMark q.frame = false) : markExpiry s = (offer (.mark (s.marks.number + 1))
      (setMarks { s.marks with timer := none, queued := true } s)).1 := by
  have taken := offer_mark_taken (s := setMarks { s.marks with timer := none, queued := true } s)
    (n := s.marks.number + 1) onLine noMark
  rw [markExpiry, if_neg (by simpa using runs), if_pos (by simp [State.onLine, onLine])]
  dsimp only
  rw [taken, if_pos rfl]

/-- Settles O12, by the bus state. -/
theorem markTimerExpiry : Obligations.MarkTimerExpiry := by
  intro s running
  have command : exec .markTimerExpiry s = .next (buildDue (markExpiry s)) := exec_running running markExpiry
  refine ⟨fun idle => ?_, fun runs onLine noMark => ?_, fun runs off => ?_⟩
  · rw [markExpiry_idle idle] at command
    exact ⟨_, command, buildDue_sameButTraffic s⟩
  · rw [markExpiry_on_line runs onLine noMark] at command
    have taken := offer_mark_taken (s := setMarks { s.marks with timer := none, queued := true } s)
      (n := s.marks.number + 1) onLine noMark
    obtain ⟨q, inside, here | ⟨g, merged⟩⟩ := offer_taken_mem taken
    · refine ⟨_, command, by simp [setMarks], ⟨q, (DueOnly.buildDue _).stays q inside (by simp [here, Frame.code]), here⟩,
        fun c => ?_, by simp, by simp, by simp, ?_⟩
      · simp [State.sameChannel, State.chan, State.sentBy]
      · simp [State.sameSurroundings]
    · cases g <;> cases merged
  · rw [markExpiry_off_line runs off] at command
    obtain ⟨surroundings, zones, points, line, -, -, -⟩ := takeMark_leaves (s.marks.number + 1) s
    rw [buildDue_of_not_onLine (by simp [State.onLine, off])] at command
    exact ⟨_, command, takeMark_marks _ s, takeMark_took _ s, zones, points, line, surroundings⟩

/-! ## A STATUS (R151) -/

/-- A queue with room, on the line, takes a frame up that merges with every frame of its limit. -/
theorem offer_in_room_merges {f : Frame} {s : State} (onLine : s.bus.state = .onLine) (room : s.bus.queue.length < 12)
    (merges : ∀ q ∈ s.bus.queue, sameLimit q.frame f = true → (mergeFrames q.frame f).isSome = true) :
    ∃ l, offer f s = (setQueue l s, true) ∧ l.length ≤ s.bus.queue.length + 1 := by
  have admitted : admits s.bus.state f = true := by rw [onLine]; rfl
  by_cases free : ∀ x ∈ s.bus.queue, sameLimit x.frame f = false
  · refine ⟨_, offer_of_room admitted free room, ?_⟩
    rw [(insertByCode_perm _ _).length_eq, List.length_cons]
  · obtain ⟨x, inside, same⟩ : ∃ x ∈ s.bus.queue, sameLimit x.frame f = true := by simpa using free
    obtain ⟨q, found⟩ : ∃ q, s.bus.queue.find? (fun x => sameLimit x.frame f) = some q :=
      Option.isSome_iff_exists.mp (List.find?_isSome.mpr ⟨x, inside, same⟩)
    obtain ⟨limit, before, after, queue, apart⟩ := List.find?_eq_some_iff_append.mp found
    obtain ⟨m, merged⟩ := Option.isSome_iff_exists.mp (merges q (by simp [queue]) limit)
    refine ⟨_, offer_of_merge admitted queue (by simpa using apart) limit merged, ?_⟩
    simp [queue]

/-- A STATUS that is due stands in the queue, as it was built (R101, R151). -/
theorem sendStatus_in_room {s : State} (onLine : s.bus.state = .onLine) (room : s.bus.queue.length < 12) :
    (sendStatus s).faults.flags = s.faults.flags ∧ (sendStatus s).bus.queue.length ≤ s.bus.queue.length + 1 ∧
    ∃ q ∈ (sendStatus s).bus.queue, q.frame = .status (statusInfo s) := by
  obtain ⟨l, taken, length⟩ := offer_in_room_merges (f := .status (statusInfo s)) onLine room fun q _ same => by
    cases h : q.frame <;> simp only [h, sameLimit, Frame.group, Bool.false_eq_true] at same
    rfl
  have sent : sendStatus s = setQueue l s := by rw [sendStatus, offerOnly, taken]
  rw [sent]
  refine ⟨rfl, length, ?_⟩
  obtain ⟨q, inside, here | ⟨g, merged⟩⟩ := offer_taken_mem (by rw [taken] : (offer (.status (statusInfo s)) s).2 = true)
  · rw [taken] at inside
    exact ⟨q, inside, here⟩
  · rw [taken] at inside
    cases g <;> simp only [mergeFrames, reduceCtorEq, Option.some.injEq] at merged
    exact ⟨q, inside, merged.symm⟩

/-- R151: what a STATUS tells of its moment. -/
theorem statusInfo_tells (s : State) : (statusInfo s).flags = s.faults.flags.sticky ∧ (statusInfo s).mark = s.marks.number ∧
    ∀ c, maskBit (statusInfo s).drive c = (s.chan c).state.driven ∧
      maskBit (statusInfo s).locked c = (s.chan c).state.isLocked ∧
      maskBit (statusInfo s).sticky c = (s.faultRec c).sticky.any ∧
      maskBit (statusInfo s).tripped c = (s.zone c).tripped := by
  refine ⟨rfl, rfl, fun c => ?_⟩
  simp [statusInfo, State.zone]

/-! ## A MARK taken (R53) -/

/-- The node when another station's MARK has withdrawn the own one (R55). -/
def State.unmarked (s : State) (own : Bool) : State :=
  if s.marks.queued && !own then withdrawFrames isMark s else s

/-- The node after the mark event, before a STATUS (R53). -/
def State.marked (s : State) (own : Bool) (n : Half) : State := takeMark n (s.unmarked own)

theorem markAtTimer_eq (own : Bool) (n : Half) (s : State) : markAtTimer own n s =
    if (s.marked own n).onLine && (s.marked own n).statusDue n then sendStatus (s.marked own n) else s.marked own n := rfl

theorem unmarked_leaves (s : State) (own : Bool) : (s.unmarked own).beyondZones = s.beyondZones ∧
    (s.unmarked own).zones = s.zones ∧ (s.unmarked own).channels = s.channels ∧
    (s.unmarked own).bus.state = s.bus.state ∧ (s.unmarked own).bus.score = s.bus.score ∧
    (s.unmarked own).groups = s.groups ∧ (s.unmarked own).faults.peers = s.faults.peers ∧
    (s.unmarked own).bus.queue.length ≤ s.bus.queue.length ∧
    (own = false → s.marks.queued = true → ∀ q ∈ (s.unmarked own).bus.queue, isMark q.frame = false) := by
  unfold State.unmarked
  split
  · refine ⟨by simp [State.beyondZones], by simp, by simp, by simp, by simp, by simp, by simp, ?_, fun _ _ q inside => ?_⟩
    · rw [withdrawFrames_queue]
      exact List.length_filter_le _ _
    · rw [withdrawFrames_queue] at inside
      simpa using (List.mem_filter.mp inside).2
  next stays =>
    exact ⟨rfl, rfl, rfl, rfl, rfl, rfl, rfl, Nat.le_refl _, fun heard queued => absurd (by simp [heard, queued]) stays⟩

theorem marked_leaves (s : State) (own : Bool) (n : Half) : (s.marked own n).marks =
      { number := n, queued := false, timer := some (s.now + 1000 * s.config.mark + 250 * s.loader.station.val) } ∧
    s.tookMarkEvent (s.marked own n) ∧ s.sameSurroundings (s.marked own n) ∧ (s.marked own n).zones = s.zones ∧
    (s.marked own n).points = s.points ∧ (s.marked own n).bus.state = s.bus.state ∧
    (s.marked own n).bus.score = s.bus.score ∧ (s.marked own n).groups = s.groups ∧
    (s.marked own n).faults.peers = s.faults.peers.map Peer.markSilent ∧
    (s.marked own n).bus.queue.length ≤ s.bus.queue.length ∧
    (own = false → s.marks.queued = true → ∀ q ∈ (s.marked own n).bus.queue, isMark q.frame = false) := by
  obtain ⟨kept, zones, channels, line, score, groups, peers, shorter, gone⟩ := unmarked_leaves s own
  have marks := takeMark_marks n (s.unmarked own)
  have took := takeMark_took n (s.unmarked own)
  obtain ⟨around, zones', points', bus', groups', -, peers'⟩ := takeMark_leaves n (s.unmarked own)
  obtain ⟨around', -, points⟩ := sameSurroundings_of_kept kept
  have told (c : Fin 8) : Alike c (s.unmarked own) s := (alike_of_channels kept channels c).symm
  unfold State.marked
  generalize takeMark n (s.unmarked own) = t at *
  obtain ⟨held, loader, inputs, host, link, power, shutdown, feedback⟩ := around
  obtain ⟨held', loader', inputs', host', link', power', shutdown', feedback'⟩ := around'
  refine ⟨?_, fun c => (told c).tookMarkAt (.refl c t) (took c), ⟨held.trans held', loader.trans loader',
      inputs.trans inputs', host.trans host', link.trans link', power.trans power', shutdown.trans shutdown',
      feedback.trans feedback'⟩, zones'.trans zones, points'.trans points, by rw [bus', line], by rw [bus', score],
    groups'.trans groups, by rw [peers', peers], by rw [bus']; exact shorter, by rw [bus']; exact gone⟩
  rw [marks, ← (told 0).now, State.config, State.config, loader']

/-- The owner of a MARK: the mark event, then a STATUS where one is due (R53, R58). -/
theorem markAtTimer_leaves (s : State) (own : Bool) (n : Half) :
    (markAtTimer own n s).channels = (s.marked own n).channels ∧ (markAtTimer own n s).marks = (s.marked own n).marks ∧
    (s.marked own n).sameSurroundings (markAtTimer own n s) ∧ (markAtTimer own n s).zones = (s.marked own n).zones ∧
    (markAtTimer own n s).points = (s.marked own n).points ∧
    (markAtTimer own n s).bus.score = (s.marked own n).bus.score ∧
    (markAtTimer own n s).groups = (s.marked own n).groups ∧ (markAtTimer own n s).now = (s.marked own n).now ∧
    (markAtTimer own n s).faults.peers = (s.marked own n).faults.peers ∧
    (∀ c, ((markAtTimer own n s).faultRec c).kinds = ((s.marked own n).faultRec c).kinds) ∧
    ∀ q ∈ (markAtTimer own n s).bus.queue, q ∈ (s.marked own n).bus.queue ∨ q.frame.code = 9 := by
  rw [markAtTimer_eq]
  generalize s.marked own n = v
  split
  · unfold sendStatus offerOnly
    exact ⟨by simp, by simp, by simp [State.sameSurroundings], by simp, by simp, by simp, by simp, by simp, by simp,
      fun c => by simp [State.faultRec], fun q inside => mem_offer inside⟩
  · exact ⟨rfl, rfl, ⟨rfl, rfl, rfl, rfl, rfl, rfl, rfl, rfl⟩, rfl, rfl, rfl, rfl, rfl, rfl, fun _ => rfl,
      fun q inside => .inl inside⟩

theorem peer_marked (p : Peer) : p.markSilent = if p.present = true then
    (if 64 ≤ p.silent + 1 then { p with present := false, silent := 64 } else { p with silent := p.silent + 1 }) else p := rfl

/-- Settles O13: the mark event acts on the state that the taken frame leaves; a STATUS and the frames due follow it in
a queue with room. -/
theorem marksTaken : Obligations.MarksTaken := by
  intro s n source a arrives
  obtain ⟨u, t, received, ended, command⟩ := exec_silent arrives fun _ => rfl
  have ended : Concluded source (markAtTimer (isOwn a) n u) t := ended
  obtain ⟨⟨held, loader, inputs, host, link, power, shutdown, feedback⟩, marks, points⟩ :=
    sameSurroundings_of_kept received.kept
  have now : u.now = s.now := (received.alike 0).now
  have told (c : Fin 8) : Alike c u s := (received.alike c).symm
  obtain ⟨timer, took, ⟨held₁, loader₁, inputs₁, host₁, link₁, power₁, shutdown₁, feedback₁⟩, zones₁, points₁, line₁,
    score₁, groups₁, peers₁, shorter, gone⟩ := marked_leaves u (isOwn a) n
  obtain ⟨channels₂, marks₂, ⟨held₂, loader₂, inputs₂, host₂, link₂, power₂, shutdown₂, feedback₂⟩, zones₂, points₂,
    score₂, groups₂, now₂, peers₂, kinds₂, queue₂⟩ := markAtTimer_leaves u (isOwn a) n
  have room := sendStatus_in_room (s := u.marked (isOwn a) n)
  have sent := markAtTimer_eq (isOwn a) n u
  generalize u.marked (isOwn a) n = m at *
  generalize markAtTimer (isOwn a) n u = v at *
  obtain ⟨⟨held₃, loader₃, inputs₃, host₃, link₃, power₃, shutdown₃, feedback₃⟩, marks₃, points₃⟩ :=
    sameSurroundings_of_kept ended.kept
  have after (c : Fin 8) : Alike c m t :=
    (show Alike c m v from ⟨now₂, loader₂, link₂, feedback₂, by simp [State.chan, channels₂],
      by simp [State.sentBy, channels₂]⟩).trans (ended.alike c)
  refine ⟨t, command, ?_, fun c => (told c).tookMarkAt (after c) (took c), ?_, ?_, ?_, ?_, fun foreign queued q inside => ?_,
    fun i p entry => ?_, fun onLine due few => ?_⟩
  · rw [marks₃, marks₂, timer, now, State.config, State.config, loader]
  · rw [ended.zones, zones₂, zones₁, received.zones]
  · rw [points₃, points₂, points₁, points]
  · exact ⟨by rw [held₃, held₂, held₁, held], by rw [loader₃, loader₂, loader₁, loader],
      by rw [inputs₃, inputs₂, inputs₁, inputs], by rw [host₃, host₂, host₁, host], by rw [link₃, link₂, link₁, link],
      by rw [power₃, power₂, power₁, power], by rw [shutdown₃, shutdown₂, shutdown₁, shutdown],
      by rw [feedback₃, feedback₂, feedback₁, feedback]⟩
  · rw [ended.score, score₂, score₁, received.score]
  · have heard : isOwn a = false := by
      cases a with
      | own => exact absurd rfl foreign
      | heard => rfl
    rcases ended.due.joined q inside with before | code
    · rcases queue₂ q before with old | code
      · exact gone heard (by rw [marks]; exact queued) q old
      · exact not_mark_of_code (by omega)
    · exact not_mark_of_code (by omega)
  · rw [ended.peers, refreshPeer, modPeer_get, peers₂, peers₁, received.peers, List.getElem?_map, entry]
    simp only [Option.map_some, peer_marked]
    split <;> rfl
  · have onLine' : m.bus.state = .onLine := line₁.trans (received.onLine onLine)
    have short := received.shorter onLine
    obtain ⟨flags, length, q, inside, status⟩ := room onLine' (by omega)
    have statusDue : m.statusDue n = true := by
      rw [State.statusDue, loader₁, loader, due]
      simp
    rw [if_pos (by simp [State.onLine, onLine', statusDue])] at sent
    have groupsLength : v.groups.length = s.groups.length := by rw [groups₂, groups₁, received.groups]
    rw [← sent] at flags length inside
    obtain ⟨stay, -, flagsKept⟩ := ended.grows (by omega)
    obtain ⟨tellsFlags, tellsMark, tells⟩ := statusInfo_tells m
    refine ⟨q, stay q inside, ?_⟩
    rw [status]
    refine ⟨by rw [tellsFlags, flagsKept, flags], by rw [tellsMark, timer], fun c => ?_⟩
    obtain ⟨drive, locked, sticky, tripped⟩ := tells c
    have records : (t.faultRec c).sticky = (m.faultRec c).sticky := by
      simp only [FaultRecord.sticky, ended.records, kinds₂]
    rw [drive, locked, sticky, tripped, (after c).chan, records, State.zone, State.zone, ended.zones, zones₂]
    exact ⟨rfl, rfl, rfl, rfl⟩

end Sys2Proof.Machine
end

section
/-! PROOFS. The words of the Barrier Link read back as what they were built from (R123, R125, R173), and the words
that the two dies send: the drive word of a slot's start (R122), the reply word of the rotation position (R124). -/

namespace Sys2Proof.Machine

open Sys2Proof

/-! ## Fields of a word -/

theorem extract_body {n : Nat} (body : BitVec n) (check : BitVec 5) :
    (body ++ check).extractLsb' 5 n = body := by
  ext i lower
  simp [BitVec.getLsbD_append, BitVec.getLsbD_eq_getElem lower]

theorem extract_check {n : Nat} (body : BitVec n) (check : BitVec 5) :
    (body ++ check).extractLsb' 0 5 = check := by
  ext i lower
  simp [BitVec.getLsbD_append, lower]

/-! ## Drive words -/

theorem driveEnable_of (enable : Bool) (bits : Byte) (count : BitVec 2) :
    driveEnable (driveWordOf enable bits count) = enable := by
  simp only [driveEnable, driveWordOf, BitVec.getLsbD_append]
  simp

theorem driveBits_of (enable : Bool) (bits : Byte) (count : BitVec 2) :
    driveBits (driveWordOf enable bits count) = bits := by
  simp only [driveBits, driveWordOf]
  ext i lower
  rw [BitVec.getElem_extractLsb', BitVec.getLsbD_append, BitVec.getLsbD_append, BitVec.getLsbD_append]
  simp [lower, show ¬ 7 + i < 5 by omega, show ¬ 7 + i - 5 < 2 by omega, show 7 + i - 5 - 2 = i by omega]

theorem driveCount_of (enable : Bool) (bits : Byte) (count : BitVec 2) :
    driveCount (driveWordOf enable bits count) = count := by
  simp only [driveCount, driveWordOf]
  ext i lower
  rw [BitVec.getElem_extractLsb', BitVec.getLsbD_append, BitVec.getLsbD_append]
  simp [lower]

theorem driveCheckGood_of (enable : Bool) (bits : Byte) (count : BitVec 2) :
    driveCheckGood (driveWordOf enable bits count) = true := by
  simp only [driveCheckGood, driveWordOf, extract_check, extract_body, beq_self_eq_true]

/-! ## Reply words -/

theorem replyKindOf_code (k : ReplyKind) : replyKindOf k.code = some k := by
  cases k with
  | feedback => rfl
  | diagnostic d => cases d <;> rfl

/-- The codes that name no kind are 6 and 7. -/
theorem replyKindOf_eq_none : ∀ c : BitVec 3, replyKindOf c = none ↔ 6 ≤ c.toNat := by decide

section
variable (k : ReplyKind) (bits : Byte) (low tripped : Bool)

theorem replyWord_check : (replyWordOf k bits low tripped).extractLsb' 0 5 =
    check5 (bitsOf ((replyWordOf k bits low tripped).extractLsb' 5 13)) := by
  simp only [replyWordOf, extract_check, extract_body]

theorem replyWord_kind : (replyWordOf k bits low tripped).extractLsb' 15 3 = k.code := by
  simp only [replyWordOf]
  ext i lower
  rw [BitVec.getElem_extractLsb', BitVec.getLsbD_append, BitVec.getLsbD_append, BitVec.getLsbD_append,
    BitVec.getLsbD_append]
  simp [show ¬ 15 + i < 5 by omega, show ¬ 15 + i - 5 = 0 by omega, show ¬ 15 + i - 5 - 1 = 0 by omega,
    show ¬ 15 + i - 5 - 1 - 1 < 8 by omega, show 15 + i - 5 - 1 - 1 - 8 = i by omega,
    BitVec.getLsbD_eq_getElem lower]

theorem replyWord_bit (n : Fin 8) : (replyWordOf k bits low tripped).getLsbD (7 + n.val) = maskBit bits n := by
  have lower := n.isLt
  simp only [replyWordOf, maskBit]
  rw [BitVec.getLsbD_append, BitVec.getLsbD_append, BitVec.getLsbD_append, BitVec.getLsbD_append]
  simp [lower, show ¬ 7 + n.val < 5 by omega, show ¬ 7 + n.val - 5 = 0 by omega,
    show ¬ 7 + n.val - 5 - 1 = 0 by omega, show 7 + n.val - 5 - 1 - 1 = n.val by omega]

theorem replyWord_bits : (replyWordOf k bits low tripped).extractLsb' 7 8 = bits := by
  ext i lower
  rw [BitVec.getElem_extractLsb', ← BitVec.getLsbD_eq_getElem lower]
  exact replyWord_bit k bits low tripped ⟨i, lower⟩

theorem replyWord_low : (replyWordOf k bits low tripped).getLsbD 6 = low := by
  simp only [replyWordOf]
  rw [BitVec.getLsbD_append, BitVec.getLsbD_append, BitVec.getLsbD_append]
  simp

theorem replyWord_tripped : (replyWordOf k bits low tripped).getLsbD 5 = tripped := by
  simp only [replyWordOf]
  rw [BitVec.getLsbD_append, BitVec.getLsbD_append]
  simp

theorem judgeReply_of : judgeReply (replyWordOf k bits low tripped) =
    if tripped = true then none else some { kind := k, bits := bits, supplyLow := low } := by
  simp only [judgeReply, ← replyWord_check, bne_self_eq_false, Bool.false_eq_true, if_false, replyWord_tripped,
    replyWord_kind, replyKindOf_code, Option.map_some, replyWord_bits, replyWord_low]

end

/-- A reply word is refused for its check, for its kind or for the watchdog-tripped flag, and for nothing else. -/
theorem judgeReply_eq_none (w : BitVec 18) : judgeReply w = none ↔
    w.extractLsb' 0 5 ≠ check5 (bitsOf (w.extractLsb' 5 13)) ∨ 6 ≤ (w.extractLsb' 15 3).toNat ∨
      w.getLsbD 5 = true := by
  rw [← replyKindOf_eq_none, judgeReply]
  by_cases good : w.extractLsb' 0 5 = check5 (bitsOf (w.extractLsb' 5 13))
  · by_cases flag : w.getLsbD 5 = true
    · simp only [good, flag, bne_self_eq_false, Bool.false_eq_true, if_false, if_true, or_true]
    · simp only [good, flag, bne_self_eq_false, Bool.false_eq_true, if_false, Option.map_eq_none_iff, ne_eq,
        not_true_eq_false, false_or, or_false]
  · simp [good]

/-- Settles O33: each field of a word is read back by its place, and a refusal is one of the three branches of the
judging. -/
theorem linkWords : Obligations.LinkWords :=
  ⟨fun enable bits count => ⟨driveEnable_of enable bits count, driveBits_of enable bits count,
      driveCount_of enable bits count, driveCheckGood_of enable bits count⟩,
    judgeReply_of, judgeReply_eq_none⟩

/-! ## The words sent -/

theorem startSlot_held {s : State} (held : s.held = true) : startSlot s = s := if_pos held

theorem startSlot_free {s : State} (free : s.held = false) : startSlot s = { s with
    link := { s.link with driveWord := some (driveWordOf s.enable s.driveBits s.link.slotCount),
                          slotCount := s.link.slotCount + 1 } } :=
  if_neg (by simp [free])

/-- The drive bits are those of the driven channels of a RUNNING node (R7). -/
theorem maskBit_driveBits (s : State) (n : Fin 8) :
    maskBit s.driveBits n = true ↔ s.running = true ∧ (s.chan n).state.driven = true := by
  unfold State.driveBits
  cases running : s.running
  · simp [maskBit]
  · simp

theorem driven_iff (x : ChannelState) : x.driven = true ↔ x = .energizing ∨ x = .on ∨ x = .disarming := by
  cases x <;> simp [ChannelState.driven]

/-- Settles O27: the drive word reads back as the enable, the drive bits and the slot count of the moment. -/
theorem slotStart : Obligations.SlotStart := by
  intro s
  refine ⟨fun held => ?_, fun free => ⟨driveWordOf s.enable s.driveBits s.link.slotCount, ?_, driveEnable_of ..,
    driveCount_of .., driveCheckGood_of .., fun n => ?_⟩⟩
  · exact congrArg _ (startSlot_held held)
  · exact congrArg _ (startSlot_free free)
  · rw [driveBits_of, maskBit_driveBits, driven_iff]

/-! ## The reply word of the rotation position -/

theorem replyKindAt_rotation : ∀ p : Fin 10, replyKindAt p =
    [ReplyKind.feedback, .diagnostic .overtemp, .feedback, .diagnostic .openOn, .feedback, .diagnostic .openOff,
      .feedback, .diagnostic .shortSupply, .feedback, .diagnostic .overload].getD p.val .feedback := by decide

/-- The output stands at what the environment shows, unless the turn-off clamp holds it below VBB (R133). -/
theorem output_eq (p : PowerChannel) : p.output =
    if p.conducts = true ∨ p.load.stored ≤ 0 then p.load.voltage else p.load.supply - 45000 := by
  cases held : p.clamps
  · rw [output_when_not_clamping p held, if_pos]
    simpa [PowerChannel.clamps, ← Bool.not_eq_false, or_iff_not_imp_left] using held
  · obtain ⟨off, stored⟩ := (clamps_iff p).mp held
    rw [output_when_clamping p held, if_neg (by simp [off, stored]), clampVoltage]

theorem switchCurrent_when_conducting {p : PowerChannel} (h : p.conducts = true) :
    p.switchCurrent = min p.load.draw currentLimit := if_pos h

theorem measuredOn_iff (p : PowerChannel) : p.measuredOn = true ↔
    8500 < p.output ∨ (p.conducts = true ∧ 0 < p.output ∧
      1200000000 < min p.load.draw currentLimit * thresholdOhms) := by
  simp only [PowerChannel.measuredOn, aboveThreshold, Bool.or_eq_true, Bool.and_eq_true, decide_eq_true_iff]
  refine or_congr Iff.rfl ⟨fun ⟨⟨on, above⟩, positive⟩ => ?_, fun ⟨on, positive, above⟩ => ?_⟩
  · exact ⟨on, positive, switchCurrent_when_conducting on ▸ above⟩
  · exact ⟨⟨on, (switchCurrent_when_conducting on).symm ▸ above⟩, positive⟩

theorem maskBit_replyBits (p : PowerDie) (k : ReplyKind) (n : Fin 8) : maskBit (p.replyBits k) n =
    match k with
    | .feedback => (p.channels.get n).measuredOn
    | .diagnostic d => (p.channels.get n).reports.get d != .clear :=
  (maskBit_maskOf _ n).trans ((Eight.get_of _ n).trans (by cases k <;> rfl))

theorem formReply_asleep {p : PowerDie} (asleep : p.inReset = true) : p.formReply = p := if_pos asleep

theorem formReply_awake {p : PowerDie} (awake : p.inReset = false) : p.formReply = { p with
    replyWord := some (replyWordOf (replyKindAt p.position) (p.replyBits (replyKindAt p.position))
      (!p.supplyNormal) p.tripped),
    position := p.position + 1 } :=
  if_neg (by simp [awake])

theorem exec_replyWordFormed (s : State) :
    exec .replyWordFormed s = .next { s with power := s.power.formReply } := rfl

/-- Settles O36: the word reads back as the rotation's kind, the channel bits of that kind and the two flags. -/
theorem replyWord : Obligations.ReplyWord := by
  intro s
  rw [exec_replyWordFormed]
  refine ⟨fun asleep => by rw [formReply_asleep asleep], fun awake => ⟨_, by rw [formReply_awake awake], ?_⟩⟩
  rw [← replyKindAt_rotation]
  refine ⟨replyWord_kind .., replyWord_low .., replyWord_tripped .., replyWord_check .., fun n => ?_⟩
  rw [replyWord_bit, maskBit_replyBits]
  cases replyKindAt s.power.position with
  | feedback =>
    rw [Bool.eq_iff_iff, measuredOn_iff, output_eq, decide_eq_true_iff]
    simp only [conducts_iff, and_assoc]
    rfl
  | diagnostic k => exact Bool.eq_iff_iff.mpr (bne_iff_ne.trans decide_eq_true_iff.symm)

end Sys2Proof.Machine
end

section
/-! PROOFS. The power die's reset and supply state (R121, R132, R137), and the electrical situation of an output: the
thermal state and the conditions follow it, and the current that flows into it (R133, R135, R136, R138, R139). -/

namespace Sys2Proof.Machine

open Sys2Proof

/-! ## Currents -/

/-- While the switch does not conduct, what an inductive load's energy drives on flows through the clamp (R133). -/
theorem clampCurrent_when_not_conducting {p : PowerChannel} (off : p.conducts = false) :
    p.clampCurrent = max 0 p.load.stored := by
  simp only [PowerChannel.clampCurrent, clamps_iff, off, true_and]
  split <;> omega

theorem sourced_when_not_conducting {p : PowerChannel} (off : p.conducts = false) (normal : Bool) :
    p.sourced normal =
      max 0 p.load.stored + if p.commanded = false ∧ normal = true then pullUpCurrent else 0 := by
  simp [PowerChannel.sourced, switchCurrent_when_not_conducting p off, clampCurrent_when_not_conducting off,
    PowerChannel.pullUp]

theorem sourced_eq (p : PowerChannel) (normal : Bool) : p.sourced normal =
    if p.commanded = true ∧ p.thermal = .normal then min p.load.draw currentLimit
    else max 0 p.load.stored + if p.commanded = false ∧ normal = true then pullUpCurrent else 0 := by
  simp only [← conducts_iff]
  cases on : p.conducts
  · simp [sourced_when_not_conducting on]
  · simp [sourced_while_conducting p normal on, switchCurrent_when_conducting on]

theorem output_when_off {p : PowerChannel} (off : p.commanded = false) : p.output =
    if false = true ∨ p.load.stored ≤ 0 then p.load.voltage else p.load.supply - 45000 := by
  rw [output_eq, conducts_off_when_not_commanded p off]

/-! ## Reset and the supply state -/

theorem exec_powerDieReset (s : State) :
    exec .powerDieReset s = .next { s with power := PowerDie.reset true s.now s.power.loads } := rfl

theorem exec_powerDieResetEnd (s : State) : exec .powerDieResetEnd s = .next
    (if s.power.inReset = true then { s with power := PowerDie.reset false s.now s.power.loads } else s) := rfl

theorem exec_supplyLow (s : State) : exec .supplyLow s = .next { s with power := s.power.supplyFalls s.now } := rfl

theorem exec_supplyRecovered (s : State) :
    exec .supplyRecovered s = .next { s with power := s.power.supplyReturns s.now } := rfl

theorem loads_get (p : PowerDie) (n : Fin 8) : p.loads.get n = (p.channels.get n).load := Eight.get_of _ n

theorem reset_pullUp (inReset : Bool) (now : Nat) (loads : Eight Electrical) (n : Fin 8) :
    (PowerDie.reset inReset now loads).pullUp n = false := pullUp_off_in_low _

theorem supplyFalls_of_normal {p : PowerDie} (awake : p.inReset = false) (normal : p.supplyNormal = true)
    (now : Nat) :
    p.supplyFalls now = { p with supplyNormal := false }.mapChannels fun _ x => x.supplyLost now :=
  if_pos (by simp [awake, normal])

theorem supplyReturns_of_low {p : PowerDie} (awake : p.inReset = false) (low : p.supplyNormal = false) (now : Nat) :
    p.supplyReturns now = { p with supplyNormal := true }.mapChannels fun n x =>
      { x with reports := PerPower.all .clear }.enter ({ p with supplyNormal := true }.commands n) true now :=
  if_pos (by simp [awake, low])

theorem supplyFalls_of_low {p : PowerDie} (low : p.supplyNormal = false) (now : Nat) : p.supplyFalls now = p :=
  if_neg (by simp [low])

theorem supplyReturns_of_normal {p : PowerDie} (normal : p.supplyNormal = true) (now : Nat) :
    p.supplyReturns now = p :=
  if_neg (by simp [normal])

@[simp] theorem mapChannels_channel (p : PowerDie) (f : Fin 8 → PowerChannel → PowerChannel) (n : Fin 8) :
    (p.mapChannels f).channels.get n = f n (p.channels.get n) := Eight.get_of _ n

/-- Settles O37: the die at reset is a value of its own but for the loads, and a change of the supply state maps each
channel to its starting one. -/
theorem powerDieReset : Obligations.PowerDieReset := by
  refine ⟨fun s => ?_, fun s awake => ⟨fun normal => ?_, fun low => ?_, fun low => ?_, fun normal => ?_⟩⟩
  · intro starting
    have resets : ∀ inReset, starting (PowerDie.reset inReset s.now s.power.loads) := fun inReset =>
      ⟨rfl, rfl, rfl, rfl, rfl, rfl, rfl, rfl, fun n => by
        rw [reset_channel, loads_get]
        exact ⟨rfl, rfl, rfl, rfl, rfl, reset_pullUp .., PerPower.get_all _, PerPower.get_all _⟩⟩
    refine ⟨⟨_, exec_powerDieReset s, rfl, resets true⟩, fun awake => ?_, fun asleep => ⟨_, ?_, rfl, resets false⟩⟩
    · rw [exec_powerDieResetEnd, if_neg (by simp [awake])]
    · rw [exec_powerDieResetEnd, if_pos asleep]
  · refine ⟨_, exec_supplyLow s, ?_⟩
    rw [supplyFalls_of_normal awake normal]
    refine ⟨rfl, fun n => ?_⟩
    simp only [PowerDie.pullUp, PowerDie.sourced, mapChannels_channel]
    refine ⟨rfl, rfl, rfl, rfl, pullUp_off_in_low _, ?_, fun k => ?_, PerPower.get_all _⟩
    · exact (sourced_when_not_conducting rfl false).trans (by simp [PowerChannel.supplyLost])
    · exact congrArg Condition.present (PerPower.get_all _ k)
  · refine ⟨_, exec_supplyRecovered s, ?_⟩
    rw [supplyReturns_of_low awake low]
    refine ⟨rfl, fun n => ?_⟩
    simp only [PowerDie.pullUp, mapChannels_channel]
    exact ⟨rfl, by simp [PowerDie.commands], Bool.and_true _, rfl, rfl, PerPower.get_all _⟩
  · rw [exec_supplyLow, supplyFalls_of_low low]
  · rw [exec_supplyRecovered, supplyReturns_of_normal normal]

/-! ## The electrical situation of an output -/

@[simp] theorem measure_present (c : Condition) (b : Bool) (now : Nat) : (c.measure b now).present = b := by
  unfold Condition.measure
  split
  next same => exact eq_of_beq same
  next => rfl

/-- The time of a condition restarts where it changes, and there only. -/
theorem measure_eq (c : Condition) (b : Bool) (now : Nat) :
    c.measure b now = if (b == c.present) = true then c else { present := b, since := now } := by
  rw [Condition.measure, BEq.comm]

section
variable (x : PowerChannel) (load : Electrical) (normal : Bool) (now : Nat)

theorem observe_condition (k : PowerKind) : (x.observe load normal now).conditions.get k =
    (x.conditions.get k).measure (normal && (x.observe load normal now).shows k) now :=
  PerPower.get_of _ k

theorem observe_present (k : PowerKind) : ((x.observe load normal now).conditions.get k).present =
    (normal && (x.observe load normal now).shows k) := by
  rw [observe_condition, measure_present]

theorem observe_thermal_on (on : x.commanded = true) : (x.observe load normal now).thermal =
    match x.thermal with
    | .normal => if 160 ≤ load.junction then .shutdown else .normal
    | .shutdown => if load.junction ≤ 140 then .normal else .shutdown := by
  simp only [PowerChannel.observe, PowerChannel.measure, PowerChannel.followJunction, on, Bool.not_true,
    Bool.false_eq_true, if_false]
  cases x.thermal <;> rfl

theorem observe_thermal_off (off : x.commanded = false) : (x.observe load normal now).thermal = x.thermal := by
  simp only [PowerChannel.observe, PowerChannel.measure, PowerChannel.followJunction, off, Bool.not_false, if_true]

end

/-! ### What an output shows -/

section
variable (p : PowerChannel)

theorem shows_openOff : p.shows .openOff = true ↔
    p.commanded = false ∧ 4500 ≤ p.output ∧ p.output ≤ 8500 := by
  simp only [PowerChannel.shows, Bool.and_eq_true, Bool.not_eq_true', decide_eq_true_iff, and_assoc]
  exact Iff.rfl

theorem shows_shortSupply : p.shows .shortSupply = true ↔ p.commanded = false ∧ 8500 < p.output := by
  simp only [PowerChannel.shows, Bool.and_eq_true, Bool.not_eq_true', decide_eq_true_iff]
  exact Iff.rfl

theorem shows_openOn : p.shows .openOn = true ↔ p.commanded = true ∧ p.thermal = .normal ∧
    min p.load.draw currentLimit * thresholdOhms < 1200000000 := by
  simp only [PowerChannel.shows, belowThreshold, Bool.and_eq_true, decide_eq_true_iff]
  refine Iff.trans ⟨fun ⟨on, below⟩ => ⟨on, ?_⟩, fun ⟨on, below⟩ => ⟨on, ?_⟩⟩
    ((and_congr_left' (conducts_iff p)).trans and_assoc)
  · exact switchCurrent_when_conducting on ▸ below
  · exact (switchCurrent_when_conducting on).symm ▸ below

theorem shows_overload : p.shows .overload = true ↔
    p.commanded = true ∧ p.thermal = .normal ∧ currentLimit ≤ p.load.draw := by
  simp only [PowerChannel.shows, PowerChannel.limiting, Bool.and_eq_true, decide_eq_true_iff, conducts_iff, and_assoc]

theorem shows_overtemp : p.shows .overtemp = true ↔ p.commanded = true ∧ p.thermal = .shutdown := by
  simp [PowerChannel.shows]

end

theorem exec_conditionChange (c : Fin 8) (load : Electrical) (s : State) :
    exec (.conditionChange c load) s = .next { s with power := s.power.show c load s.now } := rfl

theorem exec_thermalShutdown (c : Fin 8) (s : State) : exec (.thermalShutdown c) s = .next { s with
    power := s.power.modify c fun x =>
      x.observe { x.load with junction := max 160 x.load.junction } s.power.supplyNormal s.now } := rfl

theorem exec_thermalRestart (c : Fin 8) (s : State) : exec (.thermalRestart c) s = .next { s with
    power := s.power.modify c fun x =>
      x.observe { x.load with junction := min 140 x.load.junction } s.power.supplyNormal s.now } := rfl

theorem modify_of_awake {p : PowerDie} (awake : p.inReset = false) (c : Fin 8) (f : PowerChannel → PowerChannel) :
    p.modify c f = { p with channels := p.channels.set c (f (p.channels.get c)) } :=
  if_neg (by simp [awake])

theorem show_of_awake {p : PowerDie} (awake : p.inReset = false) (c : Fin 8) (load : Electrical) (now : Nat) :
    p.show c load now =
      { p with channels := p.channels.set c ((p.channels.get c).observe load p.supplyNormal now) } := by
  rw [PowerDie.show, if_neg (by simp [awake])]
  rfl

/-- Settles O38: the three commands are one observation of a new situation at the channel. -/
theorem outputSituation : Obligations.OutputSituation := by
  intro s c load awake before limit volts outcome
  have observed : ∀ i shown, exec i s = .next { s with power := { s.power with
      channels := s.power.channels.set c (before.observe shown s.power.supplyNormal s.now) } } →
      outcome i shown := by
    intro i shown acts
    have condition := observe_condition before shown s.power.supplyNormal s.now
    have present := observe_present before shown s.power.supplyNormal s.now
    have onThermal := observe_thermal_on before shown s.power.supplyNormal s.now
    have offThermal := observe_thermal_off before shown s.power.supplyNormal s.now
    refine ⟨_, before.observe shown s.power.supplyNormal s.now, acts, rfl, rfl, rfl, rfl, rfl, rfl, ?_, ?_, onThermal,
      offThermal, fun k => ?_, fun low k => ?_, fun normal => ?_⟩
    · exact output_eq _
    · exact sourced_eq _ _
    · rw [present k, condition k, measure_eq]
    · rw [present k, low, Bool.false_and]
    · have isShown k : ((before.observe shown s.power.supplyNormal s.now).conditions.get k).present = true ↔
          (before.observe shown s.power.supplyNormal s.now).shows k = true := by rw [present k, normal, Bool.true_and]
      have quiet (off : before.commanded = false) :=
        output_when_off (p := before.observe shown s.power.supplyNormal s.now) off
      refine ⟨(isShown .openOff).trans ((shows_openOff _).trans (and_congr_right fun off => ?_)),
        (isShown .shortSupply).trans ((shows_shortSupply _).trans (and_congr_right fun off => ?_)),
        (isShown .openOn).trans (shows_openOn _), (isShown .overload).trans (shows_overload _),
        (isShown .overtemp).trans (shows_overtemp _)⟩
      · rw [quiet off]
        rfl
      · rw [quiet off]
        rfl
  refine ⟨observed _ _ ?_, observed _ _ ?_, observed _ _ ?_⟩
  · rw [exec_conditionChange, show_of_awake awake]
  · rw [exec_thermalShutdown, modify_of_awake awake]
  · rw [exec_thermalRestart, modify_of_awake awake]

end Sys2Proof.Machine
end

section
/-! PROOFS. The reports of the power die: what a switching edge makes of them and of its channel (R133, R136, R142,
R143), and what the end of a filter and of blanking makes of them (R138, R140, R141, R143). -/

namespace Sys2Proof.Machine

open Sys2Proof

/-! ## One report set -/

section
variable (x : PowerChannel) (r : Report)

/-- A report that is set touches nothing but the reports. -/
theorem setReport_leaves (k : PowerKind) : x.setReport k r = { x with reports := (x.setReport k r).reports } := by
  unfold PowerChannel.setReport
  split
  · split <;> rfl
  · split <;> rfl
  · rfl

@[simp] theorem setReport_conditions (k : PowerKind) : (x.setReport k r).conditions = x.conditions := by
  rw [setReport_leaves]

@[simp] theorem setReport_blanking (k : PowerKind) : (x.setReport k r).blanking = x.blanking := by
  rw [setReport_leaves]

/-- A SHORT-SUPPLY report that does not end CLEAR leaves no OPEN-OFF report (R138). -/
@[simp] theorem setReport_shortSupply : (x.setReport .shortSupply r).reports = { x.reports with
    shortSupply := r, openOff := if r = .clear then x.reports.openOff else .clear } := by
  simp only [PowerChannel.setReport, beq_iff_eq]
  split <;> rfl

/-- OPEN-OFF does not leave CLEAR beside a SHORT-SUPPLY report that stands (R138). -/
@[simp] theorem setReport_openOff : (x.setReport .openOff r).reports = { x.reports with
    openOff := if x.reports.shortSupply = .clear then r else .clear } := by
  simp only [PowerChannel.setReport, beq_iff_eq]
  split <;> rfl

@[simp] theorem setReport_openOn : (x.setReport .openOn r).reports = { x.reports with openOn := r } := rfl

@[simp] theorem setReport_overload : (x.setReport .overload r).reports = { x.reports with overload := r } := rfl

@[simp] theorem setReport_overtemp : (x.setReport .overtemp r).reports = { x.reports with overtemp := r } := rfl

end

/-! ## Reports at a switching edge -/

/-- A condition at an edge that may leave a report behind: seen in blanking, and for the short filter of the time spent
in the state (R142). -/
def Condition.carried (c : Condition) (x : PowerChannel) (now : Nat) : Prop :=
  x.blanking ≠ none ∧ c.present = true ∧
    (if now - x.since < 1000 then 80 else if now - x.since < 2500 then 400 else 1000) ≤ now - c.since

/-- A report out of its own state (R142). -/
def Report.leavesAs (r r' : Report) (c : Condition) (x : PowerChannel) (now : Nat) : Prop :=
  (r = .standing → r' = .prolonged) ∧ (r = .clear → c.carried x now → r' = .prolonged) ∧
    (r = .clear → ¬ c.carried x now → r' = .clear)

theorem carried_iff (c : Condition) (x : PowerChannel) (now : Nat) : c.carried x now ↔
    (x.blanking.isSome && c.presentFor (shortFilter (now - x.since)) now) = true := by
  rw [Bool.and_eq_true, Option.isSome_iff_ne_none, Condition.presentFor, Bool.and_eq_true, decide_eq_true_iff]
  rfl

theorem edgeReport_leaving {k : BlankedKind} {x : PowerChannel} (own : x.commanded = ownState k) (now : Nat) :
    (x.reports.get (blankedKind k)).leavesAs (edgeReport k x now) (x.conditions.get (blankedKind k)) x now := by
  simp only [Report.leavesAs, carried_iff, edgeReport, own, beq_self_eq_true, if_true]
  cases x.reports.get (blankedKind k) <;> simp

theorem edgeReport_returning {k : BlankedKind} {x : PowerChannel} (opposite : x.commanded ≠ ownState k) (now : Nat) :
    edgeReport k x now =
      if x.reports.get (blankedKind k) = .prolonged then .standing else x.reports.get (blankedKind k) := by
  simp only [edgeReport, beq_iff_eq, if_neg opposite]
  cases x.reports.get (blankedKind k) <;> rfl

theorem reportsAtEdge_leaves (x : PowerChannel) (now : Nat) :
    x.reportsAtEdge now = { x with reports := (x.reportsAtEdge now).reports } := by
  simp only [PowerChannel.reportsAtEdge]
  split
  · rw [setReport_leaves _ _ .overtemp, setReport_leaves _ _ .overload, setReport_leaves _ _ .openOn,
      setReport_leaves _ _ .openOff, setReport_leaves _ _ .shortSupply]
  · rw [setReport_leaves _ _ .openOn, setReport_leaves _ _ .openOff, setReport_leaves _ _ .shortSupply]

theorem reportsAtEdge_reports (x : PowerChannel) (now : Nat) : (x.reportsAtEdge now).reports = {
    openOff := if edgeReport .shortSupply x now = .clear then edgeReport .openOff x now else .clear
    shortSupply := edgeReport .shortSupply x now
    openOn := edgeReport .openOn x now
    overload := if x.commanded = true then .clear else x.reports.overload
    overtemp := if x.commanded = true then .clear else x.reports.overtemp } := by
  simp only [PowerChannel.reportsAtEdge]
  split <;> simp

/-! ## A channel at a switching edge -/

theorem command_of_same {x : PowerChannel} {on : Bool} (same : x.commanded = on) (normal : Bool) (now : Nat) :
    x.command on normal now = x := if_pos (by simp [same])

theorem command_of_edge {x : PowerChannel} {on : Bool} (edge : x.commanded ≠ on) (normal : Bool) (now : Nat) :
    x.command on normal now = (x.reportsAtEdge now).enter on normal now := if_neg (by simp [edge])

theorem enter_load (x : PowerChannel) (on normal : Bool) (now : Nat) : (x.enter on normal now).load = x.load := rfl

theorem enter_reports (x : PowerChannel) (on normal : Bool) (now : Nat) : (x.enter on normal now).reports = x.reports :=
  rfl

/-- The time of every condition starts at the edge (R133). -/
theorem enter_condition_since (x : PowerChannel) (on normal : Bool) (now : Nat) (k : PowerKind) :
    ((x.enter on normal now).conditions.get k).since = now := by
  have restarts (b : Bool) : ((Condition.absent now).measure b now).since = now := by
    unfold Condition.measure
    split <;> rfl
  cases k <;> exact restarts _

theorem enter_thermal_on (x : PowerChannel) (normal : Bool) (now : Nat) :
    (x.enter true normal now).thermal = .shutdown ↔ 160 ≤ x.load.junction := by
  have follows : (x.enter true normal now).thermal = if 160 ≤ x.load.junction then .shutdown else .normal := rfl
  rw [follows]
  split <;> simp [*]

/-- A valid drive word lets each channel follow its own bit and the supply state (R123, R133). -/
theorem drive_channel {p : PowerDie} {w : BitVec 16} (valid : p.accepts w = true) (now : Nat) (n : Fin 8) :
    (p.drive w now).channels.get n = (p.channels.get n).command
      (driveEnable w && maskBit (driveBits w) n && p.supplyNormal) p.supplyNormal now := by
  rw [drive_of_accepts valid, PowerDie.follow, mapChannels_channel]
  simp [PowerDie.commands]

/-- Settles O35: a channel whose commanded state does not change is left alone; another takes its edge reports and
enters the new state. -/
theorem switchingEdge : Obligations.SwitchingEdge := by
  refine ⟨fun s w n awake good fresh => ?_, fun s w n awake good fresh edge => ?_⟩
  all_goals
    have valid := (accepts_iff s.power w).mpr ⟨awake, good, fresh⟩
    refine ⟨_, exec_driveWordReceived w s, ?_⟩
    simp only [drive_channel valid]
    generalize s.power.channels.get n = x at *
    generalize (driveEnable w && maskBit (driveBits w) n && s.power.supplyNormal) = on at *
    generalize s.power.supplyNormal = normal
  · refine ⟨fun same => command_of_same same normal s.now, fun edge => ?_⟩
    rw [command_of_edge edge]
    have load : (x.reportsAtEdge s.now).load = x.load := by rw [reportsAtEdge_leaves]
    refine ⟨rfl, rfl, rfl, load, enter_condition_since _ _ _ _, ?_, ?_⟩
    · rintro rfl
      have silent := conducts_off_when_not_commanded ((x.reportsAtEdge s.now).enter false normal s.now) rfl
      have on : x.commanded = true := by simpa using edge
      rw [enter_reports, reportsAtEdge_reports, output_when_off rfl, switchCurrent_when_not_conducting _ silent,
        clampCurrent_when_not_conducting silent, enter_load, load]
      refine ⟨rfl, if_pos on, if_pos on, rfl, rfl, ?_⟩
      simp only [Bool.false_eq_true, false_or, ← not_lt, ite_not]
    · rintro rfl
      have off : ¬ x.commanded = true := edge
      rw [enter_reports, reportsAtEdge_reports, enter_thermal_on, load]
      exact ⟨Iff.rfl, if_neg off, if_neg off⟩
  · rw [command_of_edge edge, enter_reports, reportsAtEdge_reports]
    refine ⟨fun on => ?_, fun off => ?_, fun stands => if_neg stands⟩
    · refine ⟨edgeReport_leaving (k := .openOn) on s.now,
        edgeReport_returning (k := .shortSupply) (by simp [on, ownState]) s.now, fun clear => ?_⟩
      exact (if_pos clear).trans (edgeReport_returning (k := .openOff) (by simp [on, ownState]) s.now)
    · refine ⟨edgeReport_returning (k := .openOn) (by simp [off, ownState]) s.now,
        edgeReport_leaving (k := .shortSupply) off s.now, fun clear => ?_⟩
      show x.reports.openOff.leavesAs (if edgeReport .shortSupply x s.now = .clear then _ else _) _ x s.now
      rw [if_pos clear]
      exact edgeReport_leaving (k := .openOff) off s.now

/-! ## Reports judged -/

/-- A report judged on the time its condition has run (R140, R141). -/
def Report.judgedAs (r r' : Report) (c : Condition) (filter now : Nat) : Prop :=
  (r = .clear → r' = if c.present = true ∧ filter ≤ now - c.since then .standing else .clear) ∧
  (r = .standing → r' = if c.present = false ∧ filter ≤ now - c.since then .clear else .standing)

theorem presentFor_iff (c : Condition) (filter now : Nat) :
    c.presentFor filter now = true ↔ c.present = true ∧ filter ≤ now - c.since := by
  simp [Condition.presentFor]

theorem absentFor_iff (c : Condition) (filter now : Nat) :
    c.absentFor filter now = true ↔ c.present = false ∧ filter ≤ now - c.since := by
  simp [Condition.absentFor]

theorem judgeReport_judged (k : BlankedKind) (x : PowerChannel) (now : Nat) :
    (x.reports.get (blankedKind k)).judgedAs (judgeReport k x now) (x.conditions.get (blankedKind k))
      (blankedFilter k) now := by
  simp only [Report.judgedAs, judgeReport, ← presentFor_iff, ← absentFor_iff]
  cases x.reports.get (blankedKind k) <;> simp

theorem judgeReport_congr {k : BlankedKind} {x y : PowerChannel} (conditions : y.conditions = x.conditions)
    (report : y.reports.get (blankedKind k) = x.reports.get (blankedKind k)) (now : Nat) :
    judgeReport k y now = judgeReport k x now := by
  simp only [judgeReport, conditions, report]

theorem judge_own {k : BlankedKind} {x : PowerChannel} (own : x.commanded = ownState k) (now : Nat) :
    x.judge k now = x.setReport (blankedKind k) (judgeReport k x now) := if_pos (by simp [own])

theorem judge_opposite {k : BlankedKind} {x : PowerChannel} (opposite : x.commanded ≠ ownState k) (now : Nat) :
    x.judge k now = x := if_neg (by simp [opposite])

theorem endProlonged_own {k : BlankedKind} {x : PowerChannel} (own : x.commanded = ownState k) :
    x.endProlonged k = x := if_neg (by simp [own])

theorem endProlonged_leaves (x : PowerChannel) (k : BlankedKind) :
    x.endProlonged k = { x with reports := (x.endProlonged k).reports } := by
  unfold PowerChannel.endProlonged
  split
  · exact setReport_leaves x _ _
  · rfl

/-- A PROLONGED report of the opposite state ends, and no other (R143). -/
theorem endProlonged_opposite {k : BlankedKind} {x : PowerChannel} (opposite : x.commanded ≠ ownState k) :
    (x.endProlonged k).reports =
      if x.reports.get (blankedKind k) = .prolonged then (x.setReport (blankedKind k) .clear).reports
      else x.reports := by
  unfold PowerChannel.endProlonged
  simp only [bne_iff_ne, ne_eq, opposite, not_false_eq_true, Bool.and_eq_true, beq_iff_eq, true_and]
  split <;> rfl

theorem judge_leaves (x : PowerChannel) (k : BlankedKind) (now : Nat) :
    x.judge k now = { x with reports := (x.judge k now).reports } := by
  unfold PowerChannel.judge
  split
  · exact setReport_leaves x _ _
  · rfl

@[simp] theorem judge_conditions (x : PowerChannel) (k : BlankedKind) (now : Nat) :
    (x.judge k now).conditions = x.conditions := by rw [judge_leaves]

@[simp] theorem endProlonged_conditions (x : PowerChannel) (k : BlankedKind) :
    (x.endProlonged k).conditions = x.conditions := by rw [endProlonged_leaves]

/-! ## The filter of OVERLOAD or OVERTEMP ends -/

section
variable (x : PowerChannel) (k : UnblankedKind) (now : Nat)

theorem setReport_unblanked (r : Report) : (x.setReport (unblankedKind k) r).reports =
    x.reports.set (unblankedKind k) r := by
  cases k <;> rfl

theorem filterEnds_leaves : x.filterEnds k now = { x with reports := (x.filterEnds k now).reports } := by
  simp only [PowerChannel.filterEnds]
  (repeat' split) <;> first | exact setReport_leaves x _ _ | rfl

theorem filterEnds_other {j : PowerKind} (other : j ≠ unblankedKind k) :
    (x.filterEnds k now).reports.get j = x.reports.get j := by
  simp only [PowerChannel.filterEnds]
  (repeat' split) <;> simp [setReport_unblanked, PerPower.get_set, other]

theorem filterEnds_judged : (x.reports.get (unblankedKind k)).judgedAs
    ((x.filterEnds k now).reports.get (unblankedKind k)) (x.conditions.get (unblankedKind k)) 40 now := by
  simp only [Report.judgedAs, ← presentFor_iff, ← absentFor_iff]
  refine ⟨fun clear => ?_, fun standing => ?_⟩
  · simp only [PowerChannel.filterEnds, clear]
    split <;> simp_all [setReport_unblanked, PerPower.get_set, Config.reportFilterTime]
  · simp only [PowerChannel.filterEnds, standing]
    split <;> simp_all [setReport_unblanked, PerPower.get_set, Config.reportFilterTime]

end

/-! ## The filter of a blanked kind ends -/

theorem blankedFilterEnds_blanked {x : PowerChannel} (blanked : x.blanking ≠ none) (k : BlankedKind) (now : Nat) :
    x.blankedFilterEnds k now = x := if_pos (Option.isSome_iff_ne_none.mpr blanked)

/-- After blanking the report is judged, and where SHORT-SUPPLY clears OPEN-OFF with it (R138, R141). -/
theorem blankedFilterEnds_free {x : PowerChannel} (free : x.blanking = none) (k : BlankedKind) (now : Nat) :
    x.blankedFilterEnds k now =
      if k = .shortSupply ∧ x.reports.shortSupply ≠ .clear ∧ (x.judge k now).reports.shortSupply = .clear
      then (x.judge k now).judge .openOff now else x.judge k now := by
  simp [PowerChannel.blankedFilterEnds, free, and_assoc]

theorem blankedFilterEnds_opposite {k : BlankedKind} {x : PowerChannel} (opposite : x.commanded ≠ ownState k)
    (now : Nat) : x.blankedFilterEnds k now = x := by
  by_cases free : x.blanking = none
  · rw [blankedFilterEnds_free free, judge_opposite opposite, if_neg]
    exact fun ⟨_, stands, clears⟩ => stands clears
  · exact blankedFilterEnds_blanked free k now

theorem blankedFilterEnds_leaves (x : PowerChannel) (k : BlankedKind) (now : Nat) :
    x.blankedFilterEnds k now = { x with reports := (x.blankedFilterEnds k now).reports } := by
  by_cases free : x.blanking = none
  · rw [blankedFilterEnds_free free]
    split
    · rw [judge_leaves _ .openOff, judge_leaves x k]
    · exact judge_leaves x k now
  · rw [blankedFilterEnds_blanked free]

/-- A kind whose report bears on no other is judged alone. -/
theorem blankedFilterEnds_alone {k : BlankedKind} {x : PowerChannel} (alone : k ≠ .shortSupply)
    (own : x.commanded = ownState k) (free : x.blanking = none) (now : Nat) :
    x.blankedFilterEnds k now = x.setReport (blankedKind k) (judgeReport k x now) := by
  rw [blankedFilterEnds_free free, if_neg fun h => alone h.1, judge_own own]

/-- The filter of SHORT-SUPPLY in the commanded state OFF, by the report's change (R138). -/
theorem shortSupplyFilterEnds {x : PowerChannel} (off : x.commanded = false) (free : x.blanking = none) (now : Nat) :
    (x.blankedFilterEnds .shortSupply now).reports = { x.reports with
      shortSupply := judgeReport .shortSupply x now
      openOff :=
        if judgeReport .shortSupply x now ≠ .clear then .clear
        else if x.reports.shortSupply = .clear then x.reports.openOff
        else judgeReport .openOff x now } := by
  have judged : x.judge .shortSupply now = x.setReport .shortSupply (judgeReport .shortSupply x now) :=
    judge_own off now
  have report : (x.setReport .shortSupply (judgeReport .shortSupply x now)).reports.shortSupply =
      judgeReport .shortSupply x now := by rw [setReport_shortSupply]
  rw [blankedFilterEnds_free free, judged, report]
  by_cases clears : judgeReport .shortSupply x now = .clear
  · by_cases stood : x.reports.shortSupply = .clear
    · rw [if_neg fun h => h.2.1 stood, setReport_shortSupply]
      simp [clears, stood]
    · have again := judgeReport_congr (k := .openOff) (x := x)
        (y := x.setReport .shortSupply (judgeReport .shortSupply x now)) (setReport_conditions ..)
        (by rw [setReport_shortSupply, clears]; rfl) now
      rw [if_pos ⟨rfl, stood, clears⟩, judge_own (k := .openOff) (by rw [setReport_commanded]; exact off), again]
      simp [blankedKind, clears, stood]
  · rw [if_neg fun h => clears h.2.2, setReport_shortSupply]
    simp [clears]

/-! ## Blanking ends -/

theorem blankingEnds_leaves {x : PowerChannel} (blanked : x.blanking ≠ none) (now : Nat) :
    x.blankingEnds now = { x with blanking := none, reports := (x.blankingEnds now).reports } := by
  rw [PowerChannel.blankingEnds, if_neg (by simpa using blanked)]
  dsimp only
  rw [judge_leaves _ .openOn, judge_leaves _ .openOff, judge_leaves _ .shortSupply, endProlonged_leaves _ .openOn,
    endProlonged_leaves _ .openOff, endProlonged_leaves _ .shortSupply]


/-- In the commanded state ON only OPEN-ON is judged. -/
theorem blankingEnds_on {x : PowerChannel} (on : x.commanded = true) (blanked : x.blanking ≠ none) (now : Nat) :
    x.blankingEnds now =
      ((({ x with blanking := none }.endProlonged .shortSupply).endProlonged .openOff).judge .openOn now) := by
  rw [PowerChannel.blankingEnds, if_neg (by simpa using blanked)]
  dsimp only
  rw [endProlonged_own (k := .openOn) (by simpa [ownState] using on),
    judge_opposite (k := .shortSupply) (by simp [ownState, on]),
    judge_opposite (k := .openOff) (by simp [ownState, on])]

/-- In the commanded state OFF SHORT-SUPPLY is judged, and OPEN-OFF after it. -/
theorem blankingEnds_off {x : PowerChannel} (off : x.commanded = false) (blanked : x.blanking ≠ none) (now : Nat) :
    x.blankingEnds now =
      (({ x with blanking := none }.endProlonged .openOn).judge .shortSupply now).judge .openOff now := by
  rw [PowerChannel.blankingEnds, if_neg (by simpa using blanked)]
  dsimp only
  rw [endProlonged_own (k := .shortSupply) (by simpa [ownState] using off),
    endProlonged_own (k := .openOff) (by simpa [ownState] using off),
    judge_opposite (k := .openOn) (by simp [ownState, off])]

theorem endProlonged_openOn {x : PowerChannel} (off : x.commanded = false) : (x.endProlonged .openOn).reports =
    { x.reports with openOn := if x.reports.openOn = .prolonged then .clear else x.reports.openOn } := by
  rw [endProlonged_opposite (by simp [off, ownState])]
  simp only [blankedKind, setReport_openOn, PerPower.get]
  split <;> simp_all

theorem endProlonged_openOff {x : PowerChannel} (on : x.commanded = true) : (x.endProlonged .openOff).reports =
    { x.reports with openOff := if x.reports.openOff = .prolonged then .clear else x.reports.openOff } := by
  rw [endProlonged_opposite (by simp [on, ownState])]
  simp only [blankedKind, setReport_openOff, PerPower.get, ite_self]
  split <;> simp_all

theorem endProlonged_shortSupply {x : PowerChannel} (on : x.commanded = true) : (x.endProlonged .shortSupply).reports =
    { x.reports with
      shortSupply := if x.reports.shortSupply = .prolonged then .clear else x.reports.shortSupply } := by
  rw [endProlonged_opposite (by simp [on, ownState])]
  simp only [blankedKind, setReport_shortSupply, PerPower.get, if_true]
  split <;> simp_all

theorem blankingEnds_on_reports {x : PowerChannel} (on : x.commanded = true) (blanked : x.blanking ≠ none)
    (now : Nat) : (x.blankingEnds now).reports = { x.reports with
      shortSupply := if x.reports.shortSupply = .prolonged then .clear else x.reports.shortSupply
      openOff := if x.reports.openOff = .prolonged then .clear else x.reports.openOff
      openOn := judgeReport .openOn x now } := by
  rw [blankingEnds_on on blanked]
  generalize ended : ({ x with blanking := none }.endProlonged .shortSupply).endProlonged .openOff = y
  have commanded : y.commanded = true := by rw [← ended, endProlonged_commanded, endProlonged_commanded]; exact on
  have conditions : y.conditions = x.conditions := by rw [← ended, endProlonged_conditions, endProlonged_conditions]
  have reports : y.reports = { x.reports with
      shortSupply := if x.reports.shortSupply = .prolonged then .clear else x.reports.shortSupply
      openOff := if x.reports.openOff = .prolonged then .clear else x.reports.openOff } := by
    rw [← ended, endProlonged_openOff (by rw [endProlonged_commanded]; exact on),
      endProlonged_shortSupply (x := { x with blanking := none }) on]
  rw [judge_own (k := .openOn) commanded, judgeReport_congr conditions (by rw [reports]; rfl)]
  simp only [blankedKind, setReport_openOn, reports]

theorem blankingEnds_off_reports {x : PowerChannel} (off : x.commanded = false) (blanked : x.blanking ≠ none)
    (now : Nat) : (x.blankingEnds now).reports = { x.reports with
      shortSupply := judgeReport .shortSupply x now
      openOff := if judgeReport .shortSupply x now = .clear then judgeReport .openOff x now else .clear
      openOn := if x.reports.openOn = .prolonged then .clear else x.reports.openOn } := by
  rw [blankingEnds_off off blanked]
  generalize ended : { x with blanking := none }.endProlonged .openOn = y
  have commanded : y.commanded = false := by rw [← ended, endProlonged_commanded]; exact off
  have conditions : y.conditions = x.conditions := by rw [← ended, endProlonged_conditions]
  have reports : y.reports = { x.reports with
      openOn := if x.reports.openOn = .prolonged then .clear else x.reports.openOn } := by
    rw [← ended, endProlonged_openOn (x := { x with blanking := none }) off]
  have short := judgeReport_congr (k := .shortSupply) conditions (by rw [reports]; rfl) now
  rw [judge_own (k := .shortSupply) commanded, short]
  generalize judged : y.setReport (blankedKind .shortSupply) (judgeReport .shortSupply x now) = z
  have ranked : z.reports = { y.reports with
      shortSupply := judgeReport .shortSupply x now
      openOff := if judgeReport .shortSupply x now = .clear then y.reports.openOff else .clear } := by
    rw [← judged]
    exact setReport_shortSupply y _
  rw [judge_own (k := .openOff) (by rw [← judged, setReport_commanded]; exact commanded)]
  simp only [blankedKind, setReport_openOff, ranked]
  by_cases clear : judgeReport .shortSupply x now = .clear
  · have same := judgeReport_congr (k := .openOff) (x := x) (y := z)
      (by rw [← judged, setReport_conditions, conditions]) (by rw [ranked, if_pos clear, reports]; rfl) now
    simp only [clear, if_true, same, reports]
  · simp only [clear, if_false, reports]

/-! ## The commands -/

theorem exec_reportFilterExpiry (c : Fin 8) (k : UnblankedKind) (s : State) : exec (.reportFilterExpiry c k) s =
    .next { s with power := s.power.modify c fun x => x.filterEnds k s.now } := rfl

theorem exec_blankedFilterExpiry (c : Fin 8) (k : BlankedKind) (s : State) : exec (.blankedFilterExpiry c k) s =
    .next { s with power := s.power.modify c fun x => x.blankedFilterEnds k s.now } := rfl

theorem exec_blankingExpiry (c : Fin 8) (s : State) : exec (.blankingExpiry c) s =
    .next { s with power := s.power.modify c fun x => x.blankingEnds s.now } := rfl

/-- Settles O39: each of the three ends judges the reports of its kinds in their own state and leaves the others. -/
theorem reportFilters : Obligations.ReportFilters := by
  intro s c awake before outcome judgedAs
  have acts : ∀ (i : Instr) (facts : PowerChannel → Prop) (f : PowerChannel → PowerChannel),
      exec i s = .next { s with power := s.power.modify c f } →
      f before = { before with reports := (f before).reports, blanking := (f before).blanking } →
      facts (f before) → outcome i facts := by
    intro i facts f runs leaves holds
    rw [modify_of_awake awake] at runs
    exact ⟨f before, runs, leaves, holds⟩
  have blankedLeaves : ∀ k, before.blankedFilterEnds k s.now =
      { before with reports := (before.blankedFilterEnds k s.now).reports,
                    blanking := (before.blankedFilterEnds k s.now).blanking } := fun k => by
    rw [blankedFilterEnds_leaves]
  have blankedStays : ∀ k, before.blanking = none → (before.blankedFilterEnds k s.now).blanking = none :=
    fun k free => by rw [blankedFilterEnds_leaves, free]
  refine ⟨fun k => ?_, fun k skipped => ?_, fun free on => ?_, fun free off => ⟨?_, ?_⟩, fun blanked => ?_⟩
  · refine acts _ _ _ (exec_reportFilterExpiry c k s) ?_
      ⟨?_, fun j => filterEnds_other before k s.now, filterEnds_judged before k s.now⟩
    · rw [filterEnds_leaves]
    · rw [filterEnds_leaves]
  · have same : before.blankedFilterEnds k s.now = before :=
      skipped.elim (blankedFilterEnds_blanked · k s.now) (blankedFilterEnds_opposite · s.now)
    exact acts _ _ _ (exec_blankedFilterExpiry c k s) (blankedLeaves k) same
  · refine acts _ _ _ (exec_blankedFilterExpiry c .openOn s) (blankedLeaves _) ⟨blankedStays _ free, ?_⟩
    rw [blankedFilterEnds_alone (by decide) on free]
    exact ⟨fun j other => by cases j <;> first | rfl | exact absurd rfl other,
      judgeReport_judged .openOn before s.now⟩
  · refine acts _ _ _ (exec_blankedFilterExpiry c .openOff s) (blankedLeaves _) ⟨blankedStays _ free, ?_⟩
    rw [blankedFilterEnds_alone (by decide) off free]
    simp only [blankedKind, setReport_openOff]
    refine ⟨fun j other => by cases j <;> first | rfl | exact absurd rfl other, fun stands => if_neg stands,
      fun clear => ?_⟩
    rw [if_pos clear]
    exact judgeReport_judged .openOff before s.now
  · refine acts _ _ _ (exec_blankedFilterExpiry c .shortSupply s) (blankedLeaves _) ⟨blankedStays _ free, ?_⟩
    rw [shortSupplyFilterEnds off free]
    refine ⟨fun j notOff notShort => by
        cases j <;> first | rfl | exact absurd rfl notOff | exact absurd rfl notShort,
      judgeReport_judged .shortSupply before s.now, fun stands => if_pos stands, fun stood clears => ?_,
      fun clear clears => ?_⟩
    · dsimp only at clears ⊢
      rw [if_neg (not_not.mpr clears), if_neg stood]
      exact judgeReport_judged .openOff before s.now
    · dsimp only at clears ⊢
      rw [if_neg (not_not.mpr clears), if_pos clear]
  · refine acts _ _ _ (exec_blankingExpiry c s) ?_ ⟨?_, ?_⟩
    · rw [blankingEnds_leaves blanked]
    · rw [blankingEnds_leaves blanked]
    · cases commanded : before.commanded
      · rw [blankingEnds_off_reports commanded blanked]
        exact ⟨rfl, rfl, nofun, fun _ => ⟨judgeReport_judged .shortSupply before s.now, fun clear => by
            dsimp only at clear ⊢
            rw [if_pos clear]
            exact judgeReport_judged .openOff before s.now, fun prolonged => if_pos prolonged⟩⟩
      · rw [blankingEnds_on_reports commanded blanked]
        exact ⟨rfl, rfl, fun _ => ⟨judgeReport_judged .openOn before s.now, fun prolonged => if_pos prolonged,
          fun prolonged => if_pos prolonged⟩, nofun⟩

end Sys2Proof.Machine
end

section
/-! PROOFS. The slots of the Barrier Link and what its loss does to the channels: the path is lost (O29), and
off-assured completes what still releases (O30). -/

namespace Sys2Proof.Machine

open Sys2Proof

/-! ## Slots judged (R125, R126) -/

section
variable {s : State} (free : s.held = false)
include free

theorem judgeSlot_good {w : BitVec 18} {r : GoodReply} (good : judgeReply w = some r) :
    judgeSlot (some w) s = buildDue (goodSlot r s) := by
  simp [judgeSlot, free, good]

theorem judgeSlot_failed {reply : Option (BitVec 18)} (bad : reply.bind judgeReply = none) :
    judgeSlot reply s = buildDue (failedSlot s) := by
  simp [judgeSlot, free, bad]

end

/-- A state with another link. -/
def State.linked (s : State) (l : Link) : State := { s with link := l }

theorem linked_chan (s : State) (l : Link) (c : Fin 8) : (s.linked l).chan c = s.chan c := rfl

/-- The link that a good slot leaves while it is UP. -/
def Link.heard (l : Link) (now : Nat) : Link := { l with failedRun := 0, lastGood := some now }

/-- The link that a good slot leaves while it is DOWN. -/
def Link.counted (l : Link) (r : GoodReply) : Link :=
  { l with goodRun := l.goodRun + 1, latest := l.latest.take r }

/-- The link as it becomes UP. -/
def Link.raised (l : Link) (now : Nat) : Link := { l with
  up := true, goodRun := 0, failedRun := 0, lastGood := some now, guarantee := none, latest := LatestReplies.none }

/-- The link as it becomes DOWN. -/
def Link.fallen (l : Link) (now : Nat) : Link := { l with
  up := false, goodRun := 0, failedRun := 0, guarantee := some (l.lastGood.getD now + 250) }

section
variable {s : State}

theorem goodSlot_up (r : GoodReply) (up : s.link.up = true) :
    goodSlot r s = deliver r (s.linked (s.link.heard s.now)) := if_pos up

theorem goodSlot_counts (r : GoodReply) (down : s.link.up = false) (short : s.link.goodRun + 1 < 16) :
    goodSlot r s = s.linked (s.link.counted r) := by
  unfold goodSlot
  rw [if_neg (by simp [down])]
  exact if_neg (Nat.not_le.mpr short)

theorem goodSlot_raises (r : GoodReply) (down : s.link.up = false) (run : 16 ≤ s.link.goodRun + 1) :
    goodSlot r s = linkUp (s.linked (s.link.counted r)) := by
  unfold goodSlot
  rw [if_neg (by simp [down])]
  exact if_pos run

theorem failedSlot_down (down : s.link.up = false) : failedSlot s = s.linked { s.link with goodRun := 0 } :=
  if_neg (by simp [down])

theorem failedSlot_counts (up : s.link.up = true) (short : s.link.failedRun + 1 < 8) :
    failedSlot s = s.linked { s.link with failedRun := s.link.failedRun + 1 } := by
  unfold failedSlot
  rw [if_pos up]
  exact if_neg (Nat.not_le.mpr short)

theorem failedSlot_loses (up : s.link.up = true) (run : 8 ≤ s.link.failedRun + 1) : failedSlot s =
    setFlagLive .linkDown true (whenRunning (fun t => setReleasingConfirm none (pathLost t))
      (s.linked (s.link.fallen s.now))) := by
  unfold failedSlot
  rw [if_pos up]
  exact if_pos run

end

/-! ## The path is lost at a channel (R21) -/

/-- What setting a flag leaves alike for a channel. -/
theorem setFlagLive_alike (f : NodeFlag) (b : Bool) (c : Fin 8) (s : State) : Alike c s (setFlagLive f b s) :=
  ⟨by simp, by simp, by simp, by simp, by simp [State.chan], by simp [State.sentBy]⟩

theorem pathReady_of_down {s : State} (down : s.link.up = false) : s.pathReady = false := by
  simp [State.pathReady, down]

/-- Path lost, and the confirm timer of a channel that is RELEASING stopped. -/
def State.losesPath (s : State) (c : Fin 8) : State := confirmIfReleasing none c (pathLostAt c s)

section
variable {c : Fin 8} {s : State}

theorem losesPath_link (c : Fin 8) (s : State) : (s.losesPath c).link = s.link := by
  simp [State.losesPath]

theorem losesPath_at_rest
    (state : (s.chan c).state = .off ∨ (s.chan c).state = .locked ∨ (s.chan c).state = .suspended) :
    s.losesPath c = s := by
  rcases state with state | state | state <;> simp [State.losesPath, pathLostAt, confirmIfReleasing, state]

theorem losesPath_asking {m : ToGroupMsg}
    (asks : pathLostAt c s = enterState .suspended c (sendToGroup c m s)) :
    (s.losesPath c).chan c = { s.chan c with state := .suspended, confirm := none, offCheck := none } ∧
    (s.losesPath c).sentBy c = s.sentBy c ++ s.messageOf c m := by
  rw [State.losesPath, asks]
  simp [confirmIfReleasing, confirmAtEntry, ChannelState.confirmedOn]

theorem losesPath_waiting (state : (s.chan c).state = .waiting) :
    (s.losesPath c).chan c = { s.chan c with state := .suspended, confirm := none, offCheck := none } ∧
    (s.losesPath c).sentBy c = s.sentBy c ++ s.messageOf c .cancel :=
  losesPath_asking (by simp only [pathLostAt, state])

theorem losesPath_armed (state : (s.chan c).state = .armed) :
    (s.losesPath c).chan c = { s.chan c with state := .suspended, confirm := none, offCheck := none } ∧
    (s.losesPath c).sentBy c = s.sentBy c ++ s.messageOf c .doneNeverDriven :=
  losesPath_asking (by simp only [pathLostAt, state])

theorem losesPath_driven (driven : (s.chan c).state.driven = true) :
    (s.losesPath c).chan c = { s.chan c with
      state := .suspended, confirm := none, offCheck := none,
      handBack := (s.chan c).handBack || (s.cfg c).group.isSome } ∧
    (s.losesPath c).sentBy c = s.sentBy c := by
  have lost : pathLostAt c s = oweHandBack c (enterState .suspended c s) := by
    unfold pathLostAt
    cases state : (s.chan c).state <;> simp_all [ChannelState.driven]
  rw [State.losesPath, lost]
  simp [confirmIfReleasing, oweHandBack_chan, oweHandBack_sentBy, confirmAtEntry, ChannelState.confirmedOn]

theorem losesPath_releasing (state : (s.chan c).state = .releasing) :
    (s.losesPath c).chan c = { s.chan c with
      target := if (s.chan c).target = .off then .suspended else (s.chan c).target, confirm := none } ∧
    (s.losesPath c).sentBy c = s.sentBy c := by
  simp only [State.losesPath, pathLostAt, state, confirmIfReleasing]
  cases target : (s.chan c).target <;> simp [target, state]

end

/-- The link's loss is, for each channel, a lost path. -/
theorem lostLink_alike (c : Fin 8) (s : State) (l : Link) (running : s.running = true) :
    Alike c ((s.linked l).losesPath c) (buildDue (setFlagLive .linkDown true
      (whenRunning (fun t => setReleasingConfirm none (pathLost t)) (s.linked l)))) := by
  rw [whenRunning_of (s := s.linked l) running]
  exact ((((pathLost_alike c _).confirmIfReleasing none).trans (setReleasingConfirm_alike none c _)).trans
    (setFlagLive_alike .linkDown true c _)).trans (buildDue_alike c _).toAlike

/-- Settles O29: the slot that loses the link loses the path for each channel. -/
theorem linkLossAtTheChannels : Obligations.LinkLossAtTheChannels := by
  intro s reply free running up run bad
  have lost (c : Fin 8) := lostLink_alike c s (s.link.fallen s.now) running
  rw [← failedSlot_loses up run, ← judgeSlot_failed free bad] at lost
  refine ⟨judgeSlot reply s, rfl, ?_, fun c => ?_⟩
  · exact pathReady_of_down (by rw [(lost 0).link, losesPath_link]; rfl)
  · rw [(lost c).chan, (lost c).sent]
    dsimp only
    cases state : (s.chan c).state <;> dsimp only
    case off | locked | suspended =>
      rw [losesPath_at_rest (s := s.linked (s.link.fallen s.now)) (by rw [linked_chan, state]; decide)]
      exact ⟨rfl, rfl⟩
    case waiting => exact losesPath_waiting (s := s.linked (s.link.fallen s.now)) state
    case armed => exact losesPath_armed (s := s.linked (s.link.fallen s.now)) state
    case releasing =>
      have releases := losesPath_releasing (s := s.linked (s.link.fallen s.now)) state
      rw [← state]
      exact releases
    case energizing | on | disarming =>
      exact losesPath_driven (s := s.linked (s.link.fallen s.now)) (by rw [linked_chan, state]; rfl)

/-! ## Off-assured (R130) -/

section
variable {c : Fin 8} {s : State}

theorem settleHandBack_leaves (c : Fin 8) (s : State) :
    (settleHandBack c s).chan c = { s.chan c with handBack := false } ∧
    (settleHandBack c s).sentBy c =
      s.sentBy c ++ if (s.chan c).handBack = true then s.messageOf c .doneOffConfirmed else [] := by
  unfold settleHandBack
  cases owed : (s.chan c).handBack
  · rw [if_neg Bool.false_ne_true, if_neg Bool.false_ne_true, List.append_nil]
    exact ⟨by rw [← owed], rfl⟩
  · simp

/-- Over a path that is not ready a channel that enters OFF stays there. -/
theorem enterOff_unready (unready : s.pathReady = false) : ∃ rearm,
    (enterOff c s).chan c = { s.chan c with state := .off, rearm := rearm, confirm := none, offCheck := none } ∧
    (enterOff c s).sentBy c = s.sentBy c := by
  by_cases off : (s.chan c).demand = false
  · exact ⟨_, enterOff_demand_off c s off⟩
  · exact ⟨_, enterOff_not_due c s (by simpa using off) (by simp [State.starts, unready])⟩

/-- The state in which a release ends over a path that is not ready. -/
def Target.rests (x : Target) : ChannelState :=
  match x with
  | .off => .off | .suspended => .suspended | .locked => .locked

theorem completeRelease_unready (unready : s.pathReady = false) : ∃ rearm,
    (completeRelease c s).chan c = { s.chan c with
      state := (s.chan c).target.rests, rearm := rearm, confirm := none, offCheck := none } ∧
    (completeRelease c s).sentBy c = s.sentBy c ++ s.messageOf c .doneOffConfirmed := by
  unfold completeRelease
  cases target : (s.chan c).target <;> dsimp only
  case off =>
    obtain ⟨rearm, chan, sent⟩ := enterOff_unready (c := c) (s := sendToGroup c .doneOffConfirmed s) (by simp [unready])
    exact ⟨rearm, by rw [chan, sendToGroup_chan]; rfl, by rw [sent, sendToGroup_sentBy]⟩
  case suspended =>
    refine ⟨(s.chan c).rearm, ?_⟩
    simp [unready, confirmAtEntry, ChannelState.confirmedOn, Target.rests, target]
  case locked =>
    refine ⟨(s.chan c).rearm, ?_⟩
    simp [confirmAtEntry, ChannelState.confirmedOn, Target.rests, target]

theorem offAssuredAt_releasing (unready : s.pathReady = false) (state : (s.chan c).state = .releasing) : ∃ rearm,
    (offAssuredAt c s).chan c = { s.chan c with
      state := (s.chan c).target.rests, rearm := rearm, confirm := none, offCheck := none, handBack := false } ∧
    (offAssuredAt c s).sentBy c = s.sentBy c ++ s.messageOf c .doneOffConfirmed ++
      if (s.chan c).handBack = true then s.messageOf c .doneOffConfirmed else [] := by
  obtain ⟨rearm, chan, sent⟩ := completeRelease_unready (c := c) unready
  have assured : offAssuredAt c s = settleHandBack c (completeRelease c s) := by simp only [offAssuredAt, state]
  have message : (completeRelease c s).messageOf c .doneOffConfirmed = s.messageOf c .doneOffConfirmed := by
    simp [State.messageOf, State.cfg, State.config]
  obtain ⟨settled, told⟩ := settleHandBack_leaves c (completeRelease c s)
  rw [assured, settled, told, chan, sent, message]
  exact ⟨rearm, rfl, rfl⟩

theorem offAssuredAt_elsewhere (state : (s.chan c).state ≠ .releasing) : offAssuredAt c s = settleHandBack c s := by
  unfold offAssuredAt
  split
  · contradiction
  · rfl

end

theorem guaranteeEnds_of_runs {s : State} (runs : s.link.guarantee ≠ none) (running : s.running = true) :
    guaranteeEnds s = each8 offAssuredAt (s.linked { s.link with guarantee := none }) := by
  unfold guaranteeEnds
  rw [if_pos (Option.isSome_iff_ne_none.mpr runs)]
  exact whenRunning_of (s := s.linked { s.link with guarantee := none }) running _

/-- Settles O30: off-assured meets each channel by itself. -/
theorem offAssured : Obligations.OffAssured := by
  intro s running down runs
  have assured (c : Fin 8) : Alike c (offAssuredAt c (s.linked { s.link with guarantee := none }))
      (buildDue (guaranteeEnds s)) := by
    rw [guaranteeEnds_of_runs runs running]
    exact (offAssured_alike c _).trans (buildDue_alike c _).toAlike
  have unready : (s.linked { s.link with guarantee := none }).pathReady = false := pathReady_of_down down
  have kept : (buildDue (guaranteeEnds s)).link = { s.link with guarantee := none } ∧
      (buildDue (guaranteeEnds s)).power = s.power ∧ (buildDue (guaranteeEnds s)).zones = s.zones ∧
      (buildDue (guaranteeEnds s)).points = s.points := by
    have apart (u : State) : (each8 offAssuredAt u).link = u.link ∧ (each8 offAssuredAt u).power = u.power ∧
        (each8 offAssuredAt u).zones = u.zones ∧ (each8 offAssuredAt u).points = u.points :=
      ⟨each8_keeps State.link _ (by simp) u, each8_keeps State.power _ (by simp) u,
        each8_keeps State.zones _ (by simp) u, each8_keeps State.points _ (by simp) u⟩
    rw [guaranteeEnds_of_runs runs running]
    simp [apart]
    exact ⟨rfl, rfl, rfl, rfl⟩
  obtain ⟨link, power, zones, points⟩ := kept
  refine ⟨buildDue (guaranteeEnds s), rfl, link, power, zones, points, fun c => ?_⟩
  rw [(assured c).chan, (assured c).sent]
  by_cases state : (s.chan c).state = .releasing
  · obtain ⟨rearm, chan, sent⟩ := offAssuredAt_releasing unready (c := c) state
    rw [chan, sent]
    refine ⟨rfl, fun h => absurd state h, fun _ => ⟨?_, rfl, rfl, rfl⟩⟩
    cases target : (s.chan c).target <;> simp [target, linked_chan, Target.rests]
  · obtain ⟨chan, sent⟩ := settleHandBack_leaves c (s.linked { s.link with guarantee := none })
    rw [offAssuredAt_elsewhere (s := s.linked { s.link with guarantee := none }) state, chan, sent]
    exact ⟨rfl, fun _ => ⟨rfl, rfl⟩, fun h => absurd h state⟩

end Sys2Proof.Machine
end

section
/-! PROOFS. A FEEDBACK reply over a link that is UP, channel by channel: the bits of the reply, and the path that its
supply-low flag loses or makes ready (O31). -/

namespace Sys2Proof.Machine

open Sys2Proof

/-! ## The ends of a release and of a suspension (R17, R22) -/

section
variable {c : Fin 8} {s : State}

theorem completeRelease_locked (target : (s.chan c).target = .locked) :
    (completeRelease c s).chan c = { s.chan c with state := .locked, confirm := none, offCheck := none } ∧
    (completeRelease c s).sentBy c = s.sentBy c ++ s.messageOf c .doneOffConfirmed := by
  simp [completeRelease, target, confirmAtEntry, ChannelState.confirmedOn]

/-- A released channel whose demand is OFF stays in OFF. -/
theorem completeRelease_off (target : (s.chan c).target = .off) (demand : (s.chan c).demand = false) :
    (completeRelease c s).chan c = { s.chan c with
      state := .off, rearm := false, confirm := none, offCheck := none } ∧
    (completeRelease c s).sentBy c = s.sentBy c ++ s.messageOf c .doneOffConfirmed := by
  obtain ⟨chan, sent⟩ := enterOff_demand_off c (sendToGroup c .doneOffConfirmed s) (by rw [sendToGroup_chan, demand])
  have ends : completeRelease c s = enterOff c (sendToGroup c .doneOffConfirmed s) := by
    simp only [completeRelease, target]
  rw [ends, chan, sent, sendToGroup_chan, sendToGroup_sentBy]
  exact ⟨rfl, rfl⟩

/-- The state of a channel whose restart is set as it leaves SUSPENDED. -/
def State.restarted (s : State) (c : Fin 8) : State :=
  match (s.cfg c).restart with
  | .rearm => modChan c (fun r => { r with rearm := true }) s
  | .auto => s

theorem leaveSuspended_eq : leaveSuspended c s = enterOff c (s.restarted c) := rfl

theorem restarted_leaves :
    (s.restarted c).chan c = { s.chan c with rearm := (s.chan c).rearm || (s.cfg c).restart == .rearm } ∧
    (s.restarted c).sentBy c = s.sentBy c ∧ (s.restarted c).pathReady = s.pathReady ∧
    (s.restarted c).cfg c = s.cfg c := by
  unfold State.restarted
  cases restart : (s.cfg c).restart
  · rw [show (Restart.auto == Restart.rearm) = false from rfl, Bool.or_false]
    exact ⟨rfl, rfl, rfl, rfl⟩
  · simp

theorem leaveSuspended_idle (demand : (s.chan c).demand = false) :
    ((leaveSuspended c s).chan c).state = .off ∧ ((leaveSuspended c s).chan c).rearm = false := by
  obtain ⟨chan, sent, ready, cfg⟩ := restarted_leaves (c := c) (s := s)
  rw [leaveSuspended_eq, (enterOff_demand_off c _ (by rw [chan]; exact demand)).1]
  exact ⟨rfl, rfl⟩

/-- With rearm pending demand ON is not acted on (R9). -/
theorem leaveSuspended_pending (demand : (s.chan c).demand = true)
    (rearm : ((s.chan c).rearm || (s.cfg c).restart == .rearm) = true) :
    ((leaveSuspended c s).chan c).state = .off ∧ ((leaveSuspended c s).chan c).rearm = true := by
  obtain ⟨chan, sent, ready, cfg⟩ := restarted_leaves (c := c) (s := s)
  have idle : (s.restarted c).starts c = false := by simp [State.starts, chan, rearm]
  rw [leaveSuspended_eq, (enterOff_not_due c _ (by rw [chan]; exact demand) idle).1, chan]
  exact ⟨rfl, rearm⟩

theorem leaveSuspended_starts (demand : (s.chan c).demand = true) (ready : s.pathReady = true)
    (rearm : ((s.chan c).rearm || (s.cfg c).restart == .rearm) = false) (enabled : (s.cfg c).enabled = true) :
    ((leaveSuspended c s).chan c).state = (s.cfg c).startState := by
  obtain ⟨chan, sent, path, cfg⟩ := restarted_leaves (c := c) (s := s)
  have due : (s.restarted c).starts c = true := by simp [State.starts, chan, rearm, path, cfg, demand, ready, enabled]
  rw [leaveSuspended_eq, (enterOff_due c _ due).1, cfg]

/-! ## A FEEDBACK bit at a channel (R13, R15, R17, R18) -/

/-- A state in which a FEEDBACK bit moves nothing in the state machine. -/
def ChannelState.deaf (x : ChannelState) : Bool :=
  match x with
  | .off | .waiting | .armed | .suspended | .locked => true
  | .energizing | .on | .disarming | .releasing => false

theorem feedbackInState_deaf (deaf : (s.chan c).state.deaf = true) (on : Bool) : feedbackInState on c s = s := by
  unfold feedbackInState
  cases state : (s.chan c).state <;> simp_all [ChannelState.deaf]

theorem feedbackInState_confirmedOn (state : (s.chan c).state.confirmedOn = true) (on : Bool) :
    feedbackInState on c s = modChan c (fun r => { r with offCheck :=
      if on then none else match r.offCheck with
        | none => some (s.now + 100)
        | some x => some x }) s := by
  unfold feedbackInState
  cases here : (s.chan c).state <;> simp_all [ChannelState.confirmedOn] <;> rfl

theorem feedbackInState_releasing (state : (s.chan c).state = .releasing) (on : Bool) :
    feedbackInState on c s = if on = true then s else completeRelease c s := by
  simp only [feedbackInState, state]

theorem feedbackAt_on {bits : Byte} (on : maskBit bits c = true) : feedbackAt bits c s = feedbackInState true c s := by
  simp [feedbackAt, on]

theorem feedbackAt_off {bits : Byte} (off : maskBit bits c = false) :
    feedbackAt bits c s = setLive c .stuckOn false (settleHandBack c (feedbackInState false c s)) := by
  simp [feedbackAt, off]

/-- A reply showing the output off leaves the channel its state machine's answer, with nothing to hand back. -/
theorem feedbackAt_off_leaves {bits : Byte} (off : maskBit bits c = false) :
    (feedbackAt bits c s).chan c = { (feedbackInState false c s).chan c with handBack := false } ∧
    (feedbackAt bits c s).sentBy c = (feedbackInState false c s).sentBy c ++
      if ((feedbackInState false c s).chan c).handBack = true then s.messageOf c .doneOffConfirmed else [] := by
  obtain ⟨chan, sent⟩ := settleHandBack_leaves c (feedbackInState false c s)
  have message : (feedbackInState false c s).messageOf c .doneOffConfirmed = s.messageOf c .doneOffConfirmed := by
    simp [State.messageOf, State.cfg, State.config]
  rw [feedbackAt_off off, (setLive_channel c c .stuckOn false _).1, (setLive_channel c c .stuckOn false _).2.1, chan,
    sent, message]
  exact ⟨rfl, rfl⟩

theorem feedbackAt_stuckOn {bits : Byte} (off : maskBit bits c = false) :
    (((feedbackAt bits c s).faultRec c).kinds.get .stuckOn).live = false := by
  rw [feedbackAt_off off, setLive_faultRec, if_pos rfl]
  simp

end

/-! ## The eight channels -/

theorem raiseFlag_records (f : NodeFlag) (s : State) : (raiseFlag f s).faults.records = s.faults.records ∧
    (raiseFlag f s).faults.blocked = s.faults.blocked := by
  unfold raiseFlag trackErr
  dsimp only
  split <;> simp

theorem setFlagLive_records (f : NodeFlag) (b : Bool) (s : State) :
    (setFlagLive f b s).faults.records = s.faults.records ∧
    (setFlagLive f b s).faults.blocked = s.faults.blocked := by
  unfold setFlagLive
  split
  · exact ⟨rfl, rfl⟩
  · split
    · exact raiseFlag_records f _
    · exact ⟨rfl, rfl⟩

/-- After the bits of a FEEDBACK reply STUCK-ON is live on no channel whose output it shows off (R24). -/
theorem each8_feedbackAt_stuckOn {bits : Byte} {c : Fin 8} (off : maskBit bits c = false) (s : State) :
    (((each8 (feedbackAt bits) s).faultRec c).kinds.get .stuckOn).live = false :=
  each8_at (fun t => t.faults.records.get c) (fun r => (r.kinds.get .stuckOn).live = false) _ c
    (fun _ other t => (feedbackAt_local bits (Ne.symm other) t).2.2) (fun _ => feedbackAt_stuckOn off) s

/-! ## A FEEDBACK reply taken while UP (R6, R127) -/

section
variable {s : State} {f : Feedback}

theorem setFeedback_pathReady (up : s.link.up = true) : (setFeedback f s).pathReady = !f.supplyLow := by
  simp [State.pathReady, setFeedback, up]

/-- What a FEEDBACK reply makes of the path, before its bits. -/
def State.fed (s : State) (f : Feedback) : State :=
  if s.pathReady = true ∧ f.supplyLow = true then pathLost (setFeedback f s)
  else if s.pathReady = false ∧ f.supplyLow = false then pathReadyEvent (setFeedback f s)
  else setFeedback f s

theorem takeFeedback_eq (running : s.running = true) (up : s.link.up = true) : takeFeedback f s =
    setFlagLive .supplyLow f.supplyLow (each8 (feedbackAt f.bits) (s.fed f)) := by
  have fed : (if (s.pathReady && !(setFeedback f s).pathReady) = true then whenRunning pathLost (setFeedback f s)
      else if (!s.pathReady && (setFeedback f s).pathReady) = true then whenRunning pathReadyEvent (setFeedback f s)
      else setFeedback f s) = s.fed f := by
    rw [setFeedback_pathReady up, whenRunning_of (s := setFeedback f s) running,
      whenRunning_of (s := setFeedback f s) running]
    simp only [State.fed, Bool.not_not, Bool.and_eq_true, Bool.not_eq_true']
  have runs : (s.fed f).running = true := by
    have same : (s.fed f).loader = s.loader := by
      unfold State.fed
      split
      · simp [setFeedback]
      · split <;> simp [setFeedback]
    rw [State.running, same]
    exact running
  unfold takeFeedback
  dsimp only
  rw [fed, feedbackBits, whenRunning_of runs]

/-- What the path's event makes of one channel, before its bit. -/
def State.fedAt (s : State) (f : Feedback) (c : Fin 8) : State :=
  if s.pathReady = true ∧ f.supplyLow = true then pathLostAt c (setFeedback f s)
  else if s.pathReady = false ∧ f.supplyLow = false then pathReadyAt c (setFeedback f s)
  else setFeedback f s

theorem fed_alike (s : State) (f : Feedback) (c : Fin 8) : Alike c (s.fedAt f c) (s.fed f) := by
  unfold State.fedAt State.fed
  split
  · exact pathLost_alike c _
  · split
    · exact pathReadyEvent_alike c _
    · exact .refl c _

theorem takeFeedback_alike (running : s.running = true) (up : s.link.up = true) (c : Fin 8) :
    Alike c (feedbackAt f.bits c (s.fedAt f c)) (takeFeedback f s) := by
  rw [takeFeedback_eq running up]
  exact (((fed_alike s f c).feedbackAt f.bits).trans (feedback_alike f.bits c _)).trans (setFlagLive_alike _ _ c _)

end

theorem takeFeedback_outcome {s : State} {f : Feedback} (running : s.running = true) (up : s.link.up = true) :
    (takeFeedback f s).channels.feedback = some f ∧ (takeFeedback f s).flagLive .supplyLow = f.supplyLow ∧
    (takeFeedback f s).link = s.link ∧ (takeFeedback f s).power = s.power ∧ (takeFeedback f s).zones = s.zones ∧
    ∀ c, maskBit f.bits c = false → (((takeFeedback f s).faultRec c).kinds.get .stuckOn).live = false := by
  have like := takeFeedback_alike (f := f) running up 0
  refine ⟨?_, ?_, ?_, by simp, by simp, fun c off => ?_⟩
  · rw [like.feedback, (feedbackAt_streams f.bits 0 _).1, State.fedAt]
    split
    · simp [setFeedback]
    · split <;> simp [setFeedback]
  · rw [takeFeedback_eq running up, setFlagLive_flagLive, if_pos rfl]
  · rw [takeFeedback_eq running up, (setFlagLive_frame .supplyLow _ _).2.2.2.2.2.2.2.2.2.2.1,
      each8_keeps State.link _ (by simp), State.fed]
    split
    · simp [setFeedback]
    · split <;> simp [setFeedback]
  · rw [takeFeedback_eq running up, State.faultRec, (setFlagLive_records ..).1]
    exact each8_feedbackAt_stuckOn off _

theorem exec_replyReceived {s : State} {w : BitVec 18} {r : GoodReply} (free : s.held = false)
    (good : judgeReply w = some r) : exec (.replyReceived w) s = .next (buildDue (goodSlot r s)) := by
  rw [← judgeSlot_good free good]
  rfl

/-- What a FEEDBACK reply over a link that is UP brings about, for the node and for each channel. -/
theorem feedback_received {s : State} {w : BitVec 18} {r : GoodReply} (free : s.held = false)
    (running : s.running = true) (up : s.link.up = true) (good : judgeReply w = some r) (kind : r.kind = .feedback) :
    ∃ t, exec (.replyReceived w) s = .next t ∧ t.channels.feedback = some ⟨r.bits, r.supplyLow⟩ ∧
      t.flagLive .supplyLow = r.supplyLow ∧ t.link.up = true ∧ t.power = s.power ∧ t.zones = s.zones ∧
      (∀ c, maskBit r.bits c = false → ((t.faultRec c).kinds.get .stuckOn).live = false) ∧
      ∀ c, Alike c (feedbackAt r.bits c ((s.linked (s.link.heard s.now)).fedAt ⟨r.bits, r.supplyLow⟩ c)) t := by
  have delivered : goodSlot r s = takeFeedback ⟨r.bits, r.supplyLow⟩ (s.linked (s.link.heard s.now)) := by
    rw [goodSlot_up r up, deliver, kind]
  have upStays : (s.linked (s.link.heard s.now)).link.up = true := up
  obtain ⟨feedback, low, link, power, zones, stuck⟩ :=
    takeFeedback_outcome (f := ⟨r.bits, r.supplyLow⟩) (s := s.linked (s.link.heard s.now)) running upStays
  have like := takeFeedback_alike (f := ⟨r.bits, r.supplyLow⟩) (s := s.linked (s.link.heard s.now)) running upStays
  refine ⟨_, exec_replyReceived free good, ?_⟩
  rw [delivered]
  generalize takeFeedback ⟨r.bits, r.supplyLow⟩ (s.linked (s.link.heard s.now)) = u at *
  refine ⟨?_, ?_, ?_, ?_, ?_, fun c off => ?_, fun c => (like c).trans (buildDue_alike c u).toAlike⟩
  · simp [feedback]
  · have still : (buildDue u).faults.flags.live = u.faults.flags.live := by simp
    rw [State.flagLive, still]
    exact low
  · simp [link, upStays]
  · exact (by simp : (buildDue u).power = u.power).trans power
  · exact (by simp : (buildDue u).zones = u.zones).trans zones
  · rw [(buildDue_channels u c).2.2]
    exact stuck c off

/-! ## The supply-low flag (R6, R21, R22) -/

section
variable {c : Fin 8} {s : State}

/-- The state in which path loss leaves a channel. -/
theorem pathLostAt_state : ((pathLostAt c s).chan c).state = match (s.chan c).state with
    | .off => .off
    | .locked => .locked
    | .releasing => .releasing
    | .waiting | .armed | .energizing | .on | .disarming | .suspended => .suspended := by
  cases state : (s.chan c).state <;> simp [pathLostAt, state, oweHandBack_chan]

theorem pathLostAt_releasing (state : (s.chan c).state = .releasing) :
    (pathLostAt c s).chan c = { s.chan c with
      target := if (s.chan c).target = .off then .suspended else (s.chan c).target } := by
  simp only [pathLostAt, state, modChan_chan, if_pos]
  cases target : (s.chan c).target <;> simp

theorem pathReadyAt_suspended (state : (s.chan c).state = .suspended) : pathReadyAt c s = leaveSuspended c s := by
  simp only [pathReadyAt, state]

end

/-! ## A FEEDBACK bit over a path that stays ready -/

section
variable {c : Fin 8} {s : State}

theorem enterOn_leaves :
    (enterOn c s).sentBy c = s.sentBy c ∧
    ((enterOn c s).chan c).state = (if (s.chan c).demand = true then .on
      else match (s.cfg c).timing with | .marked => .disarming | .immediate => .releasing) ∧
    ((s.chan c).demand = true → ((enterOn c s).chan c).confirm = none) := by
  have entered : ((enterState .on c s).chan c).state = .on ∧ ((enterState .on c s).chan c).confirm = none ∧
      ((enterState .on c s).chan c).demand = (s.chan c).demand := by simp [confirmAtEntry]
  obtain ⟨on, stopped, demand⟩ := entered
  unfold enterOn
  dsimp only
  rw [demand]
  by_cases wanted : (s.chan c).demand = true
  · rw [if_pos wanted, if_pos wanted]
    exact ⟨(enterState_reads .on c c s).2.1, on, fun _ => stopped⟩
  · obtain ⟨sent, falls⟩ := fallFromOn_took c (enterState .on c s) on
    rw [(enterState_reads .on c c s).1] at falls
    rw [if_neg wanted, if_neg wanted, sent, (enterState_reads .on c c s).2.1]
    refine ⟨rfl, ?_, fun h => absurd h wanted⟩
    cases timing : (s.cfg c).timing <;> simp only [timing] at falls ⊢ <;> rw [falls]

theorem feedbackAt_on_steady {bits : Byte} (on : maskBit bits c = true) : (feedbackAt bits c s).sentBy c = s.sentBy c ∧
    match (s.chan c).state with
    | .energizing =>
      ((feedbackAt bits c s).chan c).state = (if (s.chan c).demand = true then .on
        else match (s.cfg c).timing with | .marked => .disarming | .immediate => .releasing) ∧
      ((s.chan c).demand = true → ((feedbackAt bits c s).chan c).confirm = none)
    | .on | .disarming => (feedbackAt bits c s).chan c = { s.chan c with offCheck := none }
    | .off | .waiting | .armed | .releasing | .suspended | .locked => (feedbackAt bits c s).chan c = s.chan c := by
  rw [feedbackAt_on on]
  cases state : (s.chan c).state <;> dsimp only
  case energizing =>
    have enters : feedbackInState true c s = enterOn c s := by simp only [feedbackInState, state, if_true]
    rw [enters]
    exact enterOn_leaves
  case on | disarming =>
    rw [feedbackInState_confirmedOn (by rw [state]; rfl)]
    simp
  case releasing =>
    rw [feedbackInState_releasing state, if_pos rfl]
    exact ⟨rfl, rfl⟩
  all_goals
    rw [feedbackInState_deaf (by rw [state]; rfl)]
    exact ⟨rfl, rfl⟩

theorem feedbackAt_off_steady {bits : Byte} (off : maskBit bits c = false) :
    ((feedbackAt bits c s).chan c).handBack = false ∧
    match (s.chan c).state with
    | .on | .disarming => ((feedbackAt bits c s).chan c).state = (s.chan c).state ∧
        ((feedbackAt bits c s).chan c).offCheck =
          match (s.chan c).offCheck with | none => some (s.now + 100) | some x => some x
    | .releasing =>
      ((s.chan c).target = .locked → ((feedbackAt bits c s).chan c).state = .locked ∧
        ((feedbackAt bits c s).chan c).causes = (s.chan c).causes) ∧
      ((s.chan c).target = .off → (s.chan c).demand = false →
        ((feedbackAt bits c s).chan c).state = .off ∧ ((feedbackAt bits c s).chan c).rearm = false) ∧
      ((s.chan c).handBack = false → (s.chan c).target = .locked →
        (feedbackAt bits c s).sentBy c = s.sentBy c ++ s.messageOf c .doneOffConfirmed)
    | .off | .waiting | .armed | .energizing | .suspended | .locked =>
      (feedbackAt bits c s).chan c = { s.chan c with handBack := false } ∧ (feedbackAt bits c s).sentBy c =
        s.sentBy c ++ if (s.chan c).handBack = true then s.messageOf c .doneOffConfirmed else [] := by
  obtain ⟨chan, sent⟩ := feedbackAt_off_leaves (s := s) off
  rw [chan, sent]
  refine ⟨rfl, ?_⟩
  cases state : (s.chan c).state <;> dsimp only
  case on | disarming =>
    rw [feedbackInState_confirmedOn (by rw [state]; rfl)]
    simp [state]
  case releasing =>
    rw [feedbackInState_releasing state, if_neg Bool.false_ne_true]
    refine ⟨fun target => ?_, fun target demand => ?_, fun free target => ?_⟩
    · rw [(completeRelease_locked target).1]
      exact ⟨rfl, rfl⟩
    · rw [(completeRelease_off target demand).1]
      exact ⟨rfl, rfl⟩
    · rw [(completeRelease_locked target).1, (completeRelease_locked target).2]
      simp [free]
  case energizing =>
    have stays : feedbackInState false c s = s := by simp [feedbackInState, state]
    rw [stays]
    exact ⟨rfl, rfl⟩
  all_goals
    rw [feedbackInState_deaf (by rw [state]; rfl)]
    exact ⟨rfl, rfl⟩

end

/-! ## A FEEDBACK bit after the path's event -/

section
variable {c : Fin 8} {s : State} {bits : Byte}

theorem feedbackAt_deaf (deaf : (s.chan c).state.deaf = true) :
    ((feedbackAt bits c s).chan c).state = (s.chan c).state := by
  cases bit : maskBit bits c
  · rw [(feedbackAt_off_leaves bit).1, feedbackInState_deaf deaf]
  · rw [feedbackAt_on bit, feedbackInState_deaf deaf]

/-- A reply showing the output off leaves a channel that has not been confirmed on where it is. -/
theorem feedbackAt_off_keeps (off : maskBit bits c = false)
    (state : (s.chan c).state.deaf = true ∨ (s.chan c).state = .energizing) :
    (feedbackAt bits c s).chan c = { s.chan c with handBack := false } := by
  rw [(feedbackAt_off_leaves off).1]
  rcases state with deaf | energizing
  · rw [feedbackInState_deaf deaf]
  · have stays : feedbackInState false c s = s := by simp [feedbackInState, energizing]
    rw [stays]

theorem startState_keeps (x : ChannelConfig) : x.startState.deaf = true ∨ x.startState = .energizing := by
  unfold ChannelConfig.startState
  split <;> simp [ChannelState.deaf]

theorem feedbackAt_lost (unready : s.pathReady = false) : match (s.chan c).state with
    | .off => ((feedbackAt bits c (pathLostAt c s)).chan c).state = .off
    | .locked => ((feedbackAt bits c (pathLostAt c s)).chan c).state = .locked
    | .releasing =>
      (maskBit bits c = true → ((feedbackAt bits c (pathLostAt c s)).chan c).state = .releasing) ∧
      ((s.chan c).target ≠ .locked → maskBit bits c = false →
        ((feedbackAt bits c (pathLostAt c s)).chan c).state = .suspended)
    | .waiting | .armed | .energizing | .on | .disarming | .suspended =>
      ((feedbackAt bits c (pathLostAt c s)).chan c).state = .suspended := by
  have lost := pathLostAt_state (c := c) (s := s)
  cases state : (s.chan c).state <;> simp only [state] at lost ⊢
  case releasing =>
    refine ⟨fun on => ?_, fun target off => ?_⟩
    · rw [feedbackAt_on on, feedbackInState_releasing lost, if_pos rfl, lost]
    · obtain ⟨rearm, chan, -⟩ := completeRelease_unready (c := c) (s := pathLostAt c s) 
        (by simpa [State.pathReady] using unready)
      rw [(feedbackAt_off_leaves off).1, feedbackInState_releasing lost, if_neg Bool.false_ne_true, chan,
        pathLostAt_releasing state]
      cases h : (s.chan c).target <;> simp_all [Target.rests]
  all_goals rw [feedbackAt_deaf (by rw [lost]; rfl), lost]

/-- A SUSPENDED channel whose path becomes ready, and whose output the reply shows off. -/
theorem feedbackAt_resumed (ready : s.pathReady = true) (off : maskBit bits c = false) :
    ((s.chan c).demand = false → ((feedbackAt bits c (leaveSuspended c s)).chan c).state = .off ∧
      ((feedbackAt bits c (leaveSuspended c s)).chan c).rearm = false) ∧
    ((s.chan c).demand = true → ((s.chan c).rearm || (s.cfg c).restart == .rearm) = true →
      ((feedbackAt bits c (leaveSuspended c s)).chan c).state = .off ∧
      ((feedbackAt bits c (leaveSuspended c s)).chan c).rearm = true) ∧
    ((s.chan c).demand = true → ((s.chan c).rearm || (s.cfg c).restart == .rearm) = false →
      (s.cfg c).enabled = true →
      ((feedbackAt bits c (leaveSuspended c s)).chan c).state = (s.cfg c).startState) := by
  refine ⟨fun demand => ?_, fun demand rearm => ?_, fun demand rearm enabled => ?_⟩
  · obtain ⟨state, rearm⟩ := leaveSuspended_idle demand
    rw [feedbackAt_off_keeps off (by rw [state]; exact .inl rfl)]
    exact ⟨state, rearm⟩
  · obtain ⟨state, rearm⟩ := leaveSuspended_pending demand rearm
    rw [feedbackAt_off_keeps off (by rw [state]; exact .inl rfl)]
    exact ⟨state, rearm⟩
  · have state := leaveSuspended_starts demand ready rearm enabled
    rw [feedbackAt_off_keeps off (by rw [state]; exact startState_keeps _)]
    exact state

end

theorem up_of_pathReady {s : State} (ready : s.pathReady = true) : s.link.up = true := by
  simp only [State.pathReady, Bool.and_eq_true] at ready
  exact ready.1

/-- With the flag clear as before, the path's event leaves each channel its bit alone. -/
theorem fedAt_steady {s : State} {f : Feedback} (ready : s.pathReady = true) (clear : f.supplyLow = false) (c : Fin 8) :
    s.fedAt f c = setFeedback f s := by
  simp [State.fedAt, ready, clear]

theorem fedAt_lost {s : State} {f : Feedback} (ready : s.pathReady = true) (low : f.supplyLow = true) (c : Fin 8) :
    s.fedAt f c = pathLostAt c (setFeedback f s) := by
  simp [State.fedAt, ready, low]

theorem fedAt_ready {s : State} {f : Feedback} (unready : s.pathReady = false) (clear : f.supplyLow = false)
    (c : Fin 8) : s.fedAt f c = pathReadyAt c (setFeedback f s) := by
  simp [State.fedAt, unready, clear]

/-- Settles O31: each channel meets what the flag makes of its path, and then its own bit. -/
theorem feedbackReply : Obligations.FeedbackReply := by
  refine ⟨fun s w f free running ready good kind low => ?_, fun s w f free running up good kind => ⟨?_, ?_⟩⟩
  · have up := up_of_pathReady ready
    obtain ⟨t, runs, feedback, flag, -, power, zones, stuck, like⟩ := feedback_received free running up good kind
    rw [low] at feedback flag
    refine ⟨t, runs, feedback, flag, power, zones, fun c => ?_⟩
    have alike := like c
    rw [fedAt_steady (s := s.linked (s.link.heard s.now)) ready low] at alike
    rw [alike.chan, alike.sent]
    refine ⟨fun off => ⟨stuck c off, ?_⟩, fun on => ?_, fun off => ?_⟩
    · exact (feedbackAt_off_steady off).1
    · exact feedbackAt_on_steady (s := setFeedback ⟨f.bits, f.supplyLow⟩ (s.linked (s.link.heard s.now))) on
    · exact (feedbackAt_off_steady (s := setFeedback ⟨f.bits, f.supplyLow⟩ (s.linked (s.link.heard s.now))) off).2
  · intro ready low
    obtain ⟨t, runs, feedback, flag, -, power, zones, stuck, like⟩ := feedback_received free running up good kind
    rw [low] at feedback flag
    refine ⟨t, runs, by simp [State.pathReady, feedback], flag, fun c => ?_⟩
    have alike := like c
    rw [fedAt_lost (s := s.linked (s.link.heard s.now)) ready low] at alike
    rw [alike.chan]
    exact feedbackAt_lost (s := setFeedback _ (s.linked (s.link.heard s.now)))
      (by simp [State.pathReady, setFeedback, low])
  · intro unready clear
    obtain ⟨t, runs, feedback, flag, upStays, power, zones, stuck, like⟩ := feedback_received free running up good kind
    rw [clear] at feedback flag
    refine ⟨t, runs, by simp [State.pathReady, feedback, upStays], flag, fun c state off => ?_⟩
    have alike := like c
    rw [fedAt_ready (s := s.linked (s.link.heard s.now)) unready clear,
      pathReadyAt_suspended (s := setFeedback _ (s.linked (s.link.heard s.now))) state] at alike
    rw [alike.chan]
    exact feedbackAt_resumed (s := setFeedback _ (s.linked (s.link.heard s.now)))
      (by rw [setFeedback_pathReady (s := s.linked (s.link.heard s.now)) up, clear]; rfl) off

end Sys2Proof.Machine
end

section
/-! PROOFS. A diagnostic reply at the fault records and at the channels, and the FAULT frame of a first occurrence
(O32). -/

namespace Sys2Proof.Machine

open Sys2Proof

/-! ## A live value taken at a channel (R144 to R146) -/

/-- The fault record after a live value of a power kind, in a node that is RUNNING. -/
def FaultRecord.takes (r : FaultRecord) (k : PowerKind) (b : Bool) (m : Half) : FaultRecord :=
  if (b && !(r.kinds.get k.kind).live) = true then
    FaultRecord.occur { r with kinds := r.kinds.set k.kind { r.kinds.get k.kind with live := b } } k.kind m
  else { r with kinds := r.kinds.set k.kind { r.kinds.get k.kind with live := b } }

theorem FaultRecord.takes_rising {r : FaultRecord} {k : PowerKind} {b : Bool}
    (rises : (b && !(r.kinds.get k.kind).live) = true) (m : Half) : r.takes k b m =
      FaultRecord.occur { r with kinds := r.kinds.set k.kind { r.kinds.get k.kind with live := b } } k.kind m :=
  if_pos rises

theorem FaultRecord.takes_still {r : FaultRecord} {k : PowerKind} {b : Bool}
    (still : (b && !(r.kinds.get k.kind).live) = false) (m : Half) :
    r.takes k b m = { r with kinds := r.kinds.set k.kind { r.kinds.get k.kind with live := b } } :=
  if_neg (by rw [still]; exact Bool.false_ne_true)

/-- Alike for a channel, and of the same fault record and mark number. -/
structure AlikeRecord (c : Fin 8) (s t : State) : Prop extends Alike c s t where
  record : t.faultRec c = s.faultRec c
  marks : t.marks = s.marks

theorem latches_kind (mask : PerPower Bool) (k : PowerKind) : latches mask k.kind = mask.get k := by
  cases k <;> rfl

theorem forceCause_faults (k : Cause) (c : Fin 8) (s : State) : (forceCause k c s).faults = s.faults := by
  have entered (x : ChannelState) (u : State) (same : (u.chan c).state = (s.chan c).state)
      (stays : ((s.chan c).state.isLocked && !x.isLocked) = false) : (enterState x c u).faults = u.faults :=
    enterState_faults (by rw [same]; exact stays)
  unfold forceCause
  dsimp only
  split
  · rfl
  · cases state : (s.chan c).state <;> dsimp only
    case locked => simp [addCause]
    case releasing => rfl
    case energizing | on | disarming =>
      exact (entered .releasing (addCause k c s) (by simp [addCause]) (by simp [state, ChannelState.isLocked]))
    all_goals
      rw [entered .locked _ (by simp [addCause]) (by simp [state, ChannelState.isLocked])]
      simp [addCause]

/-- From s to t a live value of a power kind is taken on channel c of a RUNNING node. -/
structure State.tookLive (s t : State) (k : PowerKind) (b : Bool) (c : Fin 8) : Prop where
  record : t.faultRec c = (s.faultRec c).takes k b s.marks.number
  channel : if (b && !((s.faultRec c).kinds.get k.kind).live && (s.cfg c).latchMask.get k) = true
    then s.forced t .fault c else s.sameChannel t c

theorem AlikeRecord.tookLive {c : Fin 8} {s u v t : State} {k : PowerKind} {b : Bool} (before : AlikeRecord c s u)
    (after : AlikeRecord c v t) (h : u.tookLive v k b c) : s.tookLive t k b c where
  record := by rw [after.record, h.record, before.record, before.marks]
  channel := by
    have channel := h.channel
    rw [before.record, before.cfg] at channel
    split
    next rises =>
      rw [if_pos rises] at channel
      exact before.toAlike.symm.forced after.toAlike channel
    next still =>
      rw [if_neg still] at channel
      exact before.toAlike.symm.sameChannel after.toAlike channel

theorem takeLive_took {s : State} (running : s.running = true) (k : PowerKind) (b : Bool) (c : Fin 8) :
    s.tookLive (takeLive k b c s) k b c := by
  have set : (setLive c k.kind b s).faultRec c = { s.faultRec c with
      kinds := (s.faultRec c).kinds.set k.kind { (s.faultRec c).kinds.get k.kind with live := b } } := by
    rw [setLive_faultRec, if_pos rfl]
  have same : s.sameChannel (setLive c k.kind b s) c := ⟨(setLive_channel c c k.kind b s).1,
    (setLive_channel c c k.kind b s).2.1⟩
  have mark : (setLive c k.kind b s).marks = s.marks := by simp
  cases rises : b && !((s.faultRec c).kinds.get k.kind).live
  · have stays : takeLive k b c s = setLive c k.kind b s := if_neg (by simp [rises])
    rw [stays]
    refine ⟨by rw [set, FaultRecord.takes_still rises], ?_⟩
    rw [rises, Bool.false_and, if_neg Bool.false_ne_true]
    exact same
  · generalize counted : trackErr (setRecord c (((setLive c k.kind b s).faultRec c).occur k.kind s.marks.number))
      (setLive c k.kind b s) = u
    have occurs : takeLive k b c s = if (s.cfg c).latchMask.get k = true then forceCause .fault c u else u := by
      have runs : takeLive k b c s = occurrence k.kind c (setLive c k.kind b s) :=
        if_pos (by rw [rises, running, Bool.and_self])
      rw [runs, occurrence, mark, counted, (setLive_channel c c k.kind b s).2.2, latches_kind]
    have like : Alike c s u := by
      have tracked (r : FaultRecord) (v : State) : (trackErr (setRecord c r) v).now = v.now ∧
          (trackErr (setRecord c r) v).loader = v.loader ∧ (trackErr (setRecord c r) v).link = v.link := by
        unfold trackErr
        dsimp only
        split <;> simp
      rw [← counted]
      exact ⟨by simp [tracked], by simp [tracked], by simp [tracked], by simp, by simp, by simp⟩
    have record : u.faultRec c = (s.faultRec c).takes k b s.marks.number := by
      rw [← counted, trackRecord_faultRec, if_pos rfl, set, FaultRecord.takes_rising rises]
    rw [occurs]
    cases latch : (s.cfg c).latchMask.get k
    · refine ⟨record, ?_⟩
      rw [rises, latch, if_neg (by decide)]
      exact like.same
    · refine ⟨?_, ?_⟩
      · rw [if_pos rfl, State.faultRec, forceCause_faults]
        exact record
      · rw [rises, latch, if_pos (by decide), if_pos rfl]
        exact like.symm.forced (.refl c _) (forceCause_forced .fault c u)

/-- A diagnostic reply is, for each channel, its own bit. -/
theorem takeDiagnostic_took {s : State} (running : s.running = true) (k : PowerKind) (bits : Byte) (c : Fin 8) :
    s.tookLive (takeDiagnostic k bits s) k (maskBit bits c) c := by
  have others (d : Fin 8) (other : d ≠ c) (u : State) : AlikeRecord c u (takeLive k (maskBit bits d) d u) := by
    have kept := takeLive_local k (maskBit bits d) (Ne.symm other) u
    exact ⟨⟨by simp, by simp, by simp, by simp, kept.1, kept.2.1⟩, kept.2.2, by simp⟩
  obtain ⟨u, before, after⟩ := each8_around (R := AlikeRecord c) (f := fun c s => takeLive k (maskBit bits c) c s)
    (fun _ => ⟨.refl c _, rfl, rfl⟩)
    (fun h k => ⟨h.toAlike.trans k.toAlike, k.record.trans h.record, k.marks.trans h.marks⟩) c others s
  have runs : u.running = true := by rw [State.running, before.loader]; exact running
  exact before.tookLive after (takeLive_took runs k (maskBit bits c) c)

/-! ### The record and the channel after it -/

section
variable {r : FaultRecord} {k : PowerKind} {b : Bool} {m : Half}

theorem FaultRecord.takes_other {j : FaultKind} (other : j ≠ k.kind) : (r.takes k b m).kinds.get j = r.kinds.get j := by
  unfold FaultRecord.takes
  split
  · rw [FaultRecord.occur_counts, if_neg other, PerKind.get_set, if_neg other]
  · rw [PerKind.get_set, if_neg other]

theorem FaultRecord.takes_counts (rises : (b && !(r.kinds.get k.kind).live) = true) :
    (r.takes k b m).kinds.get k.kind = { r.kinds.get k.kind with live := b }.counts m := by
  rw [takes_rising rises, FaultRecord.occur_counts, if_pos rfl, PerKind.get_set, if_pos rfl]

theorem FaultRecord.takes_keeps (still : (b && !(r.kinds.get k.kind).live) = false) :
    (r.takes k b m).kinds.get k.kind = { r.kinds.get k.kind with live := b } := by
  rw [takes_still still, PerKind.get_set, if_pos rfl]

theorem FaultRecord.takes_live : ((r.takes k b m).kinds.get k.kind).live = b := by
  cases rises : b && !(r.kinds.get k.kind).live
  · rw [takes_keeps rises]
  · rw [takes_counts rises]
    rfl

/-- A first occurrence makes a FAULT frame pending, with the mark number of the moment (R146). -/
theorem FaultRecord.takes_first (rises : (b && !(r.kinds.get k.kind).live) = true)
    (first : (r.kinds.get k.kind).sticky = false) :
    (r.takes k b m).waiting = true ∧ (r.takes k b m).newest = some m := by
  rw [takes_rising rises]
  simp [FaultRecord.occur, first]

end

/-- A forced cause is in the set, and takes a driven channel that did not have it out of its driven state (R19). -/
theorem forced_driven {s t : State} {k : Cause} {c : Fin 8} (forced : s.forced t k c) :
    (t.chan c).causes.has k = true ∧
    (t.chan c).state.driven = ((s.chan c).state.driven && (s.chan c).causes.has k) := by
  unfold State.forced at forced
  dsimp only at forced
  split at forced
  next has =>
    rw [forced.1, has, Bool.and_true]
    exact ⟨rfl, rfl⟩
  next absent =>
    obtain ⟨causes, -, -, -, -, state, -⟩ := forced
    rw [causes, state, CauseSet.has_put, if_pos rfl, Bool.eq_false_iff.mpr absent, Bool.and_false]
    refine ⟨rfl, ?_⟩
    cases (s.chan c).state <;> rfl

/-! ## The FAULT frames due, in a queue with room (R148) -/

theorem offer_in_room_sets {s : State} (room : s.bus.queue.length < 12) (f : Frame) :
    ∃ l, (offer f s).1 = setQueue l s := by
  have here : s = setQueue s.bus.queue s := rfl
  unfold offer
  split
  · exact ⟨_, here⟩
  · split
    · split
      · exact ⟨_, rfl⟩
      · split
        · exact ⟨_, rfl⟩
        · exact ⟨_, here⟩
    · rw [queueCapacity, if_pos room]
      exact ⟨_, rfl⟩

theorem sameLimit_fault (a : Frame) (c : Fin 8) (live sticky : KindSet) (mark : Half) :
    sameLimit a (.fault c live sticky mark) = isFaultOf c a := by
  cases a <;> rfl

/-- A FAULT frame of channel c is due: it is pending, none of the channel is queued, and it may be built (R148). -/
structure FaultDue (c : Fin 8) (s : State) : Prop where
  waiting : (s.faultRec c).waiting = true
  unblocked : s.faults.blocked = false
  onLine : s.bus.state = .onLine
  absent : ∀ q ∈ s.bus.queue, isFaultOf c q.frame = false

theorem FaultDue.queues {c : Fin 8} {s : State} (due : FaultDue c s) : s.queues (isFaultOf c) = false := by
  simpa [State.queues] using due.absent

theorem offer_faults (f : Frame) (c : Fin 8) (s : State) :
    ((s.faultRec c).waiting = true → ((offer f s).1.faultRec c).waiting = true) ∧
    (offer f s).1.faults.blocked = s.faults.blocked := by
  have raised (u : State) (same : u.faults = s.faults) :
      (raiseFlag .queueOverflow u).faultRec c = s.faultRec c ∧
      (raiseFlag .queueOverflow u).faults.blocked = s.faults.blocked := by
    rw [State.faultRec, (raiseFlag_records ..).1, (raiseFlag_records ..).2, same]
    exact ⟨rfl, rfl⟩
  have noticed (g : Frame) (u : State) (same : u.faultRec c = s.faultRec c ∧ u.faults.blocked = s.faults.blocked) :
      ((s.faultRec c).waiting = true → ((displacedNotice g u).faultRec c).waiting = true) ∧
      (displacedNotice g u).faults.blocked = s.faults.blocked := by
    obtain ⟨record, blocked⟩ := same
    rw [← record, ← blocked]
    unfold displacedNotice
    split
    · simp [State.faultRec]
    next d _ _ _ =>
      refine ⟨fun waits => ?_, by simp [setFaultWaiting]⟩
      simp only [State.faultRec, setFaultWaiting, setRecord, Eight.get_set]
      split
      · rfl
      · exact waits
    · exact ⟨id, rfl⟩
  unfold offer
  (repeat' split) <;>
    first
      | exact ⟨id, rfl⟩
      | exact noticed _ _ (raised _ rfl)
      | exact ⟨fun waits => by rw [(raised s rfl).1]; exact waits, (raised s rfl).2⟩

theorem FaultDue.offer {c : Fin 8} {s : State} (due : FaultDue c s) {f : Frame} (other : f.code ≠ 7) :
    FaultDue c (offer f s).1 where
  waiting := (offer_faults f c s).1 due.waiting
  unblocked := (offer_faults f c s).2.trans due.unblocked
  onLine := by simpa using due.onLine
  absent q inside := by
    rcases mem_offer inside with here | code
    · exact due.absent q here
    · cases q with
      | mk frame age retries onLine => cases frame <;> first | rfl | exact absurd code.symm other

theorem FaultDue.claimIfDue {c : Fin 8} {s : State} (due : FaultDue c s) (e : Fin 8) : FaultDue c (claimIfDue e s) := by
  have claim (d : Fin 8) : FaultDue c (claimGroup e d s) := by
    have moved : FaultDue c (modEntry e (fun x => { x.moved .claiming with claimChannel := some d }) s) :=
      ⟨due.waiting, due.unblocked, due.onLine, due.absent⟩
    have offered := moved.offer (f := .claim (s.member e).group d) (by simp [Frame.code])
    unfold claimGroup
    dsimp only
    split
    · exact offered
    · exact ⟨by simpa [State.faultRec] using offered.waiting, by simpa using offered.unblocked,
        by simpa using offered.onLine, by simpa using offered.absent⟩
  unfold Machine.claimIfDue
  (repeat' split) <;> first | exact due | exact claim _

/-- The state with a FAULT frame of channel d in the queue, and the channel's frame no longer pending. -/
def State.faultBuilt (s : State) (d : Fin 8) : State :=
  setFaultWaiting false d (setQueue (insertByCode (newEntry s.now (faultFrame s d)) s.bus.queue) s)

theorem faultBuilt_record (s : State) (c d : Fin 8) :
    (s.faultBuilt d).faultRec c = if c = d then { s.faultRec c with waiting := false } else s.faultRec c := by
  simp only [State.faultBuilt, State.faultRec, setFaultWaiting, setRecord, Eight.get_set]
  split
  next own => rw [own]; rfl
  next => rfl

theorem mem_faultBuilt {s : State} {d : Fin 8} {q : Queued} : q ∈ (s.faultBuilt d).bus.queue ↔
    q = newEntry s.now (faultFrame s d) ∨ q ∈ s.bus.queue := by
  have perm := insertByCode_perm (newEntry s.now (faultFrame s d)) s.bus.queue
  exact perm.mem_iff.trans List.mem_cons

theorem faultBuilt_due {s : State} {c d : Fin 8} (other : c ≠ d) (due : FaultDue c s) : FaultDue c (s.faultBuilt d) where
  waiting := by rw [faultBuilt_record, if_neg other]; exact due.waiting
  unblocked := due.unblocked
  onLine := due.onLine
  absent q inside := by
    rcases mem_faultBuilt.mp inside with rfl | here
    · exact decide_eq_false (Ne.symm other)
    · exact due.absent q here

/-- In a queue with room a FAULT frame that is due joins it, and no other is refused. -/
theorem buildFault_in_room {s : State} (room : s.bus.queue.length < 12) (d : Fin 8) :
    (buildFault d s = s ∧ ¬ FaultDue d s) ∨ (FaultDue d s ∧ buildFault d s = s.faultBuilt d) := by
  by_cases due : FaultDue d s
  · have free : ∀ x ∈ s.bus.queue, sameLimit x.frame (faultFrame s d) = false := fun x inside =>
      (sameLimit_fault ..).trans (due.absent x inside)
    have taken := offer_of_room (f := faultFrame s d) (by rw [due.onLine]; rfl) free room
    refine .inr ⟨due, ?_⟩
    rw [buildFault, if_pos (by simp [due.waiting, due.queues, due.onLine, due.unblocked]), taken]
    rfl
  · refine .inl ⟨if_neg fun h => due ?_, due⟩
    simp only [Bool.and_eq_true, Bool.not_eq_true', beq_iff_eq] at h
    obtain ⟨⟨⟨waiting, absent⟩, onLine⟩, unblocked⟩ := h
    exact ⟨waiting, unblocked, onLine, by simpa [State.queues] using absent⟩

theorem faultFrame_congr {c : Fin 8} {s t : State} (kinds : (t.faultRec c).kinds = (s.faultRec c).kinds)
    (newest : (t.faultRec c).newest = (s.faultRec c).newest) : faultFrame t c = faultFrame s c := by
  simp only [faultFrame, FaultRecord.live, FaultRecord.sticky, kinds, newest]

/-- With room for eight, the FAULT frame of a channel is built. -/
theorem buildFaults_builds {c : Fin 8} {s : State} (due : FaultDue c s) (room : s.bus.queue.length + 8 ≤ 12) :
    (buildFaults s).bus.queue.length ≤ s.bus.queue.length + 8 ∧ ((buildFaults s).faultRec c).waiting = false ∧
      ∃ q ∈ (buildFaults s).bus.queue, q.frame = faultFrame s c := by
  have all := each8_counted (f := buildFault) (s := s) (P := fun n u => n ≤ 8 →
    u.bus.queue.length ≤ s.bus.queue.length + n ∧
    (n ≤ c.val → FaultDue c u ∧ faultFrame u c = faultFrame s c) ∧
    (c.val < n → (u.faultRec c).waiting = false ∧ ∃ q ∈ u.bus.queue, q.frame = faultFrame s c))
    (fun d u before bound => ?_) (fun _ => ⟨Nat.le_refl _, fun _ => ⟨due, rfl⟩, fun h => absurd h (Nat.not_lt_zero _)⟩)
  · obtain ⟨length, -, built⟩ := all (Nat.le_refl 8)
    exact ⟨length, built c.isLt⟩
  · obtain ⟨length, still, built⟩ := before (by omega)
    rcases buildFault_in_room (s := u) (by omega) d with ⟨same, idle⟩ | ⟨ready, builds⟩
    · rw [same]
      refine ⟨by omega, fun later => still (by omega), fun past => ?_⟩
      rcases Nat.lt_succ_iff_lt_or_eq.mp past with past | here
      · exact built past
      · obtain rfl : c = d := Fin.ext here
        exact absurd (still (Nat.le_refl _)).1 idle
    · have perm := insertByCode_perm (newEntry u.now (faultFrame u d)) u.bus.queue
      have longer : (u.faultBuilt d).bus.queue.length = u.bus.queue.length + 1 := perm.length_eq
      rw [builds, longer]
      refine ⟨by omega, fun later => ?_, fun past => ?_⟩
      · obtain ⟨dueStill, frame⟩ := still (by omega)
        have other : c ≠ d := fun same => by rw [same] at later; omega
        have record := faultBuilt_record u c d
        rw [if_neg other] at record
        exact ⟨faultBuilt_due other dueStill, (faultFrame_congr (by rw [record]) (by rw [record])).trans frame⟩
      · rcases Nat.lt_succ_iff_lt_or_eq.mp past with past | here
        · obtain ⟨done, q, inside, frame⟩ := built past
          have other : c ≠ d := fun same => by rw [same] at past; omega
          rw [faultBuilt_record, if_neg other]
          exact ⟨done, q, mem_faultBuilt.mpr (.inr inside), frame⟩
        · obtain rfl : c = d := Fin.ext here
          rw [faultBuilt_record, if_pos rfl]
          exact ⟨rfl, _, mem_faultBuilt.mpr (.inl rfl), (still (Nat.le_refl _)).2⟩

theorem buildPoints_in_room {s : State} (room : s.bus.queue.length < 12) :
    (buildPoints s).faults.records = s.faults.records := by
  have offered (f : Frame) (u : State) (same : u.bus = s.bus) : (offer f u).1.faults = u.faults := by
    obtain ⟨l, sets⟩ := offer_in_room_sets (s := u) (by rw [same]; exact room) f
    rw [sets]
    rfl
  unfold buildPoints offerOnly
  generalize pendingPairs s pairsPerFrame s.config.publications s.pubs.entries = pairs
  dsimp only
  split
  · split
    · exact congrArg FaultTable.records (offered _ (setPubs _ s) rfl)
    · rw [setPubBlocked_faults, offered _ s rfl]
  · rfl

/-- Where the queue has room for all that may be due, a FAULT frame that is due is built with what its record holds. -/
theorem buildDue_builds_fault {c : Fin 8} {s : State} (due : FaultDue c s)
    (room : s.bus.queue.length + s.groups.length + 8 ≤ 11) : ((buildDue s).faultRec c).waiting = false ∧
      ∃ q ∈ (buildDue s).bus.queue, q.frame = faultFrame s c := by
  obtain ⟨-, length, -⟩ := claims_in_room (s := s) (by omega)
  have claimed : FaultDue c (each8 claimIfDue s) :=
    each8_relates (R := fun s t => FaultDue c s → FaultDue c t) (fun _ => id) (fun h k => k ∘ h)
      (fun e _ due => due.claimIfDue e) s due
  have frame : faultFrame (each8 claimIfDue s) c = faultFrame s c :=
    faultFrame_congr (each8_keeps (fun u : State => (u.faultRec c).kinds) _ (by simp [State.faultRec]) s)
      (each8_keeps (fun u : State => (u.faultRec c).newest) _ (by simp [State.faultRec]) s)
  obtain ⟨longer, built, q, inside, same⟩ := buildFaults_builds claimed (by omega)
  rw [buildDue]
  refine ⟨?_, q, buildPoints_stays _ inside (by rw [same]; simp [faultFrame, Frame.code]), same.trans frame⟩
  rw [State.faultRec, buildPoints_in_room (by omega)]
  exact built

/-! ## The reply (R127) -/

/-- What a diagnostic reply over a link that is UP brings about, before the frames due. -/
theorem exec_diagnostic {s : State} {w : BitVec 18} {f : GoodReply} {k : PowerKind} (free : s.held = false)
    (up : s.link.up = true) (good : judgeReply w = some f) (kind : f.kind = .diagnostic k) :
    exec (.replyReceived w) s = .next (buildDue (takeDiagnostic k f.bits (s.linked (s.link.heard s.now)))) := by
  have delivered : goodSlot f s = takeDiagnostic k f.bits (s.linked (s.link.heard s.now)) := by
    rw [goodSlot_up f up, deliver, kind]
  rw [exec_replyReceived free good, delivered]

/-- A kind that is sticky asserts ERR (R150). -/
theorem err_of_sticky {s : State} {c : Fin 8} {k : FaultKind} (sticky : ((s.faultRec c).kinds.get k).sticky = true) :
    s.err = true :=
  (errAndIrqPins s).1.mpr (.inr (.inr ⟨c, k, sticky⟩))

theorem tookLive_of_linked {s t : State} {l : Link} {k : PowerKind} {b : Bool} {c : Fin 8}
    (h : (s.linked l).tookLive t k b c) : s.tookLive t k b c := ⟨h.record, h.channel⟩

theorem State.tookLive.quiet {s t : State} {k : PowerKind} {b : Bool} {c : Fin 8} (h : s.tookLive t k b c)
    (quiet : (b && !((s.faultRec c).kinds.get k.kind).live && (s.cfg c).latchMask.get k) = false) :
    s.sameChannel t c := by
  have channel := h.channel
  rwa [quiet, if_neg Bool.false_ne_true] at channel

theorem State.tookLive.latched {s t : State} {k : PowerKind} {b : Bool} {c : Fin 8} (h : s.tookLive t k b c)
    (rises : (b && !((s.faultRec c).kinds.get k.kind).live && (s.cfg c).latchMask.get k) = true) :
    s.forced t .fault c := by
  have channel := h.channel
  rwa [if_pos rises] at channel

theorem takeLive_blocked (k : PowerKind) (b : Bool) (c : Fin 8) (s : State) :
    (takeLive k b c s).faults.blocked = s.faults.blocked := by
  have set (u : State) : (setLive c k.kind b u).faults.blocked = u.faults.blocked := by
    unfold setLive
    dsimp only
    split <;> simp [setRecord]
  have counted (r : FaultRecord) (u : State) : (trackErr (setRecord c r) u).faults.blocked = u.faults.blocked := by
    rw [trackErr_same.1]
    rfl
  unfold takeLive occurrence
  dsimp only
  split
  · split
    · rw [forceCause_faults, counted, set]
    · rw [counted, set]
  · exact set s

theorem takeDiagnostic_blocked (k : PowerKind) (bits : Byte) (s : State) :
    (takeDiagnostic k bits s).faults.blocked = s.faults.blocked :=
  each8_keeps (fun u : State => u.faults.blocked) _ (fun c u => takeLive_blocked k (maskBit bits c) c u) s

theorem takeDiagnostic_feedback (k : PowerKind) (bits : Byte) (s : State) :
    (takeDiagnostic k bits s).channels.feedback = s.channels.feedback :=
  each8_keeps (fun u : State => u.channels.feedback) _ (by simp) s

/-- Settles O32: each channel takes its own bit, and the frames due take up what a first occurrence made pending. -/
theorem diagnosticReply : Obligations.DiagnosticReply := by
  refine ⟨fun s w f k free running up good kind => ?_, fun s w f k c free running up good kind bit dead first => ?_⟩
  · have took (c : Fin 8) := tookLive_of_linked
      (takeDiagnostic_took (s := s.linked (s.link.heard s.now)) running k f.bits c)
    have feedback : (takeDiagnostic k f.bits (s.linked (s.link.heard s.now))).channels.feedback = s.channels.feedback :=
      takeDiagnostic_feedback k f.bits _
    refine ⟨_, exec_diagnostic free up good kind, by simp; rfl, by simp; rfl, by simp [feedback], fun c => ?_⟩
    have record := (took c).record
    have quiet := (took c).quiet
    have latched := (took c).latched
    generalize takeDiagnostic k f.bits (s.linked (s.link.heard s.now)) = u at *
    obtain ⟨chan, sent, kinds⟩ := buildDue_channels u c
    dsimp only
    rw [kinds, record, chan, sent]
    refine ⟨FaultRecord.takes_live, fun j other => FaultRecord.takes_other other, fun still => ?_, fun rises => ?_⟩
    · exact ⟨FaultRecord.takes_keeps still, quiet (by rw [still, Bool.false_and])⟩
    · rw [FaultRecord.takes_counts rises]
      refine ⟨rfl, rfl, rfl, fun unlatched => ?_, fun latch => ?_⟩
      · exact (quiet (by rw [unlatched, Bool.and_false])).1
      · exact forced_driven (latched (by rw [rises, latch, Bool.and_self]))
  · have took := tookLive_of_linked
      (takeDiagnostic_took (s := s.linked (s.link.heard s.now)) running k f.bits c)
    have rises : (maskBit f.bits c && !((s.faultRec c).kinds.get k.kind).live) = true := by rw [bit, dead]; rfl
    have record := took.record
    have acts := exec_diagnostic free up good kind
    have same : (takeDiagnostic k f.bits (s.linked (s.link.heard s.now))).bus = s.bus ∧
        (takeDiagnostic k f.bits (s.linked (s.link.heard s.now))).groups = s.groups ∧
        (takeDiagnostic k f.bits (s.linked (s.link.heard s.now))).faults.blocked = s.faults.blocked := by
      exact ⟨by simp; rfl, by simp; rfl, takeDiagnostic_blocked k f.bits _⟩
    generalize takeDiagnostic k f.bits (s.linked (s.link.heard s.now)) = u at *
    obtain ⟨bus, groups, blocked⟩ := same
    obtain ⟨waiting, newest⟩ := FaultRecord.takes_first (m := s.marks.number) rises first
    have counts := FaultRecord.takes_counts (m := s.marks.number) rises
    rw [← record] at waiting newest counts
    have sticky : ((u.faultRec c).kinds.get k.kind).sticky = true := by rw [counts]; rfl
    have err : (buildDue u).err = true :=
      err_of_sticky (c := c) (k := k.kind) (by rw [(buildDue_channels u c).2.2]; exact sticky)
    refine ⟨fun offLine => ?_, fun onLine unblocked absent room => ?_⟩
    · refine ⟨_, acts, ?_⟩
      rw [buildDue_of_not_onLine (by rw [State.onLine, bus]; simpa using offLine)] at err ⊢
      exact ⟨waiting, newest, err⟩
    · obtain ⟨built, q, inside, frame⟩ := buildDue_builds_fault (c := c) (s := u)
        ⟨waiting, by rw [blocked, unblocked], by rw [bus, onLine], by rw [bus]; exact absent⟩
        (by rw [bus, groups]; omega)
      refine ⟨_, acts, built, err, q, inside, ?_⟩
      rw [frame, (buildDue_channels u c).2.2]
      simp only [faultFrame, FaultRecord.live, FaultRecord.sticky, newest, Option.getD_some]

end Sys2Proof.Machine
end

section
/-! PROOFS. The link state by the runs of slots, and the event that brings the link UP: the latest FEEDBACK reply judges
the path and gives the channels their bits, the latest diagnostic replies become the live values (O28). -/

namespace Sys2Proof.Machine

open Sys2Proof

/-! ## Forced causes, one after the other -/

theorem forced_of_same {s t u : State} {k : Cause} {c : Fin 8} (same : s.sameChannel t c) (cfg : t.cfg c = s.cfg c)
    (forced : t.forced u k c) : s.forced u k c := by
  have message : t.messageOf c = s.messageOf c := by
    funext m
    simp only [State.messageOf, cfg]
  simpa only [State.forced, same.1, same.2, message] using forced

/-- A cause that is in the set already forces nothing more. -/
theorem forced_again {s t u : State} {k : Cause} {c : Fin 8} (once : s.forced t k c) (again : t.forced u k c) :
    s.forced u k c := by
  have has := (forced_driven once).1
  unfold State.forced at again
  dsimp only at again
  rw [if_pos has] at again
  simpa only [State.forced, again.1, again.2] using once

theorem same_of_forced {s t u : State} {k : Cause} {c : Fin 8} (forced : s.forced t k c) (same : t.sameChannel u c) :
    s.forced u k c := by
  simpa only [State.forced, same.1, same.2] using forced

/-! ## A latest diagnostic reply taken -/

/-- A kind's record after the latest diagnostic reply of its kind, if there is one. -/
def KindRecord.took (x : KindRecord) (b : Option Bool) (running : Bool) (m : Half) : KindRecord :=
  match b with
  | none => x
  | some b => if (running && b && !x.live) = true then { x with live := b }.counts m else { x with live := b }

/-- A latest reply of a kind latches FAULT on channel c. -/
def State.latches (s : State) (l : LatestReplies) (c : Fin 8) (k : PowerKind) : Bool :=
  match l.diagnostics.get k with
  | some bits => s.running && maskBit bits c && !((s.faultRec c).kinds.get k.kind).live && (s.cfg c).latchMask.get k
  | none => false

theorem latches_some {l : LatestReplies} {k : PowerKind} {bits : Byte} (latest : l.diagnostics.get k = some bits)
    (s : State) (c : Fin 8) : s.latches l c k = (s.running && maskBit bits c &&
      !((s.faultRec c).kinds.get k.kind).live && (s.cfg c).latchMask.get k) := by
  simp only [State.latches, latest]

/-- From s to t the latest diagnostic reply of a kind is taken on channel c. -/
structure TookLatest (l : LatestReplies) (k : PowerKind) (c : Fin 8) (s t : State) : Prop where
  loader : t.loader = s.loader
  marks : t.marks = s.marks
  kinds : ∀ j, (t.faultRec c).kinds.get j =
    if j = k.kind then ((s.faultRec c).kinds.get k.kind).took ((l.diagnostics.get k).map (maskBit · c)) s.running
      s.marks.number
    else (s.faultRec c).kinds.get j
  channel : if s.latches l c k = true then s.forced t .fault c else s.sameChannel t c

/-- In a node that is not RUNNING a diagnostic reply sets the live values alone. -/
theorem takeDiagnostic_idle {s : State} (idle : s.running = false) (k : PowerKind) (bits : Byte) (c : Fin 8) :
    (takeDiagnostic k bits s).faultRec c = { s.faultRec c with
      kinds := (s.faultRec c).kinds.set k.kind { (s.faultRec c).kinds.get k.kind with live := maskBit bits c } } ∧
    s.sameChannel (takeDiagnostic k bits s) c := by
  have others (d : Fin 8) (other : d ≠ c) (u : State) : AlikeRecord c u (takeLive k (maskBit bits d) d u) := by
    have kept := takeLive_local k (maskBit bits d) (Ne.symm other) u
    exact ⟨⟨by simp, by simp, by simp, by simp, kept.1, kept.2.1⟩, kept.2.2, by simp⟩
  obtain ⟨u, before, after⟩ := each8_around (R := AlikeRecord c) (f := fun c s => takeLive k (maskBit bits c) c s)
    (fun _ => ⟨.refl c _, rfl, rfl⟩)
    (fun h k => ⟨h.toAlike.trans k.toAlike, k.record.trans h.record, k.marks.trans h.marks⟩) c others s
  have rests : u.running = false := by rw [State.running, before.loader]; exact idle
  have sets : takeLive k (maskBit bits c) c u = setLive c k.kind (maskBit bits c) u :=
    if_neg (by rw [rests, Bool.and_false]; exact Bool.false_ne_true)
  rw [sets] at after
  constructor
  · rw [takeDiagnostic, after.record, setLive_faultRec, if_pos rfl, before.record]
  · exact ⟨by rw [takeDiagnostic, after.chan, (setLive_channel c c _ _ u).1, before.chan],
      by rw [takeDiagnostic, after.sent, (setLive_channel c c _ _ u).2.1, before.sent]⟩

theorem deliverLatest_none {l : LatestReplies} {k : PowerKind} (latest : l.diagnostics.get k = none) (s : State) :
    deliverLatest l k s = s := by
  simp only [deliverLatest, latest]

theorem deliverLatest_some {l : LatestReplies} {k : PowerKind} {bits : Byte} (latest : l.diagnostics.get k = some bits)
    (s : State) : deliverLatest l k s = takeDiagnostic k bits s := by
  simp only [deliverLatest, latest]

theorem deliverLatest_took (l : LatestReplies) (k : PowerKind) (c : Fin 8) (s : State) :
    TookLatest l k c s (deliverLatest l k s) := by
  cases latest : l.diagnostics.get k with
  | none =>
    rw [deliverLatest_none latest]
    refine ⟨rfl, rfl, fun j => ?_, ?_⟩
    · by_cases own : j = k.kind
      · rw [own, latest, if_pos rfl]
        rfl
      · rw [if_neg own]
    · rw [State.latches, latest, if_neg Bool.false_ne_true]
      exact ⟨rfl, rfl⟩
  | some bits =>
    rw [deliverLatest_some latest]
    have loader : (takeDiagnostic k bits s).loader = s.loader := by simp
    have marks : (takeDiagnostic k bits s).marks = s.marks := by simp
    cases running : s.running
    · obtain ⟨record, same⟩ := takeDiagnostic_idle running k bits c
      refine ⟨loader, marks, fun j => ?_, ?_⟩
      · rw [record, PerKind.get_set, latest, running]
        simp only [KindRecord.took, Option.map_some, Bool.false_and, Bool.false_eq_true, if_false]
      · rw [if_neg (by simp [latches_some latest, running])]
        exact same
    · have took := takeDiagnostic_took running k bits c
      refine ⟨loader, marks, fun j => ?_, ?_⟩
      · rw [took.record, latest, running]
        by_cases own : j = k.kind
        · rw [own, if_pos rfl]
          simp only [KindRecord.took, Option.map_some, Bool.true_and]
          split
          next rises => exact FaultRecord.takes_counts rises
          next still => exact FaultRecord.takes_keeps (Bool.eq_false_iff.mpr still)
        · rw [if_neg own]
          exact FaultRecord.takes_other own
      · have same := latches_some latest s c
        rw [running, Bool.true_and] at same
        rw [same]
        exact took.channel

/-! ## The five diagnostic replies -/

theorem kind_injective {j k : PowerKind} (same : j.kind = k.kind) : j = k := by
  cases j <;> cases k <;> first | rfl | cases same

/-- The latest diagnostic replies of a list of kinds, each taken in turn. -/
def takeAllLatest (l : LatestReplies) (ks : List PowerKind) (s : State) : State :=
  ks.foldl (fun t k => deliverLatest l k t) s

theorem takeAllLatest_took (l : LatestReplies) (ks : List PowerKind) (once : ks.Nodup) (c : Fin 8) (s : State) :
    (takeAllLatest l ks s).loader = s.loader ∧
    (∀ k, ((takeAllLatest l ks s).faultRec c).kinds.get k.kind =
      if k ∈ ks then ((s.faultRec c).kinds.get k.kind).took ((l.diagnostics.get k).map (maskBit · c)) s.running
        s.marks.number
      else (s.faultRec c).kinds.get k.kind) ∧
    ((takeAllLatest l ks s).faultRec c).kinds.get .stuckOn = (s.faultRec c).kinds.get .stuckOn ∧
    if ∃ k ∈ ks, s.latches l c k = true then s.forced (takeAllLatest l ks s) .fault c
    else s.sameChannel (takeAllLatest l ks s) c := by
  induction ks generalizing s with
  | nil => exact ⟨rfl, fun k => (if_neg (by simp)).symm, rfl, by rw [if_neg (by simp)]; exact ⟨rfl, rfl⟩⟩
  | cons k ks ih =>
    obtain ⟨absent, once⟩ := List.nodup_cons.mp once
    obtain ⟨loader, marks, kinds, channel⟩ := deliverLatest_took l k c s
    obtain ⟨loaderRest, kindsRest, stuckRest, channelRest⟩ := ih once (deliverLatest l k s)
    have running : (deliverLatest l k s).running = s.running := by rw [State.running, loader]; rfl
    have cfg : (deliverLatest l k s).cfg c = s.cfg c := by simp only [State.cfg, State.config, loader]
    have still (j : PowerKind) (listed : j ∈ ks) :
        ((deliverLatest l k s).faultRec c).kinds.get j.kind = (s.faultRec c).kinds.get j.kind := by
      rw [kinds, if_neg fun same => absent (by rwa [← kind_injective same])]
    have latches (j : PowerKind) (listed : j ∈ ks) : (deliverLatest l k s).latches l c j = s.latches l c j := by
      simp only [State.latches, running, cfg, still j listed]
    have later : (∃ j ∈ ks, (deliverLatest l k s).latches l c j = true) ↔ ∃ j ∈ ks, s.latches l c j = true :=
      exists_congr fun j => and_congr_right fun listed => by rw [latches j listed]
    have rest : takeAllLatest l (k :: ks) s = takeAllLatest l ks (deliverLatest l k s) := rfl
    rw [rest]
    refine ⟨loaderRest.trans loader, fun j => ?_, ?_, ?_⟩
    · rw [kindsRest, running, marks]
      by_cases listed : j ∈ ks
      · rw [if_pos listed, if_pos (List.mem_cons_of_mem k listed), still j listed]
      · rw [if_neg listed, kinds]
        by_cases own : j = k
        · subst own
          rw [if_pos rfl, if_pos List.mem_cons_self]
        · rw [if_neg fun same => own (kind_injective same), if_neg (by simp [own, listed])]
    · rw [stuckRest, kinds, if_neg (by cases k <;> decide)]
    · simp only [later] at channelRest
      by_cases now : s.latches l c k = true
      · rw [if_pos now] at channel
        rw [if_pos ⟨k, List.mem_cons_self, now⟩]
        split at channelRest
        · exact forced_again channel channelRest
        · exact same_of_forced channel channelRest
      · rw [if_neg now] at channel
        by_cases past : ∃ j ∈ ks, s.latches l c j = true
        · obtain ⟨j, listed, latch⟩ := past
          rw [if_pos ⟨j, listed, latch⟩] at channelRest
          rw [if_pos ⟨j, List.mem_cons_of_mem k listed, latch⟩]
          exact forced_of_same channel cfg channelRest
        · rw [if_neg past] at channelRest
          rw [if_neg]
          · exact ⟨channelRest.1.trans channel.1, channelRest.2.trans channel.2⟩
          · rintro ⟨j, listed, latch⟩
            rcases List.mem_cons.mp listed with rfl | listed
            · exact now latch
            · exact past ⟨j, listed, latch⟩

/-! ## The channels as the link comes UP (R21, R22, R128) -/

/-- The state in which the latest FEEDBACK reply stands, where there is one. -/
def State.judged (s : State) (l : LatestReplies) : State :=
  match l.feedback with
  | some f => setFeedback f s
  | none => s

/-- What the path's judging makes of one channel, whose confirm timer is set where it is RELEASING. -/
def State.resumes (s : State) (timer : Timer) (c : Fin 8) : State :=
  if s.pathReady = true then pathReadyAt c (confirmIfReleasing timer c s) else confirmIfReleasing timer c s

/-- What the path's judging makes of the eight channels. -/
def State.allResume (s : State) (timer : Timer) : State :=
  if s.pathReady = true then pathReadyEvent (setReleasingConfirm timer s) else setReleasingConfirm timer s

theorem judged_reads (s : State) (l : LatestReplies) : (s.judged l).loader = s.loader ∧
    (s.judged l).chan = s.chan ∧ (s.judged l).sentBy = s.sentBy ∧ (s.judged l).link = s.link ∧
    (s.judged l).faults = s.faults := by
  unfold State.judged
  split <;> exact ⟨rfl, rfl, rfl, rfl, rfl⟩

theorem setReleasingConfirm_reads (timer : Timer) (s : State) :
    (setReleasingConfirm timer s).pathReady = s.pathReady ∧ (setReleasingConfirm timer s).loader = s.loader :=
  ⟨(setReleasingConfirm_alike timer 0 s).pathReady.trans (by simp [State.pathReady]),
    (setReleasingConfirm_alike timer 0 s).loader.trans (by simp)⟩

theorem channelsUp_unfold (l : LatestReplies) (s : State) : channelsUp l s =
    (let t := whenRunning (setReleasingConfirm (some (s.now + 5000))) (s.judged l)
     let t := if t.pathReady then whenRunning pathReadyEvent t else t
     match l.feedback with
     | some f => feedbackBits f.bits t
     | none => t) := rfl

theorem channelsUp_running {s : State} (running : s.running = true) (l : LatestReplies) : channelsUp l s =
    match l.feedback with
    | some f => each8 (feedbackAt f.bits) ((s.judged l).allResume (some (s.now + 5000)))
    | none => (s.judged l).allResume (some (s.now + 5000)) := by
  have runs : (s.judged l).running = true := by rw [State.running, (judged_reads s l).1]; exact running
  obtain ⟨path, loader⟩ := setReleasingConfirm_reads (some (s.now + 5000)) (s.judged l)
  have confirmed : (setReleasingConfirm (some (s.now + 5000)) (s.judged l)).running = true := by
    rw [State.running, loader]; exact runs
  have resumed : ((s.judged l).allResume (some (s.now + 5000))).running = true := by
    unfold State.allResume
    split
    · simpa [State.running] using confirmed
    · exact confirmed
  rw [channelsUp_unfold, whenRunning_of runs]
  dsimp only
  rw [whenRunning_of confirmed]
  rw [path]
  cases l.feedback with
  | none => rfl
  | some f => exact whenRunning_of resumed _

theorem allResume_alike (s : State) (timer : Timer) (c : Fin 8) : Alike c (s.resumes timer c) (s.allResume timer) := by
  have confirmed := setReleasingConfirm_alike timer c s
  unfold State.resumes State.allResume
  split
  · exact confirmed.pathReadyAt.trans (pathReadyEvent_alike c _)
  · exact confirmed

theorem channelsUp_alike {s : State} (running : s.running = true) {l : LatestReplies} {f : Feedback}
    (feedback : l.feedback = some f) (c : Fin 8) :
    Alike c (feedbackAt f.bits c ((setFeedback f s).resumes (some (s.now + 5000)) c)) (channelsUp l s) := by
  have judged : s.judged l = setFeedback f s := by simp only [State.judged, feedback]
  rw [channelsUp_running running]
  simp only [feedback]
  rw [judged]
  exact ((allResume_alike _ _ c).feedbackAt f.bits).trans (feedback_alike f.bits c _)

/-- In a node that is not RUNNING no channel acts. -/
theorem channelsUp_idle {s : State} (idle : s.running = false) (l : LatestReplies) : channelsUp l s = s.judged l := by
  have rests : (s.judged l).running = false := by rw [State.running, (judged_reads s l).1]; exact idle
  have nothing (f : State → State) : whenRunning f (s.judged l) = s.judged l := if_neg (by simp [rests])
  rw [channelsUp_unfold, nothing]
  dsimp only
  rw [nothing, ite_self]
  cases l.feedback with
  | none => rfl
  | some f => exact nothing _

/-! ### One channel as the link comes UP -/

section
variable {c : Fin 8} {s : State} {timer : Timer} {bits : Byte}

theorem resumes_locked (state : (s.chan c).state = .locked) : s.resumes timer c = s := by
  simp [State.resumes, pathReadyAt, confirmIfReleasing, state]

theorem resumes_releasing (state : (s.chan c).state = .releasing) :
    s.resumes timer c = modChan c (fun r => { r with confirm := timer }) s := by
  simp [State.resumes, pathReadyAt, confirmIfReleasing, state]

theorem resumes_suspended (state : (s.chan c).state = .suspended) :
    s.resumes timer c = if s.pathReady = true then leaveSuspended c s else s := by
  simp [State.resumes, pathReadyAt, confirmIfReleasing, state]

theorem resumes_off (state : (s.chan c).state = .off) :
    s.resumes timer c = if s.pathReady = true then startIfDue c s else s := by
  simp [State.resumes, pathReadyAt, confirmIfReleasing, state]

/-- A bit leaves a channel that it does not move its record, but for what it hands back. -/
theorem feedbackAt_deaf_chan (deaf : (s.chan c).state.deaf = true) :
    (feedbackAt bits c s).chan c = { s.chan c with handBack := (s.chan c).handBack && maskBit bits c } := by
  cases bit : maskBit bits c
  · rw [(feedbackAt_off_leaves bit).1, feedbackInState_deaf deaf, Bool.and_false]
  · rw [feedbackAt_on bit, feedbackInState_deaf deaf, Bool.and_true]

theorem feedbackAt_handBack (off : maskBit bits c = false) : ((feedbackAt bits c s).chan c).handBack = false := by
  rw [(feedbackAt_off_leaves off).1]

/-- A LOCKED channel as the link comes UP. -/
theorem up_locked (state : (s.chan c).state = .locked) : (feedbackAt bits c (s.resumes timer c)).chan c =
    { s.chan c with handBack := (s.chan c).handBack && maskBit bits c } := by
  rw [resumes_locked state, feedbackAt_deaf_chan (by rw [state]; rfl)]

/-- A RELEASING channel whose output the reply shows on has its confirm timer anew. -/
theorem up_releasing_on (state : (s.chan c).state = .releasing) (on : maskBit bits c = true) :
    (feedbackAt bits c (s.resumes timer c)).chan c = { s.chan c with confirm := timer } ∧
    (feedbackAt bits c (s.resumes timer c)).sentBy c = s.sentBy c := by
  have still : ((s.resumes timer c).chan c).state = .releasing := by simp [resumes_releasing state, state]
  rw [feedbackAt_on on, feedbackInState_releasing still, if_pos rfl, resumes_releasing state]
  simp

/-- A RELEASING channel whose output the reply shows off completes its release. -/
theorem up_releasing_off (state : (s.chan c).state = .releasing) (off : maskBit bits c = false) :
    ((s.chan c).target = .locked → ((feedbackAt bits c (s.resumes timer c)).chan c).state = .locked ∧
      ((feedbackAt bits c (s.resumes timer c)).chan c).causes = (s.chan c).causes) ∧
    ((s.chan c).target = .suspended → s.pathReady = false →
      ((feedbackAt bits c (s.resumes timer c)).chan c).state = .suspended) ∧
    ((s.chan c).target ≠ .locked → s.pathReady = true → (s.chan c).demand = false →
      ((feedbackAt bits c (s.resumes timer c)).chan c).state = .off ∧
      ((feedbackAt bits c (s.resumes timer c)).chan c).rearm = false) := by
  have record : (s.resumes timer c).chan c = { s.chan c with confirm := timer } := by
    rw [resumes_releasing state, modChan_chan, if_pos rfl]
  have path : (s.resumes timer c).pathReady = s.pathReady := by rw [resumes_releasing state, modChan_pathReady]
  rw [(feedbackAt_off_leaves off).1, feedbackInState_releasing (by rw [record]; exact state), if_neg Bool.false_ne_true]
  refine ⟨fun target => ?_, fun target unready => ?_, fun target ready demand => ?_⟩
  · rw [(completeRelease_locked (by rw [record]; exact target)).1, record]
    exact ⟨rfl, rfl⟩
  · obtain ⟨rearm, chan, -⟩ := completeRelease_unready (c := c) (path.trans unready)
    rw [chan, record]
    show (s.chan c).target.rests = _
    rw [target]
    rfl
  · cases which : (s.chan c).target
    case off =>
      rw [(completeRelease_off (by rw [record]; exact which) (by rw [record]; exact demand)).1]
      exact ⟨rfl, rfl⟩
    case suspended =>
      have completes : completeRelease c (s.resumes timer c) =
          leaveSuspended c (enterState .suspended c (sendToGroup c .doneOffConfirmed (s.resumes timer c))) := by
        simp [completeRelease, record, which, path, ready]
      rw [completes]
      exact leaveSuspended_idle (by simp [record, demand])
    case locked => exact absurd which target

/-- A SUSPENDED channel as the link comes UP. -/
theorem up_suspended (state : (s.chan c).state = .suspended) :
    (s.pathReady = false → ((feedbackAt bits c (s.resumes timer c)).chan c).state = .suspended) ∧
    (s.pathReady = true → (s.chan c).demand = false →
      ((feedbackAt bits c (s.resumes timer c)).chan c).state = .off ∧
      ((feedbackAt bits c (s.resumes timer c)).chan c).rearm = false) ∧
    (s.pathReady = true → (s.chan c).demand = true → ((s.chan c).rearm || (s.cfg c).restart == .rearm) = true →
      ((feedbackAt bits c (s.resumes timer c)).chan c).state = .off ∧
      ((feedbackAt bits c (s.resumes timer c)).chan c).rearm = true) ∧
    (s.pathReady = true → (s.chan c).demand = true → maskBit bits c = false →
      ((s.chan c).rearm || (s.cfg c).restart == .rearm) = false → (s.cfg c).enabled = true →
      ((feedbackAt bits c (s.resumes timer c)).chan c).state = (s.cfg c).startState) := by
  rw [resumes_suspended state]
  refine ⟨fun unready => ?_, fun ready demand => ?_, fun ready demand rearm => ?_,
    fun ready demand off rearm enabled => ?_⟩
  · rw [if_neg (by simp [unready]), feedbackAt_deaf (by rw [state]; rfl), state]
  · obtain ⟨rests, cleared⟩ := leaveSuspended_idle demand
    rw [if_pos ready, feedbackAt_deaf_chan (by rw [rests]; rfl)]
    exact ⟨rests, cleared⟩
  · obtain ⟨rests, pending⟩ := leaveSuspended_pending demand rearm
    rw [if_pos ready, feedbackAt_deaf_chan (by rw [rests]; rfl)]
    exact ⟨rests, pending⟩
  · have starts := leaveSuspended_starts demand ready rearm enabled
    rw [if_pos ready, feedbackAt_off_keeps off (by rw [starts]; exact startState_keeps _)]
    exact starts

/-- A channel in OFF as the link comes UP (R9). -/
theorem up_off (state : (s.chan c).state = .off) :
    (s.pathReady = false ∨ (s.chan c).demand = false ∨ (s.chan c).rearm = true →
      ((feedbackAt bits c (s.resumes timer c)).chan c).state = .off ∧
      ((feedbackAt bits c (s.resumes timer c)).chan c).rearm = (s.chan c).rearm) ∧
    (s.pathReady = true → (s.chan c).demand = true → maskBit bits c = false → (s.chan c).rearm = false →
      (s.cfg c).enabled = true →
      ((feedbackAt bits c (s.resumes timer c)).chan c).state = (s.cfg c).startState) := by
  rw [resumes_off state]
  refine ⟨fun stays => ?_, fun ready demand off rearm enabled => ?_⟩
  · have rests : (if s.pathReady = true then startIfDue c s else s) = s := by
      split
      next ready =>
        refine startIfDue_of_not_due c s ?_
        rcases stays with h | h | h <;> simp_all [State.starts]
      next => rfl
    rw [rests, feedbackAt_deaf_chan (by rw [state]; rfl)]
    exact ⟨state, rfl⟩
  · have due : s.starts c = true := by simp [State.starts, demand, rearm, ready, enabled]
    have starts : ((startIfDue c s).chan c).state = (s.cfg c).startState := by
      rw [startIfDue_of_due c s due, startChannel_chan]
    rw [if_pos ready, feedbackAt_off_keeps off (by rw [starts]; exact startState_keeps _)]
    exact starts

end

end Sys2Proof.Machine
end

section
/-! PROOFS. The runs of slots that change the link state, and what the event that brings UP makes of the records
(O28). -/

namespace Sys2Proof.Machine

open Sys2Proof

/-! ## The runs of slots (R126, R129) -/

theorem exec_slotFailed {s : State} {reply : Option (BitVec 18)} (free : s.held = false)
    (bad : reply.bind judgeReply = none) : exec (.slotFailed reply) s = .next (buildDue (failedSlot s)) := by
  rw [← judgeSlot_failed free bad]
  rfl

theorem buildDue_flagLive (f : NodeFlag) (s : State) : (buildDue s).flagLive f = s.flagLive f := by
  have live : (buildDue s).faults.flags.live = s.faults.flags.live := by simp
  rw [State.flagLive, live]
  rfl

/-- The channels and the live flags after a slot that moves only the link. -/
theorem buildDue_linked (s : State) (l : Link) : (buildDue (s.linked l)).link = l ∧
    (buildDue (s.linked l)).channels = s.channels ∧
    (buildDue (s.linked l)).faults.flags.live = s.faults.flags.live := by
  refine ⟨?_, ?_, ?_⟩ <;> simp [State.linked]

section
variable {s : State}

/-- The link state by the runs of good slots. -/
theorem goodSlot_runs (r : GoodReply) (s : State) :
    (s.link.up = true → (goodSlot r s).link = s.link.heard s.now) ∧
    (s.link.up = false → s.link.goodRun + 1 < 16 → goodSlot r s = s.linked (s.link.counted r)) ∧
    (s.link.up = false → 16 ≤ s.link.goodRun + 1 →
      (goodSlot r s).link = s.link.raised s.now ∧ (goodSlot r s).flagLive .linkDown = false) := by
  refine ⟨fun up => ?_, fun down short => goodSlot_counts r down short, fun down run => ?_⟩
  · rw [goodSlot_up r up]
    simp [State.linked]
  · rw [goodSlot_raises r down run]
    constructor
    · simp [linkUp, setLink, State.linked, Link.counted, Link.raised]
    · rw [linkUp, faultsUp, setFlagLive_flagLive, if_pos rfl]

theorem failedSlot_runs (s : State) :
    (s.link.up = false → failedSlot s = s.linked { s.link with goodRun := 0 }) ∧
    (s.link.up = true → s.link.failedRun + 1 < 8 →
      failedSlot s = s.linked { s.link with failedRun := s.link.failedRun + 1 }) ∧
    (s.link.up = true → 8 ≤ s.link.failedRun + 1 →
      (failedSlot s).link = s.link.fallen s.now ∧ (failedSlot s).flagLive .linkDown = true) := by
  refine ⟨failedSlot_down, failedSlot_counts, fun up run => ?_⟩
  rw [failedSlot_loses up run]
  refine ⟨?_, by rw [setFlagLive_flagLive, if_pos rfl]⟩
  unfold whenRunning
  split <;> simp [State.linked]

end

theorem linkState_of_good {s : State} {w : BitVec 18} {r : GoodReply} (free : s.held = false)
    (good : judgeReply w = some r) :
    ∃ t, exec (.replyReceived w) s = .next t ∧ t.power = s.power ∧ t.zones = s.zones ∧
      t.points = s.points ∧ t.marks = s.marks ∧ t.loader = s.loader ∧ t.inputs = s.inputs ∧
      (s.link.up = true → t.link = s.link.heard s.now) ∧
      (s.link.up = false → s.link.goodRun + 1 < 16 → t.link = s.link.counted r ∧
        t.channels = s.channels ∧ t.faults.flags.live = s.faults.flags.live) ∧
      (s.link.up = false → 16 ≤ s.link.goodRun + 1 →
        t.link = s.link.raised s.now ∧ t.flagLive .linkDown = false) := by
  obtain ⟨up, counts, raises⟩ := goodSlot_runs r s
  refine ⟨_, exec_replyReceived free good, by simp, by simp, by simp, by simp, by simp, by simp, fun isUp => ?_,
    fun down short => ?_, fun down run => ?_⟩
  · rw [← up isUp]
    simp
  · rw [counts down short]
    exact buildDue_linked s _
  · rw [buildDue_flagLive]
    exact ⟨by simp [(raises down run).1], (raises down run).2⟩

theorem linkState_of_failed {s : State} {reply : Option (BitVec 18)} (free : s.held = false)
    (bad : reply.bind judgeReply = none) :
    ∃ t, exec (.slotFailed reply) s = .next t ∧ t.power = s.power ∧ t.zones = s.zones ∧
      t.points = s.points ∧ t.marks = s.marks ∧ t.loader = s.loader ∧ t.inputs = s.inputs ∧
      (s.link.up = false → t.link = { s.link with goodRun := 0 } ∧ t.channels = s.channels) ∧
      (s.link.up = true → s.link.failedRun + 1 < 8 →
        t.link = { s.link with failedRun := s.link.failedRun + 1 } ∧ t.channels = s.channels) ∧
      (s.link.up = true → 8 ≤ s.link.failedRun + 1 → ∀ g, s.link.lastGood = some g →
        t.link = { s.link with up := false, goodRun := 0, failedRun := 0, guarantee := some (g + 250) } ∧
        t.flagLive .linkDown = true) := by
  obtain ⟨isDown, counts, loses⟩ := failedSlot_runs s
  refine ⟨_, exec_slotFailed free bad, by simp, by simp, by simp, by simp, by simp, by simp, fun down => ?_,
    fun up short => ?_, fun up run g last => ?_⟩
  · rw [isDown down]
    exact ⟨(buildDue_linked s _).1, (buildDue_linked s _).2.1⟩
  · rw [counts up short]
    exact ⟨(buildDue_linked s _).1, (buildDue_linked s _).2.1⟩
  · obtain ⟨link, flag⟩ := loses up run
    rw [buildDue_flagLive]
    exact ⟨by simp [link, Link.fallen, last], flag⟩

/-! ## Channel Logic as the link comes UP -/

theorem each8_onlyStuckFalls {f : Fin 8 → State → State} (moves : ∀ c s, ChannelMoves c s (f c s)) (s : State) :
    OnlyStuckFalls s (each8 f s) :=
  each8_relates (fun _ => .of_same rfl) (fun h k => h.trans k) (fun c s => .of_moves (moves c s)) s

theorem setReleasingConfirm_onlyStuckFalls (timer : Timer) (s : State) :
    OnlyStuckFalls s (setReleasingConfirm timer s) :=
  each8_onlyStuckFalls (fun _ _ => ChannelMoves.refl.confirmIfReleasing timer) s

theorem pathReadyEvent_onlyStuckFalls (s : State) : OnlyStuckFalls s (pathReadyEvent s) :=
  each8_onlyStuckFalls (fun _ _ => ChannelMoves.refl.pathReadyAt) s

theorem channelsUp_onlyStuckFalls (l : LatestReplies) (s : State) : OnlyStuckFalls s (channelsUp l s) := by
  have judged : OnlyStuckFalls s (s.judged l) := .of_same (judged_reads s l).2.2.2.2
  have within (f : State → State) (falls : ∀ u, OnlyStuckFalls u (f u)) (u : State) :
      OnlyStuckFalls u (whenRunning f u) := by
    unfold whenRunning
    split
    · exact falls u
    · exact .of_same rfl
  have confirmed := judged.trans (within _ (setReleasingConfirm_onlyStuckFalls (some (s.now + 5000))) (s.judged l))
  rw [channelsUp_unfold]
  generalize whenRunning (setReleasingConfirm (some (s.now + 5000))) (s.judged l) = u at *
  have ready : OnlyStuckFalls s (if u.pathReady then whenRunning pathReadyEvent u else u) := by
    split
    · exact confirmed.trans (within _ pathReadyEvent_onlyStuckFalls u)
    · exact confirmed
  dsimp only
  cases l.feedback with
  | none => exact ready
  | some f => exact ready.trans (within _ (each8_onlyStuckFalls fun _ _ => ChannelMoves.refl.feedbackAt f.bits) _)

theorem each8_feedback {f : Fin 8 → State → State} (keeps : ∀ c s, (f c s).channels.feedback = s.channels.feedback)
    (s : State) : (each8 f s).channels.feedback = s.channels.feedback :=
  each8_keeps (fun s : State => s.channels.feedback) f keeps s

/-- The channels read the latest FEEDBACK reply that the judging of the path has put in place. -/
theorem channelsUp_feedback (l : LatestReplies) (s : State) :
    (channelsUp l s).channels.feedback = (s.judged l).channels.feedback := by
  have within (f : State → State) (keeps : ∀ u, (f u).channels.feedback = u.channels.feedback) (u : State) :
      (whenRunning f u).channels.feedback = u.channels.feedback := by
    unfold whenRunning
    split
    · exact keeps u
    · rfl
  have confirmed := within (setReleasingConfirm (some (s.now + 5000))) (each8_feedback (by simp)) (s.judged l)
  rw [channelsUp_unfold]
  generalize whenRunning (setReleasingConfirm (some (s.now + 5000))) (s.judged l) = u at *
  have ready : (if u.pathReady then whenRunning pathReadyEvent u else u).channels.feedback = u.channels.feedback := by
    split
    · exact within _ (each8_feedback (by simp)) u
    · rfl
  dsimp only
  cases l.feedback with
  | none => exact ready.trans confirmed
  | some f => exact (within _ (each8_feedback (by simp)) _).trans (ready.trans confirmed)

/-! ## Fault Records as the link comes UP -/

/-- SUPPLY-LOW as the latest FEEDBACK reply gives it. -/
def State.supplied (s : State) (l : LatestReplies) : State :=
  match l.feedback with
  | some f => setFlagLive .supplyLow f.supplyLow s
  | none => s

/-- The kinds of the diagnostic replies in the order in which they act. -/
def upOrder : List PowerKind := [.overtemp, .openOn, .openOff, .shortSupply, .overload]

theorem faultsUp_eq (l : LatestReplies) (s : State) :
    faultsUp l s = setFlagLive .linkDown false (takeAllLatest l upOrder (s.supplied l)) := rfl

theorem mem_upOrder (k : PowerKind) : k ∈ upOrder := by
  cases k <;> simp [upOrder]

theorem supplied_reads (s : State) (l : LatestReplies) : (s.supplied l).loader = s.loader ∧
    (s.supplied l).marks = s.marks ∧ (s.supplied l).channels = s.channels ∧ (s.supplied l).groups = s.groups ∧
    (s.supplied l).faults.records = s.faults.records := by
  unfold State.supplied
  split
  · exact ⟨by simp, by simp, by simp, by simp, (setFlagLive_records _ _ s).1⟩
  · exact ⟨rfl, rfl, rfl, rfl, rfl⟩

theorem takeAllLatest_flagLive (l : LatestReplies) (ks : List PowerKind) (f : NodeFlag) (s : State) :
    (takeAllLatest l ks s).flagLive f = s.flagLive f := by
  induction ks generalizing s with
  | nil => rfl
  | cons k ks ih =>
    have rest : takeAllLatest l (k :: ks) s = takeAllLatest l ks (deliverLatest l k s) := rfl
    have flags : (deliverLatest l k s).faults.flags = s.faults.flags := by
      unfold deliverLatest
      split
      · simp
      · rfl
    rw [rest, ih, State.flagLive, flags]
    rfl

theorem takeAllLatest_feedback (l : LatestReplies) (ks : List PowerKind) (s : State) :
    (takeAllLatest l ks s).channels.feedback = s.channels.feedback := by
  induction ks generalizing s with
  | nil => rfl
  | cons k ks ih =>
    have rest : takeAllLatest l (k :: ks) s = takeAllLatest l ks (deliverLatest l k s) := rfl
    rw [rest, ih]
    unfold deliverLatest
    split
    · exact takeDiagnostic_feedback ..
    · rfl

theorem faultsUp_feedback (l : LatestReplies) (s : State) :
    (faultsUp l s).channels.feedback = s.channels.feedback := by
  rw [faultsUp_eq, (setFlagLive_frame ..).2.2.2.1, takeAllLatest_feedback, (supplied_reads s l).2.2.1]

/-- What Fault Records make of a channel as the link comes UP. -/
theorem faultsUp_took (l : LatestReplies) (c : Fin 8) (s : State) :
    (∀ k, ((faultsUp l s).faultRec c).kinds.get k.kind = ((s.faultRec c).kinds.get k.kind).took
      ((l.diagnostics.get k).map (maskBit · c)) s.running s.marks.number) ∧
    ((faultsUp l s).faultRec c).kinds.get .stuckOn = (s.faultRec c).kinds.get .stuckOn ∧
    ((∃ k, s.latches l c k = true) → s.forced (faultsUp l s) .fault c) ∧
    ((∀ k, s.latches l c k = false) → s.sameChannel (faultsUp l s) c) := by
  obtain ⟨-, kinds, stuck, channel⟩ := takeAllLatest_took l upOrder (by decide) c (s.supplied l)
  obtain ⟨loader, marks, channels, groups, records⟩ := supplied_reads s l
  have record : (s.supplied l).faultRec c = s.faultRec c := by rw [State.faultRec, records]; rfl
  have running : (s.supplied l).running = s.running := by rw [State.running, loader]; rfl
  have cfg : (s.supplied l).cfg c = s.cfg c := by simp only [State.cfg, State.config, loader]
  have latches (k : PowerKind) : (s.supplied l).latches l c k = s.latches l c k := by
    simp only [State.latches, running, record, cfg]
  have same : s.sameChannel (s.supplied l) c :=
    ⟨by rw [State.chan, channels]; rfl, by rw [State.sentBy, channels]; rfl⟩
  have after := setFlagLive_alike .linkDown false c (takeAllLatest l upOrder (s.supplied l))
  have keeps := (setFlagLive_records .linkDown false (takeAllLatest l upOrder (s.supplied l))).1
  rw [faultsUp_eq]
  refine ⟨fun k => ?_, ?_, fun some => ?_, fun none => ?_⟩
  · rw [State.faultRec, keeps, ← State.faultRec, kinds, if_pos (mem_upOrder k), record, running, marks]
  · rw [State.faultRec, keeps, ← State.faultRec, stuck, record]
  · obtain ⟨k, latch⟩ := some
    rw [if_pos ⟨k, mem_upOrder k, by rw [latches, latch]⟩] at channel
    exact forced_of_same same cfg (same_of_forced channel ⟨after.chan, after.sent⟩)
  · rw [if_neg (by simp [latches, none])] at channel
    exact ⟨after.chan.trans (channel.1.trans same.1), after.sent.trans (channel.2.trans same.2)⟩

theorem faultsUp_flag (l : LatestReplies) (s : State) : (faultsUp l s).flagLive .supplyLow =
    (l.feedback.map (·.supplyLow)).getD (s.flagLive .supplyLow) := by
  rw [faultsUp_eq, setFlagLive_flagLive, if_neg (by decide), takeAllLatest_flagLive, State.supplied]
  cases l.feedback with
  | none => rfl
  | some f => exact (setFlagLive_flagLive ..).trans (if_pos rfl)

end Sys2Proof.Machine
end

section
/-! PROOFS. The event that brings the Barrier Link UP, for the node and for each channel (O28). -/

namespace Sys2Proof.Machine

open Sys2Proof

/-- The state in which the channels act as the link comes UP. -/
def State.risen (s : State) : State := s.linked (s.link.raised s.now)

/-- A channel meets the latest FEEDBACK reply as the link comes UP. -/
def State.risenAt (s : State) (f : Feedback) (c : Fin 8) : State :=
  feedbackAt f.bits c ((setFeedback f s.risen).resumes (some (s.now + 5000)) c)

theorem goodSlot_rises {s : State} (r : GoodReply) (down : s.link.up = false) (run : 16 ≤ s.link.goodRun + 1) :
    goodSlot r s = faultsUp (s.link.latest.take r) (channelsUp (s.link.latest.take r) s.risen) := by
  rw [goodSlot_raises r down run]
  rfl

theorem KindRecord.took_eq (x : KindRecord) (b : Option Bool) (running : Bool) (m : Half) :
    x.took b running m = if (running && b.getD x.live && !x.live) = true then
      { live := true, sticky := true, count := min 255 (x.count + 1),
        firstMark := if x.sticky = true then x.firstMark else some m }
      else { x with live := b.getD x.live } := by
  cases b with
  | none => simp [KindRecord.took, Bool.and_assoc]
  | some b =>
    by_cases rises : (running && b && !x.live) = true
    · simp only [KindRecord.took, Option.getD_some, if_pos rises, KindRecord.counts]
      obtain ⟨⟨-, rfl⟩, -⟩ : (running = true ∧ b = true) ∧ _ := by simpa [Bool.and_eq_true] using rises
      rfl
    · simp only [KindRecord.took, Option.getD_some, if_neg rises]

/-- What the event that brings UP leaves of the path and of each channel. -/
structure Rises (s : State) (l : LatestReplies) (t : State) : Prop where
  feedback : t.channels.feedback = (s.judged l).channels.feedback
  low : t.flagLive .supplyLow = (l.feedback.map (·.supplyLow)).getD (s.flagLive .supplyLow)
  up : t.link.up = true
  kinds : ∀ k c, (t.faultRec c).kinds.get k.kind =
    ((s.faultRec c).kinds.get k.kind).took ((l.diagnostics.get k).map (maskBit · c)) s.running s.marks.number
  stuck : ∀ f, l.feedback = some f → s.running = true → ∀ c, maskBit f.bits c = false →
    ((t.faultRec c).kinds.get .stuckOn).live = false
  idle : s.running = false → t.channels.records = s.channels.records
  latched : ∀ c k, s.latches l c k = true → (t.chan c).causes.fault = true
  quiet : ∀ f, l.feedback = some f → s.running = true → ∀ c, (∀ k, s.latches l c k = false) →
    t.chan c = (s.risenAt f c).chan c ∧ t.sentBy c = (s.risenAt f c).sentBy c

theorem rises {s : State} (l : LatestReplies) : Rises s l (buildDue (faultsUp l (channelsUp l s.risen))) := by
  have falls := channelsUp_onlyStuckFalls l s.risen
  have replied := channelsUp_feedback l s.risen
  have loader : (channelsUp l s.risen).loader = s.loader := by simp [State.risen, State.linked]
  have marks : (channelsUp l s.risen).marks = s.marks := by simp [State.risen, State.linked]
  have link : (channelsUp l s.risen).link.up = true := by simp [State.risen, State.linked, Link.raised]
  have idle : s.running = false → (channelsUp l s.risen).channels.records = s.channels.records := fun idle => by
    rw [channelsUp_idle (s := s.risen) idle]
    unfold State.judged
    split <;> rfl
  have like (f) (feedback : l.feedback = some f) (running : s.running = true) (c : Fin 8) :
      Alike c (s.risenAt f c) (channelsUp l s.risen) := channelsUp_alike (s := s.risen) running feedback c
  have stuck (f) (feedback : l.feedback = some f) (running : s.running = true) (c : Fin 8)
      (off : maskBit f.bits c = false) : (((channelsUp l s.risen).faultRec c).kinds.get .stuckOn).live = false := by
    rw [channelsUp_running (s := s.risen) running]
    simp only [feedback]
    exact each8_feedbackAt_stuckOn off _
  generalize channelsUp l s.risen = w at *
  have running : w.running = s.running := by rw [State.running, loader]; rfl
  have cfg (c) : w.cfg c = s.cfg c := by simp only [State.cfg, State.config, loader]
  have kept (c : Fin 8) (k : PowerKind) : (w.faultRec c).kinds.get k.kind = (s.faultRec c).kinds.get k.kind :=
    (falls.kinds c k.kind).resolve_right fun h => by cases k <;> exact nomatch h.1
  have latches (c k) : w.latches l c k = s.latches l c k := by simp only [State.latches, running, kept, cfg]
  have took (c) := faultsUp_took l c w
  have low := faultsUp_flag l w
  have flag : w.flagLive .supplyLow = s.flagLive .supplyLow := by
    rw [State.flagLive, falls.others]; rfl
  have up : (faultsUp l w).link.up = true := by simp [link]
  have feedback : (faultsUp l w).channels.feedback = (s.judged l).channels.feedback := by
    rw [faultsUp_feedback, replied]
    unfold State.judged
    split <;> rfl
  generalize faultsUp l w = x at *
  refine ⟨?_, ?_, ?_, fun k c => ?_, fun f feedback run c off => ?_, fun rests => ?_, fun c k latch => ?_,
    fun f feedback run c none => ?_⟩
  · rw [← feedback]
    simp
  · rw [buildDue_flagLive, low, flag]
  · simpa using up
  · rw [(buildDue_channels x c).2.2, (took c).1, kept, running, marks]
  · rw [(buildDue_channels x c).2.2, (took c).2.1]
    exact stuck f feedback run c off
  · rw [← idle rests, (buildDue_frame x).2.2.2.1]
    refine Eight.ext_get _ _ fun c => ((took c).2.2.2 fun k => ?_).1
    rw [State.latches, running, rests]
    split <;> simp
  · rw [(buildDue_channels x c).1]
    exact (forced_driven ((took c).2.2.1 ⟨k, by rw [latches, latch]⟩)).1
  · obtain ⟨chan, sent⟩ := (took c).2.2.2 fun k => by rw [latches, none]
    rw [(buildDue_channels x c).1, (buildDue_channels x c).2.1, chan, sent, (like f feedback run c).chan,
      (like f feedback run c).sent]
    exact ⟨rfl, rfl⟩

/-- A FAULT that stands in a channel's sound set has it at rest or on its way there. -/
theorem not_driven_of_fault {r : Channel} (sound : r.causesSound = true) (fault : r.causes.fault = true) :
    r.state.driven = false := by
  cases locks : r.locks
  · rw [(causesSound_iff r).mp sound locks] at fault
    exact nomatch fault
  · simp only [Channel.locks, Bool.or_eq_true, Bool.and_eq_true, beq_iff_eq] at locks
    rcases locks with locked | ⟨releasing, -⟩ <;> simp [*, ChannelState.driven]

/-- A channel that meets the latest FEEDBACK reply over a link that was DOWN. -/
theorem risenAt_meets {s : State} {f : Feedback} (sound : s.pathSound = true) (running : s.running = true)
    (down : s.link.up = false) (c : Fin 8) :
    let r := s.chan c
    let u := (s.risenAt f c).chan c
    let starts (rearm : Bool) : Prop := rearm = false → (s.cfg c).enabled = true → u.state = (s.cfg c).startState
    match r.state with
    | .locked => u = { r with handBack := r.handBack && maskBit f.bits c }
    | .releasing =>
      (maskBit f.bits c = true →
        u = { r with confirm := some (s.now + 5000) } ∧ (s.risenAt f c).sentBy c = s.sentBy c) ∧
      (maskBit f.bits c = false →
        (r.target = .locked → u.state = .locked ∧ u.causes = r.causes) ∧
        (r.target = .suspended → f.supplyLow = true → u.state = .suspended) ∧
        (r.target ≠ .locked → f.supplyLow = false → r.demand = false → u.state = .off ∧ u.rearm = false))
    | .suspended =>
      let rearm := r.rearm || (s.cfg c).restart == .rearm
      (f.supplyLow = true → u.state = .suspended) ∧
      (f.supplyLow = false → r.demand = false → u.state = .off ∧ u.rearm = false) ∧
      (f.supplyLow = false → r.demand = true → rearm = true → u.state = .off ∧ u.rearm = true) ∧
      (f.supplyLow = false → r.demand = true → maskBit f.bits c = false → starts rearm)
    | .off =>
      (f.supplyLow = true ∨ r.demand = false ∨ r.rearm = true → u.state = .off ∧ u.rearm = r.rearm) ∧
      (f.supplyLow = false → r.demand = true → maskBit f.bits c = false → starts r.rearm)
    | .waiting | .armed | .energizing | .on | .disarming => False := by
  intro r u starts
  have rests := (State.pathSound_iff s).mp sound running (pathReady_of_down down) c
  have path : (setFeedback f s.risen).pathReady = !f.supplyLow := setFeedback_pathReady rfl
  have ready (clear : f.supplyLow = false) : (setFeedback f s.risen).pathReady = true := by rw [path, clear]; rfl
  have unready (low : f.supplyLow = true) : (setFeedback f s.risen).pathReady = false := by rw [path, low]; rfl
  cases state : r.state <;> dsimp only
  case locked =>
    rw [← state]
    exact up_locked (s := setFeedback f s.risen) (timer := some (s.now + 5000)) (bits := f.bits) state
  case releasing =>
    have off := up_releasing_off (s := setFeedback f s.risen) (timer := some (s.now + 5000)) (bits := f.bits) state
    rw [← state]
    refine ⟨up_releasing_on (s := setFeedback f s.risen) (timer := some (s.now + 5000)) (bits := f.bits) state, fun bit => ?_⟩
    obtain ⟨locks, waits, rests⟩ := off bit
    exact ⟨locks, fun target low => waits target (unready low), fun target clear => rests target (ready clear)⟩
  case suspended =>
    obtain ⟨waits, idle, pending, starting⟩ :=
      up_suspended (s := setFeedback f s.risen) (timer := some (s.now + 5000)) (bits := f.bits) state
    exact ⟨fun low => waits (unready low), fun clear => idle (ready clear), fun clear => pending (ready clear),
      fun clear => starting (ready clear)⟩
  case off =>
    obtain ⟨stays, starting⟩ :=
      up_off (s := setFeedback f s.risen) (timer := some (s.now + 5000)) (bits := f.bits) state
    exact ⟨fun why => stays (why.imp_left unready), fun clear => starting (ready clear)⟩
  all_goals
    have driven : r.state.restful = true := rests
    rw [state] at driven
    exact nomatch driven

/-- A latest reply latches where its kind rises and is in the mask. -/
theorem latches_iff {s : State} {l : LatestReplies} {c : Fin 8} {k : PowerKind} : s.latches l c k = (s.running &&
    ((l.diagnostics.get k).map (maskBit · c)).getD ((s.faultRec c).kinds.get k.kind).live &&
    !((s.faultRec c).kinds.get k.kind).live && (s.cfg c).latchMask.get k) := by
  unfold State.latches
  cases l.diagnostics.get k with
  | none => cases ((s.faultRec c).kinds.get k.kind).live <;> simp
  | some bits => rfl

theorem pathReady_of_up {t : State} (up : t.link.up = true) :
    t.pathReady = match t.channels.feedback with | some f => !f.supplyLow | none => false := by
  cases feedback : t.channels.feedback <;> simp [State.pathReady, up, feedback]

/-- Settles O28: the runs of slots, and then the event that brings UP, where the channels act before the records. -/
theorem linkStateBySlots : Obligations.LinkStateBySlots := by
  refine ⟨fun s free => ⟨fun w r good => linkState_of_good free good, fun reply bad => linkState_of_failed free bad⟩,
    fun s w reply free down run good => ?_⟩
  intro latest now rising
  have happens := rises (s := s) latest
  have sound : SoundKept s (buildDue (goodSlot reply s)) := (goodSlot_sound reply s).trans (ChannelsKept.buildDue _).sound
  have runs := exec_replyReceived free good
  rw [goodSlot_rises reply down run] at sound runs
  have current (k : PowerKind) (c : Fin 8) : now k c =
      ((latest.diagnostics.get k).map (maskBit · c)).getD ((s.faultRec c).kinds.get k.kind).live := by
    show (match latest.diagnostics.get k with | some bits => _ | none => _) = _
    cases latest.diagnostics.get k <;> rfl
  have latching (k : PowerKind) (c : Fin 8) :
      s.latches latest c k = (rising k c && (s.cfg c).latchMask.get k) := by
    rw [latches_iff, ← current]
  refine ⟨_, runs, ?_⟩
  change Rises s latest (buildDue (faultsUp latest (channelsUp latest s.risen))) at happens
  change SoundKept s (buildDue (faultsUp latest (channelsUp latest s.risen))) at sound
  change _ = (match latest.feedback with | some f => some f | none => s.channels.feedback) ∧ _
  generalize buildDue (faultsUp latest (channelsUp latest s.risen)) = t at *
  refine ⟨?_, ?_, pathReady_of_up happens.up, fun k c => ?_, happens.idle, fun running k c rise masked => ⟨?_, ?_⟩,
    fun running path f feedback c none => ?_⟩
  · rw [happens.feedback, State.judged]
    cases latest.feedback <;> rfl
  · rw [happens.low]
    cases latest.feedback <;> rfl
  · rw [happens.kinds, KindRecord.took_eq, ← current]
  · exact happens.latched c k (by rw [latching, rise, masked]; rfl)
  · intro causes _
    exact not_driven_of_fault ((State.causesSound_iff t).mp (sound.causes causes) c)
      (happens.latched c k (by rw [latching, rise, masked]; rfl))
  · obtain ⟨chan, sent⟩ := happens.quiet f feedback running c fun k => by
      rw [latching]
      cases rise : rising k c
      · rfl
      · exact none k rise
    dsimp only
    rw [chan, sent]
    refine ⟨fun off => ⟨?_, happens.stuck f feedback running c off⟩, risenAt_meets path running down c⟩
    exact feedbackAt_handBack off

end Sys2Proof.Machine
end

section
/-! PROOFS. A POINTS frame that is taken: the Point Image, the demand of its users, and the last sent values of an own
frame (R80 to R82, R90; the first part of O17). -/

namespace Sys2Proof.Machine

open Sys2Proof

/-! ## Entries paired with their configuration -/

theorem zipKeep_getElem? {α β : Type} {f : α → β → β} {as : List α} {bs : List β} {i : Nat} {a : α} {b : β}
    (cfg : as[i]? = some a) (entry : bs[i]? = some b) : (zipKeep f as bs)[i]? = some (f a b) := by
  induction as generalizing bs i with
  | nil => simp at cfg
  | cons a' as ih =>
    cases bs with
    | nil => simp at entry
    | cons b' bs =>
      cases i with
      | zero => simp_all [zipKeep]
      | succ i => simpa [zipKeep] using ih (by simpa using cfg) (by simpa using entry)

/-- An entry stays, or the function of its configuration acts on it. -/
theorem zipKeep_cases {α β : Type} (f : α → β → β) (as : List α) (bs : List β) (i : Nat) :
    (zipKeep f as bs)[i]? = bs[i]? ∨ ∃ a b, bs[i]? = some b ∧ (zipKeep f as bs)[i]? = some (f a b) := by
  induction as generalizing bs i with
  | nil => exact .inl rfl
  | cons a as ih =>
    cases bs with
    | nil => exact .inl rfl
    | cons b bs =>
      cases i with
      | zero => exact .inr ⟨a, b, by simp [zipKeep]⟩
      | succ i => simpa [zipKeep] using ih bs i

/-! ## The Point Image (R80 to R82) -/

/-- The entries after a POINTS frame. -/
def State.pointsAfter (s : State) (source : Station) (pairs : List PointPair) : List Subscription :=
  zipKeep (takePoints s source pairs) s.config.subscriptions s.points

/-- The entries have taken the pairs, and a foreign publisher is told of. -/
def State.imaged (s : State) (source : Station) (pairs : List PointPair) : State :=
  if s.config.subscriptions.any (namesForeign source pairs) then
    raiseFlag .foreignPublisher { s with points := s.pointsAfter source pairs }
  else { s with points := s.pointsAfter source pairs }

/-- The hold-over timers of the terms on FRESH entries have stopped. -/
def State.refreshed (s : State) (source : Station) (pairs : List PointPair) : State :=
  each8 (setHoldOvers (becameFresh s.points (s.pointsAfter source pairs)) none) (s.imaged source pairs)

theorem pointsAtImage_eq (source : Station) (pairs : List PointPair) (s : State) : pointsAtImage source pairs s =
    evaluateUsers (onEntryIndex (entryChanged s.points (s.pointsAfter source pairs))) (s.refreshed source pairs) := rfl

section
variable {s : State} {source : Station} {pairs : List PointPair}

theorem takePoints_named {cfg : SubscriptionConfig} {e : Subscription} {last : PointPair}
    (named : (pairs.filter fun p => p.point == cfg.point).getLast? = some last) : takePoints s source pairs cfg e =
      if source = cfg.publisher then e.take last.value (s.now + 50000 * cfg.lifetime) s.marks.number
      else e.countForeign (pairs.filter fun p => p.point == cfg.point).length := by
  have value : lastValue cfg.point pairs = some last.value := by rw [lastValue, named]; rfl
  simp only [takePoints, value]
  rfl

theorem takePoints_unnamed {cfg : SubscriptionConfig} {e : Subscription}
    (unnamed : (pairs.filter fun p => p.point == cfg.point).getLast? = none) :
    takePoints s source pairs cfg e = e := by
  have value : lastValue cfg.point pairs = none := by rw [lastValue, unnamed]; rfl
  simp only [takePoints, value]

/-- A taken frame makes an entry FRESH, or leaves it its age. -/
theorem takePoints_age (cfg : SubscriptionConfig) (e : Subscription) :
    (takePoints s source pairs cfg e).age = .fresh ∨ (takePoints s source pairs cfg e).age = e.age := by
  unfold takePoints
  split
  · exact .inr rfl
  · split
    · exact .inl rfl
    · exact .inr rfl

/-- An entry changed where its state or its value differs (R5). -/
theorem entryChanged_eq (s : State) (source : Station) (pairs : List PointPair) :
    entryChanged s.points (s.pointsAfter source pairs) = fun i =>
      ((s.pointsAfter source pairs)[i]?.map fun y => (y.age, y.value)) !=
        (s.points[i]?.map fun y => (y.age, y.value)) := by
  funext i
  rw [entryChanged]
  rcases zipKeep_cases (takePoints s source pairs) s.config.subscriptions s.points i with
    same | ⟨cfg, e, before, after⟩
  · rw [State.pointsAfter, same]
    cases s.points[i]? <;> simp
  · rw [State.pointsAfter, after, before]
    simp only [Option.map_some]
    generalize takePoints s source pairs cfg e = y
    rw [Bool.eq_iff_iff]
    simp only [Bool.or_eq_true, bne_iff_ne, ne_eq, Option.some.injEq, Prod.mk.injEq]
    rw [not_and_or, eq_comm (a := e.age), eq_comm (a := e.value)]

theorem becameFresh_iff (s : State) (source : Station) (pairs : List PointPair) (i : Nat) :
    becameFresh s.points (s.pointsAfter source pairs) i = true ↔
      s.points[i]?.map Subscription.age ≠ (s.pointsAfter source pairs)[i]?.map Subscription.age := by
  rw [becameFresh]
  rcases zipKeep_cases (takePoints s source pairs) s.config.subscriptions s.points i with
    same | ⟨cfg, e, before, after⟩
  · rw [State.pointsAfter, same]
    cases s.points[i]? <;> simp
  · rw [State.pointsAfter, after, before]
    simp only [Option.map_some]
    rcases takePoints_age (s := s) (source := source) (pairs := pairs) cfg e with fresh | same
    · simp [fresh]
    · simp [same]

/-- An entry that became FRESH changed. -/
theorem changed_of_fresh {i : Nat} (fresh : becameFresh s.points (s.pointsAfter source pairs) i = true) :
    entryChanged s.points (s.pointsAfter source pairs) i = true := by
  rw [becameFresh_iff] at fresh
  rw [entryChanged_eq]
  simp only [bne_iff_ne, ne_eq]
  intro same
  apply fresh
  have ages := congrArg (Option.map Prod.fst) same
  simpa [Option.map_map, Function.comp_def, eq_comm] using ages

/-! ## The channels that read the Point Image (R4, R5) -/

theorem imaged_reads (s : State) (source : Station) (pairs : List PointPair) :
    (s.imaged source pairs).beyondZones = { s with points := s.pointsAfter source pairs }.beyondZones ∧
    (s.imaged source pairs).zones = s.zones ∧ (s.imaged source pairs).channels = s.channels ∧
    (s.imaged source pairs).bus = s.bus := by
  unfold State.imaged
  split <;> simp [State.beyondZones]

theorem refreshed_reads (s : State) (source : Station) (pairs : List PointPair) :
    (s.refreshed source pairs).beyondZones = (s.imaged source pairs).beyondZones ∧
    (s.refreshed source pairs).zones = (s.imaged source pairs).zones ∧
    (s.refreshed source pairs).bus = (s.imaged source pairs).bus ∧
    (s.refreshed source pairs).pubs = (s.imaged source pairs).pubs ∧
    (s.refreshed source pairs).faults = (s.imaged source pairs).faults := by
  unfold State.refreshed
  exact ⟨each8_keeps State.beyondZones _ (fun c t => by simp [State.beyondZones]) _,
    each8_keeps State.zones _ (by simp) _, each8_keeps State.bus _ (by simp) _,
    each8_keeps State.pubs _ (by simp) _, each8_keeps State.faults _ (by simp) _⟩

theorem setHoldOvers_alike (p : Nat → Bool) (tm : Timer) {c d : Fin 8} (other : d ≠ c) (s : State) :
    AlikeSources c s (setHoldOvers p tm d s) := by
  refine ⟨⟨by simp, by simp, by simp, by simp, ?_, ?_⟩, by simp, by simp, by simp⟩
  · exact (setHoldOvers_local p tm other.symm s).1
  · exact (setHoldOvers_local p tm other.symm s).2.1

theorem refreshed_chan (c : Fin 8) : (s.refreshed source pairs).chan c =
      { s.chan c with holdOvers := ((s.refreshed source pairs).chan c).holdOvers } ∧
    (s.refreshed source pairs).sentBy c = s.sentBy c ∧
    ∀ slot, ((s.refreshed source pairs).chan c).holdOvers.get slot =
      if s.slotOn (becameFresh s.points (s.pointsAfter source pairs)) c slot then none
      else (s.chan c).holdOvers.get slot := by
  obtain ⟨u, before, after⟩ := each8_around (AlikeSources.refl c) AlikeSources.trans c
    (fun _ other t => setHoldOvers_alike (becameFresh s.points (s.pointsAfter source pairs)) none other t)
    (s.imaged source pairs)
  obtain ⟨kept, -, channels, -⟩ := imaged_reads s source pairs
  have chan : u.chan c = s.chan c := by rw [before.chan, State.chan, channels]; rfl
  have sent : u.sentBy c = s.sentBy c := by rw [before.sent, State.sentBy, channels]; rfl
  have loader : (s.imaged source pairs).loader = s.loader := (sameSurroundings_of_kept kept).1.2.1
  have cfg : u.cfg c = s.cfg c := by
    rw [before.cfg]
    simp only [State.cfg, State.config, loader]
  have on (slot : Fin 4) : u.slotOn (becameFresh s.points (s.pointsAfter source pairs)) c slot =
      s.slotOn (becameFresh s.points (s.pointsAfter source pairs)) c slot := by
    simp only [State.slotOn, cfg]
  have record := setHoldOvers_chan (becameFresh s.points (s.pointsAfter source pairs)) none c u
  change AlikeSources c _ (s.refreshed source pairs) at after
  rw [after.chan, after.sent]
  refine ⟨?_, ?_, fun slot => ?_⟩
  · rw [record, chan]
  · rw [setHoldOvers_sentBy, sent]
  · rw [setHoldOvers_get, chan, on]

end

end Sys2Proof.Machine
end

section
/-! PROOFS. What the frames due leave of the Publication Table (R89, R90), and the rest of a taken POINTS frame (the
first part of O17). -/

namespace Sys2Proof.Machine

open Sys2Proof

/-! ## Publications under offers -/

theorem raiseFlag_pends (f : NodeFlag) (s : State) : PendsOnly s (raiseFlag f s) := by
  unfold raiseFlag trackErr
  dsimp only
  split
  · exact .of_same rfl
  · have flags (x : NodeFlags) : PendsOnly s (setFlags x s) := .of_same rfl
    exact ((flags _).trans (.pendSource _ _)).trans (.of_same rfl)

theorem displacedNotice_pends (f : Frame) (s : State) : PendsOnly s (displacedNotice f s) := by
  cases f with
  | points pairs => exact ⟨rfl, pendWhere_length _ _ _, fun _ _ x => pendWhere_pends _ x⟩
  | _ => exact .of_same (by simp [displacedNotice])

/-- An offer makes publications pending, those of a displaced POINTS frame and those on NODE-ERROR (R86, R90). -/
theorem offer_pends (f : Frame) (s : State) : PendsOnly s (offer f s).1 := by
  have queued (l : List Queued) : PendsOnly s (setQueue l s) := .of_same rfl
  unfold offer
  (repeat' split) <;>
    first
      | exact .refl s
      | exact queued _
      | exact raiseFlag_pends _ s
      | exact ((queued _).trans (raiseFlag_pends _ _)).trans (displacedNotice_pends _ _)

theorem claimIfDue_pends (e : Fin 8) (s : State) : PendsOnly s (claimIfDue e s) := by
  have claim (c : Fin 8) : PendsOnly s (claimGroup e c s) := by
    have offered : PendsOnly s (offer (.claim (s.member e).group c)
        (modEntry e (fun x => { x.moved .claiming with claimChannel := some c }) s)).1 :=
      .trans (.of_same (by simp)) (offer_pends _ _)
    unfold claimGroup
    dsimp only
    split
    · exact offered
    · exact offered.trans (.of_same (by simp))
  unfold claimIfDue
  (repeat' split) <;> first | exact .refl s | exact claim _

theorem buildFault_pends (c : Fin 8) (s : State) : PendsOnly s (buildFault c s) := by
  have offered := offer_pends (faultFrame s c) s
  unfold buildFault
  dsimp only
  split
  · split
    · exact offered.trans (.of_same rfl)
    · exact offered.trans (.of_same rfl)
  · exact .refl s

/-- What is due before the POINTS frame makes publications pending, and no more. -/
theorem faultsDue_pends (s : State) : PendsOnly s (buildFaults (each8 claimIfDue s)) :=
  (PendsOnly.each8 claimIfDue_pends s).trans (.each8 buildFault_pends _)

/-! ## Last sent values -/

theorem PendsOnly.lastSent {s t : State} (h : PendsOnly s t) :
    t.pubs.entries.map Publication.lastSent = s.pubs.entries.map Publication.lastSent := by
  apply List.ext_getElem?
  intro i
  rw [List.getElem?_map, List.getElem?_map]
  cases entry : s.pubs.entries[i]? with
  | none =>
    have outside : t.pubs.entries[i]? = none :=
      List.getElem?_eq_none (by rw [h.length]; exact List.getElem?_eq_none_iff.mp entry)
    rw [outside]
  | some x =>
    obtain ⟨y, entry', pends⟩ := h.entry i x entry
    rcases pends with rfl | rfl <;> simp [entry']

theorem takePending_lastSent (deadline n : Nat) (es : List Publication) :
    (takePending deadline n es).map Publication.lastSent = es.map Publication.lastSent := by
  induction es generalizing n with
  | nil => cases n <;> rfl
  | cons e es ih =>
    cases n with
    | zero => rfl
    | succ n =>
      unfold takePending
      split <;> simp [ih]

theorem buildPoints_lastSent (s : State) :
    (buildPoints s).pubs.entries.map Publication.lastSent = s.pubs.entries.map Publication.lastSent := by
  unfold buildPoints offerOnly
  generalize pendingPairs s pairsPerFrame s.config.publications s.pubs.entries = pairs
  dsimp only
  split
  · split
    · rw [offer_lastSent]
      exact takePending_lastSent ..
    · exact offer_lastSent (.points pairs) s
  · rfl

theorem buildDue_lastSent (s : State) :
    (buildDue s).pubs.entries.map Publication.lastSent = s.pubs.entries.map Publication.lastSent :=
  (buildPoints_lastSent _).trans (faultsDue_pends s).lastSent

/-- The last sent values after an own POINTS frame (R90). -/
theorem pointsSent_lastSent {pairs : List PointPair} {s : State} {i : Nat} {cfg : PublicationConfig} {x : Option Bool}
    {last : PointPair} (listed : s.config.publications[i]? = some cfg)
    (entry : (s.pubs.entries.map Publication.lastSent)[i]? = some x)
    (named : (pairs.filter fun p => p.point == cfg.point).getLast? = some last) :
    ((pointsSent pairs s).pubs.entries.map Publication.lastSent)[i]? = some (some last.value) := by
  rw [List.getElem?_map] at entry ⊢
  obtain ⟨e, here, -⟩ := Option.map_eq_some_iff.mp entry
  have value : lastValue cfg.point pairs = some last.value := by rw [lastValue, named]; rfl
  have sent := zipKeep_getElem? (f := fun (c : PublicationConfig) (e : Publication) =>
    match lastValue c.point pairs with
    | some v => { e with lastSent := some v }
    | none => e) listed here
  rw [value] at sent
  exact (congrArg (Option.map Publication.lastSent) sent)

/-! ## A POINTS frame that is taken -/

/-- The node when the owner of a POINTS frame has acted, and heard the notice "taken". -/
def State.pointsTaken (s : State) (pairs : List PointPair) (source : Station) (a : Arrival) : State :=
  if isOwn a && s.bus.queue.any Queued.onLine then pointsSent pairs (pointsAtImage source pairs (s.received (.points pairs) a))
  else pointsAtImage source pairs (s.received (.points pairs) a)

theorem exec_pointsTaken {s : State} {pairs : List PointPair} {source : Station} {a : Arrival}
    (arrives : s.arrives (.points pairs) source a) : Received s (s.received (.points pairs) a) ∧
    exec (.pointsTaken a) s = .next ((s.pointsTaken pairs source a).concluded source) := by
  obtain ⟨received, command⟩ := exec_taken arrives
  have after (v : State) : takenNotice (.points pairs) (refreshPeer source v) = refreshPeer source (pointsSent pairs v) :=
    rfl
  have owner (u : State) : dispatch (isOwn a) source (.points pairs) u =
      refreshPeer source (pointsAtImage source pairs u) := rfl
  have same : s.delivered (.points pairs) source a = refreshPeer source (s.pointsTaken pairs source a) := by
    rw [State.delivered, State.pointsTaken, owner, after]
    split <;> rfl
  rw [same] at command
  exact ⟨received, command⟩

/-- The notice "taken" touches the publications alone. -/
theorem pointsTaken_reads (s : State) (pairs : List PointPair) (source : Station) (a : Arrival) (v : State)
    (image : pointsAtImage source pairs (s.received (.points pairs) a) = v) :
    (s.pointsTaken pairs source a).beyondZones = v.beyondZones ∧ (s.pointsTaken pairs source a).zones = v.zones ∧
    (s.pointsTaken pairs source a).bus = v.bus ∧ (s.pointsTaken pairs source a).faults = v.faults ∧
    ∀ c, AlikeSources c v (s.pointsTaken pairs source a) := by
  rw [State.pointsTaken, image]
  split
  · exact ⟨rfl, rfl, rfl, rfl, fun _ => ⟨⟨rfl, rfl, rfl, rfl, rfl, rfl⟩, rfl, rfl, rfl⟩⟩
  · exact ⟨rfl, rfl, rfl, rfl, fun c => .refl c _⟩

/-- The hold-over timer of a term on an entry (R4). -/
theorem slotOn_eq (s : State) (p : Nat → Bool) (c : Fin 8) (slot : Fin 4) : s.slotOn p c slot =
    (((s.cfg c).terms[slot.val]?).map Term.source).any (onEntryIndex p) := by
  unfold State.slotOn
  cases (s.cfg c).terms[slot.val]? with
  | none => rfl
  | some t => cases source : t.source <;> simp [onEntryIndex, source]

theorem slotOn_uses {s : State} {p q : Nat → Bool} {c : Fin 8} {slot : Fin 4} (on : s.slotOn p c slot = true)
    (all : ∀ i, p i = true → q i = true) : s.usesSource (onEntryIndex q) c = true := by
  rw [slotOn_eq] at on
  cases listed : (s.cfg c).terms[slot.val]? with
  | none => simp [listed] at on
  | some t =>
    refine List.any_eq_true.mpr ⟨t, List.mem_of_getElem? listed, ?_⟩
    cases source : t.source <;> simp_all [onEntryIndex]

/-- Where the bits of a state beyond the zones stand, the entries after a POINTS frame are the same. -/
theorem pointsAfter_congr {s u : State} (kept : u.beyondZones = s.beyondZones) (source : Station)
    (pairs : List PointPair) : u.pointsAfter source pairs = s.pointsAfter source pairs := by
  obtain ⟨⟨-, loader, -⟩, marks, points⟩ := sameSurroundings_of_kept kept
  have now : u.now = s.now := congrArg Prod.fst kept
  have takes : takePoints u source pairs = takePoints s source pairs := by
    funext cfg e
    simp only [takePoints, now, marks]
  rw [State.pointsAfter, State.pointsAfter, takes, points, State.config, State.config, loader]

theorem concluded_sources (c : Fin 8) (v : State) (source : Station) : AlikeSources c v (v.concluded source) :=
  (show AlikeSources c v (refreshPeer source v) from ⟨⟨rfl, rfl, rfl, rfl, rfl, rfl⟩, rfl, rfl, rfl⟩).trans
    (buildDue_alike c _)

/-- What a channel sees of a taken POINTS frame. -/
structure PointsSeen (s : State) (source : Station) (pairs : List PointPair) (c : Fin 8) (t : State) : Prop where
  causes : (t.chan c).causes = (s.chan c).causes
  other : s.usesSource (onEntryIndex (entryChanged s.points (s.pointsAfter source pairs))) c = false → s.sameChannel t c
  user : s.usesSource (onEntryIndex (entryChanged s.points (s.pointsAfter source pairs))) c = true →
    (t.chan c).demand = evalDemand t c ∧ (s.withHoldOvers t c).evaluated t c ∧
    ∀ slot, (t.chan c).holdOvers.get slot =
      if s.slotOn (becameFresh s.points (s.pointsAfter source pairs)) c slot then none
      else (s.chan c).holdOvers.get slot

theorem pointsAtImage_seen {s t : State} {source : Station} {pairs : List PointPair} {c : Fin 8}
    (after : AlikeSources c (pointsAtImage source pairs s) t) : PointsSeen s source pairs c t := by
  obtain ⟨imaged, -, -, -⟩ := imaged_reads s source pairs
  obtain ⟨refreshed, -, -, -, -⟩ := refreshed_reads s source pairs
  obtain ⟨chan, sent, timers⟩ := refreshed_chan (s := s) (source := source) (pairs := pairs) c
  have kept := refreshed.trans imaged
  obtain ⟨⟨-, loader, -, -, link, -, -, feedback⟩, -, -⟩ := sameSurroundings_of_kept kept
  have now : (s.refreshed source pairs).now = s.now := congrArg Prod.fst kept
  rw [pointsAtImage_eq] at after
  generalize s.refreshed source pairs = w at *
  have uses (p : TermSource → Bool) : w.usesSource p c = s.usesSource p c := by
    simp only [State.usesSource, State.cfg, State.config, loader]
  generalize changed : entryChanged s.points (s.pointsAfter source pairs) = q at *
  have sources := evaluateUsers_sources (onEntryIndex q) c w
  have held : (t.chan c).holdOvers = (w.chan c).holdOvers := by rw [after.chan, sources.holdOvers]
  by_cases user : s.usesSource (onEntryIndex q) c = true
  · obtain ⟨evaluated, demand, causes⟩ := evaluateUsers_evaluated ((uses _).trans user)
    refine ⟨by rw [after.chan, causes, chan], fun other => ?_, fun _ => ⟨?_, ?_, fun slot => by rw [held, timers]⟩⟩
    · rw [changed, user] at other
      exact nomatch other
    · rw [after.chan, after.evalDemand, demand]
    · exact AlikeSources.evaluated (withHoldOvers_alike now loader link feedback chan sent held) after evaluated
  · replace user := Bool.eq_false_iff.mpr user
    have same := evaluateUsers_other ((uses _).trans user)
    have still : (w.chan c).holdOvers = (s.chan c).holdOvers := Four.ext_get fun slot => by
      rw [timers, if_neg]
      intro on
      have := slotOn_uses on fun i fresh => changed_of_fresh fresh
      rw [changed, user] at this
      exact nomatch this
    have record : w.chan c = s.chan c := by rw [chan, still]
    refine ⟨by rw [after.chan, same.chan, record], fun _ => ⟨?_, ?_⟩, fun uses => ?_⟩
    · rw [after.chan, same.chan, record]
    · rw [after.sent, same.sent, sent]
    · rw [changed, user] at uses
      exact nomatch uses

end Sys2Proof.Machine
end

section
/-! PROOFS. A POINTS frame that is taken, and a publication's refresh timer (O17). -/

namespace Sys2Proof.Machine

open Sys2Proof

/-! ## The whole event of a POINTS frame -/

/-- What a taken POINTS frame brings about, for the entries, the channels and the publications. -/
structure PointsTaken (s : State) (pairs : List PointPair) (source : Station) (a : Arrival) (t : State) : Prop where
  zones : t.zones = s.zones
  marks : t.marks = s.marks
  around : s.sameSurroundings t
  score : t.bus.score = s.bus.score - 1
  points : t.points = s.pointsAfter source pairs
  foreign : s.config.subscriptions.any (namesForeign source pairs) = true → t.flagSticky .foreignPublisher = true
  seen : ∀ c, PointsSeen s source pairs c t
  sent : t.pubs.entries.map Publication.lastSent =
    (s.pointsTaken pairs source a).pubs.entries.map Publication.lastSent

theorem PointsSeen.of_alike {s u t : State} {source : Station} {pairs : List PointPair} {c : Fin 8}
    (alike : Alike c s u) (kept : u.beyondZones = s.beyondZones) (seen : PointsSeen u source pairs c t) :
    PointsSeen s source pairs c t := by
  have after := pointsAfter_congr kept source pairs
  obtain ⟨-, -, points⟩ := sameSurroundings_of_kept kept
  have cfg : u.cfg c = s.cfg c := alike.cfg c
  have uses (p : TermSource → Bool) : u.usesSource p c = s.usesSource p c := by simp only [State.usesSource, cfg]
  have on (p : Nat → Bool) (slot : Fin 4) : u.slotOn p c slot = s.slotOn p c slot := by simp only [State.slotOn, cfg]
  obtain ⟨causes, other, user⟩ := seen
  simp only [after, points, uses, on, alike.chan] at causes other user
  refine ⟨causes, fun none => ?_, fun some => ?_⟩
  · obtain ⟨chan, sent⟩ := other none
    exact ⟨chan.trans alike.chan, sent.trans alike.sent⟩
  · obtain ⟨demand, evaluated, timers⟩ := user some
    refine ⟨demand, AlikeSources.evaluated ?_ (.refl c t) evaluated, timers⟩
    refine ⟨alike.now.symm, alike.loader.symm, alike.link.symm, alike.feedback.symm, ?_, alike.sent.symm⟩
    simp only [State.withHoldOvers, modChan_chan, if_pos, alike.chan]

theorem pointsAtImage_reads (source : Station) (pairs : List PointPair) (s : State) :
    (pointsAtImage source pairs s).beyondZones = { s with points := s.pointsAfter source pairs }.beyondZones ∧
    (pointsAtImage source pairs s).zones = s.zones ∧ (pointsAtImage source pairs s).bus = s.bus ∧
    (s.config.subscriptions.any (namesForeign source pairs) = true →
      (pointsAtImage source pairs s).flagSticky .foreignPublisher = true) := by
  obtain ⟨kept₁, zones₁, -, bus₁⟩ := imaged_reads s source pairs
  obtain ⟨kept₂, zones₂, bus₂, -, faults₂⟩ := refreshed_reads s source pairs
  rw [pointsAtImage_eq]
  have told (foreign : s.config.subscriptions.any (namesForeign source pairs) = true) :
      (s.refreshed source pairs).flagSticky .foreignPublisher = true := by
    rw [State.flagSticky, faults₂, ← State.flagSticky, State.imaged, if_pos foreign]
    exact raiseFlag_flagSticky ..
  generalize s.refreshed source pairs = w at *
  refine ⟨?_, by simp [zones₂, zones₁], by simp [bus₂, bus₁], fun foreign => ?_⟩
  · rw [← kept₁, ← kept₂]
    simp [State.beyondZones, evaluateUsers_feedback]
  · rw [State.flagSticky, (evaluateUsers_apart _ _).1]
    exact told foreign

theorem concluded_lastSent (v : State) (source : Station) :
    (v.concluded source).pubs.entries.map Publication.lastSent = v.pubs.entries.map Publication.lastSent := by
  rw [State.concluded, buildDue_lastSent]
  rfl

theorem points_taken {s : State} {pairs : List PointPair} {source : Station} {a : Arrival}
    (arrives : s.arrives (.points pairs) source a) :
    ∃ t, exec (.pointsTaken a) s = .next t ∧ PointsTaken s pairs source a t := by
  obtain ⟨received, command⟩ := exec_pointsTaken arrives
  have reads := pointsTaken_reads s pairs source a _ rfl
  have ended := concludes source (s.pointsTaken pairs source a)
  have sources (c : Fin 8) := concluded_sources c (s.pointsTaken pairs source a) source
  have sent := concluded_lastSent (s.pointsTaken pairs source a) source
  refine ⟨_, command, ?_⟩
  generalize (s.pointsTaken pairs source a).concluded source = t at *
  generalize s.received (.points pairs) a = u at *
  have image := pointsAtImage_reads source pairs u
  have seen (c : Fin 8) (t : State) := pointsAtImage_seen (s := u) (t := t) (source := source) (pairs := pairs) (c := c)
  generalize pointsAtImage source pairs u = v at *
  obtain ⟨kept, zones, bus, faults, alike⟩ := reads
  obtain ⟨imaged, zones', bus', foreign⟩ := image
  obtain ⟨⟨held, loader, inputs, host, link, power, shutdown, feedback⟩, marks, points⟩ :=
    sameSurroundings_of_kept ((ended.kept.trans kept).trans imaged)
  obtain ⟨⟨held', loader', inputs', host', link', power', shutdown', feedback'⟩, marks', -⟩ :=
    sameSurroundings_of_kept received.kept
  refine ⟨?_, marks.trans marks', ⟨held.trans held', loader.trans loader', inputs.trans inputs', host.trans host',
    link.trans link', power.trans power', shutdown.trans shutdown', feedback.trans feedback'⟩, ?_, ?_, fun named => ?_,
    fun c => ?_, sent⟩
  · rw [ended.zones, zones, zones', received.zones]
  · rw [ended.score, bus, bus', received.score]
  · rw [points]
    exact pointsAfter_congr received.kept source pairs
  · refine ended.raised _ ?_
    rw [State.flagSticky, faults]
    exact foreign (by rw [State.config, loader']; exact named)
  · exact (seen c t ((alike c).trans (sources c))).of_alike (received.alike c) received.kept

theorem pointsAtImage_pends (source : Station) (pairs : List PointPair) (s : State) :
    PendsOnly s (pointsAtImage source pairs s) := by
  have imaged : PendsOnly s (s.imaged source pairs) := by
    have set : PendsOnly s { s with points := s.pointsAfter source pairs } := .of_same rfl
    unfold State.imaged
    split
    · exact set.trans (raiseFlag_pends _ _)
    · exact set
  rw [pointsAtImage_eq]
  exact (imaged.trans (.of_same (refreshed_reads s source pairs).2.2.2.1)).trans (.evaluateUsers _ _)

/-- The last sent values are those of an own frame whose entry is still queued, and of no other (R90). -/
theorem pointsTaken_lastSent {s : State} {pairs : List PointPair} {source : Station} {a : Arrival}
    (received : Received s (s.received (.points pairs) a)) :
    ((isOwn a && s.bus.queue.any Queued.onLine) = true →
      ∀ (i : Nat) (cfg : PublicationConfig) (x : Publication) (last : PointPair), s.config.publications[i]? = some cfg → s.pubs.entries[i]? = some x →
      (pairs.filter fun p => p.point == cfg.point).getLast? = some last →
      ((s.pointsTaken pairs source a).pubs.entries.map Publication.lastSent)[i]? = some (some last.value)) ∧
    ((isOwn a && s.bus.queue.any Queued.onLine) = false →
      (s.pointsTaken pairs source a).pubs.entries.map Publication.lastSent =
        s.pubs.entries.map Publication.lastSent) := by
  unfold State.pointsTaken
  generalize s.received (.points pairs) a = u at *
  have sent := (pointsAtImage_pends source pairs u).lastSent.trans received.sent
  have loader := (sameSurroundings_of_kept received.kept).1.2.1
  have loader' := (sameSurroundings_of_kept (pointsAtImage_reads source pairs u).1).1.2.1
  generalize pointsAtImage source pairs u = v at *
  have config : v.config = s.config := by rw [State.config, loader', loader]; rfl
  refine ⟨fun own i cfg x last listed entry named => ?_, fun other => ?_⟩
  · rw [if_pos own]
    exact pointsSent_lastSent (x := x.lastSent) (config ▸ listed) (by simp [sent, entry]) named
  · rw [if_neg (by simp [other])]
    exact sent

/-- What the obligation says of one entry of the Point Image. -/
theorem PointsTaken.entry {s t : State} {pairs : List PointPair} {source : Station} {a : Arrival}
    (taken : PointsTaken s pairs source a t) {i : Nat} {cfg : SubscriptionConfig} {x : Subscription}
    (listed : s.config.subscriptions[i]? = some cfg) (here : s.points[i]? = some x) :
    t.points[i]? = some (takePoints s source pairs cfg x) ∧
    (source ≠ cfg.publisher → ∀ last, (pairs.filter fun p => p.point == cfg.point).getLast? = some last →
      t.flagSticky .foreignPublisher = true) := by
  refine ⟨by rw [taken.points]; exact zipKeep_getElem? listed here, fun other last named => taken.foreign ?_⟩
  have inside := List.mem_filter.mp (List.mem_of_getLast? named)
  refine List.any_eq_true.mpr ⟨cfg, List.mem_of_getElem? listed, ?_⟩
  have any : (pairs.any fun p => p.point == cfg.point) = true := List.any_eq_true.mpr ⟨last, inside⟩
  rw [namesForeign, any, Bool.and_true]
  simpa using Ne.symm other

end Sys2Proof.Machine
end

section
/-! PROOFS. A publication's refresh timer: the POINTS frame that is due, and the one that may not be built
(R88 to R90, O17). -/

namespace Sys2Proof.Machine

open Sys2Proof

/-! ## A queue that takes no POINTS frame -/

theorem sameLimit_points (a : Frame) (pairs : List PointPair) : sameLimit a (.points pairs) = isPoints a := by
  cases a <;> rfl

theorem isPoints_iff (f : Frame) : isPoints f = true ↔ f.code = 8 := by
  cases f <;> simp [isPoints, Frame.code]

/-- A frame of a kind that neither merges nor replaces is refused where its limit is reached (R101). -/
theorem offer_lone_refused {f : Frame} {s : State} (lone : f.lone)
    (limit : ∃ x ∈ s.bus.queue, sameLimit x.frame f = true) : offer f s = (s, false) := by
  cases admitted : admits s.bus.state f
  · exact offer_of_not_admitted admitted
  obtain ⟨q, found⟩ : ∃ q, s.bus.queue.find? (fun x => sameLimit x.frame f) = some q :=
    Option.isSome_iff_exists.mp (List.find?_isSome.mpr limit)
  have replaced : replacesHold q.frame f = false := by
    obtain ⟨-, other⟩ := lone
    cases f <;> simp_all [Frame.code, replacesHold]
  simp [offer, admitted, found, lone.1, replaced]

/-- A POINTS frame is queued, or the queue is full of frames that none displaces (R89, R102). -/
def noPointsRoom (l : List Queued) : Prop :=
  (∃ q ∈ l, isPoints q.frame = true) ∨ 12 ≤ l.length ∧ ∀ q ∈ l, q.frame.code ≤ 8

theorem offer_noPointsRoom {f : Frame} {s : State} (lone : f.lone) (low : f.code < 8) (fits : queueFits s.bus.queue)
    (full : noPointsRoom s.bus.queue) : noPointsRoom (offer f s).1.bus.queue := by
  cases admitted : admits s.bus.state f
  · rwa [offer_of_not_admitted admitted]
  by_cases free : ∀ x ∈ s.bus.queue, sameLimit x.frame f = false
  · by_cases room : s.bus.queue.length < 12
    · obtain ⟨q, inside, points⟩ := full.resolve_right fun h => by omega
      rw [offer_of_room admitted free room]
      exact .inl ⟨q, (insertByCode_perm _ _).mem_iff.mpr (List.mem_cons_of_mem _ inside), points⟩
    · obtain ⟨rest, last, queue⟩ : ∃ rest last, s.bus.queue = rest ++ [last] := by
        simpa using (List.eq_nil_or_concat s.bus.queue).resolve_left fun e => by simp [e] at room
      by_cases above : f.code < last.frame.code
      · have perm := insertByCode_perm (newEntry s.now f) rest
        have result : (offer f s).1.bus.queue = insertByCode (newEntry s.now f) rest := by
          rw [offer_of_displacing admitted free queue (by omega) above]
          simp [setQueue]
        have length : s.bus.queue.length = rest.length + 1 := by rw [queue]; simp
        rw [result]
        have bounded (below : ∀ q ∈ rest, q.frame.code ≤ 8) : noPointsRoom (insertByCode (newEntry s.now f) rest) := by
          refine .inr ⟨by rw [perm.length_eq, List.length_cons]; omega, fun q inside => ?_⟩
          rcases List.mem_cons.mp (perm.mem_iff.mp inside) with rfl | inside
          · exact low.le
          · exact below q inside
        rcases full with ⟨q, inside, points⟩ | ⟨-, below⟩
        · rw [queue, List.mem_append, List.mem_singleton] at inside
          rcases inside with inside | rfl
          · exact .inl ⟨q, perm.mem_iff.mpr (List.mem_cons_of_mem _ inside), points⟩
          · rw [queue, queueFits, List.pairwise_append] at fits
            refine bounded fun p inside => ?_
            rw [← (isPoints_iff q.frame).mp points]
            exact (fits.2.2 p inside q (by simp)).2
        · exact bounded fun q inside => below q (by rw [queue]; simp [inside])
      · rw [offer_of_full admitted free queue (by omega) (by omega)]
        simpa using full
  · rwa [offer_lone_refused lone (by simpa using free)]

/-- What the frames due before a POINTS frame keep of a queue that takes none. -/
def State.pointsRefused (s : State) : Prop := queueFits s.bus.queue ∧ noPointsRoom s.bus.queue

theorem offer_pointsRefused {f : Frame} {s : State} (lone : f.lone) (low : f.code < 8) (h : s.pointsRefused) :
    (offer f s).1.pointsRefused :=
  ⟨offer_fits h.1, offer_noPointsRoom lone low h.1 h.2⟩

theorem claimIfDue_pointsRefused (e : Fin 8) (s : State) (h : s.pointsRefused) : (claimIfDue e s).pointsRefused := by
  have claim (c : Fin 8) : (claimGroup e c s).pointsRefused := by
    have offered : (offer (.claim (s.member e).group c)
        (modEntry e (fun x => { x.moved .claiming with claimChannel := some c }) s)).1.pointsRefused :=
      offer_pointsRefused (Frame.lone_of_code (.inr (.inl rfl))) (by simp [Frame.code]) h
    unfold claimGroup
    dsimp only
    split
    · exact offered
    · simpa [State.pointsRefused] using offered
  unfold claimIfDue
  (repeat' split) <;> first | exact h | exact claim _

theorem buildFault_pointsRefused (c : Fin 8) (s : State) (h : s.pointsRefused) : (buildFault c s).pointsRefused := by
  have offered := offer_pointsRefused (f := faultFrame s c) (Frame.lone_of_code (by simp [faultFrame, Frame.code]))
    (by simp [faultFrame, Frame.code]) h
  unfold buildFault
  dsimp only
  split
  · split <;> simpa [State.pointsRefused] using offered
  · exact h

theorem faultsDue_pointsRefused {s : State} (h : s.pointsRefused) :
    (buildFaults (each8 claimIfDue s)).pointsRefused :=
  each8_relates (R := fun s t => s.pointsRefused → t.pointsRefused) (fun _ => id) (fun f g => g ∘ f)
    buildFault_pointsRefused _
    (each8_relates (R := fun s t => s.pointsRefused → t.pointsRefused) (fun _ => id) (fun f g => g ∘ f)
      claimIfDue_pointsRefused _ h)

/-- Such a queue refuses a POINTS frame (R101, R102). -/
theorem offer_points_refused {s : State} (h : noPointsRoom s.bus.queue) (pairs : List PointPair) :
    (offer (.points pairs) s).2 = false := by
  cases admitted : admits s.bus.state (.points pairs)
  · rw [offer_of_not_admitted admitted]
  by_cases free : ∀ x ∈ s.bus.queue, sameLimit x.frame (.points pairs) = false
  · rcases h with ⟨q, inside, points⟩ | ⟨full, below⟩
    · have := free q inside
      rw [sameLimit_points, points] at this
      exact nomatch this
    · obtain ⟨rest, last, queue⟩ : ∃ rest last, s.bus.queue = rest ++ [last] := by
        simpa using (List.eq_nil_or_concat s.bus.queue).resolve_left fun e => by simp [e] at full
      rw [offer_of_full admitted free queue full (below last (by simp [queue]))]
  · rw [offer_lone_refused (Frame.lone_of_code (by simp [Frame.code])) (by simpa using free)]

/-- Where no POINTS frame may be built, publications become pending and none is carried (R89, R90). -/
theorem buildPoints_pends {s : State} (h : s.pubs.blocked = true ∨ noPointsRoom s.bus.queue) :
    ∀ (i : Nat) (x : Publication), s.pubs.entries[i]? = some x →
      ∃ y, (buildPoints s).pubs.entries[i]? = some y ∧ x.pends y := by
  unfold buildPoints offerOnly
  generalize pendingPairs s pairsPerFrame s.config.publications s.pubs.entries = pairs
  dsimp only
  intro i x entry
  split
  next builds =>
    have open' : s.pubs.blocked = false := by
      simp only [Bool.and_eq_true, Bool.not_eq_true'] at builds
      exact builds.1.2
    have refused (es : List Publication) : (offer (.points pairs) (setPubs es s)).2 = false :=
      offer_points_refused (s := setPubs es s) (h.resolve_left (by simp [open'])) pairs
    rw [if_neg (by rw [refused]; exact Bool.false_ne_true)]
    exact (offer_pends (.points pairs) s).entry i x entry
  next => exact ⟨x, entry, .inl rfl⟩

theorem buildDue_keeps_pending {s : State} (h : s.pubs.blocked = true ∨ s.pointsRefused) {i : Nat} {x : Publication}
    (entry : s.pubs.entries[i]? = some x) (waiting : x.waiting = true) : (buildDue s).pubs.entries[i]? = some x := by
  have pends := faultsDue_pends s
  have still {y : Publication} (h : x.pends y) : y = x := by
    rcases h with same | same
    · exact same
    · rw [same]
      cases x
      simp_all
  obtain ⟨y, entry', same⟩ := pends.entry i x entry
  obtain ⟨z, entry'', same'⟩ := buildPoints_pends
    (h.imp (fun blocked => pends.blocked.trans blocked) fun refused => (faultsDue_pointsRefused refused).2) i y entry'
  obtain rfl := still same
  rw [buildDue, entry'', still same']

end Sys2Proof.Machine
end

section
/-! PROOFS. The POINTS frame that a refresh timer brings, and all of O17. -/

namespace Sys2Proof.Machine

open Sys2Proof

/-! ## The POINTS frame of one pending publication (R89) -/

theorem pendingPairs_none {s : State} {n : Nat} {cs : List PublicationConfig} {es : List Publication}
    (idle : ∀ y ∈ es, y.waiting = false) : pendingPairs s n cs es = [] := by
  induction es generalizing n cs with
  | nil => cases n <;> cases cs <;> rfl
  | cons e es ih =>
    cases n with
    | zero => cases cs <;> rfl
    | succ n =>
      cases cs with
      | nil => rfl
      | cons c cs =>
        rw [pendingPairs, if_neg (by simp [idle e List.mem_cons_self])]
        exact ih fun y inside => idle y (List.mem_cons_of_mem _ inside)

/-- Where one publication alone is pending, its pair alone is carried. -/
theorem pendingPairs_one {s : State} {n : Nat} {cs : List PublicationConfig} {es : List Publication} {i : Nat}
    {c : PublicationConfig} {e e' : Publication} (listed : cs[i]? = some c) (here : es[i]? = some e)
    (idle : ∀ y ∈ es, y.waiting = false) (waiting : e'.waiting = true) :
    pendingPairs s (n + 1) cs (es.set i e') = [⟨c.point, sourceValue s c.source⟩] := by
  induction es generalizing cs i with
  | nil => simp at here
  | cons x es ih =>
    have rest : ∀ y ∈ es, y.waiting = false := fun y inside => idle y (List.mem_cons_of_mem _ inside)
    cases cs with
    | nil => simp at listed
    | cons d cs =>
      cases i with
      | zero =>
        obtain rfl : d = c := by simpa using listed
        rw [List.set_cons_zero, pendingPairs, if_pos waiting, pendingPairs_none rest]
      | succ i =>
        rw [List.set_cons_succ, pendingPairs, if_neg (by simp [idle x List.mem_cons_self])]
        exact ih (by simpa using listed) (by simpa using here) rest

theorem takePending_none {deadline n : Nat} {es : List Publication} (idle : ∀ y ∈ es, y.waiting = false) :
    takePending deadline n es = es := by
  induction es generalizing n with
  | nil => cases n <;> rfl
  | cons e es ih =>
    cases n with
    | zero => rfl
    | succ n =>
      rw [takePending, if_neg (by simp [idle e List.mem_cons_self]), ih fun y inside => idle y (List.mem_cons_of_mem _ inside)]

theorem takePending_one {deadline n : Nat} {es : List Publication} {i : Nat} {e e' : Publication}
    (here : es[i]? = some e) (idle : ∀ y ∈ es, y.waiting = false) (waiting : e'.waiting = true) :
    takePending deadline (n + 1) (es.set i e') = es.set i { e' with waiting := false, timer := some deadline } := by
  induction es generalizing i with
  | nil => simp at here
  | cons x es ih =>
    have rest : ∀ y ∈ es, y.waiting = false := fun y inside => idle y (List.mem_cons_of_mem _ inside)
    cases i with
    | zero => rw [List.set_cons_zero, takePending, if_pos waiting, takePending_none rest, List.set_cons_zero]
    | succ i =>
      rw [List.set_cons_succ, takePending, if_neg (by simp [idle x List.mem_cons_self]),
        ih (by simpa using here) rest, List.set_cons_succ]

/-- Nothing but publications due: no entry claims and no record waits for its frame (R32, R148). -/
theorem buildDue_of_quiet {s : State} (groups : s.groups = []) (records : ∀ c, (s.faultRec c).waiting = false) :
    buildDue s = buildPoints s := by
  have claims : each8 claimIfDue s = s :=
    each8_relates (R := fun a b => a = s → b = s) (fun _ => id) (fun f g => g ∘ f)
      (fun e u same => by subst same; simp [claimIfDue, State.entry, groups]) s rfl
  have faults : buildFaults s = s :=
    each8_relates (R := fun a b => a = s → b = s) (fun _ => id) (fun f g => g ∘ f)
      (fun c u same => by subst same; simp [buildFault, records]) s rfl
  rw [buildDue, claims, faults]

/-! ## A refresh timer expires (R88) -/

/-- Publication i is pending, with its refresh timer stopped. -/
def State.refreshDue (s : State) (i : Nat) (x : Publication) : State := { s with
  pubs := { s.pubs with entries := s.pubs.entries.set i { x with waiting := true, timer := none } } }

theorem refreshDue_sameButTraffic (s : State) (i : Nat) (x : Publication) :
    s.sameButTraffic (buildDue (s.refreshDue i x)) :=
  State.sameButTraffic.trans (t := s.refreshDue i x) ⟨rfl, fun _ => ⟨rfl, rfl⟩, rfl⟩ (buildDue_sameButTraffic _)

section
variable {s : State} {i : Nat} {x : Publication} (here : s.pubs.entries[i]? = some x)
include here

theorem refreshExpiry_idle (idle : x.timer = none) : refreshExpiry i s = s := by
  have same : s.pubs.entries.set i x = s.pubs.entries := by
    obtain ⟨inside, rfl⟩ := List.getElem?_eq_some_iff.mp here
    exact List.set_getElem_self inside
  rw [refreshExpiry, modifyAt_eq_set here, if_neg (by simp [idle]), same]
  rfl

theorem refreshExpiry_due (runs : x.timer ≠ none) : refreshExpiry i s = s.refreshDue i x := by
  rw [refreshExpiry, modifyAt_eq_set here, if_pos (Option.isSome_iff_ne_none.mpr runs)]
  rfl

theorem refreshDue_exec {n : Fin 16} (running : s.running = true) (index : n.val = i) (runs : x.timer ≠ none) :
    exec (.refreshTimerExpiry n) s = .next (buildDue (s.refreshDue i x)) := by
  rw [← refreshExpiry_due here runs, ← index]
  exact exec_running running _

theorem refreshDue_entry : (s.refreshDue i x).pubs.entries[i]? = some { x with waiting := true, timer := none } :=
  List.getElem?_set_self (List.getElem?_eq_some_iff.mp here).1

/-- A POINTS frame is built with the value of the publication's source of this moment (R89). -/
theorem refreshDue_builds {cfg : PublicationConfig} (onLine : s.bus.state = .onLine) (open' : s.pubs.blocked = false)
    (none : ∀ q ∈ s.bus.queue, isPoints q.frame = false) (room : s.bus.queue.length < 12)
    (idle : ∀ y ∈ s.pubs.entries, y.waiting = false) (listed : s.config.publications[i]? = some cfg) :
    (buildPoints (s.refreshDue i x)).pubs.entries[i]? =
      some { x with waiting := false, timer := some (s.now + 50000 * s.config.refresh) } ∧
    ∃ q ∈ (buildPoints (s.refreshDue i x)).bus.queue,
      q.frame = .points [{ point := cfg.point, value := sourceValue s cfg.source }] := by
  have pairs : pendingPairs (s.refreshDue i x) pairsPerFrame (s.refreshDue i x).config.publications
      (s.refreshDue i x).pubs.entries = [⟨cfg.point, sourceValue s cfg.source⟩] := by
    have source : sourceValue (s.refreshDue i x) cfg.source = sourceValue s cfg.source := by
      cases cfg.source <;> rfl
    rw [← source]
    exact pendingPairs_one listed here idle rfl
  have taken : takePending ((s.refreshDue i x).now + 50000 * (s.refreshDue i x).config.refresh) pairsPerFrame
      (s.refreshDue i x).pubs.entries =
        s.pubs.entries.set i { x with waiting := false, timer := some (s.now + 50000 * s.config.refresh) } :=
    takePending_one here idle rfl
  have queued : (s.refreshDue i x).queues isPoints = false := by
    simpa [State.queues, State.refreshDue] using none
  have line : (s.refreshDue i x).onLine = true := by simp [State.onLine, State.refreshDue, onLine]
  have free : (s.refreshDue i x).pubs.blocked = false := open'
  have inserted (es : List Publication) : offer (.points [⟨cfg.point, sourceValue s cfg.source⟩])
      (setPubs es (s.refreshDue i x)) = (setQueue (insertByCode (newEntry s.now (.points [⟨cfg.point,
        sourceValue s cfg.source⟩])) s.bus.queue) (setPubs es (s.refreshDue i x)), true) :=
    offer_of_room (s := setPubs es (s.refreshDue i x)) (by simp [setPubs, State.refreshDue, onLine, admits])
      (fun q inside => by rw [sameLimit_points]; exact none q inside) room
  unfold buildPoints
  rw [pairs, taken]
  dsimp only
  rw [inserted, queued, line, free]
  simp only [Bool.not_false, Bool.and_true, List.isEmpty_cons, if_true]
  refine ⟨List.getElem?_set_self (List.getElem?_eq_some_iff.mp here).1, ?_⟩
  exact ⟨_, (insertByCode_perm _ _).mem_iff.mpr List.mem_cons_self, rfl⟩

end

/-- Settles O17: the entries take their pairs and the channels see them together; a refresh makes its publication
pending, and a POINTS frame carries it where one may be built. -/
theorem pointsTaken : Obligations.PointsTaken := by
  refine ⟨fun s pairs source a arrives => ?_, fun s i x running here => ⟨fun idle => ?_, fun runs => ⟨fun off => ?_,
    fun onLine blocked sound ordered => ?_, fun onLine open' none room groups records idle cfg listed => ?_⟩⟩⟩
  · obtain ⟨t, command, taken⟩ := points_taken arrives
    obtain ⟨own, other⟩ := pointsTaken_lastSent (source := source) (exec_pointsTaken arrives).1
    refine ⟨t, command, taken.zones, taken.marks, taken.around, taken.score, fun i cfg listed x here => ?_, fun c => ?_,
      fun isOwn queued i cfg listed x here last named => ?_, fun foreign => ?_⟩
    · obtain ⟨entry, foreign⟩ := taken.entry listed here
      cases named : (pairs.filter fun p => p.point == cfg.point).getLast? with
      | none =>
        rw [takePoints_unnamed named] at entry
        exact entry
      | some last =>
        rw [takePoints_named named] at entry
        dsimp only
        by_cases publisher : source = cfg.publisher
        · rw [if_pos publisher] at entry ⊢
          rw [entry]
          simp [Subscription.take]
        · rw [if_neg publisher] at entry ⊢
          exact ⟨entry, foreign publisher last named⟩
    · obtain ⟨causes, rest, user⟩ := taken.seen c
      rw [entryChanged_eq, ← taken.points] at rest user
      refine ⟨causes, ?_⟩
      split
      next uses =>
        obtain ⟨demand, evaluated, timers⟩ := user uses
        refine ⟨demand, evaluated, fun slot => ?_⟩
        rw [timers, slotOn_eq]
        cases ((s.cfg c).terms[slot.val]?).map Term.source with
        | none => rfl
        | some source' =>
          cases source' with
          | subscription i =>
            simp only [Option.any_some, onEntryIndex, becameFresh_iff, taken.points]
          | sense n => rfl
          | hostPoint n => rfl
      next none => exact rest (Bool.eq_false_iff.mpr none)
    · subst isOwn
      rw [← List.getElem?_map, taken.sent]
      exact own (by simpa [Machine.isOwn] using queued) i.val cfg x last listed here named
    · rw [taken.sent]
      refine other ?_
      rcases foreign with heard | free
      · cases a with
        | own => exact absurd rfl heard
        | heard => rfl
      · rw [free, Bool.and_false]
  · refine ⟨_, exec_running running _, ?_⟩
    rw [refreshExpiry_idle here idle]
    exact buildDue_sameButTraffic s
  · rw [refreshDue_exec here running rfl runs, buildDue_of_not_onLine]
    · rfl
    · simpa [State.onLine, State.refreshDue] using off
  · refine ⟨_, refreshDue_exec here running rfl runs, refreshDue_sameButTraffic s i x, ?_⟩
    have refuses : (s.refreshDue i x).pubs.blocked = true ∨ (s.refreshDue i x).pointsRefused :=
      blocked.imp_right fun queued => ⟨queueFits_of_sound sound ordered, .inl queued⟩
    exact buildDue_keeps_pending refuses (refreshDue_entry here) rfl
  · have built := refreshDue_builds here onLine open' none room idle listed
    rw [← buildDue_of_quiet (s := s.refreshDue i x) groups records] at built
    exact ⟨_, refreshDue_exec here running rfl runs, refreshDue_sameButTraffic s i x, built⟩

end Sys2Proof.Machine
end

section
/-! PROOFS. The membership entries: what one entry's change leaves of the others, and what the frames due make of an
entry (R27, R29, R30, R32). -/

namespace Sys2Proof.Machine

open Sys2Proof

/-! ## One entry set -/

section
variable (e d : Fin 8) (s : State)

theorem modEntry_entry (f : Entry → Entry) :
    (modEntry e f s).entry d = if d = e then (s.entry e).map f else s.entry d := by
  rw [State.entry, modEntry, modifyAt_getElem?]
  by_cases same : d = e
  · subst same
    simp [State.entry]
  · simp [State.entry, same, Fin.val_ne_of_ne same]

theorem modEntry_entry_of {x : Entry} (here : s.entry e = some x) (f : Entry → Entry) :
    (modEntry e f s).entry e = some (f x) := by
  rw [modEntry_entry, if_pos rfl, here]
  rfl

theorem modEntry_entry_other {e d : Fin 8} (other : d ≠ e) (f : Entry → Entry) (s : State) :
    (modEntry e f s).entry d = s.entry d := by
  rw [modEntry_entry, if_neg other]

end

theorem setEntry_eq (e : Fin 8) (x : Entry) (s : State) : setEntry e x s = modEntry e (fun _ => x) s := rfl

theorem entry_of_groups {s t : State} (groups : t.groups = s.groups) (e : Fin 8) : t.entry e = s.entry e := by
  rw [State.entry, groups, State.entry]

theorem offer_entry (f : Frame) (e : Fin 8) (s : State) : (offer f s).1.entry e = s.entry e :=
  entry_of_groups (by simp) e

/-! ## The length of the queue under offers (R102) -/

/-- A frame that neither merges nor replaces takes no place from the queue. -/
theorem offer_length {f : Frame} (lone : f.lone) (s : State) :
    s.bus.queue.length ≤ (offer f s).1.bus.queue.length := by
  cases admitted : admits s.bus.state f
  · rw [offer_of_not_admitted admitted]
  by_cases free : ∀ x ∈ s.bus.queue, sameLimit x.frame f = false
  · by_cases room : s.bus.queue.length < 12
    · rw [offer_of_room admitted free room]
      simp [setQueue, (insertByCode_perm _ _).length_eq]
    · obtain ⟨rest, last, queue⟩ : ∃ rest last, s.bus.queue = rest ++ [last] := by
        simpa using (List.eq_nil_or_concat s.bus.queue).resolve_left fun e => by simp [e] at room
      by_cases above : f.code < last.frame.code
      · rw [offer_of_displacing admitted free queue (by omega) above]
        simp [setQueue, (insertByCode_perm _ _).length_eq, queue]
      · rw [offer_of_full admitted free queue (by omega) (by omega)]
        simp
  · rw [offer_lone_refused lone (by simpa using free)]

theorem sameLimit_claim (a : Frame) (g : Fin 128) (c : Fin 8) :
    sameLimit a (.claim g c) = (a.group == some g) := by
  cases a <;> simp [sameLimit, Frame.group]

/-- ON-LINE a CLAIM is refused where a frame of its group is queued, or 12 frames of no larger kind code are. -/
theorem offer_claim_refused {s : State} {g : Fin 128} {c : Fin 8} (onLine : s.onLine = true)
    (refused : (offer (.claim g c) s).2 = false) : (offer (.claim g c) s).1.noRoomFor g := by
  have admitted : admits s.bus.state (.claim g c) = true := by
    rw [show s.bus.state = .onLine by simpa [State.onLine] using onLine]
    rfl
  by_cases free : ∀ x ∈ s.bus.queue, sameLimit x.frame (.claim g c) = false
  · by_cases room : s.bus.queue.length < 12
    · rw [offer_of_room admitted free room] at refused
      exact nomatch refused
    · exact .inl (Nat.le_trans (by omega) (offer_length (Frame.lone_of_code (.inr (.inl rfl))) s))
  · obtain ⟨x, inside, same⟩ : ∃ x ∈ s.bus.queue, sameLimit x.frame (.claim g c) = true := by simpa using free
    rw [offer_lone_refused (Frame.lone_of_code (.inr (.inl rfl))) ⟨x, inside, same⟩]
    rw [sameLimit_claim] at same
    exact .inr ⟨x, inside, eq_of_beq same⟩

/-! ## What the frames due make of an entry (R32) -/

/-- From s to t, due frames were offered, and entry e stayed. -/
structure DueBeside (e : Fin 8) (s t : State) : Prop where
  entry : t.entry e = s.entry e
  due : DueOnly s t
  length : s.bus.queue.length ≤ t.bus.queue.length
  now : t.now = s.now
  loader : t.loader = s.loader
  state : t.bus.state = s.bus.state

namespace DueBeside

variable {e : Fin 8} {s t u : State}

theorem refl (e : Fin 8) (s : State) : DueBeside e s s :=
  ⟨rfl, .of_same rfl, Nat.le_refl _, rfl, rfl, rfl⟩

theorem trans (h : DueBeside e s t) (k : DueBeside e t u) : DueBeside e s u :=
  ⟨k.entry.trans h.entry, h.due.trans k.due, h.length.trans k.length, k.now.trans h.now, k.loader.trans h.loader,
    k.state.trans h.state⟩

theorem claimIfDue {d : Fin 8} (other : d ≠ e) (s : State) : DueBeside e s (claimIfDue d s) := by
  refine ⟨?_, .claimIfDue d s, ?_, by simp, by simp, by simp⟩
  · have claim (c : Fin 8) : (claimGroup d c s).entry e = s.entry e := by
      unfold claimGroup enterFreeHoldOff
      dsimp only
      split <;> simp [modEntry_entry, offer_entry, other.symm]
    unfold Machine.claimIfDue
    (repeat' split) <;> first | rfl | exact claim _
  · have claim (c : Fin 8) : s.bus.queue.length ≤ (claimGroup d c s).bus.queue.length := by
      have offered := offer_length (f := .claim (s.member d).group c) (Frame.lone_of_code (.inr (.inl rfl)))
        (modEntry d (fun x => { x.moved .claiming with claimChannel := some c }) s)
      unfold claimGroup
      dsimp only
      split
      · exact offered
      · simpa using offered
    unfold Machine.claimIfDue
    (repeat' split) <;> first | exact Nat.le_refl _ | exact claim _

theorem buildFault (c : Fin 8) (s : State) : DueBeside e s (buildFault c s) := by
  refine ⟨entry_of_groups (by simp) e, .buildFault c s, ?_, by simp, by simp, by simp⟩
  have offered := offer_length (f := faultFrame s c) (Frame.lone_of_code (by simp [faultFrame, Frame.code])) s
  unfold Machine.buildFault
  dsimp only
  split
  · split <;> simpa using offered
  · exact Nat.le_refl _

theorem buildPoints (s : State) : DueBeside e s (buildPoints s) := by
  refine ⟨entry_of_groups (by simp) e, .buildPoints s, ?_, by simp, by simp, by simp⟩
  unfold Machine.buildPoints offerOnly
  generalize pendingPairs s pairsPerFrame s.config.publications s.pubs.entries = pairs
  have offered (u : State) (bus : u.bus = s.bus) :
      s.bus.queue.length ≤ (offer (.points pairs) u).1.bus.queue.length := by
    rw [← bus]
    exact offer_length (Frame.lone_of_code (by simp [Frame.code])) u
  dsimp only
  split
  · split
    · exact offered _ rfl
    · simpa using offered s rfl
  · exact Nat.le_refl _

end DueBeside

theorem State.noRoomFor.later {s t : State} {g : Fin 128} (full : s.noRoomFor g) (due : DueOnly s t)
    (length : s.bus.queue.length ≤ t.bus.queue.length) : t.noRoomFor g := by
  rcases full with full | ⟨q, inside, group⟩
  · exact .inl (full.trans length)
  · refine .inr ⟨q, due.stays q inside ?_, group⟩
    cases frame : q.frame <;> simp_all [Frame.group, Frame.code]

/-- What is left of an entry stays so while other due frames are offered. -/
theorem State.leaves.later {e : Fin 8} {s t : State} {x : Entry} (left : s.leaves e x) (h : DueBeside e s t) :
    t.leaves e x := by
  have onLine : t.onLine = s.onLine := by simp only [State.onLine, h.state]
  have member : t.member e = s.member e := by simp only [State.member, State.config, h.loader]
  have hold : t.holdInterval = s.holdInterval := by simp only [State.holdInterval, State.config, h.loader]
  unfold State.leaves at left ⊢
  cases requests : x.requests with
  | nil =>
    rw [requests] at left
    exact h.entry.trans left
  | cons c rest =>
    simp only [requests] at left
    dsimp only
    rw [onLine, h.entry, member, hold, h.now]
    split at left
    next claims =>
      rw [if_pos claims]
      rcases left with ⟨entry, q, inside, frame⟩ | ⟨entry, full⟩
      · exact .inl ⟨entry, q, h.due.stays q inside (by simp [frame, Frame.code]), frame⟩
      · exact .inr ⟨entry, full.later h.due h.length⟩
    next rests =>
      rw [if_neg rests]
      exact left

/-- A FREE entry with a waiting channel claims (R32). -/
theorem claimIfDue_leaves {e : Fin 8} {s : State} {x : Entry} (here : s.entry e = some x) :
    (claimIfDue e s).leaves e x := by
  unfold State.leaves
  cases requests : x.requests with
  | nil => simp [claimIfDue, here, requests]
  | cons c rest =>
    have onLine : (claimIfDue e s).onLine = s.onLine := by simp [State.onLine]
    dsimp only
    by_cases claims : x.state = .free ∧ x.hold = none ∧ s.onLine = true
    · obtain ⟨free, hold, line⟩ := claims
      have claim : claimIfDue e s = claimGroup e c s := by simp [claimIfDue, here, requests, free, hold, line]
      rw [if_pos ⟨free, hold, onLine.trans line⟩, claim]
      have member : (claimGroup e c s).member e = s.member e := by simp [State.member, State.config]
      have interval : (claimGroup e c s).holdInterval = s.holdInterval := by simp [State.holdInterval, State.config]
      have now : (claimGroup e c s).now = s.now := by simp
      rw [member, interval, now]
      have moved := modEntry_entry_of e s here fun x => { x.moved .claiming with claimChannel := some c }
      unfold claimGroup
      dsimp only
      generalize claiming : modEntry e (fun x => { x.moved .claiming with claimChannel := some c }) s = u at *
      have line' : u.onLine = true := by rw [← claiming]; exact line
      have kept : (offer (.claim (s.member e).group c) u).1.entry e = u.entry e := offer_entry ..
      by_cases taken : (offer (.claim (s.member e).group c) u).2 = true
      · rw [if_pos taken]
        refine .inl ⟨by rw [kept, moved, Entry.moved, requests], ?_⟩
        obtain ⟨q, inside, same | ⟨g, merged⟩⟩ := offer_taken_mem taken
        · exact ⟨q, inside, same⟩
        · rw [(Frame.lone_of_code (.inr (.inl rfl)) : (Frame.claim (s.member e).group c).lone).1] at merged
          exact nomatch merged
      · rw [if_neg taken]
        have later : (offer (.claim (s.member e).group c) u).1.now = s.now ∧
            (offer (.claim (s.member e).group c) u).1.holdInterval = s.holdInterval := by
          constructor
          · rw [(offer_frame _ _).1, ← claiming]; rfl
          · simp [State.holdInterval, State.config, ← claiming]
        refine .inr ⟨?_, offer_claim_refused line' (Bool.eq_false_iff.mpr taken)⟩
        rw [enterFreeHoldOff, modEntry_entry_of e _ (kept.trans moved), later.1, later.2, Entry.moved, Entry.moved,
          requests]
    · have rests : claimIfDue e s = s := by
        simp only [claimIfDue, here, requests]
        refine if_neg fun h => claims ?_
        simp only [Bool.and_eq_true, beq_iff_eq, Option.isNone_iff_eq_none] at h
        exact ⟨h.1.1, h.2, h.1.2⟩
      rw [rests, if_neg claims]
      exact here

/-- From v to t the frames due were built: each entry stays, but for one that claims (R32). -/
structure DueAfter (v t : State) : Prop where
  leaves : ∀ e x, v.entry e = some x → t.leaves e x
  due : DueOnly v t
  length : v.bus.queue.length ≤ t.bus.queue.length

theorem buildDue_after (v : State) : DueAfter v (buildDue v) := by
  have faults (e : Fin 8) : DueBeside e (each8 claimIfDue v) (buildDue v) :=
    (each8_relates (DueBeside.refl e) DueBeside.trans DueBeside.buildFault _).trans (.buildPoints _)
  have claims : v.bus.queue.length ≤ (each8 claimIfDue v).bus.queue.length :=
    each8_relates (R := fun s t => s.bus.queue.length ≤ t.bus.queue.length) (fun _ => Nat.le_refl _)
      (fun h k => h.trans k) (fun d s => (DueBeside.claimIfDue (e := d + 1) (by simp) s).length) v
  refine ⟨fun e x here => ?_, .buildDue v, claims.trans (faults 0).length⟩
  obtain ⟨u, before, after⟩ := each8_around (DueBeside.refl e) DueBeside.trans e
    (fun d other t => DueBeside.claimIfDue other t) v
  exact (claimIfDue_leaves (before.entry.trans here)).later (after.trans (faults e))

theorem concluded_after (v : State) (source : Station) : DueAfter v (v.concluded source) := by
  obtain ⟨leaves, due, length⟩ := buildDue_after (refreshPeer source v)
  rw [State.concluded]
  exact ⟨leaves, (DueOnly.of_same rfl : DueOnly v (refreshPeer source v)).trans due, length⟩

/-- An entry that cannot claim is left as it is. -/
theorem State.leaves.entry {t : State} {e : Fin 8} {x : Entry} (left : t.leaves e x) (busy : x.state ≠ .free) :
    t.entry e = some x := by
  unfold State.leaves at left
  cases requests : x.requests with
  | nil =>
    rw [requests] at left
    exact left
  | cons c rest =>
    simp only [requests] at left
    rwa [if_neg fun h => busy h.1] at left

end Sys2Proof.Machine
end

section
/-! PROOFS. What an operation of one membership entry leaves of the node, and the end of a holding (R30, R42). -/

namespace Sys2Proof.Machine

open Sys2Proof

/-- From s to t, the operations of entry e sent these messages, and may have offered and withdrawn frames and raised
flags; beside that the entry alone changed. -/
structure AtEntry (e : Fin 8) (sent : List ToChannel) (s t : State) : Prop where
  channels : t.channels = { s.channels with toChannels := s.channels.toChannels ++ sent }
  zones : t.zones = s.zones
  kept : t.beyondZones = s.beyondZones
  state : t.bus.state = s.bus.state
  score : t.bus.score = s.bus.score
  peers : t.faults.peers = s.faults.peers
  others : ∀ d, d ≠ e → t.entry d = s.entry d

namespace AtEntry

variable {e : Fin 8} {sent : List ToChannel} {s t u : State}

theorem refl (e : Fin 8) (s : State) : AtEntry e [] s s :=
  ⟨by simp, rfl, rfl, rfl, rfl, rfl, fun _ _ => rfl⟩

/-- A step that leaves the channels and the entries. -/
theorem after (h : AtEntry e sent s t) (channels : u.channels = t.channels) (zones : u.zones = t.zones)
    (kept : u.beyondZones = t.beyondZones) (state : u.bus.state = t.bus.state) (score : u.bus.score = t.bus.score)
    (peers : u.faults.peers = t.faults.peers) (groups : u.groups = t.groups) : AtEntry e sent s u :=
  ⟨channels.trans h.channels, zones.trans h.zones, kept.trans h.kept, state.trans h.state, score.trans h.score,
    peers.trans h.peers, fun d other => (entry_of_groups groups d).trans (h.others d other)⟩

theorem entry (f : Entry → Entry) (h : AtEntry e sent s t) : AtEntry e sent s (modEntry e f t) :=
  ⟨h.channels, h.zones, h.kept, h.state, h.score, h.peers,
    fun d other => (modEntry_entry_other other f t).trans (h.others d other)⟩

theorem set (x : Entry) (h : AtEntry e sent s t) : AtEntry e sent s (setEntry e x t) := h.entry _

theorem offer (f : Frame) (h : AtEntry e sent s t) : AtEntry e sent s (offer f t).1 :=
  h.after (by simp) (by simp) (by simp [State.beyondZones]) (by simp) (by simp) (by simp) (by simp)

theorem withdraw (p : Frame → Bool) (h : AtEntry e sent s t) : AtEntry e sent s (withdrawFrames p t) :=
  h.after (by simp) (by simp) (by simp [State.beyondZones]) (by simp) (by simp) (by simp) (by simp)

theorem raise (f : NodeFlag) (h : AtEntry e sent s t) : AtEntry e sent s (raiseFlag f t) :=
  h.after (by simp) (by simp) (by simp [State.beyondZones]) (by simp) (by simp) (by simp) (by simp)

theorem send (c : Fin 8) (m : ToChannelMsg) (h : AtEntry e sent s t) :
    AtEntry e (sent ++ [⟨c, m⟩]) s (sendToChannel c m t) :=
  ⟨by simp [sendToChannel, h.channels], h.zones, h.kept, h.state, h.score, h.peers, h.others⟩

theorem revoke {x : Entry} {y : Holder} (holder : x.holder = some y) (h : AtEntry e sent s t) :
    AtEntry e (sent ++ [⟨y.channel, .revoke⟩]) s (sendRevoke x t) := by
  rw [sendRevoke, holder]
  exact h.send y.channel .revoke

theorem dead (h : AtEntry e sent s t) : AtEntry e sent s (enterDead e t) := h.entry _

theorem config (h : AtEntry e sent s t) : t.now = s.now ∧ t.loader = s.loader ∧ t.config = s.config := by
  obtain ⟨⟨-, loader, -⟩, -, -⟩ := sameSurroundings_of_kept h.kept
  exact ⟨congrArg Prod.fst h.kept, loader, by rw [State.config, loader]; rfl⟩

end AtEntry

/-! ## RELEASE frames (R30, R42) -/

theorem sameLimit_release (a : Frame) (g : Fin 128) (c : Fin 8) :
    sameLimit a (.release g c) = (a.group == some g) := by
  cases a <;> simp [sameLimit, Frame.group]

/-- ON-LINE a RELEASE is refused where a frame of its group is queued, or 12 frames of no larger kind code are. -/
theorem offer_release_refused {s : State} {g : Fin 128} {c : Fin 8} (onLine : s.onLine = true)
    (refused : (offer (.release g c) s).2 = false) : (offer (.release g c) s).1.noRoomFor g := by
  have admitted : admits s.bus.state (.release g c) = true := by
    rw [show s.bus.state = .onLine by simpa [State.onLine] using onLine]
    rfl
  by_cases free : ∀ x ∈ s.bus.queue, sameLimit x.frame (.release g c) = false
  · by_cases room : s.bus.queue.length < 12
    · rw [offer_of_room admitted free room] at refused
      exact nomatch refused
    · obtain ⟨rest, last, queue⟩ : ∃ rest last, s.bus.queue = rest ++ [last] := by
        simpa using (List.eq_nil_or_concat s.bus.queue).resolve_left fun e => by simp [e] at room
      by_cases above : (Frame.release g c).code < last.frame.code
      · rw [offer_of_displacing admitted free queue (by omega) above] at refused
        exact nomatch refused
      · rw [offer_of_full admitted free queue (by omega) (by omega)]
        exact .inl (by simpa using room)
  · obtain ⟨x, inside, same⟩ : ∃ x ∈ s.bus.queue, sameLimit x.frame (.release g c) = true := by simpa using free
    have bus : (offer (.release g c) s).1.bus = s.bus := by
      rcases offer_cases (.release g c) s with ⟨-, same⟩ | ⟨_, q, _, m, _, _, merged, _⟩ | ⟨taken, -⟩
      · exact same
      · cases h : q.frame <;> simp [mergeFrames, h] at merged
      · rw [taken] at refused
        exact nomatch refused
    rw [sameLimit_release] at same
    exact .inr ⟨x, by rw [bus]; exact inside, eq_of_beq same⟩

theorem deadAfter_requests {s : State} {e : Fin 8} {x y : Entry} (requests : y.requests = x.requests) :
    s.deadAfter e y = s.deadAfter e x := by
  simp only [State.deadAfter, Entry.became, requests]

theorem enterDead_entry {s : State} {e : Fin 8} {x : Entry} (here : s.entry e = some x) :
    (enterDead e s).entry e = some (s.deadAfter e x) := by
  rw [enterDead, modEntry_entry_of e s here]
  rfl

/-- What reads the clock and the image alone reads the same. -/
theorem AtEntry.deadAfter {e d : Fin 8} {sent : List ToChannel} {s t : State} (h : AtEntry e sent s t) (x : Entry) :
    t.deadAfter d x = s.deadAfter d x := by
  obtain ⟨now, -, config⟩ := h.config
  have time : t.deadTime d = s.deadTime d := by simp only [State.deadTime, State.member, config]
  simp only [State.deadAfter, time, now]

theorem AtEntry.heldBy {e : Fin 8} {sent : List ToChannel} {s t : State} (h : AtEntry e sent s t) (x : Entry)
    (y : Holder) : t.heldBy x y = s.heldBy x y := by
  obtain ⟨now, -, config⟩ := h.config
  simp only [State.heldBy, State.holdInterval, config, now]

theorem AtEntry.member {e : Fin 8} {sent : List ToChannel} {s t : State} (h : AtEntry e sent s t) (d : Fin 8) :
    t.member d = s.member d := by
  simp only [State.member, h.config.2.2]

/-! ## The end of a holding (R42) -/

/-- The entry that waits for its RELEASE to be taken. -/
def Entry.releasing (x : Entry) : Entry :=
  { x with state := .releasingLocal, releaseQueued := true, hold := none, lapse := none, window := none }

theorem queueRelease_eq (e : Fin 8) (x : Entry) (s : State) : queueRelease e x s =
    if (offer (.release (s.member e).group x.frameChannel) (setEntry e x.releasing s)).2 = true then
      (offer (.release (s.member e).group x.frameChannel) (setEntry e x.releasing s)).1
    else enterDead e (offer (.release (s.member e).group x.frameChannel) (setEntry e x.releasing s)).1 := rfl

section
variable {e : Fin 8} {x : Entry} {s t : State} (here : s.entry e = some x)

theorem queueRelease_at : AtEntry e [] s (queueRelease e x s) := by
  have offered := ((AtEntry.refl e s).set x.releasing).offer (.release (s.member e).group x.frameChannel)
  rw [queueRelease_eq]
  split
  · exact offered
  · exact offered.dead

theorem settleDone_at : AtEntry e [] s (settleDone e x s) := by
  have start := AtEntry.refl e s
  unfold settleDone
  (repeat' split) <;> first | exact start.entry _ | exact queueRelease_at

include here

theorem setEntry_entry_of (y : Entry) : (setEntry e y s).entry e = some y := modEntry_entry_of e s here _

/-- A RELEASE that is taken up is waited for. -/
theorem queueRelease_taken (h : DueAfter (queueRelease e x s) t)
    (taken : (offer (.release (s.member e).group x.frameChannel) (setEntry e x.releasing s)).2 = true) :
    t.entry e = some x.releasing ∧ ∃ q ∈ t.bus.queue, q.frame = .release (s.member e).group x.frameChannel := by
  rw [queueRelease_eq, if_pos taken] at h
  refine ⟨(h.leaves e _ ((offer_entry ..).trans (setEntry_entry_of here x.releasing))).entry nofun, ?_⟩
  obtain ⟨q, inside, same | ⟨g, merged⟩⟩ := offer_taken_mem taken
  · exact ⟨q, h.due.stays q inside (by simp [same, Frame.code]), same⟩
  · cases g <;> simp [mergeFrames] at merged

/-- ON-LINE the entry waits for its RELEASE, or is DEAD where the queue has no room for one. -/
theorem queueRelease_releases (onLine : s.onLine = true) (h : DueAfter (queueRelease e x s) t) :
    s.releases t e x := by
  by_cases taken : (offer (.release (s.member e).group x.frameChannel) (setEntry e x.releasing s)).2 = true
  · exact .inl (queueRelease_taken here h taken)
  · rw [queueRelease_eq, if_neg taken] at h
    have offered := ((AtEntry.refl e s).set x.releasing).offer (.release (s.member e).group x.frameChannel)
    have kept := (offer_entry (.release (s.member e).group x.frameChannel) e _).trans
      (setEntry_entry_of here x.releasing)
    have full := offer_release_refused (s := setEntry e x.releasing s) onLine (Bool.eq_false_iff.mpr taken)
    generalize (offer (.release (s.member e).group x.frameChannel) (setEntry e x.releasing s)).1 = u at *
    have dead := h.leaves e _ (enterDead_entry kept)
    rw [offered.deadAfter, deadAfter_requests (y := x.releasing) (x := x) rfl] at dead
    refine .inr ⟨dead, State.noRoomFor.later (s := enterDead e u) ?_ h.due h.length⟩
    simpa [State.noRoomFor] using full

theorem enterHeldRemote_entry (y : Holder) : (enterHeldRemote e y s).entry e = some (s.heldBy x y) := by
  rw [enterHeldRemote, modEntry_entry_of e s here]
  rfl

/-- The holding ends with the first case of R42 that applies. -/
theorem settleDone_settled (h : DueAfter (settleDone e x s) t) : s.settled t e x := by
  unfold State.settled
  by_cases onLine : s.bus.state = .onLine
  · have line : s.onLine = true := by simp [State.onLine, onLine]
    rw [if_neg (not_not_intro onLine)]
    by_cases yielded : x.yielded = true
    · rw [if_pos yielded]
      intro y conflict
      have held : settleDone e x s = enterHeldRemote e y s := by simp [settleDone, line, yielded, conflict]
      rw [held] at h
      exact (h.leaves e _ (enterHeldRemote_entry here y)).entry nofun
    · rw [if_neg yielded]
      by_cases lapsed : x.lapsed = true
      · have unknown : settleDone e x s = enterUnknownLapsed e s := by simp [settleDone, line, yielded, lapsed]
        rw [if_pos lapsed]
        rw [unknown] at h
        exact (h.leaves e _ (modEntry_entry_of e s here _)).entry nofun
      · have released : settleDone e x s = queueRelease e x s := by simp [settleDone, line, yielded, lapsed]
        rw [if_neg lapsed]
        rw [released] at h
        exact queueRelease_releases here line h
  · have unknown : settleDone e x s = enterUnknown e s := by simp [settleDone, State.onLine, onLine]
    rw [if_pos onLine]
    rw [unknown] at h
    exact (h.leaves e _ (modEntry_entry_of e s here _)).entry nofun

end

end Sys2Proof.Machine
end

section
/-! PROOFS. The timers of a membership entry (O9). -/

namespace Sys2Proof.Machine

open Sys2Proof

/-! ## What the obligations say of the rest of the node -/

/-- From s to t the operations of an entry brought about no more than the messages they sent and the frames due. -/
def State.besideEntry (s t : State) (e : Fin 8) (sent : List ToChannel) : Prop :=
  t.channels = { s.channels with toChannels := s.channels.toChannels ++ sent } ∧ t.zones = s.zones ∧
    t.points = s.points ∧ t.marks = s.marks ∧ s.sameSurroundings t ∧
    ∀ d, d ≠ e → ∀ y, s.entry d = some y → t.leaves d y

theorem AtEntry.beside {e : Fin 8} {sent : List ToChannel} {s v t : State} (h : AtEntry e sent s v)
    (kept : t.beyondZones = v.beyondZones) (zones : t.zones = v.zones) (channels : t.channels = v.channels)
    (after : DueAfter v t) : s.besideEntry t e sent := by
  obtain ⟨around, marks, points⟩ := sameSurroundings_of_kept (kept.trans h.kept)
  exact ⟨channels.trans h.channels, zones.trans h.zones, points, marks, around,
    fun d other y here => after.leaves d y ((h.others d other).trans here)⟩

theorem AtEntry.due {e : Fin 8} {sent : List ToChannel} {s v : State} (h : AtEntry e sent s v) :
    s.besideEntry (buildDue v) e sent :=
  h.beside (by simp [State.beyondZones]) (by simp) (by simp) (buildDue_after v)

/-- The command i at entry e sends these messages to channels, and leaves the facts. -/
def State.actsAt (s : State) (e : Fin 8) (i : Instr) (sent : List ToChannel) (facts : State → Prop) : Prop :=
  ∃ t, exec i s = .next t ∧ t.channels = { s.channels with toChannels := s.channels.toChannels ++ sent } ∧
    t.zones = s.zones ∧ t.points = s.points ∧ t.marks = s.marks ∧ s.sameSurroundings t ∧
    (∀ d, d ≠ e → ∀ y, s.entry d = some y → t.leaves d y) ∧ facts t

/-- The command i at entry e sends no message, and leaves the facts. -/
def State.actsQuietly (s : State) (e : Fin 8) (i : Instr) (facts : State → Prop) : Prop :=
  ∃ t, exec i s = .next t ∧ t.channels = s.channels ∧ t.zones = s.zones ∧ t.points = s.points ∧ t.marks = s.marks ∧
    s.sameSurroundings t ∧ (∀ d, d ≠ e → ∀ y, s.entry d = some y → t.leaves d y) ∧ facts t

/-- The event of an entry's timer. -/
theorem timer_outcome {e : Fin 8} {sent : List ToChannel} {s v : State} {i : Instr} {P : State → Prop}
    (runs : exec i s = .next (buildDue v)) (h : AtEntry e sent s v) (facts : ∀ t, DueAfter v t → P t) :
    s.actsAt e i sent P := by
  obtain ⟨channels, zones, points, marks, around, others⟩ := h.due
  exact ⟨_, runs, channels, zones, points, marks, around, others, facts _ (buildDue_after v)⟩

/-- The same of an event that sends no message. -/
theorem timer_outcome_silent {e : Fin 8} {s v : State} {i : Instr} {P : State → Prop}
    (runs : exec i s = .next (buildDue v)) (h : AtEntry e [] s v) (facts : ∀ t, DueAfter v t → P t) :
    s.actsQuietly e i P := by
  obtain ⟨t, command, channels, rest⟩ := timer_outcome runs h facts
  exact ⟨t, command, by rw [channels, List.append_nil], rest⟩

/-! ## HOLD frames (R29) -/

theorem sameLimit_hold (a : Frame) (g : Fin 128) (c : Fin 8) (o : Bool) :
    sameLimit a (.hold g c o) = (a.group == some g) := by
  cases a <;> simp [sameLimit, Frame.group]

/-- In a queue with room and no frame of the group, a HOLD is queued as it is offered. -/
theorem offerHold_queued {s : State} {e c : Fin 8} {o : Bool} (onLine : s.bus.state = .onLine)
    (room : s.bus.queue.length < 12) (free : ∀ q ∈ s.bus.queue, q.frame.group ≠ some (s.member e).group) :
    ∃ q ∈ (offerHold e c o s).bus.queue, q.frame = .hold (s.member e).group c o := by
  have taken := offer_of_room (s := s) (f := .hold (s.member e).group c o) (by rw [onLine]; rfl)
    (fun q inside => by rw [sameLimit_hold]; simpa using free q inside) room
  rw [offerHold, offerOnly, taken]
  exact ⟨_, (insertByCode_perm _ _).mem_iff.mpr List.mem_cons_self, rfl⟩

theorem offerHold_at {e : Fin 8} {sent : List ToChannel} {s t : State} (c : Fin 8) (o : Bool)
    (h : AtEntry e sent s t) : AtEntry e sent s (offerHold e c o t) := h.offer _

theorem offerHold_entry (e c d : Fin 8) (o : Bool) (s : State) : (offerHold e c o s).entry d = s.entry d :=
  offer_entry ..

/-- A queued HOLD stands beside the frames due. -/
theorem DueAfter.hold {v t : State} {g : Fin 128} {c : Fin 8} {o : Bool} (h : DueAfter v t)
    (queued : ∃ q ∈ v.bus.queue, q.frame = .hold g c o) : ∃ q ∈ t.bus.queue, q.frame = .hold g c o := by
  obtain ⟨q, inside, frame⟩ := queued
  exact ⟨q, h.due.stays q inside (by simp [frame, Frame.code]), frame⟩

/-! ## The timers (R31, R32, R36, R39, R41, R44, R45) -/

theorem running_timer {t : Timer} (runs : t ≠ none) : t.isNone = false := by
  cases t with
  | none => exact absurd rfl runs
  | some => rfl

theorem sendRevoke_entry (x : Entry) (d : Fin 8) (s : State) : (sendRevoke x s).entry d = s.entry d := by
  unfold sendRevoke
  split <;> rfl

section
variable {s : State} {e : Fin 8} {x : Entry} (here : s.entry e = some x)
include here

/-- The hold timer announces the holding again, or has no use. -/
theorem holdExpiry_cases : if x.hold ≠ none ∧ (x.state = .heldLocal ∨ (x.state = .releasingLocal ∧
      s.bus.state = .onLine ∧ x.yielded = false ∧ x.releaseQueued = false)) then
    holdExpiry e s = offerHold e x.frameChannel false (setEntry e { x with hold := some (s.now + s.holdInterval) } s)
    else holdExpiry e s = s := by
  split
  next again =>
    obtain ⟨runs, state⟩ := again
    have due := running_timer runs
    rcases state with held | ⟨releasing, onLine, yielded, queued⟩
    · simp [holdExpiry, here, due, held]
    · simp [holdExpiry, here, due, releasing, State.onLine, onLine, yielded, queued]
  next idle =>
    unfold holdExpiry
    rw [here]
    dsimp only
    split
    · rfl
    next due =>
      have runs : x.hold ≠ none := by simpa using due
      cases state : x.state <;> try rfl
      · exact absurd ⟨runs, .inl state⟩ idle
      · refine if_neg fun again => idle ⟨runs, .inr ⟨state, ?_⟩⟩
        simpa [State.onLine, and_assoc] using again

theorem retryExpiry_entry : retryExpiry e s = s ∧ (x.state = .free → x.hold = none) ∨
    x.state = .free ∧ retryExpiry e s = setEntry e { x with hold := none } s := by
  unfold retryExpiry
  rw [here]
  dsimp only
  split
  next runs =>
    simp only [Bool.and_eq_true, beq_iff_eq] at runs
    exact .inr ⟨runs.1, rfl⟩
  next idle =>
    refine .inl ⟨rfl, fun free => ?_⟩
    simpa [free] using idle

theorem lifetimeExpiry_cases : lifetimeExpiry e s =
    if x.lifetime ≠ none ∧ (x.state = .heldRemote ∨ x.state = .unknown) then enterDead e s else s := by
  simp only [lifetimeExpiry, here, Option.isSome_iff_ne_none, Bool.and_eq_true, Bool.or_eq_true, beq_iff_eq]

theorem deadExpiry_cases : deadExpiry e s = if x.dead ≠ none ∧ x.state = .dead then enterFree e s else s := by
  simp only [deadExpiry, here, Option.isSome_iff_ne_none, Bool.and_eq_true, beq_iff_eq, and_comm]

theorem windowExpiry_claimed (state : x.state = .claimed) (runs : x.window ≠ none) : windowExpiry e s =
    match x.requests with
    | c :: rest =>
      offerHold e c false (sendToChannel c .grant (setEntry e { x with
        state := .heldLocal, holder := some { station := s.loader.station, channel := c },
        requests := rest, window := none, hold := some (s.now + s.holdInterval) } s))
    | [] => settleDone e x s := by
  have open' : x.window.isSome = true := Option.isSome_iff_ne_none.mpr runs
  unfold windowExpiry
  rw [here]
  dsimp only
  rw [state, open']
  cases x.requests <;> rfl

theorem windowExpiry_idle (idle : x.state ≠ .claimed ∨ x.window = none) : windowExpiry e s = s := by
  unfold windowExpiry
  rw [here]
  dsimp only
  refine if_neg fun runs => ?_
  simp only [Bool.and_eq_true, beq_iff_eq, Option.isSome_iff_ne_none] at runs
  rcases idle with idle | idle
  · exact idle runs.1
  · exact runs.2 idle

theorem lapseExpiry_held (state : x.state = .heldLocal) (runs : x.lapse ≠ none) : lapseExpiry e s =
    sendRevoke x (setEntry e { x with state := .releasingLocal, lapsed := true, lapse := none } s) := by
  have due := running_timer runs
  simp [lapseExpiry, here, due, state]

theorem lapseExpiry_releasing (state : x.state = .releasingLocal) (runs : x.lapse ≠ none) : lapseExpiry e s =
    if x.releaseQueued = true then s else setEntry e { x with lapsed := true, lapse := none } s := by
  have due := running_timer runs
  simp [lapseExpiry, here, due, state]

theorem lapseExpiry_idle (idle : (x.state ≠ .heldLocal ∧ x.state ≠ .releasingLocal) ∨ x.lapse = none) :
    lapseExpiry e s = s := by
  rcases idle with ⟨held, releasing⟩ | idle
  · cases state : x.state <;> simp_all [lapseExpiry]
  · simp [lapseExpiry, here, idle]

end

theorem leaves_of_same {s t : State} {e : Fin 8} {x : Entry} {v : State} (here : s.entry e = some x)
    (same : v = s) (h : DueAfter v t) : t.leaves e x := h.leaves e x (same ▸ here)

/-! ## Each timer (R31 to R45) -/

section
variable {s : State} {e : Fin 8} {x : Entry} (running : s.running = true) (here : s.entry e = some x)
include running here

theorem holdTimer_expires : s.actsQuietly e (.holdTimerExpiry e) fun t =>
    if x.hold ≠ none ∧ (x.state = .heldLocal ∨ (x.state = .releasingLocal ∧ s.bus.state = .onLine ∧
        x.yielded = false ∧ x.releaseQueued = false)) then
      t.entry e = some { x with hold := some (s.now + s.holdInterval) } ∧
      (s.bus.state = .onLine → s.bus.queue.length < 12 →
        (∀ q ∈ s.bus.queue, sameLimit q.frame (.hold (s.member e).group 0 false) = false) →
        ∃ q ∈ t.bus.queue, q.frame = .hold (s.member e).group x.frameChannel false)
    else t.leaves e x := by
  have cases := holdExpiry_cases here
  have start := AtEntry.refl e s
  by_cases again : x.hold ≠ none ∧ (x.state = .heldLocal ∨ (x.state = .releasingLocal ∧
    s.bus.state = .onLine ∧ x.yielded = false ∧ x.releaseQueued = false))
  · rw [if_pos again] at cases
    have moves : AtEntry e [] s (holdExpiry e s) := by
      rw [cases]
      exact offerHold_at _ _ (start.set _)
    refine timer_outcome_silent (exec_running running (holdExpiry e)) moves fun t after => ?_
    rw [if_pos again]
    rw [cases] at after
    refine ⟨(after.leaves e _ ((offerHold_entry ..).trans (setEntry_entry_of here _))).entry ?_,
      fun onLine room free => after.hold (offerHold_queued
        (s := setEntry e { x with hold := some (s.now + s.holdInterval) } s) onLine room fun q inside => ?_)⟩
    · rcases again.2 with state | ⟨state, -⟩ <;> simp [state]
    · have := free q inside
      rw [sameLimit_hold] at this
      exact fun group => absurd this (by simp [group, State.member, State.config])
  · rw [if_neg again] at cases
    refine timer_outcome_silent (exec_running running (holdExpiry e)) (cases.symm ▸ start) fun t after => ?_
    rw [if_neg again]
    exact leaves_of_same here cases after

theorem retryHoldOff_expires : s.actsQuietly e (.retryHoldOffExpiry e) fun t =>
    t.leaves e (if x.state = .free then { x with hold := none } else x) := by
  rcases retryExpiry_entry here with ⟨same, none⟩ | ⟨free, set⟩
  · refine timer_outcome_silent (exec_running running (retryExpiry e)) (same.symm ▸ .refl e s) fun t after => ?_
    have left := leaves_of_same here same after
    split
    next free =>
      have unchanged : ({ x with hold := Option.none } : Entry) = x := by rw [← none free]
      rwa [unchanged]
    next => exact left
  · refine timer_outcome_silent (exec_running running (retryExpiry e)) (set.symm ▸ (AtEntry.refl e s).set _)
      fun t after => ?_
    rw [if_pos free]
    rw [set] at after
    exact after.leaves e _ (setEntry_entry_of here _)

theorem lifetimeTimer_expires : s.actsQuietly e (.lifetimeTimerExpiry e) fun t =>
    t.leaves e (if x.lifetime ≠ none ∧ (x.state = .heldRemote ∨ x.state = .unknown) then s.deadAfter e x else x) := by
  have cases := lifetimeExpiry_cases here
  refine timer_outcome_silent (exec_running running (lifetimeExpiry e)) ?_ fun t after => ?_
  · rw [cases]
    split
    · exact (AtEntry.refl e s).dead
    · exact .refl e s
  · rw [cases] at after
    split at after
    next runs => rw [if_pos runs]; exact after.leaves e _ (enterDead_entry here)
    next idle => rw [if_neg idle]; exact after.leaves e x here

theorem deadTimer_expires : s.actsQuietly e (.deadTimerExpiry e) fun t =>
    t.leaves e (if x.dead ≠ none ∧ x.state = .dead then x.became .free else x) := by
  have cases := deadExpiry_cases here
  refine timer_outcome_silent (exec_running running (deadExpiry e)) ?_ fun t after => ?_
  · rw [cases]
    split
    · exact (AtEntry.refl e s).entry _
    · exact .refl e s
  · rw [cases] at after
    split at after
    next runs => rw [if_pos runs]; exact after.leaves e _ (modEntry_entry_of e s here _)
    next idle => rw [if_neg idle]; exact after.leaves e x here

theorem claimWindow_unused (state : x.state = .claimed) (runs : x.window ≠ none) (requests : x.requests = []) :
    s.actsAt e (.claimWindowExpiry e) [] fun t => s.settled t e x := by
  have claimed := windowExpiry_claimed here state runs
  rw [requests] at claimed
  dsimp only at claimed
  refine timer_outcome (exec_running running (windowExpiry e)) (claimed.symm ▸ settleDone_at) fun t after => ?_
  rw [claimed] at after
  exact settleDone_settled here after

theorem claimWindow_grants {c : Fin 8} {rest : List (Fin 8)} (state : x.state = .claimed) (runs : x.window ≠ none)
    (requests : x.requests = c :: rest) : s.actsAt e (.claimWindowExpiry e) [⟨c, .grant⟩] fun t =>
      t.entry e = some { x with state := .heldLocal, requests := rest, window := none,
                                holder := some { station := s.loader.station, channel := c },
                                hold := some (s.now + s.holdInterval) } ∧
      (s.bus.state = .onLine → s.bus.queue.length < 12 →
        (∀ q ∈ s.bus.queue, sameLimit q.frame (.hold (s.member e).group c false) = false) →
        ∃ q ∈ t.bus.queue, q.frame = .hold (s.member e).group c false) := by
  have claimed := windowExpiry_claimed here state runs
  rw [requests] at claimed
  have moves := offerHold_at c false (((AtEntry.refl e s).set { x with
    state := .heldLocal, holder := some { station := s.loader.station, channel := c },
    requests := rest, window := none, hold := some (s.now + s.holdInterval) }).send c .grant)
  refine timer_outcome (exec_running running (windowExpiry e)) (claimed.symm ▸ moves) fun t after => ?_
  rw [claimed] at after
  refine ⟨(after.leaves e _ ((offerHold_entry ..).trans (setEntry_entry_of here _))).entry nofun,
    fun onLine room free => after.hold (offerHold_queued (s := sendToChannel c .grant (setEntry e _ s)) onLine
      room fun q inside => ?_)⟩
  have := free q inside
  rw [sameLimit_hold] at this
  exact fun group => absurd this (by simp [group, State.member, State.config])

theorem claimWindow_idle (idle : x.state ≠ .claimed ∨ x.window = none) :
    s.actsAt e (.claimWindowExpiry e) [] fun t => t.leaves e x := by
  have same := windowExpiry_idle here idle
  exact timer_outcome (exec_running running (windowExpiry e)) (same.symm ▸ .refl e s) fun t after =>
    leaves_of_same here same after

theorem lapse_revokes {h : Holder} (state : x.state = .heldLocal) (runs : x.lapse ≠ none) (holder : x.holder = some h) :
    s.actsAt e (.lapseTimerExpiry e) [⟨h.channel, .revoke⟩] fun t =>
      t.entry e = some { x with state := .releasingLocal, lapsed := true, lapse := none } := by
  have held := lapseExpiry_held here state runs
  have moves := ((AtEntry.refl e s).set { x with state := .releasingLocal, lapsed := true, lapse := none }).revoke
    (x := x) holder
  refine timer_outcome (exec_running running (lapseExpiry e)) (held.symm ▸ moves) fun t after => ?_
  rw [held] at after
  exact (after.leaves e _ ((sendRevoke_entry ..).trans (setEntry_entry_of here _))).entry nofun

theorem lapse_noted (state : x.state = .releasingLocal) (runs : x.lapse ≠ none) :
    s.actsAt e (.lapseTimerExpiry e) [] fun t =>
      t.entry e = some (if x.releaseQueued = true then x else { x with lapsed := true, lapse := none }) := by
  have releasing := lapseExpiry_releasing here state runs
  refine timer_outcome (exec_running running (lapseExpiry e)) ?_ fun t after => ?_
  · rw [releasing]
    split
    · exact .refl e s
    · exact (AtEntry.refl e s).set _
  · rw [releasing] at after
    split at after
    next queued => rw [if_pos queued]; exact (after.leaves e x here).entry (by simp [state])
    next free =>
      rw [if_neg free]
      exact (after.leaves e _ (setEntry_entry_of here _)).entry (by simp [state])

theorem lapse_idle (idle : (x.state ≠ .heldLocal ∧ x.state ≠ .releasingLocal) ∨ x.lapse = none) :
    s.actsAt e (.lapseTimerExpiry e) [] fun t => t.leaves e x := by
  have same := lapseExpiry_idle here idle
  exact timer_outcome (exec_running running (lapseExpiry e)) (same.symm ▸ .refl e s) fun t after =>
    leaves_of_same here same after

end

/-- Settles O9: each timer sets the entry, may announce it, and the frames due follow. -/
theorem entryTimers : Obligations.EntryTimers := by
  refine ⟨fun s e x running here => ⟨holdTimer_expires running here, retryHoldOff_expires running here,
    lifetimeTimer_expires running here, deadTimer_expires running here⟩,
    fun s e x running here => ⟨fun state runs => ?_, claimWindow_idle running here,
      fun state runs h holder => lapse_revokes running here state runs holder, lapse_noted running here,
      lapse_idle running here⟩⟩
  cases requests : x.requests with
  | nil => exact claimWindow_unused running here state runs requests
  | cons c rest => exact claimWindow_grants running here state runs requests

end Sys2Proof.Machine
end

section
/-! PROOFS. Which CLAIM frames are due, and which RELEASE is taken up (R29, R32, R42). -/

namespace Sys2Proof.Machine

open Sys2Proof

/-- A frame that neither merges nor replaces joins the queue as itself. -/
theorem mem_offer_lone {f : Frame} {s : State} {q : Queued} (lone : f.lone) (inside : q ∈ (offer f s).1.bus.queue) :
    q ∈ s.bus.queue ∨ q.frame = f := by
  rcases offer_cases f s with ⟨-, same⟩ | ⟨before, p, after, m, queue, limit, merged, eq⟩ | ⟨-, kept, sub, -, eq⟩
  · exact .inl (by rwa [same] at inside)
  · rw [lone.1] at merged
    exact nomatch merged
  · rw [eq] at inside
    rcases mem_insertByCode inside with rfl | inside
    · exact .inr rfl
    · exact .inl (sub q inside)

theorem offer_length_le {f : Frame} (lone : f.lone) (s : State) :
    (offer f s).1.bus.queue.length ≤ s.bus.queue.length + 1 := by
  cases admitted : admits s.bus.state f
  · rw [offer_of_not_admitted admitted]
    exact Nat.le_succ _
  by_cases free : ∀ x ∈ s.bus.queue, sameLimit x.frame f = false
  · by_cases room : s.bus.queue.length < 12
    · rw [offer_of_room admitted free room]
      simp [setQueue, (insertByCode_perm _ _).length_eq]
    · obtain ⟨rest, last, queue⟩ : ∃ rest last, s.bus.queue = rest ++ [last] := by
        simpa using (List.eq_nil_or_concat s.bus.queue).resolve_left fun e => by simp [e] at room
      by_cases above : f.code < last.frame.code
      · rw [offer_of_displacing admitted free queue (by omega) above]
        simp [setQueue, (insertByCode_perm _ _).length_eq, queue]
      · rw [offer_of_full admitted free queue (by omega) (by omega)]
        simp
  · rw [offer_lone_refused lone (by simpa using free)]
    exact Nat.le_succ _

/-- The entry claims, and its CLAIM is not offered yet. -/
def State.claiming (s : State) (e c : Fin 8) : State :=
  modEntry e (fun x => { x.moved .claiming with claimChannel := some c }) s

theorem claimGroup_eq (e c : Fin 8) (s : State) : claimGroup e c s =
    if (offer (.claim (s.member e).group c) (s.claiming e c)).2 = true then
      (offer (.claim (s.member e).group c) (s.claiming e c)).1
    else enterFreeHoldOff e (offer (.claim (s.member e).group c) (s.claiming e c)).1 := rfl

theorem claimGroup_queue (e c : Fin 8) (s : State) : (claimGroup e c s).bus.queue =
    (offer (.claim (s.member e).group c) (s.claiming e c)).1.bus.queue := by
  rw [claimGroup_eq]
  split
  · rfl
  · simp

theorem claimIfDue_length_le (d : Fin 8) (s : State) :
    (claimIfDue d s).bus.queue.length ≤ s.bus.queue.length + 1 := by
  have claim (c : Fin 8) : (claimGroup d c s).bus.queue.length ≤ s.bus.queue.length + 1 := by
    rw [claimGroup_queue]
    exact offer_length_le (Frame.lone_of_code (.inr (.inl rfl))) (s.claiming d c)
  unfold claimIfDue
  (repeat' split) <;> first | exact claim _ | omega

/-! ## Frames of one group -/

/-- An entry that claims adds a frame of its own group, and no other. -/
theorem mem_claimIfDue {d : Fin 8} {s : State} {q : Queued} (inside : q ∈ (claimIfDue d s).bus.queue) :
    q ∈ s.bus.queue ∨ s.entry d ≠ none ∧ ∃ c, q.frame = .claim (s.member d).group c := by
  have claim (c : Fin 8) (inside : q ∈ (claimGroup d c s).bus.queue) :
      q ∈ s.bus.queue ∨ q.frame = .claim (s.member d).group c := by
    rw [claimGroup_queue] at inside
    exact mem_offer_lone (s := s.claiming d c) (Frame.lone_of_code (.inr (.inl rfl))) inside
  unfold claimIfDue at inside
  split at inside
  next x here =>
    split at inside
    next c _ _ =>
      split at inside
      · exact (claim c inside).imp_right fun frame => ⟨by simp [here], c, frame⟩
      · exact .inl inside
    · exact .inl inside
  · exact .inl inside

theorem mem_buildFault {c : Fin 8} {s : State} {q : Queued} (inside : q ∈ (buildFault c s).bus.queue) :
    q ∈ s.bus.queue ∨ q.frame.code = 7 := by
  have lone : (faultFrame s c).lone := Frame.lone_of_code (by simp [faultFrame, Frame.code])
  have offered (inside : q ∈ (offer (faultFrame s c) s).1.bus.queue) : q ∈ s.bus.queue ∨ q.frame.code = 7 :=
    (mem_offer_lone lone inside).imp_right fun same => by rw [same]; rfl
  unfold buildFault at inside
  dsimp only at inside
  split at inside
  · split at inside
    · exact offered (by simpa using inside)
    · exact offered (by simpa using inside)
  · exact .inl inside

theorem mem_buildPoints {s : State} {q : Queued} (inside : q ∈ (buildPoints s).bus.queue) :
    q ∈ s.bus.queue ∨ q.frame.code = 8 := by
  unfold buildPoints offerOnly at inside
  generalize pendingPairs s pairsPerFrame s.config.publications s.pubs.entries = pairs at inside
  have offered (u : State) (bus : u.bus = s.bus) (inside : q ∈ (offer (.points pairs) u).1.bus.queue) :
      q ∈ s.bus.queue ∨ q.frame.code = 8 := by
    rw [← bus]
    exact (mem_offer_lone (Frame.lone_of_code (by simp [Frame.code])) inside).imp_right fun same => by rw [same]; rfl
  have carried (es : List Publication) := offered (setPubs es s) rfl
  dsimp only at inside
  split at inside
  · split at inside
    · exact carried _ inside
    · exact offered s rfl (by simpa using inside)
  · exact .inl inside

/-- What the frames due keep of the entries' places and of the image. -/
structure SamePlaces (s t : State) : Prop where
  length : t.groups.length = s.groups.length
  config : t.config = s.config
  state : t.bus.state = s.bus.state

theorem SamePlaces.listed {s t : State} (h : SamePlaces s t) (d : Fin 8) : t.entry d ≠ none ↔ s.entry d ≠ none := by
  rw [State.entry, State.entry, ne_eq, ne_eq, List.getElem?_eq_none_iff, List.getElem?_eq_none_iff, h.length]

theorem SamePlaces.member {s t : State} (h : SamePlaces s t) (d : Fin 8) : t.member d = s.member d := by
  simp only [State.member, h.config]

theorem SamePlaces.trans {s t u : State} (h : SamePlaces s t) (k : SamePlaces t u) : SamePlaces s u :=
  ⟨k.length.trans h.length, k.config.trans h.config, k.state.trans h.state⟩

theorem claimIfDue_places (d : Fin 8) (s : State) : SamePlaces s (claimIfDue d s) :=
  ⟨(Offered.claimIfDue d s).groups_length, by simp [State.config], by simp⟩

/-! ## An entry's CLAIM that is due (R32) -/

section
variable {v : State} {e : Fin 8} {x : Entry} {h : Fin 8} {others : List (Fin 8)}

/-- With room for a CLAIM of every entry, a FREE entry with a waiting channel claims. -/
theorem claims_taken (here : v.entry e = some x) (requests : x.requests = h :: others) (free : x.state = .free)
    (hold : x.hold = none) (onLine : v.bus.state = .onLine) (room : v.bus.queue.length + v.groups.length ≤ 12)
    (unique : ∀ d, d ≠ e → v.entry d ≠ none → (v.member d).group ≠ (v.member e).group)
    (none : ∀ q ∈ v.bus.queue, q.frame.group ≠ some (v.member e).group) :
    (each8 claimIfDue v).entry e =
      some { Entry.start with state := .claiming, requests := x.requests, claimChannel := some h } ∧
    ∃ q ∈ (each8 claimIfDue v).bus.queue, q.frame = .claim (v.member e).group h := by
  have listed : e.val < v.groups.length := (List.getElem?_eq_some_iff.mp here).1
  have all := each8_counted (f := claimIfDue) (s := v) (P := fun n u =>
    SamePlaces v u ∧ u.bus.queue.length ≤ v.bus.queue.length + min n v.groups.length ∧
    (n ≤ e.val → u.entry e = some x ∧ ∀ q ∈ u.bus.queue, q.frame.group ≠ some (v.member e).group) ∧
    (e.val < n → u.entry e =
        some { Entry.start with state := .claiming, requests := x.requests, claimChannel := some h } ∧
      ∃ q ∈ u.bus.queue, q.frame = .claim (v.member e).group h))
    (fun d u ⟨places, length, before, after⟩ => ?_)
    ⟨⟨rfl, rfl, rfl⟩, by omega, fun _ => ⟨here, none⟩, fun past => absurd past (Nat.not_lt_zero _)⟩
  · exact all.2.2.2 e.isLt
  · refine ⟨places.trans (claimIfDue_places d u), ?_⟩
    by_cases own : d = e
    · subst own
      obtain ⟨still, apart⟩ := before (Nat.le_refl _)
      have line : u.onLine = true := by simp [State.onLine, places.state, onLine]
      have claims : claimIfDue d u = claimGroup d h u := by simp [claimIfDue, still, requests, free, hold, line]
      have taken := offer_of_room (s := u.claiming d h) (f := .claim (v.member d).group h)
        (by simp [State.claiming, places.state, onLine, admits])
        (fun q inside => by
          rw [sameLimit_claim]
          simpa using apart q inside)
        (show u.bus.queue.length < 12 by omega)
      have perm := insertByCode_perm (newEntry u.now (.claim (v.member d).group h)) u.bus.queue
      have outcome : claimGroup d h u = setQueue (insertByCode (newEntry u.now (.claim (v.member d).group h)) u.bus.queue)
          (u.claiming d h) := by
        rw [claimGroup_eq, places.member, taken]
        rfl
      rw [claims, outcome]
      have longer : (insertByCode (newEntry u.now (.claim (v.member d).group h)) u.bus.queue).length =
          u.bus.queue.length + 1 := perm.length_eq
      refine ⟨?_, fun early => absurd early (by omega), fun _ => ⟨?_, ?_⟩⟩
      · show (insertByCode _ _).length ≤ _
        omega
      · exact (modEntry_entry_of d u still _).trans (by rw [Entry.moved])
      · exact ⟨_, perm.mem_iff.mpr List.mem_cons_self, rfl⟩
    · have beside := DueBeside.claimIfDue own u
      refine ⟨?_, fun early => ?_, fun past => ?_⟩
      · cases entry : u.entry d with
        | none =>
          have same : claimIfDue d u = u := by simp [claimIfDue, entry]
          rw [same]
          omega
        | some y =>
          have inside : d.val < v.groups.length := by
            rw [← places.length]
            exact (List.getElem?_eq_some_iff.mp entry).1
          have grown := claimIfDue_length_le d u
          omega
      · obtain ⟨still, apart⟩ := before (by omega)
        refine ⟨beside.entry.trans still, fun q inside => ?_⟩
        rcases mem_claimIfDue inside with old | ⟨some, c, frame⟩
        · exact apart q old
        · rw [frame, places.member]
          simpa [Frame.group] using unique d own ((places.listed d).mp some)
      · have differs : d.val ≠ e.val := fun same => own (Fin.ext same)
        obtain ⟨still, q, inside, frame⟩ := after (by omega)
        exact ⟨beside.entry.trans still, q, beside.due.stays q inside (by simp [frame, Frame.code]), frame⟩

/-- The frames due after the CLAIMs leave a claiming entry and its CLAIM. -/
theorem buildDue_claims (here : v.entry e = some x) (requests : x.requests = h :: others) (free : x.state = .free)
    (hold : x.hold = none) (onLine : v.bus.state = .onLine) (room : v.bus.queue.length + v.groups.length ≤ 12)
    (unique : ∀ d, d ≠ e → v.entry d ≠ none → (v.member d).group ≠ (v.member e).group)
    (none : ∀ q ∈ v.bus.queue, q.frame.group ≠ some (v.member e).group) :
    (buildDue v).entry e =
      some { Entry.start with state := .claiming, requests := x.requests, claimChannel := some h } ∧
    ∃ q ∈ (buildDue v).bus.queue, q.frame = .claim (v.member e).group h := by
  obtain ⟨claimed, q, inside, frame⟩ := claims_taken here requests free hold onLine room unique none
  have faults : DueBeside e (each8 claimIfDue v) (buildDue v) :=
    (each8_relates (DueBeside.refl e) DueBeside.trans DueBeside.buildFault _).trans (.buildPoints _)
  exact ⟨faults.entry.trans claimed, q, faults.due.stays q inside (by simp [frame, Frame.code]), frame⟩

/-- An entry with no waiting channel, or in another state than FREE, does not claim. -/
theorem claimIfDue_idle (here : v.entry e = some x) (idle : x.requests = [] ∨ x.state ≠ .free) :
    claimIfDue e v = v := by
  unfold claimIfDue
  rw [here]
  dsimp only
  rcases idle with none | busy
  · rw [none]
  · split
    · exact if_neg (by simp [busy])
    · rfl

theorem isClaimOf_of_code {g : Fin 128} {f : Frame} (code : f.code ≠ 5) : isClaimOf g f = false := by
  cases f <;> first | rfl | exact absurd rfl code

/-- No CLAIM of a group is due whose one listed entry does not claim. -/
theorem buildDue_no_claim (here : v.entry e = some x) (idle : x.requests = [] ∨ x.state ≠ .free)
    (unique : ∀ d, d ≠ e → v.entry d ≠ none → (v.member d).group ≠ (v.member e).group)
    (none : ∀ q ∈ v.bus.queue, isClaimOf (v.member e).group q.frame = false) :
    ∀ q ∈ (buildDue v).bus.queue, isClaimOf (v.member e).group q.frame = false := by
  have kept := each8_relates (f := claimIfDue) (R := fun s t =>
      (SamePlaces v s ∧ s.entry e = some x ∧ ∀ q ∈ s.bus.queue, isClaimOf (v.member e).group q.frame = false) →
      SamePlaces v t ∧ t.entry e = some x ∧ ∀ q ∈ t.bus.queue, isClaimOf (v.member e).group q.frame = false)
    (fun _ => id) (fun f g => g ∘ f) (fun d u ⟨places, still, apart⟩ => by
      refine ⟨places.trans (claimIfDue_places d u), ?_⟩
      by_cases own : d = e
      · subst own
        rw [claimIfDue_idle still idle]
        exact ⟨still, apart⟩
      · refine ⟨(DueBeside.claimIfDue own u).entry.trans still, fun q inside => ?_⟩
        rcases mem_claimIfDue inside with old | ⟨some, c, frame⟩
        · exact apart q old
        · rw [frame, places.member]
          simpa [isClaimOf] using unique d own ((places.listed d).mp some)) v ⟨⟨rfl, rfl, rfl⟩, here, none⟩
  obtain ⟨-, -, claims⟩ := kept
  have other {f : Frame} (code : f.code = 7 ∨ f.code = 8) : isClaimOf (v.member e).group f = false :=
    isClaimOf_of_code (by omega)
  have faults : ∀ q ∈ (buildFaults (each8 claimIfDue v)).bus.queue, isClaimOf (v.member e).group q.frame = false :=
    each8_relates (f := buildFault) (R := fun s t =>
      (∀ q ∈ s.bus.queue, isClaimOf (v.member e).group q.frame = false) →
      ∀ q ∈ t.bus.queue, isClaimOf (v.member e).group q.frame = false)
    (fun _ => id) (fun f g => g ∘ f)
    (fun c u apart q inside => (mem_buildFault inside).elim (apart q) fun code => other (.inl code)) _ claims
  rw [buildDue]
  generalize buildFaults (each8 claimIfDue v) = w at *
  exact fun q inside => (mem_buildPoints inside).elim (faults q) fun code => other (.inr code)

end

end Sys2Proof.Machine
end

section
/-! PROOFS. Messages of the channels at their membership entry (O8). -/

namespace Sys2Proof.Machine

open Sys2Proof

/-- The state whose next message to an entry is taken off. -/
def State.hearing (s : State) (rest : List ToGroup) : State :=
  { s with channels := { s.channels with toGroups := rest } }

theorem deliverToGroup_next {s : State} {c e : Fin 8} {before after : List ToGroup} {m : ToGroupMsg}
    (group : (s.cfg c).group = some e) (queue : s.channels.toGroups = before ++ ⟨e, c, m⟩ :: after)
    (first : ∀ y ∈ before, y.entry ≠ e) {p : ToGroupMsg → Bool} (meets : p m = true) (f : Fin 8 → State → State) :
    deliverToGroup c p f s = f e (s.hearing (before ++ after)) := by
  have skipped : before.find? (fun y => y.entry == e) = none :=
    List.find?_eq_none.mpr fun y h => by simpa using first y h
  have found : s.channels.toGroups.find? (fun y => y.entry == e) = some ⟨e, c, m⟩ := by
    rw [queue, List.find?_append, skipped]
    simp
  have erased : s.channels.toGroups.erase ⟨e, c, m⟩ = before ++ after := by
    rw [queue, List.erase_append_right _ fun h => first _ h rfl]
    simp
  simp only [deliverToGroup, group, found, meets, erased, beq_self_eq_true, Bool.and_self, if_true]
  rfl

section
variable {s : State} {c e : Fin 8} {before after : List ToGroup} {m : ToGroupMsg} (running : s.running = true)
  (group : (s.cfg c).group = some e) (queue : s.channels.toGroups = before ++ ⟨e, c, m⟩ :: after)
  (first : ∀ y ∈ before, y.entry ≠ e)
include running group queue first

theorem exec_request (message : m = .request) :
    exec (.request c) s = .next (buildDue (requestAt e c (s.hearing (before ++ after)))) := by
  rw [← deliverToGroup_next group queue first (p := (· == .request)) (by rw [message]; rfl) fun e => requestAt e c]
  exact exec_running running _

theorem exec_cancel (message : m = .cancel) :
    exec (.cancel c) s = .next (buildDue (cancelAt e c (s.hearing (before ++ after)))) := by
  rw [← deliverToGroup_next group queue first (p := (· == .cancel)) (by rw [message]; rfl) fun e => cancelAt e c]
  exact exec_running running _

theorem exec_done (message : m = .doneNeverDriven ∨ m = .doneOffConfirmed) :
    exec (.done c) s = .next (buildDue (doneAt e c (s.hearing (before ++ after)))) := by
  rw [← deliverToGroup_next group queue first (p := isDone) (by rcases message with rfl | rfl <;> rfl)
    fun e => doneAt e c]
  exact exec_running running _

end

/-- What the obligation says of a message's event, beside its own entry. -/
theorem message_beside {s v : State} {e : Fin 8} {rest : List ToGroup} (h : AtEntry e [] (s.hearing rest) v) :
    (buildDue v).channels = { s.channels with toGroups := rest } ∧ (buildDue v).zones = s.zones ∧
    (buildDue v).points = s.points ∧ (buildDue v).marks = s.marks ∧ s.sameSurroundings (buildDue v) ∧
    ∀ d, d ≠ e → ∀ y, s.entry d = some y → (buildDue v).leaves d y := by
  obtain ⟨channels, zones, points, marks, around, others⟩ := h.due
  refine ⟨?_, zones, points, marks, around, others⟩
  rw [channels, List.append_nil]
  rfl

theorem withdrawFrames_entry (p : Frame → Bool) (d : Fin 8) (s : State) : (withdrawFrames p s).entry d = s.entry d :=
  entry_of_groups (by simp) d

section
variable {s : State} {c e : Fin 8} {x : Entry} (here : s.entry e = some x)
include here

/-- The end of a CLAIM whose last waiting channel left (R33). -/
theorem cancelAt_eq : cancelAt e c s =
    if x.state = .claiming ∧ x.requests.contains c = true ∧ x.requests.filter (fun d => d != c) = [] then
      enterFree e (withdrawClaim e (setEntry e { x with requests := x.requests.filter fun d => d != c } s))
    else setEntry e { x with requests := x.requests.filter fun d => d != c } s := by
  simp only [cancelAt, here, Bool.and_eq_true, beq_iff_eq, List.isEmpty_iff, and_assoc]

theorem requestAt_entry : (requestAt e c s).entry e = some { x with
    requests := if x.requests.contains c = true then x.requests else x.requests ++ [c] } := by
  rw [requestAt, modEntry_entry_of e s here]
  split <;> rfl

theorem doneAt_cases : doneAt e c s =
    if x.holder.map Holder.channel = some c ∧
        (x.state = .heldLocal ∨ (x.state = .releasingLocal ∧ x.releaseQueued = false)) then settleDone e x s
    else s := by
  cases holder : x.holder with
  | none => cases state : x.state <;> simp [doneAt, here, holder, state]
  | some h => cases state : x.state <;> simp [doneAt, here, holder, state]

end

/-- ON-LINE a RELEASE in a queue with room is taken up, where it may take a HOLD's place (R101). -/
theorem offer_release_taken {s : State} {g : Fin 128} {c : Fin 8} (onLine : s.bus.state = .onLine)
    (room : s.bus.queue.length < 12)
    (none : ∀ q ∈ s.bus.queue, isClaimOf g q.frame = false ∧ isReleaseOf g q.frame = false) :
    (offer (.release g c) s).2 = true := by
  have admitted : admits s.bus.state (.release g c) = true := by rw [onLine]; rfl
  by_cases free : ∀ x ∈ s.bus.queue, sameLimit x.frame (.release g c) = false
  · rw [offer_of_room admitted free room]
  · obtain ⟨q, found⟩ : ∃ q, s.bus.queue.find? (fun x => sameLimit x.frame (.release g c)) = some q :=
      Option.isSome_iff_exists.mp (List.find?_isSome.mpr (by simpa using free))
    have same : sameLimit q.frame (.release g c) = true := by simpa using List.find?_some found
    obtain ⟨claim, release⟩ := none q (List.mem_of_find?_eq_some found)
    rw [sameLimit_release] at same
    have replaced : mergeFrames q.frame (.release g c) = Option.none ∧ replacesHold q.frame (.release g c) = true := by
      cases frame : q.frame <;> simp_all [Frame.group, isClaimOf, isReleaseOf, mergeFrames, replacesHold]
    simp [offer, admitted, found, replaced]

/-! ## A request and a cancel (R32, R36) -/

/-- The command i, with the messages left to the entries, leaves the entry e, which was x, as `left`; an entry that
ceases to claim has no CLAIM queued, and one that may claim claims. -/
def State.messageLeaves (s : State) (e : Fin 8) (x : Entry) (messages : List ToGroup) (i : Instr) (left : Entry) : Prop :=
  ∃ t, exec i s = .next t ∧ t.channels = { s.channels with toGroups := messages } ∧
    t.zones = s.zones ∧ t.points = s.points ∧ t.marks = s.marks ∧ s.sameSurroundings t ∧
    t.leaves e left ∧ (∀ d, d ≠ e → ∀ y, s.entry d = some y → t.leaves d y) ∧
    (left.state ≠ x.state → (∀ d, d ≠ e → s.entry d ≠ none → (s.member d).group ≠ (s.member e).group) →
      ∀ q ∈ t.bus.queue, isClaimOf (s.member e).group q.frame = false) ∧
    (∀ h others, left.requests = h :: others → left.state = .free → left.hold = none →
      s.bus.state = .onLine → s.bus.queue.length + s.groups.length ≤ 12 →
      (∀ d, d ≠ e → s.entry d ≠ none → (s.member d).group ≠ (s.member e).group) →
      (∀ q ∈ s.bus.queue, q.frame.group ≠ some (s.member e).group) →
      t.entry e = some { Entry.start with state := .claiming, requests := left.requests, claimChannel := some h } ∧
      ∃ q ∈ t.bus.queue, q.frame = .claim (s.member e).group h)

section
variable {s : State} {c e : Fin 8} {x : Entry} {before after : List ToGroup} {m : ToGroupMsg}
  (running : s.running = true) (group : (s.cfg c).group = some e) (here : s.entry e = some x)
  (queue : s.channels.toGroups = before ++ ⟨e, c, m⟩ :: after) (first : ∀ y ∈ before, y.entry ≠ e)
include running group here queue first

theorem request_leaves (request : m = .request) : s.messageLeaves e x (before ++ after) (.request c)
    { x with requests := if x.requests.contains c = true then x.requests else x.requests ++ [c] } := by
  have there : (s.hearing (before ++ after)).entry e = some x := here
  have entry := requestAt_entry (c := c) there
  obtain ⟨channels, zones, points, marks, around, beside⟩ :=
    message_beside (v := requestAt e c (s.hearing (before ++ after))) ((AtEntry.refl e _).entry _)
  refine ⟨_, exec_request running group queue first request, channels, zones, points, marks, around,
    (buildDue_after _).leaves e _ entry, beside, fun moved => absurd rfl moved,
    fun h others requests free hold onLine room unique none => ?_⟩
  refine buildDue_claims entry requests free hold onLine ?_ (fun d other listed => ?_) none
  · show _ + (modifyAt s.groups e.val _).length ≤ 12
    rw [modifyAt_length]
    exact room
  · refine unique d other ?_
    rwa [requestAt, modEntry_entry_other other] at listed

theorem cancel_leaves (cancel : m = .cancel) : s.messageLeaves e x (before ++ after) (.cancel c)
    (if x.state = .claiming ∧ x.requests.contains c = true ∧ x.requests.filter (fun d => d != c) = [] then
      { Entry.start with state := .free }
    else { x with requests := x.requests.filter fun d => d != c }) := by
  have start := AtEntry.refl e (s.hearing (before ++ after))
  have there : (s.hearing (before ++ after)).entry e = some x := here
  have cases := cancelAt_eq (c := c) there
  have moves : AtEntry e [] (s.hearing (before ++ after)) (cancelAt e c (s.hearing (before ++ after))) := by
    rw [cases]
    split
    · exact ((start.set _).withdraw _).entry _
    · exact start.set _
  obtain ⟨channels, zones, points, marks, around, beside⟩ := message_beside moves
  refine ⟨_, exec_cancel running group queue first cancel, channels, zones, points, marks, around, ?_⟩
  by_cases ends : x.state = .claiming ∧ x.requests.contains c = true ∧ x.requests.filter (fun d => d != c) = []
  · have entry : (cancelAt e c (s.hearing (before ++ after))).entry e = some { Entry.start with state := .free } := by
      rw [cases, if_pos ends, enterFree, withdrawClaim, modEntry_entry_of e _
        ((withdrawFrames_entry ..).trans (setEntry_entry_of there _))]
      simp [Entry.moved, ends.2.2, Entry.start]
    have gone : ∀ q ∈ (cancelAt e c (s.hearing (before ++ after))).bus.queue,
        isClaimOf (s.member e).group q.frame = false := fun q inside => by
      rw [cases, if_pos ends, enterFree, modEntry_bus, withdrawClaim, withdrawFrames_queue] at inside
      have apart := (List.mem_filter.mp inside).2
      rwa [Bool.not_eq_true'] at apart
    rw [if_pos ends]
    refine ⟨(buildDue_after _).leaves e _ entry, beside, fun _ unique => ?_, fun h others requests => nomatch requests⟩
    have member (d : Fin 8) : (cancelAt e c (s.hearing (before ++ after))).member d = s.member d := moves.member d
    rw [← member]
    refine buildDue_no_claim entry (.inl rfl) (fun d other listed => ?_) (by rw [member]; exact gone)
    rw [member, member]
    rw [moves.others d other] at listed
    exact unique d other listed
  · have set := cases.trans (if_neg ends)
    rw [if_neg ends, set]
    rw [set] at beside
    have entry := setEntry_entry_of there { x with requests := x.requests.filter fun d => d != c }
    refine ⟨(buildDue_after _).leaves e _ entry, beside, fun moved => absurd rfl moved,
      fun h others requests free hold onLine room unique none => ?_⟩
    refine buildDue_claims entry requests free hold onLine ?_ (fun d other listed => ?_) none
    · show _ + (modifyAt s.groups e.val _).length ≤ 12
      rw [modifyAt_length]
      exact room
    · refine unique d other ?_
      rwa [setEntry_eq, modEntry_entry_other other] at listed

end

/-- Settles O8: the message leaves the stream, its entry acts on it, and the frames due follow. -/
theorem messagesAtTheEntry : Obligations.MessagesAtTheEntry := by
  refine ⟨fun s c e x before after m running group here queue first =>
      ⟨request_leaves running group here queue first, cancel_leaves running group here queue first⟩,
    fun s c e x before after m running group here isDone queue first => ?_⟩
  have start := AtEntry.refl e (s.hearing (before ++ after))
  have there : (s.hearing (before ++ after)).entry e = some x := here
  have cases := doneAt_cases (c := c) there
  have moves : AtEntry e [] (s.hearing (before ++ after)) (doneAt e c (s.hearing (before ++ after))) := by
    rw [cases]
    split
    · exact settleDone_at
    · exact start
  obtain ⟨channels, zones, points, marks, around, beside⟩ := message_beside moves
  refine ⟨_, exec_done running group queue first isDone, channels, zones, points, marks, around, beside, ?_⟩
  have left := buildDue_after (doneAt e c (s.hearing (before ++ after)))
  generalize buildDue (doneAt e c (s.hearing (before ++ after))) = t at *
  rw [cases] at left
  split at left
  next ends =>
    rw [if_pos ends]
    have settled := settleDone_settled (s := s.hearing (before ++ after)) there left
    refine ⟨settled, fun onLine yielded lapsed room none => ?_⟩
    have released : settleDone e x (s.hearing (before ++ after)) = queueRelease e x (s.hearing (before ++ after)) := by
      simp [settleDone, State.onLine, State.hearing, onLine, yielded, lapsed]
    rw [released] at left
    have named : x.frameChannel = c := by
      obtain ⟨h, holder, same⟩ := Option.map_eq_some_iff.mp ends.1
      rw [Entry.frameChannel, holder]
      exact same
    have taken := queueRelease_taken there left
      (offer_release_taken (s := setEntry e x.releasing (s.hearing (before ++ after))) onLine room none)
    rw [named] at taken
    exact taken
  next stays =>
    rw [if_neg stays]
    exact left.leaves e x there

end Sys2Proof.Machine
end

section
/-! PROOFS. A group's frame at its one listed entry, and the own CLAIM, HOLD and RELEASE (O11). -/

namespace Sys2Proof.Machine

open Sys2Proof

/-! ## An effect on the entries of a group -/

/-- Where one listed entry belongs to the group, the effect is on that entry alone. -/
theorem onGroup_one {e : Fin 8} {f : Fin 8 → State → State} {sent : List ToChannel} {s : State}
    (listed : s.entry e ≠ none)
    (unique : ∀ d, d ≠ e → s.entry d ≠ none → (s.member d).group ≠ (s.member e).group)
    (moves : AtEntry e sent s (f e s)) : onGroup (s.member e).group f s = f e s := by
  have idle (d : Fin 8) (other : d ≠ e) (t : State) (entry : t.entry d = s.entry d) (member : t.member d = s.member d) :
      ((t.entry d).isSome && (t.member d).group == (s.member e).group) = false := by
    rw [entry, member, Bool.and_eq_false_imp]
    intro some
    simpa using unique d other (Option.isSome_iff_ne_none.mp some)
  have own : ((s.entry e).isSome && (s.member e).group == (s.member e).group) = true := by
    simpa using Option.isSome_iff_ne_none.mpr listed
  have all := each8_counted (s := s)
    (f := fun d s' => if (s'.entry d).isSome && (s'.member d).group == (s.member e).group then f d s' else s')
    (P := fun n u => u = if n ≤ e.val then s else f e s) (fun d u reached => ?_) (by simp)
  · exact all.trans (if_neg (by omega))
  · by_cases same : d = e
    · subst same
      rw [if_pos (Nat.le_refl _)] at reached
      subst reached
      rw [if_pos own, if_neg (by omega)]
    · have differs : d.val ≠ e.val := fun eq => same (Fin.ext eq)
      by_cases before : d.val + 1 ≤ e.val
      · rw [if_pos (by omega)] at reached
        subst reached
        rw [idle d same u rfl rfl, if_pos before]
        rfl
      · rw [if_neg (by omega)] at reached
        subst reached
        rw [idle d same _ (moves.others d same) (moves.member d), if_neg before]
        rfl

/-! ## The own frame's owner (R95) -/

/-- An own frame that is taken leaves the score, the queue and the notices of room; the rest is as it was. -/
theorem afterSending_changes {s : State} {f : Frame} (h : s.sends f) : ∃ bus blocked free,
    s.afterSending f = { s with
      bus := bus, pubs := { s.pubs with blocked := free }, faults := { s.faults with blocked := blocked } } ∧
    bus.state = .onLine ∧ bus.attempt = none ∧ bus.score = s.bus.score - 1 := by
  have onLine : s.bus.state = .onLine := h.2.1
  rw [afterSending_unmoved h]
  split
  · exact ⟨_, _, _, rfl, onLine, rfl, rfl⟩
  · exact ⟨_, _, _, rfl, onLine, rfl, rfl⟩

/-- The event of a taken frame whose owner hears nothing more of it. -/
theorem exec_concluded {s : State} {f : Frame} {source : Station} {a : Arrival} (h : s.arrives f source a)
    (silent : ∀ t, takenNotice f t = t) :
    exec (f.taken a) s = .next ((atOwner (isOwn a) source f (s.received f a)).concluded source) := by
  rw [(exec_taken h).2, delivered_silent silent]
  rfl

section
variable {s : State} {e : Fin 8} {x left : Entry} {f : Frame} {op : Fin 8 → State → State}

/-- The own frame of a group at its one listed entry. -/
theorem own_outcome (here : s.entry e = some x)
    (unique : ∀ d, d ≠ e → s.entry d ≠ none → (s.member d).group ≠ (s.member e).group)
    (silent : ∀ t, takenNotice f t = t)
    (owner : ∀ u : State, u.learns = true →
      atOwner true s.loader.station f u = onGroup (s.member e).group op u)
    (moves : ∀ u : State, AtEntry e [] u (op e u))
    (entry : ∀ u : State, u.entry e = some x → u.now = s.now → u.config = s.config → u.bus.state = .onLine →
      (op e u).entry e = some left) (h : s.sends f) :
    ∃ t, exec (f.taken .own) s = .next t ∧ t.bus.attempt = none ∧ t.bus.score = s.bus.score - 1 ∧
      t.channels = s.channels ∧ t.zones = s.zones ∧ t.points = s.points ∧ t.marks = s.marks ∧
      s.sameSurroundings t ∧ (∀ d, d ≠ e → ∀ y, s.entry d = some y → t.leaves d y) ∧ t.leaves e left := by
  obtain ⟨bus, blocked, free, changes, onLine, attempt, score⟩ := afterSending_changes h
  have command := exec_concluded (a := .own) ⟨h, rfl⟩ silent
  have received : s.received f .own = s.afterSending f := rfl
  rw [received] at command
  generalize reached : s.afterSending f = u at *
  have groups : ∀ d, u.entry d = s.entry d := fun d => entry_of_groups (by rw [changes]) d
  have now : u.now = s.now := by rw [changes]
  have config : u.config = s.config := by rw [changes]; rfl
  have state : u.bus.state = .onLine := by rw [changes]; exact onLine
  have learns : u.learns = true := by simp [State.learns, state]
  have kept : u.beyondZones = s.beyondZones := by rw [changes]; rfl
  have member (d : Fin 8) : u.member d = s.member d := by simp only [State.member, config]
  have channels : u.channels = s.channels := by rw [changes]
  have zones : u.zones = s.zones := by rw [changes]
  have acted : atOwner true s.loader.station f u = op e u := by
    rw [owner u learns, ← member e]
    refine onGroup_one ?_ (fun d other listed => ?_) (moves u)
    · rw [groups, here]
      nofun
    · rw [member, member]
      rw [groups] at listed
      exact unique d other listed
  have idle : u.bus.attempt = none := by rw [changes]; exact attempt
  have lowered : u.bus.score = s.bus.score - 1 := by rw [changes]; exact score
  have line := ((Traffic.dispatch true s.loader.station f u).trans (Traffic.buildDue _)).line
  have moved := moves u
  have after := concluded_after (op e u) s.loader.station
  obtain ⟨same, zonesKept, channelsKept, -⟩ := concluded_same (op e u) s.loader.station
  have line : ((op e u).concluded s.loader.station).bus.attempt = u.bus.attempt ∧
      ((op e u).concluded s.loader.station).bus.score = u.bus.score := by
    rw [dispatch, acted] at line
    rw [State.concluded, line]
    exact ⟨rfl, rfl⟩
  have entered := entry u ((groups e).trans here) now config state
  rw [show isOwn .own = true from rfl, acted] at command
  generalize (op e u).concluded s.loader.station = t at *
  obtain ⟨channels', zones', points, marks, around, others⟩ := moved.beside same zonesKept channelsKept after
  obtain ⟨around, marks, points⟩ := sameSurroundings_of_kept (same.trans (moved.kept.trans kept))
  refine ⟨t, command, line.1.trans idle, line.2.trans lowered, ?_, zones'.trans zones, points, marks, around,
    fun d other y listed => others d other y ((groups d).trans listed), after.leaves e _ entered⟩
  rw [channels', List.append_nil, ← channels]

end

/-! ## The own frames (R32 to R34, R36, R41, R43) -/

section
variable {s : State} {e : Fin 8}

theorem ownClaim_at : AtEntry e [] s (ownClaim e s) := by
  unfold ownClaim
  (repeat' split) <;> first | exact (AtEntry.refl e s).set _ | exact .refl e s

theorem ownHold_at : AtEntry e [] s (ownHold e s) := by
  unfold ownHold
  dsimp only
  (repeat' split) <;> first | exact (AtEntry.refl e s).set _ | exact .refl e s

theorem ownRelease_at : AtEntry e [] s (ownRelease e s) := by
  unfold ownRelease
  (repeat' split) <;> first | exact (AtEntry.refl e s).dead | exact .refl e s

variable {x : Entry} (here : s.entry e = some x)
include here

theorem ownClaim_entry : (ownClaim e s).entry e = some (if x.state = .claiming then
    { x with state := .claimed, window := some (s.now + s.claimWindow), lapse := some (s.now + 2 * s.holdInterval) }
    else x) := by
  unfold ownClaim
  rw [here]
  dsimp only
  by_cases claiming : x.state = .claiming
  · rw [if_pos claiming, if_pos (beq_iff_eq.mpr claiming)]
    exact setEntry_entry_of here _
  · rw [if_neg claiming, if_neg (by simpa using claiming)]
    exact here

theorem ownHold_entry (onLine : s.bus.state = .onLine) : (ownHold e s).entry e = some
    (if x.state = .claimed ∨ x.state = .heldLocal ∨
        (x.state = .releasingLocal ∧ x.yielded = false ∧ x.releaseQueued = false) then
      { x with lapse := some (s.now + 2 * s.holdInterval) }
    else x) := by
  have restart := setEntry_entry_of here
  have line : s.onLine = true := by simp [State.onLine, onLine]
  unfold ownHold
  rw [here]
  dsimp only
  rw [line]
  cases state : x.state
  case claimed | heldLocal => simp [restart]
  case releasingLocal =>
    cases yielded : x.yielded <;> cases queued : x.releaseQueued <;> simp [here, restart]
  case unknown | free | claiming | heldRemote | dead => simp [here]

theorem ownRelease_entry : (ownRelease e s).entry e = some
    (if x.state = .free ∨ (x.state = .releasingLocal ∧ x.releaseQueued = true) then s.deadAfter e x else x) := by
  have dead := enterDead_entry here
  unfold ownRelease
  rw [here]
  dsimp only
  cases state : x.state
  case free => simpa using dead
  case releasingLocal => cases queued : x.releaseQueued <;> simp [here, dead]
  case unknown | claiming | claimed | heldLocal | heldRemote | dead => simp [here]

end

/-- What reads the clock and the image alone reads the same. -/
theorem deadAfter_of_config {s u : State} (now : u.now = s.now) (config : u.config = s.config) (e : Fin 8) (x : Entry) :
    u.deadAfter e x = s.deadAfter e x := by
  have time : u.deadTime e = s.deadTime e := by simp only [State.deadTime, State.member, config]
  simp only [State.deadAfter, time, now]

theorem holdInterval_of_config {s u : State} (config : u.config = s.config) : u.holdInterval = s.holdInterval := by
  simp only [State.holdInterval, config]

theorem claimWindow_of_config {s u : State} (config : u.config = s.config) : u.claimWindow = s.claimWindow := by
  simp only [State.claimWindow, config]

/-- Settles O11: the own frame sets the one listed entry of its group, where the state has a use for it. -/
theorem ownGroupFrames : Obligations.OwnGroupFrames := by
  refine fun s e x c here unique => ⟨?_, fun objection => ?_, ?_⟩
  · refine own_outcome here unique (fun _ => rfl) (op := ownClaim) (fun u learns => ?_) (fun _ => ownClaim_at)
      fun u there now config onLine => ?_
    · simp [atOwner, learns]
    · rw [ownClaim_entry there, now, claimWindow_of_config config, holdInterval_of_config config]
  · refine own_outcome here unique (fun _ => rfl) (op := ownHold) (fun u learns => ?_) (fun _ => ownHold_at)
      fun u there now config onLine => ?_
    · simp [atOwner, learns]
    · rw [ownHold_entry there onLine, now, holdInterval_of_config config]
  · refine own_outcome here unique (fun _ => rfl) (op := ownRelease) (fun u learns => ?_) (fun _ => ownRelease_at)
      fun u there now config onLine => ?_
    · simp [atOwner, learns]
    · rw [ownRelease_entry there, deadAfter_of_config now config]

end Sys2Proof.Machine
end

section
/-! PROOFS. CLAIM, HOLD and RELEASE from another station (O10). -/

namespace Sys2Proof.Machine

open Sys2Proof

/-! ## The frame of another station at its entry -/

section
variable {s : State} {source : Station} {f : Frame}

/-- The node after a good frame that leaves its bus state alone (R96). -/
def State.heardGood (s : State) : State :=
  { s with bus := { s.bus with rejecting := false, score := s.bus.score - 1 } }

/-- A node that stays MUTED or BARRED disregards a group's frame (R46). -/
theorem heard_disregarded (h : s.hears source) (inRange : f.inRange = true) (silent : ∀ t, takenNotice f t = t)
    (owner : ∀ u : State, u.learns = false → atOwner false source f u = u) (deaf : s.learns = false)
    (stays : s.staysMuted) : ∃ t, exec (f.taken (.heard source f.payload)) s = .next t ∧ t = { s with
      bus := { s.bus with rejecting := false, score := s.bus.score - 1 },
      faults := { s.faults with peers := t.faults.peers } } := by
  have command := exec_concluded (a := .heard source f.payload) ⟨rfl, rfl, inRange, h⟩ silent
  have received : s.received f (.heard source f.payload) = s.afterHearing := rfl
  have offLine : s.onLine = false := by
    cases state : s.bus.state <;> simp_all [State.learns, State.onLine]
  have acted : atOwner false source f s.heardGood = s.heardGood := owner _ deaf
  have quiet : buildDue (refreshPeer source s.heardGood) = refreshPeer source s.heardGood :=
    buildDue_of_not_onLine offLine
  rw [received, show s.afterHearing = s.heardGood from afterHearing_unmoved h stays,
    show isOwn (.heard source f.payload) = false from rfl, acted, State.concluded, quiet] at command
  exact ⟨_, command, rfl⟩

/-- A group's frame at the one listed entry, where the node is JOINING or ON-LINE. -/
theorem heard_outcome {e : Fin 8} {x : Entry} {op : Fin 8 → State → State} {sent : List ToChannel} {P : State → Prop}
    (h : s.hears source) (here : s.entry e = some x)
    (unique : ∀ d, d ≠ e → s.entry d ≠ none → (s.member d).group ≠ (s.member e).group)
    (learns : s.learns = true) (inRange : f.inRange = true) (silent : ∀ t, takenNotice f t = t)
    (owner : ∀ u : State, u.learns = true → atOwner false source f u = onGroup (s.member e).group op u)
    (moves : AtEntry e sent s.heardGood (op e s.heardGood))
    (facts : ∀ t, t = (op e s.heardGood).concluded source → DueAfter (op e s.heardGood) t →
      Concluded source (op e s.heardGood) t → P t) :
    ∃ t, exec (f.taken (.heard source f.payload)) s = .next t ∧
      t.channels = { s.channels with toChannels := s.channels.toChannels ++ sent } ∧
      t.zones = s.zones ∧ t.points = s.points ∧ t.marks = s.marks ∧ s.sameSurroundings t ∧
      (∀ d, d ≠ e → ∀ y, s.entry d = some y → t.leaves d y) ∧ P t := by
  have command := exec_concluded (a := .heard source f.payload) ⟨rfl, rfl, inRange, h⟩ silent
  have received : s.received f (.heard source f.payload) = s.afterHearing := rfl
  have active : s.staysMuted := fun muted => by simp [State.learns, muted] at learns
  rw [received, show s.afterHearing = s.heardGood from afterHearing_unmoved h active] at command
  have acted : atOwner false source f s.heardGood = op e s.heardGood := by
    rw [owner s.heardGood learns]
    exact onGroup_one (s := s.heardGood) (by rw [show s.heardGood.entry e = _ from here]; nofun) unique moves
  rw [show isOwn (.heard source f.payload) = false from rfl, acted] at command
  have after := concluded_after (op e s.heardGood) source
  have ended := concludes source (op e s.heardGood)
  obtain ⟨same, zones, channels, -⟩ := concluded_same (op e s.heardGood) source
  have known := facts _ rfl after ended
  generalize (op e s.heardGood).concluded source = t at *
  obtain ⟨channels, zones, points, marks, around, others⟩ := moves.beside same zones channels after
  exact ⟨t, command, channels, zones, points, marks, around, others, known⟩

end

/-! ## Frames that are not due -/

theorem isHoldOf_of_code {g : Fin 128} {f : Frame} (code : 5 ≤ f.code) : isHoldOf g f = false := by
  cases f <;> first | rfl | exact absurd code (by simp [Frame.code])

theorem isReleaseOf_of_code {g : Fin 128} {f : Frame} (code : 5 ≤ f.code) : isReleaseOf g f = false := by
  cases f <;> first | rfl | exact absurd code (by simp [Frame.code])

/-- A frame that was withdrawn, and that is not of a due kind, is in the queue no more. -/
theorem DueAfter.none_of {v t : State} {p : Frame → Bool} (h : DueAfter v t)
    (due : ∀ f : Frame, 5 ≤ f.code → p f = false) (none : ∀ q ∈ v.bus.queue, p q.frame = false) :
    ∀ q ∈ t.bus.queue, p q.frame = false := fun q inside => by
  rcases h.due.joined q inside with old | code
  · exact none q old
  · exact due _ (by omega)

theorem withdrawFrames_none (p : Frame → Bool) (s : State) : ∀ q ∈ (withdrawFrames p s).bus.queue, p q.frame = false :=
  fun q inside => by
    rw [withdrawFrames_queue] at inside
    simpa using (List.mem_filter.mp inside).2

theorem withdrawFrames_flagSticky (p : Frame → Bool) (f : NodeFlag) (s : State) :
    (withdrawFrames p s).flagSticky f = s.flagSticky f := by
  unfold withdrawFrames
  split <;> rfl

/-! ## The operations at the entry -/

section
variable {s : State} {e : Fin 8} {x : Entry} {h : Holder}

theorem heldRemote_at {t : State} {sent : List ToChannel} (moved : AtEntry e sent s t) :
    AtEntry e sent s (enterHeldRemote e h t) := moved.entry _

/-- A withdrawal and the flag before it, and then the entry is held by the other station. -/
theorem heldRemote_entry {t : State} (moved : AtEntry e [] s t) (entry : t.entry e = some x) :
    (enterHeldRemote e h t).entry e = some (s.heldBy x h) := by
  rw [enterHeldRemote_entry entry, moved.heldBy]

theorem yieldTo_at : AtEntry e (if x.state = .heldLocal then x.holder.toList.map fun y => ⟨y.channel, .revoke⟩ else [])
    s (yieldTo e x h s) := by
  have raised := (AtEntry.refl e s).raise .groupConflict
  unfold yieldTo
  dsimp only
  by_cases held : x.state = .heldLocal
  · rw [if_pos held, if_pos (beq_iff_eq.mpr held)]
    cases holder : x.holder with
    | none =>
      simp only [sendRevoke, holder]
      exact (raised.withdraw _).set _
    | some y => exact ((raised.revoke holder).withdraw _).set _
  · rw [if_neg held, if_neg (by simpa using held)]
    exact (raised.withdraw _).set _

end

/-- The entry yielded its holding to another station (R38, R41). -/
def State.yielded (t : State) (e : Fin 8) (g : Fin 128) (x : Entry) (h : Holder) : Prop :=
  t.entry e = some { x with state := .releasingLocal, yielded := true, conflict := some h,
                            hold := none, lapse := none } ∧
  t.flagSticky .groupConflict = true ∧ ∀ q ∈ t.bus.queue, isHoldOf g q.frame = false

theorem yieldTo_yields {s t : State} {e : Fin 8} {x : Entry} {h : Holder} {source : Station} (here : s.entry e = some x)
    (after : DueAfter (yieldTo e x h s) t) (ended : Concluded source (yieldTo e x h s) t) :
    t.yielded e (s.member e).group x h := by
  have raised : (raiseFlag .groupConflict s).flagSticky .groupConflict = true := raiseFlag_flagSticky ..
  have start : (raiseFlag .groupConflict s).entry e = s.entry e := entry_of_groups (by simp) e
  have member : (raiseFlag .groupConflict s).member e = s.member e :=
    ((AtEntry.refl e s).raise .groupConflict).member e
  generalize raising : raiseFlag .groupConflict s = u at *
  have revoked (v : State) : (sendRevoke x v).faults = v.faults ∧ (sendRevoke x v).member e = v.member e := by
    unfold sendRevoke
    split <;> exact ⟨rfl, rfl⟩
  have step : ∃ v, yieldTo e x h s = setEntry e { x with
        state := .releasingLocal, yielded := true, conflict := some h, hold := none, lapse := none }
      (withdrawHold e v) ∧ v.entry e = some x ∧ v.flagSticky .groupConflict = true ∧ v.member e = s.member e := by
    unfold yieldTo
    dsimp only
    rw [raising]
    split
    · exact ⟨_, rfl, (sendRevoke_entry ..).trans (start.trans here),
        by rw [State.flagSticky, (revoked u).1]; exact raised, (revoked u).2.trans member⟩
    · exact ⟨_, rfl, start.trans here, raised, member⟩
  obtain ⟨v, same, entry, sticky, group⟩ := step
  rw [same] at after ended
  have kept : (withdrawHold e v).entry e = some x := (withdrawFrames_entry ..).trans entry
  have none := withdrawFrames_none (isHoldOf (v.member e).group) v
  rw [group] at none
  have flag : (withdrawHold e v).flagSticky .groupConflict = true := by
    rwa [withdrawHold, withdrawFrames_flagSticky]
  have empty : ∀ q ∈ (withdrawHold e v).bus.queue, isHoldOf (s.member e).group q.frame = false := by
    rw [withdrawHold, group]
    exact none
  generalize withdrawHold e v = w at *
  refine ⟨(after.leaves e _ (setEntry_entry_of kept _)).entry nofun, ended.raised _ flag,
    after.none_of (fun _ => isHoldOf_of_code) empty⟩

/-! ## The operations by the entry's state -/

section
variable {s : State} {e c : Fin 8} {x : Entry} {h : Holder} (here : s.entry e = some x)
include here

/-- The states in which a CLAIM or a HOLD of another station makes it the holder. -/
theorem follows_cases (state : x.state = .unknown ∨ x.state = .free ∨ x.state = .dead ∨ x.state = .heldRemote ∨
      x.state = .claiming) : ∃ v, AtEntry e [] s v ∧ v.entry e = some x ∧
    (x.state = .claiming → ∀ q ∈ v.bus.queue, isClaimOf (s.member e).group q.frame = false) ∧
    foreignClaim e h s = enterHeldRemote e h v ∧ ∀ o, foreignHold e h o s = enterHeldRemote e h v := by
  by_cases claiming : x.state = .claiming
  · exact ⟨withdrawClaim e s, (AtEntry.refl e s).withdraw _, (withdrawFrames_entry ..).trans here,
      fun _ => withdrawFrames_none _ _, by simp [foreignClaim, here, claiming],
      fun o => by simp [foreignHold, here, claiming]⟩
  · refine ⟨s, .refl e s, here, fun claims => absurd claims claiming, ?_, fun o => ?_⟩
    · rcases state with state | state | state | state | state <;> simp_all [foreignClaim]
    · rcases state with state | state | state | state | state <;> simp_all [foreignHold]

/-- A CLAIM of another station meets the objection of one that holds, or is about to. -/
theorem foreignClaim_objects (state : x.state = .claimed ∨ x.state = .heldLocal ∨ (x.state = .releasingLocal ∧
      x.releaseQueued = false ∧ x.yielded = false ∧ s.bus.state = .onLine)) :
    foreignClaim e h s = offerHold e x.frameChannel true s := by
  rcases state with state | state | ⟨state, queued, yielded, onLine⟩
  · simp [foreignClaim, here, state]
  · simp [foreignClaim, here, state]
  · simp [foreignClaim, here, state, queued, yielded, State.onLine, onLine]

theorem foreignClaim_releasing (state : x.state = .releasingLocal) : foreignClaim e h s =
    if x.releaseQueued = true ∨ s.bus.state ≠ .onLine then s
    else if x.yielded = true then setEntry e { x with conflict := some h } s
    else offerHold e x.frameChannel true s := by
  simp only [foreignClaim, here, state, State.onLine, Bool.or_eq_true, Bool.not_eq_true', beq_eq_false_iff_ne]

theorem foreignHold_releasing (o : Bool) (state : x.state = .releasingLocal) : foreignHold e h o s =
    if s.bus.state ≠ .onLine then s
    else if x.releaseQueued = true then
      enterHeldRemote e h (raiseFlag .groupConflict (withdrawRelease e s))
    else if x.yielded = true then setEntry e { x with conflict := some h } s
    else yieldTo e x h s := by
  simp only [foreignHold, here, state, State.onLine, Bool.not_eq_true', beq_eq_false_iff_ne]

/-- A HOLD of another station takes the group from one that has claimed it (R37). -/
theorem foreignHold_claimed (state : x.state = .claimed) (o : Bool) : ∃ v, AtEntry e [] s v ∧ v.entry e = some x ∧
    (o = false → v.flagSticky .groupConflict = true) ∧ foreignHold e h o s = enterHeldRemote e h v := by
  have start := AtEntry.refl e s
  cases o with
  | true =>
    exact ⟨withdrawHold e s, start.withdraw _, (withdrawFrames_entry ..).trans here, nofun,
      by simp [foreignHold, here, state]⟩
  | false =>
    have entry : (raiseFlag .groupConflict s).entry e = some x := (entry_of_groups (by simp) e).trans here
    have flagged := raiseFlag_flagSticky .groupConflict s
    exact ⟨withdrawHold e (raiseFlag .groupConflict s), (start.raise _).withdraw _,
      (withdrawFrames_entry ..).trans entry, fun _ => (withdrawFrames_flagSticky ..).trans flagged,
      by simp [foreignHold, here, state]⟩

/-- A HOLD of another station ends the wait for the own RELEASE (R43). -/
theorem release_ended {t : State} {source : Station}
    (after : DueAfter (enterHeldRemote e h (raiseFlag .groupConflict (withdrawRelease e s))) t)
    (ended : Concluded source (enterHeldRemote e h (raiseFlag .groupConflict (withdrawRelease e s))) t) :
    t.entry e = some (s.heldBy x h) ∧ t.flagSticky .groupConflict = true ∧
    ∀ q ∈ t.bus.queue, isReleaseOf (s.member e).group q.frame = false := by
  have moved := ((AtEntry.refl e s).withdraw (isReleaseOf (s.member e).group)).raise .groupConflict
  have kept : (withdrawRelease e s).entry e = some x := (withdrawFrames_entry ..).trans here
  have entry : (raiseFlag .groupConflict (withdrawRelease e s)).entry e = some x :=
    (entry_of_groups (by simp) e).trans kept
  have none : ∀ q ∈ (raiseFlag .groupConflict (withdrawRelease e s)).bus.queue,
      isReleaseOf (s.member e).group q.frame = false := by
    rw [show (raiseFlag .groupConflict (withdrawRelease e s)).bus = (withdrawRelease e s).bus by simp]
    exact withdrawFrames_none _ _
  exact ⟨(after.leaves e _ (heldRemote_entry moved entry)).entry nofun,
    ended.raised _ (raiseFlag_flagSticky .groupConflict _), after.none_of (fun _ => isReleaseOf_of_code) none⟩

end

/-! ## RELEASE of another station -/

section
variable {s : State} {e : Fin 8} {x : Entry} {source : Station} (here : s.entry e = some x)
include here

/-- The states in which a RELEASE of another station brings the dead time. -/
theorem foreignRelease_dies (state : x.state = .unknown ∨ x.state = .free ∨ x.state = .claiming ∨
      x.state = .heldRemote ∧ ∃ h, x.holder = some h ∧ h.station = source) :
    ∃ v, AtEntry e [] s v ∧ v.entry e = some x ∧ foreignRelease e source s = enterDead e v := by
  by_cases claiming : x.state = .claiming
  · exact ⟨withdrawClaim e s, (AtEntry.refl e s).withdraw _, (withdrawFrames_entry ..).trans here,
      by simp [foreignRelease, here, claiming]⟩
  · refine ⟨s, .refl e s, here, ?_⟩
    rcases state with state | state | state | ⟨state, h, holder, station⟩
    · simp [foreignRelease, here, state]
    · simp [foreignRelease, here, state]
    · exact absurd state claiming
    · simp [foreignRelease, here, state, holder, station]

/-- The states in which a RELEASE of another station changes nothing. -/
theorem foreignRelease_idle (state : x.state = .dead ∨ x.state = .heldLocal ∨ x.state = .releasingLocal ∨
      x.state = .heldRemote ∧ ∃ h, x.holder = some h ∧ h.station ≠ source) : foreignRelease e source s = s := by
  rcases state with state | state | state | ⟨state, h, holder, station⟩
  · simp [foreignRelease, here, state]
  · simp [foreignRelease, here, state]
  · simp [foreignRelease, here, state]
  · simp [foreignRelease, here, state, holder, station]

theorem foreignRelease_claimed (state : x.state = .claimed) : foreignRelease e source s = settleDone e x s := by
  simp [foreignRelease, here, state]

end

/-! ## The three frames -/

section
variable {s : State} {e c : Fin 8} {x : Entry} {source : Station} {P : State → Prop} {sent : List ToChannel}
  (hears : s.hears source) (here : s.entry e = some x)
  (unique : ∀ d, d ≠ e → s.entry d ≠ none → (s.member d).group ≠ (s.member e).group) (learns : s.learns = true)
include hears here unique learns

theorem claim_outcome
    (moves : AtEntry e sent s.heardGood (foreignClaim e ⟨source, c⟩ s.heardGood))
    (facts : ∀ t, DueAfter (foreignClaim e ⟨source, c⟩ s.heardGood) t → P t) :
    s.actsAt e (.claimTaken (.heard source (Frame.claim (s.member e).group c).payload)) sent P :=
  heard_outcome (f := .claim (s.member e).group c) (op := fun e => foreignClaim e ⟨source, c⟩) hears here unique learns
    rfl (fun _ => rfl) (fun u l => by simp [atOwner, l]) moves fun t _ after _ => facts t after

theorem hold_outcome {o : Bool}
    (moves : AtEntry e sent s.heardGood (foreignHold e ⟨source, c⟩ o s.heardGood))
    (facts : ∀ t, t = (foreignHold e ⟨source, c⟩ o s.heardGood).concluded source →
      DueAfter (foreignHold e ⟨source, c⟩ o s.heardGood) t →
      Concluded source (foreignHold e ⟨source, c⟩ o s.heardGood) t → P t) :
    s.actsAt e (.holdTaken (.heard source (Frame.hold (s.member e).group c o).payload)) sent P :=
  heard_outcome (f := .hold (s.member e).group c o) (op := fun e => foreignHold e ⟨source, c⟩ o) hears here unique
    learns rfl (fun _ => rfl) (fun u l => by simp [atOwner, l]) moves facts

theorem release_outcome (moves : AtEntry e sent s.heardGood (foreignRelease e source s.heardGood))
    (facts : ∀ t, DueAfter (foreignRelease e source s.heardGood) t → P t) :
    s.actsAt e (.releaseTaken (.heard source (Frame.release (s.member e).group c).payload)) sent P :=
  heard_outcome (f := .release (s.member e).group c) (op := fun e => foreignRelease e source) hears here unique learns
    rfl (fun _ => rfl) (fun u l => by simp [atOwner, l]) moves fun t _ after _ => facts t after

end

/-- A HOLD of the entry itself, offered as an objection, leaves the entry (R34, R37, R41). -/
theorem objection_queued {v t : State} {e : Fin 8} {x : Entry} {c : Fin 8}
    (here : v.entry e = some x) (busy : x.state ≠ .free)
    (after : DueAfter (offerHold e x.frameChannel true v) t) : t.entry e = some x ∧
    (v.bus.state = .onLine → v.bus.queue.length < 12 →
      (∀ q ∈ v.bus.queue, sameLimit q.frame (.hold (v.member e).group c true) = false) →
      ∃ q ∈ t.bus.queue, q.frame = .hold (v.member e).group x.frameChannel true) := by
  refine ⟨(after.leaves e _ ((offerHold_entry ..).trans here)).entry busy, fun onLine room free =>
    after.hold (offerHold_queued onLine room fun q inside => ?_)⟩
  have apart := free q inside
  rw [sameLimit_hold] at apart
  simpa using apart

/-- The entry x stays, and ON-LINE the objection of its holder is queued, where the queue has room (R34, R36). -/
def State.objects (s : State) (e c : Fin 8) (x : Entry) (t : State) : Prop :=
  t.entry e = some x ∧ (s.bus.state = .onLine → s.bus.queue.length < 12 →
    (∀ q ∈ s.bus.queue, sameLimit q.frame (.hold (s.member e).group c true) = false) →
    ∃ q ∈ t.bus.queue, q.frame = .hold (s.member e).group x.frameChannel true)

/-- The holding of x is given up for the other station's, with GROUP-CONFLICT (R41). -/
def State.yields (s : State) (e : Fin 8) (x : Entry) (h : Holder) (t : State) : Prop :=
  t.entry e = some { x with state := .releasingLocal, yielded := true, conflict := some h, hold := none,
                            lapse := none } ∧
  t.flagSticky .groupConflict = true ∧ ∀ q ∈ t.bus.queue, isHoldOf (s.member e).group q.frame = false

/-! ## The frames at each state of the entry -/

section
variable {s : State} {e c : Fin 8} {x : Entry} {source : Station} {o : Bool}
  (hears : s.hears source) (here : s.entry e = some x)
  (unique : ∀ d, d ≠ e → s.entry d ≠ none → (s.member d).group ≠ (s.member e).group) (learns : s.learns = true)
include hears here unique learns

theorem claim_followed (state : x.state = .unknown ∨ x.state = .free ∨ x.state = .dead ∨ x.state = .heldRemote ∨
    x.state = .claiming) :
    s.actsAt e (.claimTaken (.heard source (Frame.claim (s.member e).group c).payload)) [] fun t =>
      t.entry e = some (s.heldBy x ⟨source, c⟩) := by
  obtain ⟨v, moved, entry, -, claims, -⟩ := follows_cases (s := s.heardGood) (h := ⟨source, c⟩) here state
  refine claim_outcome hears here unique learns (claims.symm ▸ heldRemote_at moved) fun t after => ?_
  rw [claims] at after
  exact (after.leaves e _ (heldRemote_entry moved entry)).entry nofun

theorem hold_followed (state : x.state = .unknown ∨ x.state = .free ∨ x.state = .dead ∨ x.state = .heldRemote ∨
    x.state = .claiming) :
    s.actsAt e (.holdTaken (.heard source (Frame.hold (s.member e).group c o).payload)) [] fun t =>
      t.entry e = some (s.heldBy x ⟨source, c⟩) ∧
      (x.state = .claiming → ∀ q ∈ t.bus.queue, isClaimOf (s.member e).group q.frame = false) := by
  obtain ⟨v, moved, entry, withdrawn, -, holds⟩ := follows_cases (s := s.heardGood) (h := ⟨source, c⟩) here state
  have held := heldRemote_entry (h := ⟨source, c⟩) moved entry
  refine hold_outcome hears here unique learns ((holds o).symm ▸ heldRemote_at moved) fun t same after _ =>
    ⟨?_, fun claiming => ?_⟩
  · rw [holds] at after
    exact (after.leaves e _ held).entry nofun
  · rw [same, holds, State.concluded]
    have members (d : Fin 8) : v.member d = s.member d := moved.member d
    have none := buildDue_no_claim (v := refreshPeer source (enterHeldRemote e ⟨source, c⟩ v)) held (.inr nofun)
      (fun d other listed => ?_) ?_
    · intro q inside
      have apart := none q inside
      rwa [show (refreshPeer source (enterHeldRemote e ⟨source, c⟩ v)).member e = s.member e from members e] at apart
    · have before : v.entry d ≠ Option.none := by
        rwa [show (refreshPeer source (enterHeldRemote e ⟨source, c⟩ v)).entry d = v.entry d from
          modEntry_entry_other other _ v] at listed
      rw [moved.others d other] at before
      show (v.member d).group ≠ (v.member e).group
      rw [members, members]
      exact unique d other before
    · show ∀ q ∈ v.bus.queue, isClaimOf (v.member e).group q.frame = false
      rw [members]
      exact withdrawn claiming

theorem release_followed (state : x.state = .unknown ∨ x.state = .free ∨ x.state = .claiming) :
    s.actsAt e (.releaseTaken (.heard source (Frame.release (s.member e).group c).payload)) [] fun t =>
      t.leaves e (s.deadAfter e x) := by
  obtain ⟨v, moved, entry, dies⟩ := foreignRelease_dies (s := s.heardGood) (source := source) here
    (state.imp_right (Or.imp_right .inl))
  refine release_outcome hears here unique learns (dies.symm ▸ moved.dead) fun t after => ?_
  rw [dies] at after
  have left := after.leaves e _ (enterDead_entry entry)
  rwa [moved.deadAfter] at left

theorem release_heldRemote {y : Holder} (state : x.state = .heldRemote) (holder : x.holder = some y) :
    s.actsAt e (.releaseTaken (.heard source (Frame.release (s.member e).group c).payload)) [] fun t =>
      t.leaves e (if y.station = source then s.deadAfter e x else x) := by
  by_cases own : y.station = source
  · obtain ⟨v, moved, entry, dies⟩ := foreignRelease_dies (s := s.heardGood) (source := source) here
      (.inr (.inr (.inr ⟨state, y, holder, own⟩)))
    refine release_outcome hears here unique learns (dies.symm ▸ moved.dead) fun t after => ?_
    rw [dies] at after
    have left := after.leaves e _ (enterDead_entry entry)
    rw [if_pos own]
    rwa [moved.deadAfter] at left
  · have idle := foreignRelease_idle (s := s.heardGood) (source := source) here
      (.inr (.inr (.inr ⟨state, y, holder, own⟩)))
    refine release_outcome hears here unique learns (idle.symm ▸ .refl e _) fun t after => ?_
    rw [if_neg own]
    exact leaves_of_same (s := s.heardGood) here idle after

theorem release_unheeded (state : x.state = .dead ∨ x.state = .heldLocal ∨ x.state = .releasingLocal) :
    s.actsAt e (.releaseTaken (.heard source (Frame.release (s.member e).group c).payload)) [] fun t =>
      t.entry e = some x := by
  have idle := foreignRelease_idle (s := s.heardGood) (source := source) here
    (state.imp_right (Or.imp_right .inl))
  refine release_outcome hears here unique learns (idle.symm ▸ .refl e _) fun t after =>
    (leaves_of_same (s := s.heardGood) here idle after).entry ?_
  rcases state with state | state | state <;> simp [state]

/-- A claim or a holding of the own station objects to another's CLAIM. -/
theorem claim_objected (state : x.state = .claimed ∨ x.state = .heldLocal) :
    s.actsAt e (.claimTaken (.heard source (Frame.claim (s.member e).group c).payload)) [] (s.objects e c x) := by
  have objects := foreignClaim_objects (s := s.heardGood) (h := ⟨source, c⟩) here (state.imp_right .inl)
  refine claim_outcome hears here unique learns (objects.symm ▸ offerHold_at _ _ (.refl e _)) fun t after => ?_
  rw [objects] at after
  exact objection_queued (v := s.heardGood) here (by rcases state with state | state <;> simp [state]) after

theorem hold_claimed (state : x.state = .claimed) :
    s.actsAt e (.holdTaken (.heard source (Frame.hold (s.member e).group c o).payload)) [] fun t =>
      t.entry e = some (s.heldBy x ⟨source, c⟩) ∧ (o = false → t.flagSticky .groupConflict = true) := by
  obtain ⟨v, moved, entry, flagged, holds⟩ := foreignHold_claimed (s := s.heardGood) (h := ⟨source, c⟩) here state o
  refine hold_outcome hears here unique learns (holds.symm ▸ heldRemote_at moved)
    fun t _ after ended => ⟨?_, fun bare => ?_⟩
  · rw [holds] at after
    exact (after.leaves e _ (heldRemote_entry moved entry)).entry nofun
  · rw [holds] at ended
    exact ended.raised _ (flagged bare)

theorem release_claimed (state : x.state = .claimed) :
    s.actsAt e (.releaseTaken (.heard source (Frame.release (s.member e).group c).payload)) [] fun t =>
      s.settled t e x := by
  have settles := foreignRelease_claimed (s := s.heardGood) (source := source) here state
  refine release_outcome hears here unique learns (settles.symm ▸ settleDone_at) fun t after => ?_
  rw [settles] at after
  exact settleDone_settled (s := s.heardGood) here after

theorem hold_heldLocal {y : Holder} (state : x.state = .heldLocal) (holder : x.holder = some y) :
    s.actsAt e (.holdTaken (.heard source (Frame.hold (s.member e).group c o).payload)) [⟨y.channel, .revoke⟩]
      (s.yields e x ⟨source, c⟩) := by
  have yields : foreignHold e ⟨source, c⟩ o s.heardGood = yieldTo e x ⟨source, c⟩ s.heardGood := by
    simp only [foreignHold, show s.heardGood.entry e = some x from here, state]
  have moves := yieldTo_at (s := s.heardGood) (e := e) (x := x) (h := ⟨source, c⟩)
  rw [if_pos state, holder] at moves
  refine hold_outcome hears here unique learns (yields.symm ▸ moves) fun t _ after ended => ?_
  rw [yields] at after ended
  exact yieldTo_yields (s := s.heardGood) here after ended

theorem claim_releasing (state : x.state = .releasingLocal) :
    s.actsAt e (.claimTaken (.heard source (Frame.claim (s.member e).group c).payload)) [] fun t =>
      if x.releaseQueued = true ∨ s.bus.state ≠ .onLine then t.entry e = some x
      else if x.yielded = true then t.entry e = some { x with conflict := some ⟨source, c⟩ }
      else s.objects e c x t := by
  have busy : x.state ≠ .free := by simp [state]
  have claims := foreignClaim_releasing (s := s.heardGood) (h := ⟨source, c⟩) here state
  rw [show s.heardGood.bus.state = s.bus.state from rfl] at claims
  refine claim_outcome hears here unique learns ?_ fun t after => ?_
  · rw [claims]
    (repeat' split)
    · exact .refl e _
    · exact (AtEntry.refl e _).set _
    · exact offerHold_at _ _ (.refl e _)
  · rw [claims] at after
    by_cases stays : x.releaseQueued = true ∨ s.bus.state ≠ .onLine
    · rw [if_pos stays] at after ⊢
      exact (after.leaves e x here).entry busy
    rw [if_neg stays] at after ⊢
    by_cases yielded : x.yielded = true
    · rw [if_pos yielded] at after ⊢
      exact (after.leaves e _ (setEntry_entry_of (s := s.heardGood) here _)).entry busy
    · rw [if_neg yielded] at after ⊢
      exact objection_queued (v := s.heardGood) here busy after

theorem hold_releasing (state : x.state = .releasingLocal) :
    s.actsAt e (.holdTaken (.heard source (Frame.hold (s.member e).group c o).payload)) [] fun t =>
      if s.bus.state ≠ .onLine then t.entry e = some x
      else if x.releaseQueued = true then t.entry e = some (s.heldBy x ⟨source, c⟩) ∧
        t.flagSticky .groupConflict = true ∧ ∀ q ∈ t.bus.queue, isReleaseOf (s.member e).group q.frame = false
      else if x.yielded = true then t.entry e = some { x with conflict := some ⟨source, c⟩ }
      else s.yields e x ⟨source, c⟩ t := by
  have busy : x.state ≠ .free := by simp [state]
  have holds := foreignHold_releasing (s := s.heardGood) (h := ⟨source, c⟩) here
  simp only [show s.heardGood.bus.state = s.bus.state from rfl] at holds
  refine hold_outcome hears here unique learns ?_ fun t _ after ended => ?_
  · rw [holds o state]
    (repeat' split)
    · exact .refl e _
    · exact heldRemote_at (((AtEntry.refl e _).withdraw _).raise _)
    · exact (AtEntry.refl e _).set _
    · have moves := yieldTo_at (s := s.heardGood) (e := e) (x := x) (h := ⟨source, c⟩)
      rwa [if_neg (by simp [state])] at moves
  · rw [holds o state] at after ended
    by_cases away : s.bus.state ≠ .onLine
    · rw [if_pos away] at after ⊢
      exact (after.leaves e x here).entry busy
    rw [if_neg away] at after ended ⊢
    by_cases queued : x.releaseQueued = true
    · rw [if_pos queued] at after ended ⊢
      exact release_ended (s := s.heardGood) here after ended
    rw [if_neg queued] at after ended ⊢
    by_cases yielded : x.yielded = true
    · rw [if_pos yielded] at after ⊢
      exact (after.leaves e _ (setEntry_entry_of (s := s.heardGood) here _)).entry busy
    · rw [if_neg yielded] at after ended ⊢
      exact yieldTo_yields (s := s.heardGood) here after ended

end

/-- Settles O10: the frame of another station acts on the one listed entry of its group, and the frames due
follow. -/
theorem foreignGroupFrames : Obligations.ForeignGroupFrames := by
  intro s e x source c hears here unique
  refine ⟨fun deaf stays i frame => ?_, fun learns => ⟨fun state => ?_, fun state => ?_, fun state y holder => ?_,
    fun state => ?_, fun state => ?_, fun state => ?_, fun state => ?_⟩⟩
  · rcases frame with rfl | rfl | ⟨o, rfl⟩
    · exact heard_disregarded (f := .claim (s.member e).group c) hears rfl (fun _ => rfl)
        (fun u l => by simp [atOwner, l]) deaf stays
    · exact heard_disregarded (f := .release (s.member e).group c) hears rfl (fun _ => rfl)
        (fun u l => by simp [atOwner, l]) deaf stays
    · exact heard_disregarded (f := .hold (s.member e).group c o) hears rfl (fun _ => rfl)
        (fun u l => by simp [atOwner, l]) deaf stays
  · exact ⟨claim_followed hears here unique learns state, fun _ => hold_followed hears here unique learns state⟩
  · exact release_followed hears here unique learns state
  · exact release_heldRemote hears here unique learns state holder
  · exact release_unheeded hears here unique learns state
  · exact ⟨claim_objected hears here unique learns (.inl state), fun _ => hold_claimed hears here unique learns state,
      release_claimed hears here unique learns state⟩
  · exact ⟨claim_objected hears here unique learns (.inr state),
      fun _ holder _ => hold_heldLocal hears here unique learns state holder⟩
  · exact ⟨claim_releasing hears here unique learns state, fun _ => hold_releasing hears here unique learns state⟩

end Sys2Proof.Machine
end

section
/-! PROOFS. An own attempt that fails (O20). -/

namespace Sys2Proof.Machine

open Sys2Proof

/-! ## The failed attempt (R95, R105, R108) -/

/-- The queue entry of the attempt has one more failure, and the score is raised by 8. -/
def State.failedAttempt (s : State) : State :=
  { s with bus := { s.bus with attempt := none, score := min 255 (s.bus.score + 8),
                               queue := s.bus.queue.map Queued.failed } }

theorem exec_failure {i : Instr} (command : i = .attemptCollision ∨ i = .attemptRejected) (s : State) :
    exec i s = .next (failAttempt s) := by
  rcases command with rfl | rfl <;> rfl

theorem failAttempt_of {s : State} (attempt : s.bus.attempt ≠ none) :
    failAttempt s = buildDue (judgeScore (abandonDue s.failedAttempt)) := by
  rw [failAttempt, if_neg (by simpa using attempt)]
  rfl

/-- No frame's retry count reaches the limit. -/
theorem abandonDue_none {s : State} (few : ∀ q ∈ s.bus.queue, q.retries + 1 < 16) :
    abandonDue s.failedAttempt = s.failedAttempt := by
  have none : (s.bus.queue.map Queued.failed).find? (fun q => retryLimit ≤ q.retries) = none := by
    rw [List.find?_eq_none]
    intro q inside
    obtain ⟨p, old, rfl⟩ := List.mem_map.mp inside
    have low := few p old
    have failed : (Queued.failed p).retries < 16 := by
      rw [Queued.failed]
      split
      · exact low
      · omega
    exact fun reached => Nat.not_le.mpr failed (of_decide_eq_true reached)
  unfold abandonDue
  rw [show s.failedAttempt.bus.queue.find? (fun q => retryLimit ≤ q.retries) = Option.none from none]

/-! ## The comparison of a raised score (R108, R116 to R118) -/

section
variable {s : State} (learns : s.bus.state = .joining ∨ s.bus.state = .onLine)
include learns

theorem judgeScore_active_low (low : s.bus.score < 96) : judgeScore s = s := by
  unfold judgeScore
  rcases learns with state | state
  · rw [state]
    dsimp only
    rw [if_neg (by omega), if_neg (by omega)]
  · rw [state]
    dsimp only
    rw [if_neg (by omega), if_neg (by omega)]

theorem judgeScore_active_muted (high : 96 ≤ s.bus.score) (low : s.bus.score < 200) :
    judgeScore s = enterSilent .muted s := by
  unfold judgeScore
  rcases learns with state | state
  · rw [state]
    dsimp only
    rw [if_neg (by omega), if_pos high]
  · rw [state]
    dsimp only
    rw [if_neg (by omega), if_pos high]

theorem judgeScore_active_offLine (high : 200 ≤ s.bus.score) : judgeScore s = enterSilent .offLine s := by
  unfold judgeScore
  rcases learns with state | state
  · rw [state]
    exact if_pos high
  · rw [state]
    exact if_pos high

theorem learns_of_active : s.learns = true := by
  rcases learns with state | state <;> simp [State.learns, state]

end

/-- A node that has left the bus has no frame due. -/
theorem buildDue_enterSilent {b : BusState} (silent : b ≠ .onLine) (s : State) :
    buildDue (enterSilent b s) = enterSilent b s :=
  buildDue_of_not_onLine (by simp [State.onLine, enterSilent_bus, silent])

theorem enterSilent_degraded (b : BusState) (s : State) : (enterSilent b s).flagLive .busDegraded = true := by
  simp [enterSilent]

/-- Settles O20, by the score after the failure. -/
theorem attemptFails : Obligations.AttemptFails := by
  refine fun s i f command => ⟨fun idle => ?_, fun attempt active few => ?_⟩
  · rw [exec_failure command, failAttempt, if_pos (by simp [idle])]
  have runs : exec i s = .next (buildDue (judgeScore s.failedAttempt)) := by
    rw [exec_failure command, failAttempt_of (by simp [attempt]), abandonDue_none few]
  have score : s.failedAttempt.bus.score = min 255 (s.bus.score + 8) := rfl
  have learns : s.failedAttempt.learns = true := learns_of_active (s := s.failedAttempt) active
  refine ⟨fun low joining => ?_, fun low onLine => ?_, fun high low => ?_, fun high => ?_⟩
  · rw [judgeScore_active_low (s := s.failedAttempt) active (by omega),
      buildDue_of_not_onLine (by simp [State.onLine, State.failedAttempt, joining])] at runs
    exact runs
  · rw [judgeScore_active_low (s := s.failedAttempt) active (by omega)] at runs
    exact ⟨_, runs, buildDue_sameButTraffic s.failedAttempt⟩
  · rw [judgeScore_active_muted (s := s.failedAttempt) active (by omega) (by omega),
      buildDue_enterSilent (by decide)] at runs
    refine ⟨_, runs, ?_, enterSilent_degraded _ _⟩
    rw [enterSilent_bus, learns, State.failedAttempt]
    simp [Nat.min_eq_right (show s.bus.score + 8 ≤ 255 by omega)]
  · rw [judgeScore_active_offLine (s := s.failedAttempt) active (by omega), buildDue_enterSilent (by decide)] at runs
    refine ⟨_, runs, ?_, enterSilent_degraded _ _⟩
    rw [enterSilent_bus, learns, State.failedAttempt]
    simp [Config.offLineTime]

end Sys2Proof.Machine
end

section
/-! PROOFS. Leaving ON-LINE (O22). -/

namespace Sys2Proof.Machine

open Sys2Proof

/-! ## What waits stays waiting -/

/-- From s to t, every publication and every FAULT frame that waited waits. -/
structure StillWaits (s t : State) : Prop where
  length : t.pubs.entries.length = s.pubs.entries.length
  pubs : ∀ i : Nat, (s.pubs.entries.map Publication.waiting)[i]? = some true →
    (t.pubs.entries.map Publication.waiting)[i]? = some true
  faults : ∀ c, (s.faultRec c).waiting = true → (t.faultRec c).waiting = true

namespace StillWaits

variable {s t u : State}

theorem trans (h : StillWaits s t) (k : StillWaits t u) : StillWaits s u :=
  ⟨k.length.trans h.length, fun i w => k.pubs i (h.pubs i w), fun c w => k.faults c (h.faults c w)⟩

theorem of_pends (pubs : PendsOnly s t) (faults : ∀ c, (t.faultRec c).waiting = (s.faultRec c).waiting) :
    StillWaits s t := ⟨pubs.length, fun _ => pubs.waiting, fun c w => (faults c).trans w⟩

theorem of_same (pubs : t.pubs.entries = s.pubs.entries) (faults : t.faults.records = s.faults.records) :
    StillWaits s t :=
  ⟨by rw [pubs], fun i w => by rwa [pubs], fun c w => by rwa [State.faultRec, faults]⟩

theorem of_records (pubs : PendsOnly s t) (faults : t.faults.records = s.faults.records) : StillWaits s t :=
  of_pends pubs fun c => by rw [State.faultRec, faults, State.faultRec]

theorem refl (s : State) : StillWaits s s := of_same rfl rfl

theorem takeMark (n : Half) (s : State) : StillWaits s (takeMark n s) := by
  have moves (c : Fin 8) (u : State) : ChannelMoves c u (markEventAt c u) := ChannelMoves.refl.markEventAt
  have start : StillWaits s (setMarks { number := n, timer := some (s.now + s.markInterval), queued := false } s) :=
    .of_same rfl rfl
  have marked (u : State) : StillWaits u (Machine.each8 markEventAt u) :=
    of_pends (.each8 (fun c u => .of_moves (moves c u)) u) fun c => ((each8_onlyStuckFalls moves u).rest c).2
  exact (start.trans (marked _)).trans (of_same rfl rfl)

theorem pendPairs (pairs : List PointPair) (s : State) : StillWaits s (pendPairs pairs s) :=
  of_records ⟨rfl, by simp [Machine.pendPairs], fun i e here => pendWhere_pends _ here⟩ rfl

theorem setFaultWaiting (c : Fin 8) (s : State) : StillWaits s (setFaultWaiting true c s) := by
  refine ⟨rfl, fun i w => w, fun d w => ?_⟩
  unfold Machine.setFaultWaiting setRecord
  rw [State.faultRec, Eight.get_set]
  split
  · rfl
  · exact w

theorem flushedNotice (f : Frame) (s : State) : StillWaits s (flushedNotice f s) := by
  cases f with
  | mark n => exact takeMark n s
  | points ps => exact pendPairs ps s
  | fault c l k m => exact setFaultWaiting c s
  | trip | clear | release | hold | claim | faultAck | status | hello => exact refl s

theorem flushedNotices (l : List Queued) (s : State) : StillWaits s (flushedNotices l s) := by
  induction l generalizing s with
  | nil => exact refl s
  | cons q l ih => exact (flushedNotice q.frame s).trans (ih _)

end StillWaits

/-! ## The flushed frames (R55, R90, R106, R148) -/

theorem flushedNotices_append (l l' : List Queued) (s : State) :
    flushedNotices (l ++ l') s = flushedNotices l' (flushedNotices l s) := by
  induction l generalizing s with
  | nil => rfl
  | cons q l ih => exact ih _

section
variable {l : List Queued} {q : Queued} (inside : q ∈ l) (s : State)
include inside

/-- A frame's notice stands between the notices of the others. -/
theorem flushedNotices_around : ∃ u, StillWaits s u ∧ u.loader = s.loader ∧
    StillWaits (flushedNotice q.frame u) (flushedNotices l s) := by
  obtain ⟨before, after, rfl⟩ := List.append_of_mem inside
  rw [flushedNotices_append]
  exact ⟨_, .flushedNotices before s, by simp, .flushedNotices after _⟩

/-- What the flushed FAULT frame of a channel carried waits again (R148). -/
theorem flushedNotices_fault {c : Fin 8} {live sticky : KindSet} {m : Half}
    (frame : q.frame = .fault c live sticky m) : ((flushedNotices l s).faultRec c).waiting = true := by
  obtain ⟨u, -, -, after⟩ := flushedNotices_around inside s
  refine after.faults c ?_
  rw [frame]
  show (State.faultRec (setFaultWaiting true c u) c).waiting = true
  rw [State.faultRec, setFaultWaiting, setRecord, Eight.get_set, if_pos rfl]

/-- The publications that a flushed POINTS frame carried are pending again (R90). -/
theorem flushedNotices_points {pairs : List PointPair} (frame : q.frame = .points pairs) {k : Nat}
    {cfg : PublicationConfig} {x : Publication} (listed : s.config.publications[k]? = some cfg)
    (here : s.pubs.entries[k]? = some x) (named : ∃ p ∈ pairs, p.point = cfg.point) :
    ((flushedNotices l s).pubs.entries.map Publication.waiting)[k]? = some true := by
  obtain ⟨u, before, loader, after⟩ := flushedNotices_around inside s
  obtain ⟨p, carried, point⟩ := named
  refine after.pubs k ?_
  rw [frame]
  refine pendWhere_waiting (p := fun c => pairs.any fun p => p.point == c.point) (cfg := cfg)
    (List.any_eq_true.mpr ⟨p, carried, by simp [point]⟩) (cs := u.config.publications) ?_ ?_
  · rwa [State.config, loader]
  · rw [before.length]
    exact (List.getElem?_eq_some_iff.mp here).1

end

/-! ## The flushed MARK (R55) -/

/-- A notice of another kind than MARK leaves the channels and the mark timer. -/
theorem flushedNotice_unmarked {f : Frame} (none : isMark f = false) (s : State) :
    (flushedNotice f s).channels = s.channels ∧ (flushedNotice f s).marks = s.marks := by
  cases f with
  | mark n => exact nomatch none
  | points | fault => simp [flushedNotice]
  | trip | clear | release | hold | claim | faultAck | status | hello => exact ⟨rfl, rfl⟩

theorem flushedNotices_unmarked {l : List Queued} (none : ∀ q ∈ l, isMark q.frame = false) (s : State) :
    (flushedNotices l s).channels = s.channels ∧ (flushedNotices l s).marks = s.marks := by
  induction l generalizing s with
  | nil => exact ⟨rfl, rfl⟩
  | cons q l ih =>
    obtain ⟨channels, marks⟩ := flushedNotice_unmarked (none q List.mem_cons_self) s
    obtain ⟨channels', marks'⟩ := ih (fun p inside => none p (List.mem_cons_of_mem _ inside)) (flushedNotice q.frame s)
    exact ⟨channels'.trans channels, marks'.trans marks⟩

/-- The one flushed MARK is taken as a local mark. -/
theorem flushedNotices_mark {l : List Queued} {q : Queued} {n : Half} (inside : q ∈ l) (frame : q.frame = .mark n)
    (sound : limitsHold l = true) (s : State) : s.tookMarkEvent (flushedNotices l s) ∧
    (flushedNotices l s).marks =
      { number := n, queued := false, timer := some (s.now + 1000 * s.config.mark + 250 * s.loader.station.val) } := by
  obtain ⟨before, after, rfl⟩ := List.append_of_mem inside
  rw [limitsHold_iff, List.pairwise_append, List.pairwise_cons] at sound
  obtain ⟨-, ⟨last, -⟩, first⟩ := sound
  rw [frame] at last
  have early : ∀ p ∈ before, isMark p.frame = false := fun p inside => by
    have apart := first p inside q List.mem_cons_self
    rwa [frame, sameLimit_mark] at apart
  have later : ∀ p ∈ after, isMark p.frame = false := fun p inside => by
    have apart := last p inside
    rwa [sameLimit_comm, sameLimit_mark] at apart
  obtain ⟨channels, marks⟩ := flushedNotices_unmarked early s
  have steps : flushedNotices (before ++ q :: after) s =
      flushedNotices after (takeMark n (flushedNotices before s)) := by
    rw [flushedNotices_append, flushedNotices, frame]
    rfl
  have now : (flushedNotices before s).now = s.now := by simp
  have loader : (flushedNotices before s).loader = s.loader := by simp
  have link : (flushedNotices before s).link = s.link := by simp
  rw [steps]
  generalize flushedNotices before s = u at *
  have took := takeMark_took n u
  have marked := takeMark_marks n u
  obtain ⟨channels', marks'⟩ := flushedNotices_unmarked later (takeMark n u)
  have now' : (flushedNotices after (takeMark n u)).now = (takeMark n u).now := by simp
  have loader' : (flushedNotices after (takeMark n u)).loader = (takeMark n u).loader := by simp
  have link' : (flushedNotices after (takeMark n u)).link = (takeMark n u).link := by simp
  generalize flushedNotices after (takeMark n u) = v at *
  refine ⟨fun c => ?_, ?_⟩
  · have start : Alike c s u := ⟨now, loader, link, by rw [channels], by simp only [State.chan, channels],
      by simp only [State.sentBy, channels]⟩
    have rest : Alike c (takeMark n u) v := ⟨now', loader', link', by rw [channels'],
      by simp only [State.chan, channels'], by simp only [State.sentBy, channels']⟩
    exact start.symm.tookMarkAt rest (took c)
  · simp only [marks', marked, now, State.config, loader]

/-! ## The membership entries (R47) -/

/-- The entry of a node that has left ON-LINE or JOINING. -/
def Entry.left (x : Entry) : Entry :=
  if x.state = .heldLocal then { x with state := .releasingLocal, lapsed := true, hold := none, lapse := none }
  else if x.state = .releasingLocal ∧ x.releaseQueued = false then
    { x with lapsed := true, hold := none, lapse := none }
  else x.became .unknown

/-- From s to t, entry e and the messages under way to the channels stayed. -/
def State.keepsEntry (e : Fin 8) (s t : State) : Prop :=
  t.entry e = s.entry e ∧ ∀ m ∈ s.channels.toChannels, m ∈ t.channels.toChannels

theorem State.keepsEntry.refl (e : Fin 8) (s : State) : s.keepsEntry e s := ⟨rfl, fun _ => id⟩

theorem State.keepsEntry.trans {e : Fin 8} {s t u : State} (h : s.keepsEntry e t) (k : t.keepsEntry e u) :
    s.keepsEntry e u := ⟨k.1.trans h.1, fun m inside => k.2 m (h.2 m inside)⟩

theorem sendRevoke_messages (x : Entry) (s : State) :
    (∀ m ∈ s.channels.toChannels, m ∈ (sendRevoke x s).channels.toChannels) ∧
    ∀ h, x.holder = some h → ⟨h.channel, .revoke⟩ ∈ (sendRevoke x s).channels.toChannels := by
  unfold sendRevoke
  cases x.holder with
  | none => exact ⟨fun _ => id, nofun⟩
  | some y =>
    refine ⟨fun m inside => List.mem_append_left _ inside, fun h same => ?_⟩
    cases same
    exact List.mem_append_right _ (List.mem_singleton_self _)

theorem groupLeaves_other {d e : Fin 8} (other : d ≠ e) (s : State) : s.keepsEntry e (groupLeaves d s) := by
  have set (x : Entry) : s.keepsEntry e (setEntry d x s) := ⟨modEntry_entry_other other.symm _ s, fun _ => id⟩
  unfold groupLeaves
  split
  · exact .refl e s
  next x _ =>
    (repeat' split)
    · exact (set _).trans ⟨sendRevoke_entry x e _, (sendRevoke_messages x _).1⟩
    · exact ⟨modEntry_entry_other other.symm _ s, fun _ => id⟩
    · exact set _
    all_goals exact ⟨modEntry_entry_other other.symm _ s, fun _ => id⟩

theorem groupLeaves_cases {e : Fin 8} {s : State} {x : Entry} (here : s.entry e = some x) : groupLeaves e s =
    if x.state = .heldLocal then sendRevoke x (setEntry e x.left s)
    else if x.state = .releasingLocal ∧ x.releaseQueued = false then setEntry e x.left s
    else enterUnknown e s := by
  unfold groupLeaves Entry.left
  rw [here]
  dsimp only
  cases state : x.state
  case releasingLocal => cases queued : x.releaseQueued <;> simp
  all_goals simp

theorem groupLeaves_own {e : Fin 8} {s : State} {x : Entry} (here : s.entry e = some x) :
    (groupLeaves e s).entry e = some x.left ∧ (x.state = .heldLocal → ∀ h, x.holder = some h →
      ⟨h.channel, .revoke⟩ ∈ (groupLeaves e s).channels.toChannels) := by
  have set := setEntry_entry_of here x.left
  rw [groupLeaves_cases here]
  by_cases held : x.state = .heldLocal
  · rw [if_pos held]
    exact ⟨(sendRevoke_entry ..).trans set, fun _ => (sendRevoke_messages x _).2⟩
  rw [if_neg held]
  refine ⟨?_, fun again => absurd again held⟩
  by_cases releasing : x.state = .releasingLocal ∧ x.releaseQueued = false
  · rw [if_pos releasing]
    exact set
  · rw [if_neg releasing, Entry.left, if_neg held, if_neg releasing]
    exact modEntry_entry_of e s here _

theorem each8_groupLeaves {e : Fin 8} {s : State} {x : Entry} (here : s.entry e = some x) :
    (each8 groupLeaves s).entry e = some x.left ∧ (x.state = .heldLocal → ∀ h, x.holder = some h →
      ⟨h.channel, .revoke⟩ ∈ (each8 groupLeaves s).channels.toChannels) := by
  obtain ⟨u, before, after⟩ := each8_around (State.keepsEntry.refl e) State.keepsEntry.trans e
    (fun d other t => groupLeaves_other other t) s
  obtain ⟨entry, revoked⟩ := groupLeaves_own (before.1.trans here)
  exact ⟨after.1.trans entry, fun held h holder => after.2 _ (revoked held h holder)⟩

/-- The entries send messages to the channels and change nothing else outside the Group Table. -/
theorem each8_groupLeaves_frame (s : State) : ∃ groups sent, each8 groupLeaves s =
    { s with groups := groups, channels := { s.channels with toChannels := sent } } := by
  refine each8_relates (R := fun s t => ∃ groups sent, t =
    { s with groups := groups, channels := { s.channels with toChannels := sent } }) (fun s => ⟨_, _, rfl⟩)
    ?_ (fun e u => ?_) s
  · rintro s t u ⟨_, _, rfl⟩ ⟨_, _, rfl⟩
    exact ⟨_, _, rfl⟩
  · unfold groupLeaves sendRevoke
    (repeat' split) <;> exact ⟨_, _, rfl⟩

/-! ## The entry to MUTED from ON-LINE -/

/-- What the flush of the queue leaves before the owners act, that their acts depend on (R106). -/
structure FlushStart (s u : State) : Prop where
  loader : u.loader = s.loader
  now : u.now = s.now
  link : u.link = s.link
  channels : u.channels = s.channels
  marks : u.marks = s.marks
  pubs : u.pubs.entries = s.pubs.entries
  groups : u.groups = s.groups
  host : u.host = s.host

theorem flushQueue_eq (s : State) : ∃ u, flushQueue s = flushedNotices s.bus.queue u ∧ FlushStart s u ∧
    (s.faults.blocked = false → u.faults.blocked = false) := by
  unfold flushQueue
  dsimp only
  split
  next empty =>
    rw [List.isEmpty_iff.mp empty]
    exact ⟨s, rfl, ⟨rfl, rfl, rfl, rfl, rfl, rfl, rfl, rfl⟩, id⟩
  next => exact ⟨_, rfl, ⟨rfl, rfl, rfl, rfl, rfl, rfl, rfl, rfl⟩, fun _ => rfl⟩

theorem flushedNotice_apart (f : Frame) (s : State) :
    (flushedNotice f s).host.points = s.host.points ∧
    (flushedNotice f s).channels.feedback = s.channels.feedback ∧
    (flushedNotice f s).faults.blocked = s.faults.blocked := by
  cases f with
  | mark n =>
    obtain ⟨⟨-, -, -, host, -, -, -, feedback⟩, -⟩ := takeMark_leaves n s
    have marked := (each8_onlyStuckFalls (f := markEventAt) (fun _ _ => ChannelMoves.refl.markEventAt)
      (setMarks { number := n, timer := some (s.now + s.markInterval), queued := false } s)).others
    refine ⟨host, feedback, ?_⟩
    show (takeMark n s).faults.blocked = s.faults.blocked
    rw [takeMark, markEvent, peersMark_faults, marked]
    rfl
  | points | fault | trip | clear | release | hold | claim | faultAck | status | hello => exact ⟨rfl, rfl, rfl⟩

theorem flushedNotices_apart (l : List Queued) (s : State) :
    (flushedNotices l s).host.points = s.host.points ∧
    (flushedNotices l s).channels.feedback = s.channels.feedback ∧
    (flushedNotices l s).faults.blocked = s.faults.blocked := by
  induction l generalizing s with
  | nil => exact ⟨rfl, rfl, rfl⟩
  | cons q l ih =>
    obtain ⟨host, feedback, blocked⟩ := flushedNotice_apart q.frame s
    obtain ⟨host', feedback', blocked'⟩ := ih (flushedNotice q.frame s)
    exact ⟨host'.trans host, feedback'.trans feedback, blocked'.trans blocked⟩

theorem setFlagLive_pends (f : NodeFlag) (b : Bool) (s : State) : PendsOnly s (setFlagLive f b s) := by
  have set (x : NodeFlags) : PendsOnly s (setFlags x s) := .of_same rfl
  unfold setFlagLive
  (repeat' split)
  · exact .refl s
  · exact (set _).trans (raiseFlag_pends _ _)
  · exact .of_same rfl

theorem setFlagLive_host (f : NodeFlag) (b : Bool) (s : State) : (setFlagLive f b s).host.points = s.host.points := by
  unfold setFlagLive
  (repeat' split) <;> simp

/-- From w, where the flushed frames' owners have acted, the node is off the bus in t (R47, R91). -/
structure LeftBus (w t : State) : Prop where
  channels : t.channels = { w.channels with toChannels := t.channels.toChannels }
  marks : t.marks = w.marks
  waits : StillWaits w t
  blocked : t.pubs.blocked = false ∧ t.faults.blocked = w.faults.blocked
  host : t.host.points = w.host.points
  entries : ∀ e x, w.entry e = some x → t.entry e = some x.left ∧ (x.state = .heldLocal → ∀ h, x.holder = some h →
    ⟨h.channel, .revoke⟩ ∈ t.channels.toChannels)

theorem leaveTraffic_left (s : State) :
    LeftBus (flushQueue s) (setFlagLive .busDegraded true (leaveTraffic s)) := by
  unfold leaveTraffic
  have entries := fun e x here => each8_groupLeaves (e := e) (s := flushQueue s) (x := x) here
  obtain ⟨groups, sent, left⟩ := each8_groupLeaves_frame (flushQueue s)
  rw [left] at entries
  rw [left]
  generalize flushQueue s = w at *
  generalize told : setPubBlocked false _ = v
  have pends := setFlagLive_pends .busDegraded true v
  have records := setFlagLive_records .busDegraded true v
  have pubs : v.pubs = { w.pubs with blocked := false } := by rw [← told]; rfl
  have faults : v.faults = w.faults := by rw [← told]; rfl
  have channels : v.channels = { w.channels with toChannels := sent } := by rw [← told]; rfl
  have groupsKept : v.groups = groups := by rw [← told]; rfl
  have host : (setFlagLive .busDegraded true v).host.points = w.host.points :=
    (setFlagLive_host ..).trans (by rw [← told]; rfl)
  have marks : v.marks = w.marks := by rw [← told]; rfl
  have start : StillWaits w v := .of_same (by rw [pubs]) (by rw [faults])
  refine ⟨?_, by simp [marks], start.trans (.of_records pends records.1), ⟨by rw [pends.blocked, pubs], by
    rw [records.2, faults]⟩, host, fun e x here => ?_⟩
  · simp [channels]
  · obtain ⟨entry, revokes⟩ := entries e x here
    refine ⟨?_, fun held h holder => ?_⟩
    · have same : (setFlagLive .busDegraded true v).groups = groups := by simp [groupsKept]
      rw [State.entry, same]
      exact entry
    · have sends := revokes held h holder
      simpa [channels] using sends

/-- The node off the bus, from a state that takes part. -/
theorem enterSilent_eq {b : BusState} {s : State} (learns : s.learns = true) : enterSilent b s =
    setFlagLive .busDegraded true (leaveTraffic (setFaultBlocked false (setBus { s.bus with
      state := b, phase := none, joinTimer := none, gapSeen := false,
      offLineTimer := if b == .offLine then some (s.now + Config.offLineTime) else none } s))) := by
  rw [enterSilent, if_pos learns]

/-- What a node that has left JOINING or ON-LINE keeps, and what its flushed frames' owners do. -/
theorem enterSilent_leaves {b : BusState} {s : State} (learns : s.learns = true) : ∃ u, FlushStart s u ∧
    u.faults.blocked = false ∧ LeftBus (flushedNotices s.bus.queue u) (enterSilent b s) := by
  rw [enterSilent_eq learns]
  generalize started : setFaultBlocked false (setBus _ s) = v
  have queue : v.bus.queue = s.bus.queue := by rw [← started]; rfl
  have same : FlushStart s v := by rw [← started]; exact ⟨rfl, rfl, rfl, rfl, rfl, rfl, rfl, rfl⟩
  have blocked : v.faults.blocked = false := by rw [← started]; rfl
  obtain ⟨u, flushed, start, free⟩ := flushQueue_eq v
  have left := leaveTraffic_left v
  rw [flushed, queue] at left
  exact ⟨u, ⟨start.loader.trans same.loader, start.now.trans same.now, start.link.trans same.link,
    start.channels.trans same.channels, start.marks.trans same.marks, start.pubs.trans same.pubs,
    start.groups.trans same.groups, start.host.trans same.host⟩, free blocked, left⟩

theorem failed_frame (q : Queued) : q.failed.frame = q.frame := by
  unfold Queued.failed
  split <;> rfl

/-- Settles O22: the failure brings the score to the muting limit, and the node leaves the bus. -/
theorem leavingTheBus : Obligations.LeavingTheBus := by
  intro s i command running onLine attempt few high low
  have active : s.failedAttempt.bus.state = .joining ∨ s.failedAttempt.bus.state = .onLine := .inr onLine
  have score : s.failedAttempt.bus.score = min 255 (s.bus.score + 8) := rfl
  have runs : exec i s = .next (enterSilent .muted s.failedAttempt) := by
    rw [exec_failure command, failAttempt_of attempt, abandonDue_none few,
      judgeScore_active_muted active (by omega) (by omega), buildDue_enterSilent (by decide)]
  have learns := learns_of_active active
  obtain ⟨u, start, free, left⟩ := enterSilent_leaves (b := .muted) learns
  have bus := enterSilent_bus .muted s.failedAttempt
  have frame := enterSilent_frame .muted s.failedAttempt
  generalize enterSilent .muted s.failedAttempt = t at *
  obtain ⟨now, held, loader, zones, inputs, points, link, power, -⟩ := frame
  obtain ⟨host, feedback, blocked⟩ := flushedNotices_apart s.failedAttempt.bus.queue u
  have inside {q : Queued} (old : q ∈ s.bus.queue) : q.failed ∈ s.failedAttempt.bus.queue :=
    List.mem_map.mpr ⟨q, old, rfl⟩
  have groups : (flushedNotices s.failedAttempt.bus.queue u).groups = s.groups :=
    (flushedNotices_frame _ _).2.2.2.1.trans start.groups
  have entries {e : Fin 8} {x : Entry} (here : s.entry e = some x) := left.entries e x ((entry_of_groups groups e).trans here)
  refine ⟨t, runs, by rw [bus], by rw [bus, learns]; rfl, left.blocked.1, left.blocked.2.trans (blocked.trans free),
    ⟨held, loader, inputs, left.host.trans (host.trans ?_), link, power, by rw [zones]; rfl, ?_⟩, zones, points,
    fun e x here => (entries here).1, fun e x here => (entries here).2, fun none => ?_, fun q old => ?_⟩
  · rw [start.host]; rfl
  · rw [left.channels]
    exact feedback.trans (by rw [start.channels]; rfl)
  · obtain ⟨channels, marks⟩ := flushedNotices_unmarked (l := s.failedAttempt.bus.queue) (fun p there => by
      obtain ⟨q, old, rfl⟩ := List.mem_map.mp there
      rw [failed_frame]
      exact none q old) u
    have kept : (flushedNotices s.failedAttempt.bus.queue u).channels = s.channels := channels.trans start.channels
    refine ⟨fun c => ⟨?_, ?_⟩, left.marks.trans (marks.trans start.marks)⟩
    · rw [State.chan, left.channels, kept]; rfl
    · rw [State.sentBy, left.channels, kept]; rfl
  · cases frame : q.frame with
    | mark n =>
      intro sound
      have apart : limitsHold (s.bus.queue.map Queued.failed) = true := by
        rw [State.queueSound, Bool.and_eq_true, limitsHold_iff] at sound
        rw [limitsHold_iff, List.pairwise_map]
        exact sound.2.imp fun same => by rwa [failed_frame, failed_frame]
      obtain ⟨took, marked⟩ := flushedNotices_mark (inside old) ((failed_frame q).trans frame) apart u
      have after := flushedNotices_frame s.failedAttempt.bus.queue u
      refine ⟨fun c => ?_, left.marks.trans ?_⟩
      · have first : Alike c s u := ⟨start.now, start.loader, start.link, by rw [start.channels]; rfl,
          by rw [State.chan, start.channels]; rfl, by rw [State.sentBy, start.channels]; rfl⟩
        have last : Alike c (flushedNotices s.failedAttempt.bus.queue u) t :=
          ⟨now.trans (start.now.symm.trans after.1.symm), loader.trans (start.loader.symm.trans after.2.2.1.symm),
            link.trans (start.link.symm.trans after.2.2.2.2.2.2.2.1.symm), by rw [left.channels],
            by rw [State.chan, left.channels]; rfl, by rw [State.sentBy, left.channels]; rfl⟩
        exact first.symm.tookMarkAt last (took c)
      · rw [marked, start.now, State.config, start.loader]
        rfl
    | points pairs =>
      intro k cfg listed x here named
      have waits := left.waits.pubs k (flushedNotices_points (inside old) u ((failed_frame q).trans frame)
        (by rwa [State.config, start.loader]) (by rw [start.pubs]; exact here) named)
      simpa using waits
    | fault c live sticky m => exact left.waits.faults c (flushedNotices_fault (inside old) u ((failed_frame q).trans frame))
    | trip | clear | release | hold | claim | faultAck | status | hello => trivial

end Sys2Proof.Machine
end

section
/-! PROOFS. What is due stays on its way: FAULT frames (R148) and publications (R87, R89, R90). -/

namespace Sys2Proof.Machine

open Sys2Proof

/-! ## A frame that an offer displaces (R102) -/

/-- A RELEASE alone takes the place of a frame (R101). -/
theorem release_of_replaced {p f : Frame} (replaced : replacesHold p f = true) : ∃ g c, f = .release g c := by
  cases p <;> cases f <;> first | exact ⟨_, _, rfl⟩ | exact nomatch replaced

/-- A FAULT frame leaves the queue by displacement alone, and the channel's frame waits again. -/
theorem offer_drops_fault {f : Frame} {s : State} {q : Queued} {c : Fin 8} (inside : q ∈ s.bus.queue)
    (fault : isFaultOf c q.frame = true) (gone : q ∉ (offer f s).1.bus.queue) :
    ((offer f s).1.faultRec c).waiting = true := by
  have displaced (u : State) : ((displacedNotice q.frame u).faultRec c).waiting = true := by
    cases frame : q.frame <;> simp [isFaultOf, frame] at fault
    rw [fault]
    exact displacedNotice_fault ..
  cases admitted : admits s.bus.state f
  · rw [offer_of_not_admitted admitted] at gone
    exact absurd inside gone
  by_cases free : ∀ x ∈ s.bus.queue, sameLimit x.frame f = false
  · by_cases room : s.bus.queue.length < 12
    · rw [offer_of_room admitted free room] at gone
      exact absurd ((insertByCode_perm _ _).mem_iff.mpr (List.mem_cons_of_mem _ inside)) gone
    · obtain ⟨rest, last, queue⟩ : ∃ rest last, s.bus.queue = rest ++ [last] := by
        simpa using (List.eq_nil_or_concat s.bus.queue).resolve_left fun e => by simp [e] at room
      by_cases above : f.code < last.frame.code
      · rw [offer_of_displacing admitted free queue (by omega) above] at gone ⊢
        have out : q ∉ insertByCode (newEntry s.now f) rest := by simpa [setQueue] using gone
        rw [(insertByCode_perm _ _).mem_iff, List.mem_cons] at out
        rw [queue, List.mem_append, List.mem_singleton] at inside
        rcases inside with old | same
        · exact absurd (.inr old) out
        · rw [← same]
          exact displaced _
      · rw [offer_of_full admitted free queue (by omega) (by omega)] at gone
        exact absurd inside (by simpa using gone)
  · obtain ⟨p, found⟩ : ∃ p, s.bus.queue.find? (fun x => sameLimit x.frame f) = some p :=
      Option.isSome_iff_exists.mp (List.find?_isSome.mpr (by simpa using free))
    obtain ⟨limit, before, after, queue, none⟩ := List.find?_eq_some_iff_append.mp found
    replace none : ∀ x ∈ before, sameLimit x.frame f = false := by simpa using none
    cases merged : mergeFrames p.frame f with
    | some m =>
      rw [offer_of_merge admitted queue none limit merged] at gone
      have out : q ∉ before ++ { p with frame := m } :: after := gone
      rw [queue, List.mem_append, List.mem_cons] at inside
      rcases inside with old | same | old
      · exact absurd (List.mem_append_left _ old) out
      · rw [← same] at merged
        cases frame : q.frame <;> simp [isFaultOf, frame, mergeFrames] at fault merged
      · exact absurd (List.mem_append_right _ (List.mem_cons_of_mem _ old)) out
    | none =>
      cases replaced : replacesHold p.frame f
      · rw [offer_of_limit admitted queue none limit merged replaced] at gone
        exact absurd inside gone
      · have apart : sameLimit q.frame f = false := by
          obtain ⟨g, d, rfl⟩ := release_of_replaced replaced
          rw [sameLimit_release]
          cases frame : q.frame with
          | fault => rfl
          | mark | trip | clear | release | hold | claim | faultAck | points | status | hello =>
            simp [isFaultOf, frame] at fault
        have eq : offer f s = (setQueue (insertByCode (newEntry s.now f)
            (s.bus.queue.filter fun x => !sameLimit x.frame f)) s, true) := by
          simp [offer, admitted, found, merged, replaced]
        rw [eq] at gone
        refine absurd ((insertByCode_perm _ _).mem_iff.mpr (List.mem_cons_of_mem _ ?_)) gone
        exact List.mem_filter.mpr ⟨inside, by simp [apart]⟩

/-! ## FAULT frames on their way (R148) -/

/-- A FAULT frame of channel c waits to be built, or is queued. -/
def State.faultOnWay (s : State) (c : Fin 8) : Prop :=
  (s.faultRec c).waiting = true ∨ ∃ q ∈ s.bus.queue, isFaultOf c q.frame = true

namespace State.faultOnWay

variable {s : State} {c : Fin 8} (h : s.faultOnWay c)
include h

theorem offer (f : Frame) : (offer f s).1.faultOnWay c := by
  rcases h with waits | ⟨q, inside, fault⟩
  · exact .inl ((offer_faults f c s).1 waits)
  · by_cases there : q ∈ (Machine.offer f s).1.bus.queue
    · exact .inr ⟨q, there, fault⟩
    · exact .inl (offer_drops_fault inside fault there)

/-- A step that leaves the records and the queue. -/
theorem later {t : State} (record : (t.faultRec c).waiting = (s.faultRec c).waiting)
    (queue : t.bus.queue = s.bus.queue) : t.faultOnWay c :=
  h.imp (record.trans ·) fun ⟨q, inside, fault⟩ => ⟨q, by rwa [queue], fault⟩

theorem claimIfDue (e : Fin 8) : (claimIfDue e s).faultOnWay c := by
  have claim (d : Fin 8) : (claimGroup e d s).faultOnWay c := by
    have offered := (h.later (t := s.claiming e d) rfl rfl).offer (.claim (s.member e).group d)
    rw [claimGroup_eq]
    split
    · exact offered
    · exact offered.later rfl rfl
  unfold Machine.claimIfDue
  (repeat' split) <;> first | exact h | exact claim _

theorem buildFault (d : Fin 8) : (buildFault d s).faultOnWay c := by
  have offered := h.offer (faultFrame s d)
  unfold Machine.buildFault
  dsimp only
  split
  · split
    next taken =>
      by_cases own : d = c
      · subst own
        obtain ⟨q, inside, same | ⟨g, merged⟩⟩ := offer_taken_mem taken
        · exact .inr ⟨q, inside, by rw [same]; exact beq_self_eq_true d⟩
        · rw [(Frame.lone_of_code (by simp [faultFrame, Frame.code]) : (faultFrame s d).lone).1] at merged
          exact nomatch merged
      · refine offered.later ?_ rfl
        simp only [State.faultRec, setFaultWaiting, setRecord, Eight.get_set, if_neg (Ne.symm own)]
    next => exact offered.later rfl rfl
  · exact h

theorem buildPoints : (buildPoints s).faultOnWay c := by
  unfold Machine.buildPoints offerOnly
  generalize pendingPairs s pairsPerFrame s.config.publications s.pubs.entries = pairs
  have carried (es : List Publication) := (h.later (t := setPubs es s) rfl rfl).offer (.points pairs)
  dsimp only
  split
  · split
    · exact carried _
    · exact (h.offer _).later rfl rfl
  · exact h

/-- What is due, built. -/
theorem buildDue : (buildDue s).faultOnWay c := by
  have claims : (Machine.each8 Machine.claimIfDue s).faultOnWay c :=
    each8_relates (R := fun s t => s.faultOnWay c → t.faultOnWay c) (fun _ => id) (fun f g => g ∘ f)
      (fun e _ k => k.claimIfDue e) s h
  have faults : (buildFaults (Machine.each8 Machine.claimIfDue s)).faultOnWay c :=
    each8_relates (R := fun s t => s.faultOnWay c → t.faultOnWay c) (fun _ => id) (fun f g => g ∘ f)
      (fun d _ k => k.buildFault d) _ claims
  exact faults.buildPoints

end State.faultOnWay

/-! ## Publications on their way (R87, R89, R90) -/

/-- ERR reads the node state, the flags' and the kinds' sticky values alone (R150). -/
theorem err_of_same {s t : State} (loader : t.loader = s.loader) (flags : t.faults.flags.sticky = s.faults.flags.sticky)
    (kinds : ∀ c, (t.faults.records.get c).kinds = (s.faults.records.get c).kinds) : t.err = s.err := by
  have record (c : Fin 8) : (t.faults.records.get c).sticky = (s.faults.records.get c).sticky := by
    rw [FaultRecord.sticky, kinds, FaultRecord.sticky]
  have running : t.running = s.running := by rw [State.running, loader, State.running]
  simp only [State.err, running, flags, State.anyKindSticky, record]

/-- Every publication of ERR is pending. -/
def State.errPending (s : State) : Prop := ∀ (k : Nat) (cfg : PublicationConfig),
  s.config.publications[k]? = some cfg → cfg.source = .nodeError → k < s.pubs.entries.length →
    (s.pubs.entries.map Publication.waiting)[k]? = some true

theorem State.errPending.later {s t : State} (h : s.errPending) (loader : t.loader = s.loader) (pends : PendsOnly s t) :
    t.errPending := fun k cfg listed source inside => by
  rw [State.config, loader] at listed
  exact pends.waiting (h k cfg listed source (by rwa [← pends.length]))

/-- A flag that is raised leaves ERR, or its publications are pending (R86, R150). -/
theorem raiseFlag_err (f : NodeFlag) (s : State) : (raiseFlag f s).err = s.err ∨ (raiseFlag f s).errPending := by
  unfold raiseFlag trackErr
  dsimp only
  generalize setFlags { s.faults.flags with sticky := s.faults.flags.sticky ||| f.mask } s = u
  split
  next same => exact .inl (eq_of_beq same).symm
  next =>
    refine .inr fun k cfg listed source inside => ?_
    refine pendSource_waiting (s := u) ?_ ?_
    · simpa [setNodeFlagEvent, pendSource] using inside
    · rw [List.getElem?_map, show u.config.publications[k]? = some cfg from listed, ← source]
      rfl

theorem offer_err (f : Frame) (s : State) : (offer f s).1.err = s.err ∨ (offer f s).1.errPending := by
  have queued (l : List Queued) : (setQueue l s).err = s.err := rfl
  have displaced (g : Frame) (u : State) (h : u.err = s.err ∨ u.errPending) :
      (displacedNotice g u).err = s.err ∨ (displacedNotice g u).errPending := by
    refine h.imp (fun same => (err_of_same (by simp) ?_ (by simp)).trans same)
      fun pending => pending.later (by simp) (displacedNotice_pends g u)
    cases g <;> simp [displacedNotice, setFaultWaiting, setRecord]
  unfold offer
  (repeat' split) <;>
    first
      | exact .inl rfl
      | exact raiseFlag_err _ s
      | exact displaced _ _ (raiseFlag_err _ _)

/-- What an offer leaves of a publication's source: its value, or the publication is pending. -/
theorem offer_source {f : Frame} {s : State} {k : Nat} {cfg : PublicationConfig}
    (listed : s.config.publications[k]? = some cfg) (inside : k < s.pubs.entries.length) :
    sourceValue (offer f s).1 cfg.source = sourceValue s cfg.source ∨
    ((offer f s).1.pubs.entries.map Publication.waiting)[k]? = some true := by
  cases source : cfg.source with
  | sense n => exact .inl (by simp [sourceValue, State.senseOn, State.config])
  | hostPoint n => exact .inl (by simp [sourceValue])
  | feedback n => exact .inl (by simp [sourceValue, State.chan])
  | faultAny n => exact .inl (by simp [sourceValue, State.faultRec, FaultRecord.live])
  | nodeError =>
    refine (offer_err f s).imp_right fun pending => pending k cfg ?_ source ?_
    · simpa [State.config] using listed
    · rwa [(offer_pends f s).length]

/-- A pending publication is among the pairs of the frame that is built, or stays pending (R89). -/
theorem takePending_or_carried {s : State} {d n k : Nat} {cs : List PublicationConfig} {es : List Publication}
    {cfg : PublicationConfig} (listed : cs[k]? = some cfg) (waits : (es.map Publication.waiting)[k]? = some true) :
    ((takePending d n es).map Publication.waiting)[k]? = some true ∨
    (⟨cfg.point, sourceValue s cfg.source⟩ : PointPair) ∈ pendingPairs s n cs es := by
  induction cs generalizing n k es with
  | nil => simp at listed
  | cons c cs ih =>
    cases es with
    | nil => simp at waits
    | cons e es =>
      cases n with
      | zero => exact .inl waits
      | succ n =>
        unfold takePending pendingPairs
        cases k with
        | zero =>
          obtain rfl : c = cfg := by simpa using listed
          have on : e.waiting = true := by simpa using waits
          simp [on]
        | succ k =>
          rw [List.getElem?_cons_succ] at listed
          have waits' : (es.map Publication.waiting)[k]? = some true := by simpa using waits
          split
          · exact (ih listed waits').imp (by simpa using ·) (List.mem_cons_of_mem _)
          · exact (ih listed waits').imp (by simpa using ·) id

/-- A pending publication stays so, or the frame that is built carries it with the value of its source. -/
theorem buildPoints_sends {s : State} {k : Fin 16} {cfg : PublicationConfig}
    (listed : s.config.publications[k.val]? = some cfg)
    (waits : (s.pubs.entries.map Publication.waiting)[k.val]? = some true) : (buildPoints s).willSend k cfg := by
  have inside : k.val < s.pubs.entries.length := by
    obtain ⟨x, here, -⟩ := by simpa using waits
    exact (List.getElem?_eq_some_iff.mp here).1
  have pending {t : State} (on : (t.pubs.entries.map Publication.waiting)[k.val]? = some true) : t.willSend k cfg :=
    .inl (by simpa using on)
  unfold buildPoints offerOnly
  dsimp only
  split
  next =>
    have choice := takePending_or_carried (s := s) (d := s.now + 50000 * s.config.refresh) (n := pairsPerFrame) listed waits
    generalize pendingPairs s pairsPerFrame s.config.publications s.pubs.entries = pairs at *
    have length : (takePending (s.now + 50000 * s.config.refresh) pairsPerFrame s.pubs.entries).length =
        s.pubs.entries.length := by
      have same := congrArg List.length
        (takePending_lastSent (s.now + 50000 * s.config.refresh) pairsPerFrame s.pubs.entries)
      simpa using same
    generalize takePending (s.now + 50000 * s.config.refresh) pairsPerFrame s.pubs.entries = es at *
    split
    next taken =>
      have offered := offer_pends (.points pairs) (setPubs es s)
      rcases choice with stays | carried
      · exact pending (offered.waiting stays)
      rcases offer_source (f := .points pairs) (s := setPubs es s) listed (by rw [← length] at inside; exact inside)
        with same | on
      · obtain ⟨q, queued, frame | ⟨g, merged⟩⟩ := offer_taken_mem taken
        · refine .inr ⟨q, queued, pairs, frame, ?_⟩
          rw [same]
          exact carried
        · rw [(Frame.lone_of_code (by simp [Frame.code]) : (Frame.points pairs).lone).1] at merged
          exact nomatch merged
      · exact pending on
    next => exact pending (offer_pends (.points pairs) s |>.waiting waits)
  next => exact pending waits

/-- A pending publication is on its way after the frames due are built. -/
theorem buildDue_sends {s : State} {k : Fin 16} {cfg : PublicationConfig}
    (listed : s.config.publications[k.val]? = some cfg)
    (waits : (s.pubs.entries.map Publication.waiting)[k.val]? = some true) : (buildDue s).willSend k cfg := by
  refine buildPoints_sends ?_ ((faultsDue_pends s).waiting waits)
  rw [State.config, show (buildFaults (each8 claimIfDue s)).loader = s.loader by
    unfold buildFaults each8
    simp]
  exact listed

end Sys2Proof.Machine
end

section
/-! PROOFS. The sixteenth failure abandons a frame (O21). -/

namespace Sys2Proof.Machine

open Sys2Proof

/-! ## The abandoned frame leaves the queue (R105) -/

/-- The failed attempt's frame is out of the queue, and its owner does not act yet. -/
def State.abandoning (s : State) (rest : List Queued) : State :=
  raiseFlag .frameAbandoned (roomNotice (setQueue rest s.failedAttempt))

section
variable {s : State} {q : Queued} {rest : List Queued} (queue : s.bus.queue = q :: rest) (line : q.onLine = true)
  (last : q.retries = 15) (few : ∀ x ∈ rest, x.onLine = false ∧ x.retries < 16)
include queue line last few

theorem abandonDue_head : abandonDue s.failedAttempt = abandonedNotice q.frame (s.abandoning rest) := by
  have others : rest.map Queued.failed = rest := by
    refine (List.map_congr_left fun x inside => ?_).trans (List.map_id rest)
    rw [Queued.failed, (few x inside).1]
    rfl
  have head : q.failed = { q with retries := 16, onLine := false } := by
    rw [Queued.failed, if_pos line, last]
  have frames : s.failedAttempt.bus.queue = { q with retries := 16, onLine := false } :: rest := by
    rw [← head, ← others, State.failedAttempt, queue]
    simp
  have kept : ({ q with retries := 16, onLine := false } :: rest).filter (fun q => q.retries < retryLimit) = rest := by
    rw [List.filter_cons_of_neg (by simp [retryLimit]), List.filter_eq_self]
    exact fun x inside => decide_eq_true (few x inside).2
  rw [abandonDue, frames, List.find?_cons_of_pos (by simp [retryLimit])]
  dsimp only
  rw [kept]
  rfl

end

/-! ## What the owner's answer leaves (R30, R55, R70, R90, R107, R113, R148) -/

/-- From a to v, the owner of an abandoned frame has acted. -/
structure Answered (a v : State) : Prop where
  state : v.bus.state = a.bus.state
  score : v.bus.score = a.bus.score
  attempt : v.bus.attempt = a.bus.attempt
  around : a.sameSurroundings v
  zones : v.zones = a.zones
  points : v.points = a.points
  flags : ∀ f, a.flagSticky f = true → v.flagSticky f = true

/-- What changes membership entries alone. -/
theorem onGroup_groups {op : Fin 8 → State → State} (alone : ∀ d s, ∃ groups, op d s = { s with groups := groups })
    (g : Fin 128) (s : State) : ∃ groups, onGroup g op s = { s with groups := groups } := by
  refine each8_relates (R := fun s t => ∃ groups, t = { s with groups := groups }) (fun s => ⟨_, rfl⟩) ?_
    (fun d u => ?_) s
  · rintro s t u ⟨_, rfl⟩ ⟨_, rfl⟩
    exact ⟨_, rfl⟩
  · split
    · exact alone d u
    · exact ⟨_, rfl⟩

theorem claimAbandoned_groups (e : Fin 8) (s : State) : ∃ groups, claimAbandoned e s = { s with groups := groups } := by
  unfold claimAbandoned
  (repeat' split) <;> exact ⟨_, rfl⟩

theorem releaseAbandoned_groups (e : Fin 8) (s : State) :
    ∃ groups, releaseAbandoned e s = { s with groups := groups } := by
  unfold releaseAbandoned
  (repeat' split) <;> exact ⟨_, rfl⟩

theorem abandonedNotice_answered (f : Frame) (a : State) : Answered a (abandonedNotice f a) := by
  have same (u : State) (bus : u.bus.state = a.bus.state ∧ u.bus.score = a.bus.score ∧ u.bus.attempt = a.bus.attempt)
      (kept : u.beyondZones = a.beyondZones) (zones : u.zones = a.zones)
      (flags : ∀ f, a.flagSticky f = true → u.flagSticky f = true) : Answered a u := by
    obtain ⟨around, -, points⟩ := sameSurroundings_of_kept kept
    exact ⟨bus.1, bus.2.1, bus.2.2, around, zones, points, flags⟩
  have group {u : State} (h : ∃ groups, u = { a with groups := groups }) : Answered a u := by
    obtain ⟨groups, rfl⟩ := h
    exact same _ ⟨rfl, rfl, rfl⟩ rfl rfl fun _ => id
  cases f with
  | mark n =>
    obtain ⟨around, zones, points, bus, -, flags, -⟩ := takeMark_leaves n a
    exact ⟨congrArg Bus.state bus, congrArg Bus.score bus, congrArg Bus.attempt bus, around, zones, points,
      fun f raised => by
        show (takeMark n a).flagSticky f = true
        rwa [State.flagSticky, flags]⟩
  | trip z c =>
    have offered := (offer_news (.trip (z &&& zonesWhere Zone.tripped a) c) a).flags
    unfold abandonedNotice tripAbandoned queueTrip offerOnly
    dsimp only
    split
    · exact same _ ⟨by simp, by simp, by simp⟩ (by simp [State.beyondZones]) (by simp) offered
    · exact same a ⟨rfl, rfl, rfl⟩ rfl rfl fun _ => id
  | claim g c => exact group (onGroup_groups claimAbandoned_groups g a)
  | release g c => exact group (onGroup_groups releaseAbandoned_groups g a)
  | points | fault => exact same _ ⟨rfl, rfl, rfl⟩ rfl rfl fun _ => id
  | hello a' b =>
    unfold abandonedNotice helloAbandoned
    dsimp only
    split <;> exact same _ ⟨rfl, rfl, rfl⟩ rfl rfl fun _ => id
  | clear | hold | faultAck | status => exact same a ⟨rfl, rfl, rfl⟩ rfl rfl fun _ => id

/-! ## The abandoned CLAIM and RELEASE (R30) -/

/-- An effect on each entry of a group, at one entry. -/
theorem onGroup_entry {op : Fin 8 → State → State} {g : Fin 128} {s : State} {e : Fin 8} {x y : Entry}
    (alone : ∀ d s, ∃ groups, op d s = { s with groups := groups })
    (others : ∀ d, d ≠ e → ∀ s, (op d s).entry e = s.entry e) (here : s.entry e = some x)
    (own : ∀ u, u.entry e = some x → u.now = s.now → u.config = s.config → (op e u).entry e = some y) :
    (onGroup g op s).entry e = some (if (s.member e).group = g then y else x) := by
  have step (u : State) (d : Fin 8) : ∃ groups,
      (if (u.entry d).isSome && (u.member d).group == g then op d u else u) = { u with groups := groups } := by
    split
    · exact alone d u
    · exact ⟨_, rfl⟩
  obtain ⟨u, ⟨⟨_, rfl⟩, before⟩, ⟨-, after⟩⟩ := each8_around
    (f := fun d u => if (u.entry d).isSome && (u.member d).group == g then op d u else u)
    (R := fun s t => (∃ groups, t = { s with groups := groups }) ∧ t.entry e = s.entry e)
    (fun s => ⟨⟨_, rfl⟩, rfl⟩) (by
      rintro s t u ⟨⟨_, rfl⟩, h⟩ ⟨⟨_, rfl⟩, k⟩
      exact ⟨⟨_, rfl⟩, k.trans h⟩) e (fun d other u => ⟨step u d, by
      split
      · exact others d other u
      · rfl⟩) s
  have there := before.trans here
  refine after.trans ?_
  rw [there]
  by_cases member : (s.member e).group = g
  · rw [if_pos member, if_pos (by simpa [State.member, State.config] using member)]
    exact own _ there rfl rfl
  · rw [if_neg member, if_neg (by simpa [State.member, State.config] using member)]
    exact there

section
variable {s : State} {e : Fin 8} {x : Entry} (here : s.entry e = some x)
include here

theorem claimAbandoned_entry : (claimAbandoned e s).entry e = some
    (if x.state = .claiming then { x.became .free with hold := some (s.now + s.holdInterval) } else x) := by
  unfold claimAbandoned
  rw [here]
  dsimp only
  by_cases claiming : x.state = .claiming
  · rw [if_pos claiming, if_pos (beq_iff_eq.mpr claiming)]
    exact modEntry_entry_of e s here _
  · rw [if_neg claiming, if_neg (by simpa using claiming)]
    exact here

theorem releaseAbandoned_entry : (releaseAbandoned e s).entry e = some
    (if x.state = .releasingLocal ∧ x.releaseQueued = true then s.deadAfter e x else x) := by
  unfold releaseAbandoned
  rw [here]
  dsimp only
  by_cases releasing : x.state = .releasingLocal ∧ x.releaseQueued = true
  · rw [if_pos releasing, if_pos (by simpa using releasing)]
    exact enterDead_entry here
  · rw [if_neg releasing, if_neg (by simpa using releasing)]
    exact here

end

theorem claimAbandoned_other {d e : Fin 8} (other : d ≠ e) (s : State) : (claimAbandoned d s).entry e = s.entry e := by
  unfold claimAbandoned
  (repeat' split) <;> first | rfl | exact modEntry_entry_other other.symm _ s

theorem releaseAbandoned_other {d e : Fin 8} (other : d ≠ e) (s : State) :
    (releaseAbandoned d s).entry e = s.entry e := by
  unfold releaseAbandoned
  (repeat' split) <;> first | rfl | exact modEntry_entry_other other.symm _ s

/-! ## The event -/

/-- Beside the queue, the score and the flags, the node is as it was before the owner acts. -/
theorem abandoning_kept (s : State) (rest : List Queued) :
    (s.abandoning rest).bus = { s.bus with attempt := none, score := min 255 (s.bus.score + 8), queue := rest } ∧
    (s.abandoning rest).channels = s.channels ∧ (s.abandoning rest).groups = s.groups ∧
    (s.abandoning rest).zones = s.zones ∧ (s.abandoning rest).beyondZones = s.beyondZones ∧
    (s.abandoning rest).flagSticky .frameAbandoned = true ∧
    (s.abandoning rest).pubs.entries.length = s.pubs.entries.length := by
  have flagged := raiseFlag_flagSticky .frameAbandoned (roomNotice (setQueue rest s.failedAttempt))
  unfold State.abandoning
  refine ⟨by simp [State.failedAttempt, setQueue], by simp [State.failedAttempt, setQueue],
    by simp [State.failedAttempt, setQueue], by simp [State.failedAttempt, setQueue],
    by simp [State.failedAttempt, setQueue, State.beyondZones], flagged, ?_⟩
  rw [raiseFlag_pubs_length]
  rfl

theorem State.sameSurroundings.trans {s t u : State} (h : s.sameSurroundings t) (k : t.sameSurroundings u) :
    s.sameSurroundings u := by
  obtain ⟨held, loader, inputs, host, link, power, shutdown, feedback⟩ := h
  obtain ⟨held', loader', inputs', host', link', power', shutdown', feedback'⟩ := k
  exact ⟨held'.trans held, loader'.trans loader, inputs'.trans inputs, host'.trans host, link'.trans link,
    power'.trans power, shutdown'.trans shutdown, feedback'.trans feedback⟩

theorem buildDue_surroundings (v : State) : v.sameSurroundings (buildDue v) ∧ (buildDue v).marks = v.marks ∧
    (buildDue v).points = v.points :=
  sameSurroundings_of_kept (by simp [State.beyondZones])

section
variable {s : State} {q : Queued} {rest : List Queued} (queue : s.bus.queue = q :: rest) (line : q.onLine = true)
  (last : q.retries = 15) (few : ∀ x ∈ rest, x.onLine = false ∧ x.retries < 16) (low : s.bus.score + 8 < 96)
  (attempt : s.bus.attempt ≠ none)
include queue line last few low attempt

theorem exec_abandoned {i : Instr} (command : i = .attemptCollision ∨ i = .attemptRejected)
    (active : s.bus.state = .joining ∨ s.bus.state = .onLine) :
    exec i s = .next (buildDue (abandonedNotice q.frame (s.abandoning rest))) := by
  have answered := abandonedNotice_answered q.frame (s.abandoning rest)
  obtain ⟨bus, -⟩ := abandoning_kept s rest
  have state : (abandonedNotice q.frame (s.abandoning rest)).bus.state = s.bus.state := by rw [answered.state, bus]
  have score : (abandonedNotice q.frame (s.abandoning rest)).bus.score = min 255 (s.bus.score + 8) := by
    rw [answered.score, bus]
  rw [exec_failure command, failAttempt_of attempt, abandonDue_head queue line last few,
    judgeScore_active_low (by rwa [state]) (by omega)]

end

/-- The marks of a node with an abandoned frame are those of the clock and the image. -/
theorem takeMark_marks_of {s u : State} (kept : u.beyondZones = s.beyondZones) (n : Half) : (takeMark n u).marks =
    { number := n, queued := false, timer := some (s.now + 1000 * s.config.mark + 250 * s.loader.station.val) } := by
  have now : u.now = s.now := congrArg Prod.fst kept
  obtain ⟨⟨-, loader, -⟩, -, -⟩ := sameSurroundings_of_kept kept
  rw [takeMark_marks, now, State.config, loader, State.config]

theorem sameChannels_of {s t : State} (channels : t.channels = s.channels) : s.sameChannels t :=
  fun c => ⟨by simp only [State.chan, channels], by simp only [State.sentBy, channels]⟩

/-- What the owner of an abandoned frame that is no MARK leaves. -/
theorem abandonedNotice_unmarked {f : Frame} (code : f.code ≠ 0) (a : State) :
    (abandonedNotice f a).channels = a.channels ∧ (abandonedNotice f a).marks = a.marks := by
  have group {u : State} (h : ∃ groups, u = { a with groups := groups }) : u.channels = a.channels ∧ u.marks = a.marks := by
    obtain ⟨groups, rfl⟩ := h
    exact ⟨rfl, rfl⟩
  cases f with
  | mark n => exact absurd rfl code
  | claim g c => exact group (onGroup_groups claimAbandoned_groups g a)
  | release g c => exact group (onGroup_groups releaseAbandoned_groups g a)
  | trip | clear | hold | faultAck | fault | points | status | hello => simp [abandonedNotice]

/-- An abandoned frame of another kind than CLAIM and RELEASE leaves the entries. -/
theorem abandonedNotice_ungrouped {f : Frame} (code : f.code ≠ 3 ∧ f.code ≠ 5) (a : State) :
    (abandonedNotice f a).groups = a.groups := by
  cases f with
  | claim g c => exact absurd rfl code.2
  | release g c => exact absurd rfl code.1
  | mark | trip | clear | hold | faultAck | fault | points | status | hello => simp [abandonedNotice]

theorem sameLimit_trip_eq (f : Frame) (z : Byte) (c : TripCause) : sameLimit f (.trip z c) = isTrip f := by
  cases f <;> rfl

/-- A TRIP is queued as it is offered, in a queue with room and no TRIP (R63, R70). -/
theorem queueTrip_queued {a : State} {mask : Byte} {c : TripCause} (onLine : a.bus.state = .onLine)
    (room : a.bus.queue.length < 12) (none : ∀ x ∈ a.bus.queue, isTrip x.frame = false) (names : mask ≠ 0) :
    ∃ x ∈ (queueTrip mask c a).bus.queue, x.frame = .trip mask c ∧ x.retries = 0 ∧ x.onLine = false := by
  have taken := offer_of_room (s := a) (f := .trip mask c) (by rw [onLine]; rfl)
    (fun x inside => (sameLimit_trip_eq ..).trans (none x inside)) room
  rw [queueTrip, if_pos (by simpa [State.onLine, onLine] using names), offerOnly, taken]
  exact ⟨_, (insertByCode_perm _ _).mem_iff.mpr List.mem_cons_self, rfl, rfl, rfl⟩

theorem tripAbandoned_none {a : State} {z : Byte} (c : TripCause) (still : z &&& zonesWhere Zone.tripped a = 0) :
    tripAbandoned z c a = a := by
  rw [tripAbandoned, queueTrip, if_neg (fun sends => absurd still (by simpa using (Bool.and_eq_true_iff.mp sends).2))]

theorem isTrip_of_code {f : Frame} (code : 5 ≤ f.code) : isTrip f = false := by
  cases f <;> first | rfl | exact absurd code (by simp [Frame.code])

/-! ## What each owner leaves, when the frames due are built -/

/-- The node at the end of the event in which the frame f is abandoned. -/
def State.abandoned (s : State) (f : Frame) (rest : List Queued) : State :=
  buildDue (abandonedNotice f (s.abandoning rest))

section
variable {s : State} {rest : List Queued}

theorem abandoning_entry (s : State) (rest : List Queued) (e : Fin 8) : (s.abandoning rest).entry e = s.entry e := by
  obtain ⟨-, -, groups, -⟩ := abandoning_kept s rest
  exact entry_of_groups groups e

theorem abandoning_time (s : State) (rest : List Queued) :
    (s.abandoning rest).now = s.now ∧ (s.abandoning rest).config = s.config := by
  obtain ⟨-, -, -, -, kept, -⟩ := abandoning_kept s rest
  obtain ⟨⟨-, loader, -⟩, -⟩ := sameSurroundings_of_kept kept
  exact ⟨congrArg Prod.fst kept, by rw [State.config, loader, State.config]⟩

/-- Whatever was abandoned, the blocks that no frame reaches are as they were. -/
theorem abandoned_surroundings (s : State) (f : Frame) (rest : List Queued) :
    s.sameSurroundings (s.abandoned f rest) ∧ (s.abandoned f rest).zones = s.zones ∧
    (s.abandoned f rest).points = s.points := by
  obtain ⟨-, -, -, zones, kept, -⟩ := abandoning_kept s rest
  have answered := abandonedNotice_answered f (s.abandoning rest)
  obtain ⟨around, -, points⟩ := sameSurroundings_of_kept kept
  obtain ⟨around', -, points'⟩ := buildDue_surroundings (abandonedNotice f (s.abandoning rest))
  refine ⟨(around.trans answered.around).trans around', ?_, points'.trans (answered.points.trans points)⟩
  rw [State.abandoned, (buildDue_frame _).2.2.2.2.2.1, answered.zones, zones]

theorem abandoned_unmarked {f : Frame} (code : f.code ≠ 0) :
    s.sameChannels (s.abandoned f rest) ∧ (s.abandoned f rest).marks = s.marks := by
  obtain ⟨-, channels, -, -, kept, -⟩ := abandoning_kept s rest
  obtain ⟨channels', marks'⟩ := abandonedNotice_unmarked code (s.abandoning rest)
  have due : (buildDue (abandonedNotice f (s.abandoning rest))).channels =
      (abandonedNotice f (s.abandoning rest)).channels := by simp
  obtain ⟨-, marks, -⟩ := sameSurroundings_of_kept kept
  obtain ⟨-, marks'', -⟩ := buildDue_surroundings (abandonedNotice f (s.abandoning rest))
  exact ⟨sameChannels_of (due.trans (channels'.trans channels)), marks''.trans (marks'.trans marks)⟩

theorem abandoned_ungrouped {f : Frame} (code : f.code ≠ 3 ∧ f.code ≠ 5) (e : Fin 8) (x : Entry)
    (here : s.entry e = some x) : (s.abandoned f rest).leaves e x :=
  (buildDue_after _).leaves e x
    ((entry_of_groups (abandonedNotice_ungrouped code _) e).trans ((abandoning_entry s rest e).trans here))

/-- An abandoned MARK is taken locally (R55). -/
theorem abandoned_mark (s : State) (rest : List Queued) (n : Half) :
    s.tookMarkEvent (s.abandoned (.mark n) rest) ∧ (s.abandoned (.mark n) rest).marks = {
      number := n, queued := false, timer := some (s.now + 1000 * s.config.mark + 250 * s.loader.station.val) } := by
  obtain ⟨-, channels, -, -, kept, -⟩ := abandoning_kept s rest
  have before : ∀ c, Alike c s (s.abandoning rest) := alike_of_channels kept channels
  have after : ∀ c, Alike c (takeMark n (s.abandoning rest)) (buildDue (takeMark n (s.abandoning rest))) :=
    fun c => (buildDue_alike c _).toAlike
  obtain ⟨-, marks, -⟩ := buildDue_surroundings (takeMark n (s.abandoning rest))
  exact ⟨fun c => (before c).symm.tookMarkAt (after c) (takeMark_took n _ c), marks.trans (takeMark_marks_of kept n)⟩

/-- An abandoned CLAIM leaves its entry FREE with the retry hold-off (R30). -/
theorem abandoned_claim {g : Fin 128} {c : Fin 8} {e : Fin 8} {x : Entry} (here : s.entry e = some x) :
    (s.abandoned (.claim g c) rest).leaves e (if (s.member e).group = g ∧ x.state = .claiming then
      { x.became .free with hold := some (s.now + s.holdInterval) } else x) := by
  obtain ⟨now, config⟩ := abandoning_time s rest
  have left := onGroup_entry (g := g) claimAbandoned_groups (fun d other u => claimAbandoned_other other u)
    ((abandoning_entry s rest e).trans here) (y := if x.state = .claiming then
      { x.became .free with hold := some (s.now + s.holdInterval) } else x) fun u there now' config' => by
      rw [claimAbandoned_entry there, now', now, holdInterval_of_config (config'.trans config)]
  rw [State.member, config, ← ite_and] at left
  exact (buildDue_after _).leaves e _ left

/-- An abandoned RELEASE leaves its entry DEAD (R30). -/
theorem abandoned_release {g : Fin 128} {c : Fin 8} {e : Fin 8} {x : Entry} (here : s.entry e = some x) :
    (s.abandoned (.release g c) rest).leaves e
      (if (s.member e).group = g ∧ x.state = .releasingLocal ∧ x.releaseQueued = true then s.deadAfter e x else x) := by
  obtain ⟨now, config⟩ := abandoning_time s rest
  have left := onGroup_entry (g := g) releaseAbandoned_groups (fun d other u => releaseAbandoned_other other u)
    ((abandoning_entry s rest e).trans here) (y := if x.state = .releasingLocal ∧ x.releaseQueued = true then
      s.deadAfter e x else x) fun u there now' config' => by
      rw [releaseAbandoned_entry there, deadAfter_of_config (now'.trans now) (config'.trans config)]
  rw [State.member, config, ← ite_and] at left
  exact (buildDue_after _).leaves e _ left

/-- An abandoned TRIP is queued anew for the zones still tripped (R70). -/
theorem abandoned_trip {z : Byte} {c : TripCause} (onLine : s.bus.state = .onLine) (room : rest.length < 12)
    (none : ∀ x ∈ rest, isTrip x.frame = false) :
    (z &&& zonesWhere Zone.tripped s ≠ 0 → ∃ x ∈ (s.abandoned (.trip z c) rest).bus.queue,
      x.frame = .trip (z &&& zonesWhere Zone.tripped s) c ∧ x.retries = 0 ∧ x.onLine = false) ∧
    (z &&& zonesWhere Zone.tripped s = 0 → ∀ x ∈ (s.abandoned (.trip z c) rest).bus.queue, isTrip x.frame = false) := by
  obtain ⟨bus, -, -, zones, -⟩ := abandoning_kept s rest
  have after := buildDue_after (tripAbandoned z c (s.abandoning rest))
  rw [show s.abandoned (.trip z c) rest = buildDue (tripAbandoned z c (s.abandoning rest)) from rfl]
  have state : (s.abandoning rest).bus.state = .onLine := by rw [bus]; exact onLine
  have queue : (s.abandoning rest).bus.queue = rest := by rw [bus]
  have tripped : zonesWhere Zone.tripped (s.abandoning rest) = zonesWhere Zone.tripped s := by
    simp only [zonesWhere, State.zone, zones]
  generalize s.abandoning rest = a at *
  rw [← tripped]
  rw [← queue] at room none
  refine ⟨fun still => ?_, fun still => ?_⟩
  · obtain ⟨x, inside, own, retries, idle⟩ := queueTrip_queued (c := c) state room none still
    exact ⟨x, after.due.stays x inside (by simp [own, Frame.code]), own, retries, idle⟩
  · rw [tripAbandoned_none c still] at after ⊢
    exact after.none_of (fun _ => isTrip_of_code) none

/-- What an abandoned POINTS frame carried is pending again, or in a new frame (R90). -/
theorem abandoned_points {pairs : List PointPair} {k : Fin 16} {cfg : PublicationConfig} {x : Publication}
    (listed : s.config.publications[k.val]? = some cfg) (here : s.pubs.entries[k.val]? = some x)
    (named : ∃ p ∈ pairs, p.point = cfg.point) : (s.abandoned (.points pairs) rest).willSend k cfg := by
  obtain ⟨-, -, -, -, -, -, length⟩ := abandoning_kept s rest
  obtain ⟨-, config⟩ := abandoning_time s rest
  obtain ⟨p, carried, point⟩ := named
  have listed' : (s.abandoning rest).config.publications[k.val]? = some cfg := by rwa [config]
  refine buildDue_sends (s := pendPairs pairs (s.abandoning rest)) listed' ?_
  refine pendWhere_waiting (p := fun c => pairs.any fun p => p.point == c.point) (cfg := cfg)
    (List.any_eq_true.mpr ⟨p, carried, by simp [point]⟩) listed' ?_
  rw [length]
  exact (List.getElem?_eq_some_iff.mp here).1

/-- The channel of an abandoned FAULT frame waits for another, or has it (R148). -/
theorem abandoned_fault {c : Fin 8} {live sticky : KindSet} {m : Half} :
    (s.abandoned (.fault c live sticky m) rest).faultOnWay c := by
  refine State.faultOnWay.buildDue (.inl ?_)
  show (State.faultRec (setFaultWaiting true c (s.abandoning rest)) c).waiting = true
  rw [State.faultRec, setFaultWaiting, setRecord, Eight.get_set, if_pos rfl]

end

/-- The queue behind the head, where the queue is sound (R100, R101). -/
theorem sound_rest {s : State} {q : Queued} {rest : List Queued} (queue : s.bus.queue = q :: rest)
    (sound : s.queueSound = true) : rest.length < 12 ∧ ∀ x ∈ rest, sameLimit q.frame x.frame = false := by
  simp only [State.queueSound, Bool.and_eq_true, decide_eq_true_eq, queueCapacity, queue, limitsHold_iff,
    List.length_cons, List.pairwise_cons] at sound
  exact ⟨sound.1, sound.2.1⟩

/-- Settles O21: the frame is out of the queue with its flag, its owner acts, and the frames due follow. -/
theorem frameAbandoned : Obligations.FrameAbandoned := by
  intro s i q rest command running attempt queue line last few low
  obtain ⟨bus, -, -, -, -, flagged, -⟩ := abandoning_kept s rest
  have runs := exec_abandoned queue line last few low attempt command
  have answered := abandonedNotice_answered q.frame (s.abandoning rest)
  have capped : min 255 (s.bus.score + 8) = s.bus.score + 8 := Nat.min_eq_right (by omega)
  refine ⟨fun onLine => ?_, fun joining phase code => ?_⟩
  · have due := (Traffic.buildDue (abandonedNotice q.frame (s.abandoning rest))).line
    have news := (buildDue_news (abandonedNotice q.frame (s.abandoning rest))).flags
    obtain ⟨around, zones, points⟩ := abandoned_surroundings s q.frame rest
    refine ⟨s.abandoned q.frame rest, runs (.inr onLine), news _ (answered.flags _ flagged), ?_, ?_, ?_, around, zones,
      points, ?_⟩
    · rw [State.abandoned, due, answered.state, bus]
      exact onLine
    · rw [State.abandoned, due, answered.score, bus, capped]
    · rw [State.abandoned, due, answered.attempt, bus]
    · have quiet (code : q.frame.code ≠ 0) := abandoned_unmarked (s := s) (rest := rest) code
      have beside (code : q.frame.code ≠ 3 ∧ q.frame.code ≠ 5) := abandoned_ungrouped (s := s) (rest := rest) code
      cases frame : q.frame <;> rw [frame] at quiet beside
      case mark n => exact abandoned_mark s rest n
      case claim g c =>
        obtain ⟨channels, marks⟩ := quiet nofun
        exact ⟨channels, marks, fun e x here => abandoned_claim here⟩
      case release g c =>
        obtain ⟨channels, marks⟩ := quiet nofun
        exact ⟨channels, marks, fun e x here => abandoned_release here⟩
      all_goals obtain ⟨channels, marks⟩ := quiet nofun
      all_goals refine ⟨channels, marks, beside ⟨nofun, nofun⟩, ?_⟩
      case trip z c =>
        intro whole
        obtain ⟨room, apart⟩ := sound_rest queue whole
        refine abandoned_trip onLine room fun x inside => ?_
        rw [← sameLimit_trip_eq x.frame z c, ← frame, sameLimit_comm]
        exact apart x inside
      case points pairs => exact fun k cfg listed x here named => abandoned_points listed here named
      case fault c live sticky m => exact abandoned_fault
      all_goals trivial
  · have away : (abandonedNotice q.frame (s.abandoning rest)).onLine = false := by
      rw [State.onLine, answered.state, bus, joining]
      rfl
    replace runs := runs (.inl joining)
    rw [buildDue_of_not_onLine away] at runs
    refine ⟨_, runs, answered.flags _ flagged, ?_⟩
    cases frame : q.frame with
    | hello token signature =>
      obtain ⟨now, config⟩ := abandoning_time s rest
      rw [abandonedNotice, helloAbandoned, bus, if_pos (by rw [phase]; rfl), setBus_bus, now,
        holdInterval_of_config config, capped]
    | mark | trip | clear | release | hold | claim | faultAck | fault | points | status =>
      simp [frame, Frame.code] at code

end Sys2Proof.Machine
end

section
/-! PROOFS. Frames that are read and not acted on (O23). -/

namespace Sys2Proof.Machine

open Sys2Proof

/-! ## What the node reads (R93, R96) -/

/-- The node after the frame's score and mark. -/
def State.afterFrame (s : State) (rejecting : Bool) (score : Nat) : State :=
  { s with bus := { s.bus with rejecting := rejecting, score := score } }

theorem listens_of_active {s : State} (gap : s.bus.gapSeen = true)
    (active : s.bus.state = .joining ∨ s.bus.state = .onLine ∨ s.bus.state = .muted ∨ s.bus.state = .barred) :
    s.listens = true := by
  rw [State.listens, gap]
  rcases active with state | state | state | state <;> rw [state] <;> rfl

theorem lowerScore_afterFrame (s : State) : lowerScore (setRejecting false s) = s.afterFrame false (s.bus.score - 1) :=
  rfl

theorem raiseScore_afterFrame (s : State) :
    raiseScore 1 (setRejecting s.learns s) = s.afterFrame s.learns (min 255 (s.bus.score + 1)) := rfl

section
variable {s : State} (gap : s.bus.gapSeen = true) (idle : s.bus.attempt = none)
  (active : s.bus.state = .joining ∨ s.bus.state = .onLine ∨ s.bus.state = .muted ∨ s.bus.state = .barred)
include gap idle active

theorem hearBad_of_active : hearBad s = buildDue (judgeScore (s.afterFrame s.learns (min 255 (s.bus.score + 1)))) := by
  have reads : s.reads = true := by rw [State.reads, listens_of_active gap active, idle]; rfl
  rw [hearBad, reads, Bool.not_true, if_neg Bool.false_ne_true, raiseScore_afterFrame]

theorem hearRejected_of_active : hearRejected s = s.afterFrame false s.bus.score := by
  have reads : s.reads = true := by rw [State.reads, listens_of_active gap active, idle]; rfl
  rw [hearRejected, reads]
  rfl

/-- A frame that is not one of the eleven kinds, or from no valid station (R98). -/
theorem hear_malformed {kind : Nat} {source : Station} {payload : List Byte}
    (bad : Frame.parse kind payload = none ∨ source = 0 ∨ source = 63) : hear kind source payload s =
      buildDue (raiseFlag .malformedFrame (judgeScore (s.afterFrame false (s.bus.score - 1)))) := by
  have takes : s.takesFrom source = true := by rw [State.takesFrom, listens_of_active gap active, idle]; rfl
  have none : (if source = 0 ∨ source = 63 then Option.none else Frame.parse kind payload) = Option.none := by
    rcases bad with bad | bad
    · rw [bad, ite_self]
    · rw [if_pos bad]
  rw [hear, takes, none, Bool.not_true, if_neg Bool.false_ne_true, lowerScore_afterFrame]

/-- A frame from the own station number (R119). -/
theorem hear_own {kind : Nat} {f : Frame} {payload : List Byte} (read : Frame.parse kind payload = some f)
    (valid : 1 ≤ s.loader.station.val ∧ s.loader.station.val ≤ 62) : hear kind s.loader.station payload s =
      buildDue (duplicateFound (judgeScore (s.afterFrame false (s.bus.score - 1)))) := by
  have takes : s.takesFrom s.loader.station = true := by
    rw [State.takesFrom, listens_of_active gap active, idle]; rfl
  have station : ¬ (s.loader.station = 0 ∨ s.loader.station = 63) := by
    rintro (zero | none)
    · rw [zero] at valid
      exact absurd valid.1 (by decide)
    · rw [none] at valid
      exact absurd valid.2 (by decide)
  rw [hear, takes, if_neg station, read, Bool.not_true, if_neg Bool.false_ne_true, lowerScore_afterFrame]
  dsimp only
  rw [if_pos rfl]

end

theorem parse_undefined {kind : Nat} (undefined : 11 ≤ kind) (payload : List Byte) : Frame.parse kind payload = none := by
  obtain ⟨ranges, readBack, -⟩ := framesReadBack
  refine Option.eq_none_iff_forall_ne_some.mpr fun f read => ?_
  obtain ⟨code, -, inRange⟩ := readBack kind payload f read
  have small := (ranges f inRange).2.2
  omega

theorem exec_heard (g : Frame) (source : Station) (payload : List Byte) (s : State) :
    exec (g.taken (.heard source payload)) s = .next (hear g.code source payload s) := by
  cases g <;> rfl

/-! ## The comparison that follows (R108, R116 to R118) -/

section
variable {s : State}

theorem judgeScore_barred (barred : s.bus.state = .barred) : judgeScore s = s := by
  unfold judgeScore
  rw [barred]

theorem judgeScore_muted_stays (muted : s.bus.state = .muted) (high : 32 < s.bus.score) (low : s.bus.score < 200) :
    judgeScore s = s := by
  unfold judgeScore
  rw [muted]
  dsimp only
  rw [if_neg (by omega), if_neg (by omega)]

theorem judgeScore_muted_joins (muted : s.bus.state = .muted) (low : s.bus.score ≤ 32) :
    judgeScore s = enterJoining s := by
  unfold judgeScore
  rw [muted]
  exact if_pos low

theorem judgeScore_muted_offLine (muted : s.bus.state = .muted) (high : 200 ≤ s.bus.score) :
    judgeScore s = enterSilent .offLine s := by
  unfold judgeScore
  rw [muted]
  dsimp only
  rw [if_neg (by omega), if_pos high]

end

/-! ## Flags that stay sticky -/

theorem setFlagLive_raised (f g : NodeFlag) (b : Bool) {s : State} (raised : s.flagSticky g = true) :
    (setFlagLive f b s).flagSticky g = true := by
  unfold setFlagLive
  split
  · exact raised
  · split
    · exact (raiseFlag_news f _).flags g raised
    · exact raised

theorem flushedNotices_flags (l : List Queued) (s : State) : (flushedNotices l s).faults.flags = s.faults.flags := by
  induction l generalizing s with
  | nil => rfl
  | cons q l ih =>
    refine (ih _).trans ?_
    cases q.frame with
    | mark n => exact (takeMark_leaves n s).2.2.2.2.2.1
    | trip | clear | release | hold | claim | faultAck | fault | points | status | hello => rfl

theorem flushQueue_flags (s : State) : (flushQueue s).faults.flags = s.faults.flags := by
  unfold flushQueue
  dsimp only
  split
  · rfl
  · exact flushedNotices_flags _ _

theorem enterSilent_raised {b : BusState} {s : State} {f : NodeFlag} (raised : s.flagSticky f = true) :
    (enterSilent b s).flagSticky f = true := by
  unfold enterSilent
  refine setFlagLive_raised _ _ _ ?_
  split
  · unfold leaveTraffic
    obtain ⟨groups, sent, left⟩ := each8_groupLeaves_frame (flushQueue (setFaultBlocked false (setBus { s.bus with
      state := b, phase := none, joinTimer := none, gapSeen := false,
      offLineTimer := if b == .offLine then some (s.now + Config.offLineTime) else none } s)))
    rw [left]
    show (flushQueue _).faults.flags.sticky.getLsbD f.bit = true
    rw [flushQueue_flags]
    exact raised
  · exact raised

/-- From a state that does not take part, the entry to MUTED, OFF-LINE or BARRED leaves the queue and the entries. -/
theorem enterSilent_outside {b : BusState} {s : State} (deaf : s.learns = false) :
    (enterSilent b s).channels = s.channels ∧ (enterSilent b s).groups = s.groups ∧
    (enterSilent b s).beyondZones = s.beyondZones := by
  rw [enterSilent, deaf]
  simp [State.beyondZones, setFlagLive_host]

/-! ## The frames of the obligation -/

theorem exec_bad {f : FrameRead} (bad : FrameRead.isBad f = true) (s : State) :
    exec (.badFrameReceived f) s = .next (hearBad s) := by
  show Host.Outcome.next (readFrame f s) = _
  rw [readFrame, if_pos bad]

theorem raiseFlag_sameButTraffic (f : NodeFlag) (s : State) : s.sameButTraffic (raiseFlag f s) :=
  State.sameButTraffic_of (by simp [State.beyondTraffic]) (by simp) (by simp [State.quiet])
    fun c => by simp [State.faultRec]

/-- A node whose score lets it stay is where it was after a good frame. -/
theorem judgeScore_stands {s : State} (stands : ((s.bus.state = .joining ∨ s.bus.state = .onLine) ∧ s.bus.score ≤ 96) ∨
      s.bus.state = .barred ∨ (s.bus.state = .muted ∧ 34 ≤ s.bus.score ∧ s.bus.score ≤ 200)) :
    judgeScore (s.afterFrame false (s.bus.score - 1)) = s.afterFrame false (s.bus.score - 1) := by
  have score : (s.afterFrame false (s.bus.score - 1)).bus.score = s.bus.score - 1 := rfl
  rcases stands with ⟨part, low⟩ | barred | ⟨muted, high, low⟩
  · exact judgeScore_active_low (s := s.afterFrame false (s.bus.score - 1)) part (by omega)
  · exact judgeScore_barred (s := s.afterFrame false (s.bus.score - 1)) barred
  · exact judgeScore_muted_stays (s := s.afterFrame false (s.bus.score - 1)) muted (by omega) (by omega)

/-- A node off the bus has no frame due after a flag. -/
theorem buildDue_raiseFlag {f : NodeFlag} {s : State} (away : s.bus.state ≠ .onLine) :
    buildDue (raiseFlag f s) = raiseFlag f s :=
  buildDue_of_not_onLine (by simp [State.onLine, away])

theorem duplicateFound_active {s : State} (state : s.bus.state = .joining ∨ s.bus.state = .onLine ∨ s.bus.state = .muted) :
    duplicateFound s = enterSilent .barred (raiseFlag .duplicateStation s) := by
  unfold duplicateFound
  rcases state with state | state | state <;> rw [state]

theorem duplicateFound_barred {s : State} (state : s.bus.state = .barred) :
    duplicateFound s = raiseFlag .duplicateStation s := by
  unfold duplicateFound
  rw [state]

/-- What barring leaves (R119). -/
theorem duplicateFound_bars {s : State} (state : s.bus.state = .joining ∨ s.bus.state = .onLine ∨ s.bus.state = .muted) :
    buildDue (duplicateFound s) = duplicateFound s ∧
    (duplicateFound s).flagSticky .duplicateStation = true ∧ (duplicateFound s).flagLive .busDegraded = true ∧
    (duplicateFound s).bus = { s.bus with
      state := .barred, phase := none, joinTimer := none, gapSeen := false, offLineTimer := none,
      queue := if s.learns then [] else s.bus.queue } := by
  have learns : (raiseFlag .duplicateStation s).learns = s.learns := by simp [State.learns]
  rw [duplicateFound_active state]
  refine ⟨buildDue_enterSilent (by decide) _, enterSilent_raised (raiseFlag_flagSticky ..), enterSilent_degraded _ _, ?_⟩
  rw [enterSilent_bus, learns]
  simp

section
variable {s : State} (gap : s.bus.gapSeen = true) (idle : s.bus.attempt = none)
include gap idle

/-- A malformed frame, or one of a kind that none has. -/
theorem exec_malformed {i : Instr} {g : Frame} {source : Station} {payload : List Byte} {kind : BitVec 4}
    (form : (i = .undefinedKindTaken kind source payload ∧ 11 ≤ kind.toNat) ∨
      (i = g.taken (.heard source payload) ∧ (Frame.parse g.code payload = none ∨ source = 0 ∨ source = 63)))
    (active : s.bus.state = .joining ∨ s.bus.state = .onLine ∨ s.bus.state = .muted ∨ s.bus.state = .barred) :
    exec i s = .next (buildDue (raiseFlag .malformedFrame (judgeScore (s.afterFrame false (s.bus.score - 1))))) := by
  rcases form with ⟨rfl, undefined⟩ | ⟨rfl, bad⟩
  · rw [← hear_malformed gap idle active (source := source) (.inl (parse_undefined undefined payload))]
    rfl
  · rw [exec_heard, hear_malformed gap idle active bad]

/-- A frame from the own station number. -/
theorem exec_duplicate {g : Frame} (inRange : g.inRange = true) (one : 1 ≤ s.loader.station.val)
    (top : s.loader.station.val ≤ 62)
    (active : s.bus.state = .joining ∨ s.bus.state = .onLine ∨ s.bus.state = .muted ∨ s.bus.state = .barred) :
    exec (g.taken (.heard s.loader.station g.payload)) s =
      .next (buildDue (duplicateFound (judgeScore (s.afterFrame false (s.bus.score - 1))))) := by
  rw [exec_heard, hear_own gap idle active (parse_of_payload inRange) ⟨one, top⟩]

end

/-- A MUTED node that a good frame brings to 32 is JOINING, with a HELLO queued. -/
theorem judgeScore_joining {s : State} (muted : s.bus.state = .muted) (at33 : s.bus.score = 33) :
    judgeScore (s.afterFrame false (s.bus.score - 1)) = enterJoining (s.afterFrame false (s.bus.score - 1)) ∧
    (enterJoining (s.afterFrame false (s.bus.score - 1))).bus.state = .joining ∧
    (enterJoining (s.afterFrame false (s.bus.score - 1))).bus.score = 32 ∧
    (enterJoining (s.afterFrame false (s.bus.score - 1))).bus.phase = some .helloQueued := by
  have line := (enterJoining_traffic (s.afterFrame false (s.bus.score - 1))).line
  have score : s.bus.score - 1 = 32 := by omega
  refine ⟨judgeScore_muted_joins (s := s.afterFrame false (s.bus.score - 1)) muted (Nat.le_of_eq score), ?_, ?_, ?_⟩
  · rw [line]; rfl
  · rw [line]; exact score
  · rw [line]; rfl

/-! ## Bad frames (R96, R108, R116) -/

section
variable {s : State} {f : FrameRead} (bad : FrameRead.isBad f = true) (gap : s.bus.gapSeen = true)
  (idle : s.bus.attempt = none)
include bad gap idle

theorem badFrame_judged (active : s.bus.state = .joining ∨ s.bus.state = .onLine ∨ s.bus.state = .muted ∨
    s.bus.state = .barred) : exec (.badFrameReceived f) s =
      .next (buildDue (judgeScore (s.afterFrame s.learns (min 255 (s.bus.score + 1))))) :=
  (exec_bad bad s).trans (congrArg _ (hearBad_of_active gap idle active))

theorem badFrame_counted (part : s.bus.state = .joining ∨ s.bus.state = .onLine) (low : s.bus.score < 95) :
    ∃ t, exec (.badFrameReceived f) s = .next t ∧ (s.afterFrame true (s.bus.score + 1)).sameButTraffic t := by
  have command := badFrame_judged bad gap idle (by rcases part with state | state <;> simp [state])
  rw [learns_of_active part, Nat.min_eq_right (by omega), judgeScore_active_low
    (s := s.afterFrame true (s.bus.score + 1)) part (show s.bus.score + 1 < 96 by omega)] at command
  exact ⟨_, command, buildDue_sameButTraffic _⟩

theorem badFrame_mutes (part : s.bus.state = .joining ∨ s.bus.state = .onLine) (limit : s.bus.score = 95) :
    ∃ t, exec (.badFrameReceived f) s = .next t ∧ t.bus.state = .muted ∧ t.bus.score = 96 ∧ t.bus.queue = [] ∧
      t.flagLive .busDegraded = true := by
  have learns : s.learns = true := learns_of_active part
  have command := badFrame_judged bad gap idle (by rcases part with state | state <;> simp [state])
  rw [learns, Nat.min_eq_right (by omega), judgeScore_active_muted (s := s.afterFrame true (s.bus.score + 1)) part
    (show 96 ≤ s.bus.score + 1 by omega) (show s.bus.score + 1 < 200 by omega), buildDue_enterSilent (by decide)]
    at command
  have bus := enterSilent_bus .muted (s.afterFrame true (s.bus.score + 1))
  refine ⟨_, command, by rw [bus], ?_, ?_, enterSilent_degraded _ _⟩
  · rw [bus]
    exact congrArg (· + 1) limit
  · rw [bus, show (s.afterFrame true (s.bus.score + 1)).learns = true from learns]
    rfl

theorem badFrame_muted (muted : s.bus.state = .muted) (high : 32 ≤ s.bus.score) (low : s.bus.score < 199) :
    exec (.badFrameReceived f) s = .next (s.afterFrame false (s.bus.score + 1)) := by
  have deaf : s.learns = false := by simp [State.learns, muted]
  have command := badFrame_judged bad gap idle (by simp [muted])
  rwa [deaf, Nat.min_eq_right (by omega), judgeScore_muted_stays (s := s.afterFrame false (s.bus.score + 1)) muted
    (show 32 < s.bus.score + 1 by omega) (show s.bus.score + 1 < 200 by omega),
    buildDue_of_not_onLine (by simp [State.onLine, State.afterFrame, muted])] at command

theorem badFrame_offLine (muted : s.bus.state = .muted) (limit : s.bus.score = 199) :
    ∃ t, exec (.badFrameReceived f) s = .next t ∧
      t.bus = { s.bus with state := .offLine, phase := none, joinTimer := none, gapSeen := false,
                           offLineTimer := some (s.now + 200000), score := 200, rejecting := false } ∧
      t.flagLive .busDegraded = true ∧ s.sameSurroundings t ∧ s.sameChannels t ∧ t.groups = s.groups := by
  have deaf : s.learns = false := by simp [State.learns, muted]
  have command := badFrame_judged bad gap idle (by simp [muted])
  rw [deaf, Nat.min_eq_right (by omega), judgeScore_muted_offLine (s := s.afterFrame false (s.bus.score + 1)) muted
    (show 200 ≤ s.bus.score + 1 by omega), buildDue_enterSilent (by decide)] at command
  obtain ⟨channels, groups, kept⟩ := enterSilent_outside (b := .offLine)
    (show (s.afterFrame false (s.bus.score + 1)).learns = false from deaf)
  have bus := enterSilent_bus .offLine (s.afterFrame false (s.bus.score + 1))
  refine ⟨_, command, ?_, enterSilent_degraded _ _, (sameSurroundings_of_kept kept).1, sameChannels_of channels, groups⟩
  rw [bus, show (s.afterFrame false (s.bus.score + 1)).learns = false from deaf, State.afterFrame]
  simp [limit, Config.offLineTime]

theorem badFrame_barred (barred : s.bus.state = .barred) :
    exec (.badFrameReceived f) s = .next (s.afterFrame false (min 255 (s.bus.score + 1))) := by
  have deaf : s.learns = false := by simp [State.learns, barred]
  have command := badFrame_judged bad gap idle (by simp [barred])
  rwa [deaf, judgeScore_barred (s := s.afterFrame false (min 255 (s.bus.score + 1))) barred,
    buildDue_of_not_onLine (by simp [State.onLine, State.afterFrame, barred])] at command

end

/-! ## Frames of the own station number (R119) -/

section
variable {s : State} {g : Frame} (gap : s.bus.gapSeen = true) (idle : s.bus.attempt = none) (inRange : g.inRange = true)
  (one : 1 ≤ s.loader.station.val) (top : s.loader.station.val ≤ 62)
include gap idle inRange one top

theorem duplicate_bars (part : s.bus.state = .joining ∨ s.bus.state = .onLine) (low : s.bus.score ≤ 96) :
    ∃ t, exec (g.taken (.heard s.loader.station g.payload)) s = .next t ∧ t.bus.state = .barred ∧ t.bus.queue = [] ∧
      t.bus.score = s.bus.score - 1 ∧ t.flagSticky .duplicateStation = true ∧ t.flagLive .busDegraded = true := by
  have command := exec_duplicate gap idle inRange one top (by rcases part with state | state <;> simp [state])
  have learns : s.learns = true := learns_of_active part
  rw [judgeScore_stands (.inl ⟨part, low⟩)] at command
  obtain ⟨quiet, flagged, degraded, bus⟩ := duplicateFound_bars (s := s.afterFrame false (s.bus.score - 1))
    (by rcases part with state | state <;> simp [State.afterFrame, state])
  rw [quiet] at command
  refine ⟨_, command, by rw [bus], ?_, by rw [bus]; rfl, flagged, degraded⟩
  rw [bus, show (s.afterFrame false (s.bus.score - 1)).learns = true from learns]
  rfl

theorem duplicate_muted (muted : s.bus.state = .muted) (high : 34 ≤ s.bus.score) (low : s.bus.score ≤ 200) :
    ∃ t, exec (g.taken (.heard s.loader.station g.payload)) s = .next t ∧ t.flagSticky .duplicateStation = true ∧
      t.bus = { s.bus with state := .barred, phase := none, joinTimer := none, offLineTimer := none,
                           gapSeen := false, score := s.bus.score - 1, rejecting := false } ∧
      t.flagLive .busDegraded = true := by
  have command := exec_duplicate gap idle inRange one top (by simp [muted])
  rw [judgeScore_stands (.inr (.inr ⟨muted, high, low⟩))] at command
  obtain ⟨quiet, flagged, degraded, bus⟩ := duplicateFound_bars (s := s.afterFrame false (s.bus.score - 1))
    (.inr (.inr muted))
  rw [quiet] at command
  refine ⟨_, command, flagged, ?_, degraded⟩
  rw [bus, show (s.afterFrame false (s.bus.score - 1)).learns = false by simp [State.learns, State.afterFrame, muted]]
  rfl

/-- The score that the frame lowers brings JOINING first, and JOINING is left at once for BARRED. -/
theorem duplicate_joining (muted : s.bus.state = .muted) (small : s.bus.score ≤ 33) :
    ∃ t, exec (g.taken (.heard s.loader.station g.payload)) s = .next t ∧ t.flagSticky .duplicateStation = true ∧
      t.bus.state = .barred ∧ t.bus.phase = none ∧ t.bus.queue = [] ∧ t.bus.score = s.bus.score - 1 ∧
      t.flagLive .busDegraded = true := by
  have command := exec_duplicate gap idle inRange one top (by simp [muted])
  have line := (enterJoining_traffic (s.afterFrame false (s.bus.score - 1))).line
  have state : (enterJoining (s.afterFrame false (s.bus.score - 1))).bus.state = .joining := by rw [line]; rfl
  have lowered : (enterJoining (s.afterFrame false (s.bus.score - 1))).bus.score = s.bus.score - 1 := by
    rw [line]
    rfl
  rw [judgeScore_muted_joins (s := s.afterFrame false (s.bus.score - 1)) muted
    (show s.bus.score - 1 ≤ 32 by omega)] at command
  generalize enterJoining (s.afterFrame false (s.bus.score - 1)) = j at *
  obtain ⟨quiet, flagged, degraded, bus⟩ := duplicateFound_bars (.inl state)
  rw [quiet] at command
  refine ⟨_, command, flagged, by rw [bus], by rw [bus], ?_, ?_, degraded⟩
  · rw [bus, learns_of_active (.inl state)]
    rfl
  · rw [bus]
    exact lowered

theorem duplicate_barred (barred : s.bus.state = .barred) :
    ∃ t, exec (g.taken (.heard s.loader.station g.payload)) s = .next t ∧ t.flagSticky .duplicateStation = true ∧
      (s.afterFrame false (s.bus.score - 1)).sameButTraffic t ∧ t.bus.queue = s.bus.queue ∧ t.groups = s.groups := by
  have command := exec_duplicate gap idle inRange one top (by simp [barred])
  rw [judgeScore_stands (.inr (.inl barred)), duplicateFound_barred (s := s.afterFrame false (s.bus.score - 1)) barred,
    buildDue_raiseFlag (by simp [State.afterFrame, barred])] at command
  exact ⟨_, command, raiseFlag_flagSticky .., raiseFlag_sameButTraffic _ _, by simp [State.afterFrame],
    by simp [State.afterFrame]⟩

end

/-- Settles O23: the score first, then the frame is judged. -/
theorem framesNotActedOn : Obligations.FramesNotActedOn := by
  intro s f g source payload kind running gap idle
  refine ⟨fun bad => ⟨badFrame_counted bad gap idle, badFrame_mutes bad gap idle, badFrame_muted bad gap idle,
      badFrame_offLine bad gap idle, badFrame_barred bad gap idle⟩,
    fun reads => ?_, fun i form => ⟨fun stands => ?_, fun muted at33 => ?_⟩,
    fun part low inRange one top => duplicate_bars gap idle inRange one top part low,
    fun silent low inRange one top => ?_⟩
  · show Host.Outcome.next (hearRejected s) = _
    rw [hearRejected_of_active gap idle (by rcases reads with (state | state) | state | state <;> simp [state])]
    rfl
  · have active : s.bus.state = .joining ∨ s.bus.state = .onLine ∨ s.bus.state = .muted ∨ s.bus.state = .barred := by
      rcases stands with ⟨state | state, -⟩ | state | ⟨state, -⟩ <;> simp [state]
    have command := exec_malformed gap idle form active
    rw [judgeScore_stands stands] at command
    refine ⟨_, command, (raiseFlag_sameButTraffic _ _).trans (buildDue_sameButTraffic _),
      (buildDue_news _).flags _ (raiseFlag_flagSticky ..), fun silent => ?_⟩
    rw [buildDue_raiseFlag (s := s.afterFrame false (s.bus.score - 1)) (by
      rcases silent with state | state <;> simp [State.afterFrame, state])]
    simp [State.afterFrame]
  · have command := exec_malformed gap idle form (by simp [muted])
    obtain ⟨joins, state, low, phase⟩ := judgeScore_joining muted at33
    rw [joins, buildDue_raiseFlag (by rw [state]; decide)] at command
    exact ⟨_, command, by simpa using state, by simpa using low, by simpa using phase, raiseFlag_flagSticky ..⟩
  · rcases silent with muted | barred
    · have apart : s.bus.state ≠ .barred := by simp [muted]
      by_cases high : 34 ≤ s.bus.score
      · obtain ⟨t, command, flagged, bars⟩ := duplicate_muted gap idle inRange one top muted high (low muted)
        exact ⟨t, command, flagged, fun _ _ _ => bars, fun _ at33 => by omega, fun barred => absurd barred apart⟩
      · obtain ⟨t, command, flagged, state, phase, queue, score, degraded⟩ :=
          duplicate_joining gap idle inRange one top muted (by omega)
        exact ⟨t, command, flagged, fun _ high' => absurd high' high,
          fun _ at33 => ⟨state, phase, queue, by rw [score, at33], degraded⟩, fun barred => absurd barred apart⟩
    · have apart : s.bus.state ≠ .muted := by simp [barred]
      obtain ⟨t, command, flagged, same⟩ := duplicate_barred gap idle inRange one top barred
      exact ⟨t, command, flagged, fun muted => absurd muted apart, fun muted => absurd muted apart, fun _ => same⟩

end Sys2Proof.Machine
end

section
/-! PROOFS. A good frame that brings JOINING: with a HELLO alone in the queue no owner touches the bus (O24). -/

namespace Sys2Proof.Machine

open Sys2Proof

/-! ## JOINING with no frame but a HELLO queued -/

/-- The node is JOINING, and a HELLO alone is queued. -/
def State.lull (s : State) : Prop := s.bus.state = .joining ∧ ∀ q ∈ s.bus.queue, q.frame.code = 10

section
variable {s : State} (h : s.lull)
include h

theorem offerOnly_lull {f : Frame} (other : f.code ≠ 10) : offerOnly f s = s := by
  have refused : admits s.bus.state f = false := by
    rw [Bool.eq_false_iff, ne_eq, admits_iff, h.1]
    exact fun admitted => admitted.elim nofun fun hello => other hello.2
  rw [offerOnly, offer_of_not_admitted refused]

theorem withdrawFrames_lull {p : Frame → Bool} (other : ∀ f : Frame, f.code = 10 → p f = false) :
    withdrawFrames p s = s := by
  have none : s.queues p = false := by
    rw [State.queues, List.any_eq_false]
    exact fun q inside => by simp [other q.frame (h.2 q inside)]
  rw [withdrawFrames, none]
  rfl

theorem editFrames_lull {e : Frame → Frame} (other : ∀ f : Frame, f.code = 10 → e f = f) : editFrames e s = s := by
  have same : (s.bus.queue.map fun q => { q with frame := e q.frame }) = s.bus.queue := by
    refine (List.map_congr_left fun q inside => ?_).trans (List.map_id _)
    rw [other q.frame (h.2 q inside)]
    rfl
  rw [editFrames, same]
  rfl

theorem onLine_lull : s.onLine = false := by rw [State.onLine, h.1]; rfl

end

/-- Of the bus, the flags' live values, the host points, the SHUTDOWN field and the latest FEEDBACK reply nothing
changed. -/
structure Calm (s t : State) : Prop where
  bus : t.bus = s.bus
  live : t.faults.flags.live = s.faults.flags.live
  host : t.host.points = s.host.points
  shutdown : t.zones.shutdown = s.zones.shutdown
  feedback : t.channels.feedback = s.channels.feedback

theorem forceTrip_feedback (z : Fin 8) (s : State) : (forceTrip z s).channels.feedback = s.channels.feedback :=
  each8_keeps (fun s => s.channels.feedback) _ (fun c s => by split <;> simp) s

theorem withdrawTrip_feedback (z : Fin 8) (s : State) : (withdrawTrip z s).channels.feedback = s.channels.feedback :=
  each8_keeps (fun s => s.channels.feedback) _ (fun c s => by split <;> simp) s

theorem acknowledge_feedback (m : Byte) (kinds : KindSet) (nodeFlags : Bool) (s : State) :
    (acknowledge m kinds nodeFlags s).channels.feedback = s.channels.feedback := by
  have causes (u : State) : (acknowledgeCauses m u).channels.feedback = u.channels.feedback :=
    each8_keeps (fun s => s.channels.feedback) _ (fun c s => by split <;> simp) u
  have same : (acknowledge m kinds nodeFlags s).channels.feedback =
      (acknowledgeCauses m (acknowledgeKinds m kinds s)).channels.feedback := by
    cases nodeFlags
    · rfl
    · simp [acknowledge]
  rw [same, causes]
  simp

namespace Calm

variable {s t u : State}

theorem refl (s : State) : Calm s s := ⟨rfl, rfl, rfl, rfl, rfl⟩

theorem trans (h : Calm s t) (k : Calm t u) : Calm s u :=
  ⟨k.bus.trans h.bus, k.live.trans h.live, k.host.trans h.host, k.shutdown.trans h.shutdown,
    k.feedback.trans h.feedback⟩

theorem lull (h : Calm s t) (quiet : s.lull) : t.lull := by
  rw [State.lull, h.bus]
  exact quiet

theorem each8 {f : Fin 8 → State → State} (step : ∀ n u, u.lull → Calm u (f n u)) (quiet : s.lull) :
    Calm s (each8 f s) :=
  each8_relates (R := fun s t => s.lull → Calm s t) (fun s _ => refl s)
    (fun h k quiet => (h quiet).trans (k ((h quiet).lull quiet))) step s quiet

theorem onGroup {f : Fin 8 → State → State} (step : ∀ n u, u.lull → Calm u (f n u)) (g : Fin 128) (quiet : s.lull) :
    Calm s (onGroup g f s) := by
  refine each8 (fun n u calm => ?_) quiet
  split
  · exact step n u calm
  · exact refl u

theorem onZones {f : Fin 8 → State → State} (step : ∀ n u, u.lull → Calm u (f n u)) (mask : Byte) (quiet : s.lull) :
    Calm s (onZones mask f s) := by
  refine each8 (fun n u calm => ?_) quiet
  split
  · exact step n u calm
  · exact refl u

theorem raiseFlag (f : NodeFlag) (s : State) : Calm s (raiseFlag f s) := ⟨by simp, by simp, by simp, by simp, by simp⟩

theorem tripZone (z : Fin 8) (n : Station) (k : TripCause) (s : State) : Calm s (tripZone z n k s) := by
  unfold Machine.tripZone
  dsimp only
  split
  · exact ⟨rfl, rfl, rfl, rfl, rfl⟩
  · exact ⟨by simp [setZoneChange, setZone], by simp [setZoneChange, setZone], by simp [setZoneChange, setZone],
      by simp [setZoneChange, setZone], by simp [setZoneChange, setZone, forceTrip_feedback]⟩

theorem pointsAtImage (source : Station) (pairs : List PointPair) (s : State) :
    Calm s (pointsAtImage source pairs s) := by
  have held (f : Nat → Bool) (u : State) : Calm u (Machine.each8 (setHoldOvers f none) u) :=
    each8_relates refl (fun h k => h.trans k)
      (fun c v => ⟨by simp, by simp, by simp, by simp, by simp⟩) u
  have evaluated (p : TermSource → Bool) (u : State) : Calm u (evaluateUsers p u) :=
    ⟨by simp, by simp, by simp, by simp, evaluateUsers_feedback p u⟩
  have imaged (after : List Subscription) : Calm s { s with points := after } := ⟨rfl, rfl, rfl, rfl, rfl⟩
  unfold Machine.pointsAtImage
  dsimp only
  refine (Calm.trans ?_ (held _ _)).trans (evaluated _ _)
  split
  · exact (imaged _).trans (raiseFlag _ _)
  · exact imaged _

theorem takenClearZone (z : Fin 8) (s : State) (quiet : s.lull) : Calm s (takenClearZone z s) := by
  have trip (k : Byte) : Calm s (queueTrip k .input (Machine.tripZone z s.loader.station .input s)) := by
    have tripped := tripZone z s.loader.station .input s
    rw [queueTrip, onLine_lull (tripped.lull quiet)]
    exact tripped
  have cleared (x : Zone) : Calm s (withdrawTrip z (setZoneChange (setZone z x s))) :=
    ⟨by simp [setZoneChange, setZone], by simp [setZoneChange, setZone], by simp [setZoneChange, setZone],
      by simp [setZoneChange, setZone], by simp [setZoneChange, setZone, withdrawTrip_feedback]⟩
  unfold Machine.takenClearZone
  dsimp only
  split
  · exact trip _
  split
  · have still := (cleared { s.zone z with tripped := false, station := none, cause := none }).lull quiet
    rw [removeFromTrip, editFrames_lull still, withdrawFrames_lull still]
    · exact cleared _
    · exact fun f hello => by cases f <;> first | rfl | exact absurd hello (by simp [Frame.code])
    · exact fun f hello => by cases f <;> first | rfl | exact absurd hello (by simp [Frame.code])
  · exact refl s

theorem of_groups {groups : List Entry} (same : t = { s with groups := groups }) : Calm s t := by
  subst same
  exact ⟨rfl, rfl, rfl, rfl, rfl⟩

theorem entry (e : Fin 8) (f : Entry → Entry) (h : Calm s t) : Calm s (modEntry e f t) := h.trans (of_groups rfl)

theorem claimless (g : Fin 128) (f : Frame) (hello : f.code = 10) :
    isClaimOf g f = false ∧ isHoldOf g f = false ∧ isReleaseOf g f = false ∧ isMark f = false := by
  cases f <;> first | exact ⟨rfl, rfl, rfl, rfl⟩ | exact absurd hello (by simp [Frame.code])

theorem foreignClaim (e : Fin 8) (x : Holder) (s : State) (quiet : s.lull) : Calm s (foreignClaim e x s) := by
  have withdrawn : withdrawClaim e s = s := withdrawFrames_lull quiet fun f hello => (claimless _ f hello).1
  have offered (c : Fin 8) (o : Bool) : offerHold e c o s = s := offerOnly_lull quiet (by simp [Frame.code])
  have start := refl s
  unfold Machine.foreignClaim enterHeldRemote setEntry
  rw [withdrawn]
  (repeat' split) <;> first | exact start | exact start.entry e _ | (rw [offered]; exact start)

theorem foreignHold (e : Fin 8) (x : Holder) (o : Bool) (s : State) (quiet : s.lull) : Calm s (foreignHold e x o s) := by
  have withdrawn (u : State) (calm : Calm s u) : withdrawHold e u = u ∧ withdrawClaim e u = u ∧ withdrawRelease e u = u :=
    ⟨withdrawFrames_lull (calm.lull quiet) fun f hello => (claimless _ f hello).2.1,
      withdrawFrames_lull (calm.lull quiet) fun f hello => (claimless _ f hello).1,
      withdrawFrames_lull (calm.lull quiet) fun f hello => (claimless _ f hello).2.2.1⟩
  have start := refl s
  have raised := raiseFlag .groupConflict s
  have yields (y : Entry) : Calm s (yieldTo e y x s) := by
    unfold yieldTo setEntry
    dsimp only
    have sent : Calm s (if (y.state == .heldLocal) = true then sendRevoke y (Machine.raiseFlag .groupConflict s)
        else Machine.raiseFlag .groupConflict s) := by
      split
      · refine raised.trans ?_
        unfold sendRevoke
        split <;> exact ⟨rfl, rfl, rfl, rfl, rfl⟩
      · exact raised
    rw [(withdrawn _ sent).1]
    exact sent.entry e _
  unfold Machine.foreignHold enterHeldRemote
  cases here : s.entry e with
  | none => exact start
  | some y =>
    dsimp only
    rw [(withdrawn s start).2.1, (withdrawn s start).2.2]
    cases y.state with
    | unknown | free | dead | heldRemote | claiming => exact start.entry e _
    | heldLocal => exact yields y
    | claimed =>
      cases o with
      | true =>
        dsimp only
        rw [if_pos rfl, (withdrawn s start).1]
        exact start.entry e _
      | false =>
        dsimp only
        rw [if_neg Bool.false_ne_true, (withdrawn _ raised).1]
        exact raised.entry e _
    | releasingLocal =>
      dsimp only
      rw [onLine_lull quiet]
      exact start

theorem foreignRelease (e : Fin 8) (n : Station) (s : State) (quiet : s.lull) : Calm s (foreignRelease e n s) := by
  have withdrawn : withdrawClaim e s = s := withdrawFrames_lull quiet fun f hello => (claimless _ f hello).1
  have start := refl s
  have settled (x : Entry) : Calm s (settleDone e x s) := by
    rw [settleDone, onLine_lull quiet]
    exact start.entry e _
  unfold Machine.foreignRelease enterDead
  rw [withdrawn]
  (repeat' split) <;> first | exact start | exact start.entry e _ | exact settled _

/-- At its owner a frame of another station leaves the bus and the queued HELLO alone. -/
theorem atOwner (n : Station) (f : Frame) (quiet : s.lull) : Calm s (atOwner false n f s) := by
  have learns : s.learns = true := by simp [State.learns, quiet.1]
  cases f with
  | mark m =>
    have unmarked : withdrawFrames isMark s = s := withdrawFrames_lull quiet fun f hello => (claimless 0 f hello).2.2.2
    have taken : Calm s (takeMark m s) := by
      obtain ⟨⟨-, -, -, host, -, -, shutdown, feedback⟩, -, -, bus, -, flags, -⟩ := takeMark_leaves m s
      exact ⟨bus, by rw [flags], host, shutdown, feedback⟩
    have same : markAtTimer false m s = takeMark m s := by
      rw [markAtTimer, unmarked, ite_self]
      rw [onLine_lull (taken.lull quiet)]
      rfl
    rw [Machine.atOwner, same]
    exact taken
  | trip z c => exact onZones (fun z u _ => by
      unfold takenTripZone
      dsimp only
      split
      · exact refl u
      · exact tripZone z n c u) z quiet
  | clear z => exact onZones takenClearZone z quiet
  | claim g c =>
    rw [Machine.atOwner, if_pos learns]
    exact onGroup (f := fun e => Machine.foreignClaim e ⟨n, c⟩) (fun e u => foreignClaim e _ u) g quiet
  | hold g c o =>
    rw [Machine.atOwner, if_pos learns]
    exact onGroup (f := fun e => Machine.foreignHold e ⟨n, c⟩ o) (fun e u => foreignHold e _ o u) g quiet
  | release g c =>
    rw [Machine.atOwner, if_pos learns]
    exact onGroup (f := fun e => Machine.foreignRelease e n) (fun e u => foreignRelease e n u) g quiet
  | points ps =>
    rw [Machine.atOwner]
    exact pointsAtImage n ps s
  | fault c l st m =>
    unfold Machine.atOwner appendFault
    dsimp only
    split <;> exact ⟨rfl, rfl, rfl, rfl, rfl⟩
  | faultAck t ch k b =>
    unfold Machine.atOwner
    dsimp only
    split
    · obtain ⟨points, faults, -⟩ := acknowledge_leaves ch k b s
      exact ⟨by simp, by rw [faults], points, by simp, acknowledge_feedback ch k b s⟩
    · exact refl s
  | status i => exact ⟨rfl, rfl, rfl, rfl, rfl⟩
  | hello token signature =>
    rw [Machine.atOwner, onLine_lull quiet]
    exact ⟨rfl, rfl, rfl, rfl, rfl⟩

end Calm

end Sys2Proof.Machine
end

section
/-! PROOFS. The ways back to ON-LINE (O24). -/

namespace Sys2Proof.Machine

open Sys2Proof

/-! ## A HELLO in an empty queue (R112) -/

/-- An empty queue takes up each frame that the bus state admits. -/
theorem offer_empty {s : State} {f : Frame} (admitted : admits s.bus.state f = true) (empty : s.bus.queue = []) :
    offerOnly f s = setQueue [newEntry s.now f] s := by
  have free : ∀ x ∈ s.bus.queue, sameLimit x.frame f = false := fun x inside => by simp [empty] at inside
  rw [offerOnly, offer_of_room admitted free (by simp [empty]), empty]
  rfl

theorem offerHello_empty {s : State} (joining : s.bus.state = .joining) (empty : s.bus.queue = []) :
    offerHello s = { s with bus := { s.bus with
      phase := some .helloQueued, joinTimer := none,
      queue := [{ frame := .hello s.bus.joinCounter s.config.signature, age := s.now, retries := 0,
                  onLine := false }] } } := by
  rw [offerHello]
  generalize hello : Frame.hello s.bus.joinCounter s.config.signature = f
  have admitted : admits s.bus.state f = true := (admits_iff _ _).mpr (.inr ⟨joining, by rw [← hello]; rfl⟩)
  rw [offer_empty (s := setBus { s.bus with phase := some .helloQueued, joinTimer := none } s) admitted empty]
  rfl

/-- The node enters JOINING, and its HELLO is not offered yet. -/
def State.rejoining (s : State) : State :=
  setFlagLive .busDegraded false (setFaultBlocked false
    (setBus { s.bus with state := .joining, gapSeen := false, offLineTimer := none } s))

/-- A MUTED node with an empty queue joins, with a HELLO of a fresh token. -/
theorem enterJoining_empty {s : State} (empty : s.bus.queue = []) : (enterJoining s).bus = { s.bus with
      state := .joining, gapSeen := false, offLineTimer := none, phase := some .helloQueued, joinTimer := none,
      queue := [{ frame := .hello s.bus.joinCounter s.config.signature, age := s.now, retries := 0,
                  onLine := false }] } ∧
    (enterJoining s).flagLive .busDegraded = false ∧ s.sameSurroundings (enterJoining s) := by
  have live : s.rejoining.flagLive .busDegraded = false := by simp [State.rejoining]
  have bus : s.rejoining.bus = { s.bus with state := .joining, gapSeen := false, offLineTimer := none } := by
    simp [State.rejoining]
  have config : s.rejoining.config = s.config := by simp [State.rejoining, State.config]
  have now : s.rejoining.now = s.now := by simp [State.rejoining]
  have kept : s.rejoining.beyondZones = s.beyondZones := by simp [State.rejoining, State.beyondZones, setFlagLive_host]
  rw [show enterJoining s = offerHello s.rejoining from rfl]
  generalize s.rejoining = u at *
  rw [offerHello_empty (by rw [bus]) (by rw [bus]; exact empty), config, now, bus]
  exact ⟨rfl, live, (sameSurroundings_of_kept kept).1⟩

/-! ## The four ways (R113, R114, R116, R118) -/

/-- OFF-LINE ends in MUTED. -/
theorem offLineEnds_eq {s : State} (offLine : s.bus.state = .offLine) (runs : s.bus.offLineTimer ≠ none) :
    offLineEnds s = enterSilent .muted (setScore 40 s) := by
  rw [offLineEnds, offLine, if_pos (by simpa using Option.isSome_iff_ne_none.mpr runs)]

theorem hello_of_33 {s : State} {f : Frame} {source : Station} (hears : s.hears source) (muted : s.bus.state = .muted)
    (at33 : s.bus.score = 33) (empty : s.bus.queue = []) (inRange : f.inRange = true) :
    ∃ t, exec (f.taken (.heard source f.payload)) s = .next t ∧ s.sameSurroundings t ∧
      t.flagLive .busDegraded = false ∧
      t.bus = { s.bus with state := .joining, score := 32, phase := some .helloQueued, joinTimer := none,
                           offLineTimer := none, gapSeen := false, rejecting := false,
                           queue := [{ frame := .hello s.bus.joinCounter s.config.signature, age := s.now,
                                       retries := 0, onLine := false }] } := by
  have command := (exec_taken (a := .heard source f.payload) ⟨rfl, rfl, inRange, hears⟩).2
  have reached : s.received f (.heard source f.payload) = enterJoining (s.afterFrame false (s.bus.score - 1)) :=
    (judgeScore_joining muted at33).1
  have delivered : s.delivered f source (.heard source f.payload) =
      dispatch false source f (s.received f (.heard source f.payload)) := by
    rw [State.delivered]
    exact if_neg Bool.false_ne_true
  rw [delivered, reached] at command
  obtain ⟨bus, live, around⟩ := enterJoining_empty (s := s.afterFrame false (s.bus.score - 1)) empty
  generalize enterJoining (s.afterFrame false (s.bus.score - 1)) = u at *
  have quiet : u.lull := by
    rw [State.lull, bus]
    exact ⟨rfl, fun q inside => by rw [List.mem_singleton.mp inside]; rfl⟩
  have calm := Calm.atOwner source f quiet
  obtain ⟨now, held, loader, inputs, link, power, -⟩ := atOwner_frame false source f u
  rw [dispatch, buildDue_of_not_onLine (onLine_lull (s := refreshPeer source (atOwner false source f u)) (calm.lull quiet))]
    at command
  refine ⟨_, command, State.sameSurroundings.trans (t := u) around
    ⟨held, loader, inputs, calm.host, link, power, calm.shutdown, calm.feedback⟩, ?_, ?_⟩
  · show (atOwner false source f u).faults.flags.live.getLsbD _ = false
    rw [calm.live]
    exact live
  · show (atOwner false source f u).bus = _
    rw [calm.bus, bus, at33]
    rfl

/-! ## The entries' HOLDs (R29, R48, R49) -/

/-- A queue of HOLDs alone, with room, takes up a HOLD. -/
theorem offerHold_holds {u : State} {d c : Fin 8} {o : Bool} (onLine : u.bus.state = .onLine)
    (room : u.bus.queue.length < 12) (holds : ∀ q ∈ u.bus.queue, q.frame.code = 4) : ∃ l,
    offerHold d c o u = setQueue l u ∧ l.length ≤ u.bus.queue.length + 1 ∧ ∀ q ∈ l, q.frame.code = 4 := by
  obtain ⟨l, taken, length⟩ := offer_in_room_merges (s := u) (f := .hold (u.member d).group c o) onLine room
    fun q inside same => by
      have code := holds q inside
      cases frame : q.frame <;> simp [frame, Frame.code] at code
      rfl
  have queued : (offer (.hold (u.member d).group c o) u).1.bus.queue = l := by rw [taken]; rfl
  refine ⟨l, by rw [offerHold, offerOnly, taken], length, fun q inside => ?_⟩
  rw [← queued] at inside
  exact (mem_offer inside).elim (holds q) id

/-- The state with these entries and this queue. -/
def State.withTraffic (s : State) (groups : List Entry) (l : List Queued) : State :=
  { s with groups := groups, bus := { s.bus with queue := l } }

/-- ON-LINE entry: the HOLDs of the entries alone are queued. -/
theorem each8_holds {op : Fin 8 → State → State} {s : State} (onLine : s.bus.state = .onLine)
    (empty : s.bus.queue = [])
    (step : ∀ (d : Fin 8) u, u.bus.state = .onLine → u.bus.queue.length < 12 → (∀ q ∈ u.bus.queue, q.frame.code = 4) →
      ∃ groups l, op d u = u.withTraffic groups l ∧ l.length ≤ u.bus.queue.length + 1 ∧ ∀ q ∈ l, q.frame.code = 4) :
    ∃ groups l, each8 op s = s.withTraffic groups l ∧ l.length ≤ 8 ∧ ∀ q ∈ l, q.frame.code = 4 := by
  refine each8_counted (P := fun n u => ∃ groups l, u = s.withTraffic groups l ∧ l.length ≤ n ∧
    ∀ q ∈ l, q.frame.code = 4) (fun d u reached => ?_) ⟨s.groups, s.bus.queue, rfl, by simp [empty], by simp [empty]⟩
  obtain ⟨groups, l, rfl, length, holds⟩ := reached
  obtain ⟨groups', l', same, longer, holds'⟩ := step d (s.withTraffic groups l) onLine
    (Nat.lt_of_le_of_lt length (by omega)) holds
  exact ⟨groups', l', same, Nat.le_trans longer (Nat.succ_le_succ length), holds'⟩

theorem groupOnLine_holds (d : Fin 8) (u : State) (onLine : u.bus.state = .onLine) (room : u.bus.queue.length < 12)
    (holds : ∀ q ∈ u.bus.queue, q.frame.code = 4) : ∃ groups l, groupOnLine d u = u.withTraffic groups l ∧
      l.length ≤ u.bus.queue.length + 1 ∧ ∀ q ∈ l, q.frame.code = 4 := by
  have same (groups : List Entry) : ∃ groups' l, { u with groups := groups } = u.withTraffic groups' l ∧
      l.length ≤ u.bus.queue.length + 1 ∧ ∀ q ∈ l, q.frame.code = 4 :=
    ⟨groups, u.bus.queue, rfl, Nat.le_succ _, holds⟩
  have held (x : Entry) (c : Fin 8) : ∃ groups l, offerHold d c false (setEntry d x u) = u.withTraffic groups l ∧
      l.length ≤ u.bus.queue.length + 1 ∧ ∀ q ∈ l, q.frame.code = 4 := by
    obtain ⟨l, taken, length, still⟩ := offerHold_holds (u := setEntry d x u) (d := d) (c := c) (o := false) onLine room holds
    exact ⟨_, l, taken, length, still⟩
  unfold groupOnLine
  split
  · exact same u.groups
  · split
    · exact same _
    · split
      · exact held _ _
      · exact same u.groups
    · exact same u.groups

/-! ## ON-LINE (R48, R70, R91, R114, R148) -/

section
variable {s : State} {e : Fin 8} {x : Entry} (here : s.entry e = some x)
include here

theorem groupOnLine_unknown (state : x.state = .unknown) : (groupOnLine e s).entry e = some (x.became .free) := by
  rw [groupOnLine, here]
  dsimp only
  rw [state]
  exact modEntry_entry_of e s here _

theorem groupOnLine_releasing (state : x.state = .releasingLocal) (yielded : x.yielded = false)
    (queued : x.releaseQueued = false) : (groupOnLine e s).entry e = some
      { x with hold := some (s.now + s.holdInterval), lapse := some (s.now + 2 * s.holdInterval) } := by
  rw [groupOnLine, here]
  dsimp only
  rw [state, yielded, queued]
  exact (offerHold_entry ..).trans (setEntry_entry_of here _)

end

theorem groupOnLine_other {d e : Fin 8} (other : d ≠ e) (s : State) : (groupOnLine d s).entry e = s.entry e := by
  unfold groupOnLine
  split
  · rfl
  · split
    · exact modEntry_entry_other other.symm _ s
    · split
      · exact (offerHold_entry ..).trans (modEntry_entry_other other.symm _ s)
      · rfl
    · rfl

/-- The node is ON-LINE, and no block has acted yet. -/
def State.online (s : State) : State :=
  setPubBlocked false (setFaultBlocked false
    (setBus { s.bus with state := .onLine, phase := none, joinTimer := none, gapSeen := false } s))

/-- Each entry acts on its own at the entry to ON-LINE. -/
theorem each8_groupOnLine {e : Fin 8} (s : State) : ∃ u, u.entry e = s.entry e ∧ u.now = s.now ∧
    u.holdInterval = s.holdInterval ∧ (each8 groupOnLine s).entry e = (groupOnLine e u).entry e := by
  obtain ⟨u, ⟨entry, now, loader⟩, ⟨after, -⟩⟩ := each8_around (f := groupOnLine)
    (R := fun s t => t.entry e = s.entry e ∧ t.now = s.now ∧ t.loader = s.loader) (fun _ => ⟨rfl, rfl, rfl⟩)
    (fun h k => ⟨k.1.trans h.1, k.2.1.trans h.2.1, k.2.2.trans h.2.2⟩) e
    (fun d other t => ⟨groupOnLine_other other t, by simp, by simp⟩) s
  exact ⟨u, entry, now, holdInterval_of_config (by rw [State.config, loader, State.config]), after⟩

theorem enterOnLine_eq (s : State) : enterOnLine s = pendAll (pendStickyFaults (zonesOnLine (each8 groupOnLine s.online))) :=
  rfl

theorem enterOnLine_kept (s : State) : (enterOnLine s).beyondZones = s.beyondZones := by
  have host : (each8 groupOnLine s.online).host.points = s.host.points :=
    each8_keeps (fun s => s.host.points) groupOnLine (fun e s => by simp) s.online
  have points : (enterOnLine s).host.points = s.host.points := by
    rw [enterOnLine_eq]
    simp [host]
  simp [State.beyondZones, points]

/-- What the entries' and the zones' frames leave of the publications and of the fault records. -/
theorem groupOnLine_apart (d : Fin 8) (s : State) :
    (groupOnLine d s).pubs.entries.length = s.pubs.entries.length ∧
    ∀ c, ((groupOnLine d s).faultRec c).kinds = (s.faultRec c).kinds := by
  refine ⟨?_, fun c => by simp [State.faultRec]⟩
  have held (x : Entry) (c : Fin 8) :
      (offerHold d c false (setEntry d x s)).pubs.entries.length = s.pubs.entries.length :=
    (offer_pends _ (setEntry d x s)).length
  unfold groupOnLine
  (repeat' split) <;> first | rfl | exact held _ _

theorem zonesOnLine_apart (s : State) : (zonesOnLine s).pubs.entries.length = s.pubs.entries.length ∧
    ∀ c, ((zonesOnLine s).faultRec c).kinds = (s.faultRec c).kinds := by
  refine ⟨?_, fun c => by simp [State.faultRec]⟩
  unfold zonesOnLine queueTrip
  split
  · exact (offer_pends _ s).length
  · rfl

/-- Every channel with a sticky kind waits for its FAULT frame (R148). -/
theorem pendStickyFaults_waiting {s : State} {c : Fin 8} (sticky : (s.faultRec c).sticky.any = true) :
    ((pendStickyFaults s).faultRec c).waiting = true := by
  obtain ⟨t, before, after⟩ := each8_focus (fun s => s.faultRec c)
    (fun d s => if (s.faultRec d).sticky.any then setFaultWaiting true d s else s) c (fun d other s => by
      split
      · simp only [State.faultRec, setFaultWaiting, setRecord, Eight.get_set, if_neg (Ne.symm other)]
      · rfl) s
  rw [pendStickyFaults, after, before, sticky, if_pos rfl]
  simp only [State.faultRec, setFaultWaiting, setRecord, Eight.get_set, if_pos]

/-- Every listed publication is pending (R91). -/
theorem pendAll_waiting {s : State} {k : Nat} {cfg : PublicationConfig}
    (listed : s.config.publications[k]? = some cfg) (inside : k < s.pubs.entries.length) :
    ((pendAll s).pubs.entries.map Publication.waiting)[k]? = some true :=
  pendWhere_waiting (p := fun _ => true) rfl listed inside

theorem enterOnLine_pending {s : State} {k : Nat} {cfg : PublicationConfig}
    (listed : s.config.publications[k]? = some cfg) (inside : k < s.pubs.entries.length) :
    ((enterOnLine s).pubs.entries.map Publication.waiting)[k]? = some true := by
  have entries : (each8 groupOnLine s.online).pubs.entries.length = s.pubs.entries.length :=
    each8_keeps (fun s => s.pubs.entries.length) groupOnLine (fun d s => (groupOnLine_apart d s).1) s.online
  have loader : (each8 groupOnLine s.online).loader = s.loader :=
    each8_keeps State.loader groupOnLine (fun d s => by simp) s.online
  have zones := (zonesOnLine_apart (each8 groupOnLine s.online)).1
  rw [enterOnLine_eq]
  refine pendAll_waiting (cfg := cfg) ?_ ?_
  · rw [State.config, show (pendStickyFaults (zonesOnLine (each8 groupOnLine s.online))).loader = s.loader by simp [loader]]
    exact listed
  · rw [show (pendStickyFaults (zonesOnLine (each8 groupOnLine s.online))).pubs =
      (zonesOnLine (each8 groupOnLine s.online)).pubs by simp, zones, entries]
    exact inside

theorem enterOnLine_sticky {s : State} {c : Fin 8} (sticky : (s.faultRec c).sticky.any = true) :
    ((enterOnLine s).faultRec c).waiting = true := by
  have kinds : ((each8 groupOnLine s.online).faultRec c).kinds = (s.faultRec c).kinds :=
    each8_keeps (fun s => (s.faultRec c).kinds) groupOnLine (fun d s => (groupOnLine_apart d s).2 c) s.online
  have zones := (zonesOnLine_apart (each8 groupOnLine s.online)).2 c
  rw [enterOnLine_eq]
  rw [kinds] at zones
  generalize zonesOnLine (each8 groupOnLine s.online) = w at *
  show ((pendStickyFaults w).faultRec c).waiting = true
  refine pendStickyFaults_waiting ?_
  rwa [FaultRecord.sticky, zones]

/-- A TRIP is queued for the zones with an active local source (R70). -/
theorem enterOnLine_trip {s : State} (empty : s.bus.queue = []) {z : Fin 8} (active : (s.zone z).localActive = true) :
    ∃ q ∈ (enterOnLine s).bus.queue, ∃ m, q.frame = .trip m .input ∧ maskBit m z = true := by
  obtain ⟨groups, l, reached, length, holds⟩ := each8_holds (s := s.online) rfl empty groupOnLine_holds
  have named : maskBit (zonesWhere Zone.localActive (s.online.withTraffic groups l)) z = true :=
    (maskBit_maskOf _ z).trans ((Eight.get_of _ z).trans active)
  obtain ⟨q, inside, frame, -⟩ := queueTrip_queued (a := s.online.withTraffic groups l) (c := .input)
    (mask := zonesWhere Zone.localActive (s.online.withTraffic groups l)) rfl (Nat.lt_of_le_of_lt length (by decide))
    (fun q inside => by
      have code := holds q inside
      cases frame : q.frame <;> simp [frame, Frame.code] at code
      rfl)
    (fun zero => by
      rw [zero] at named
      exact nomatch (maskBit_zero z).symm.trans named)
  refine ⟨q, ?_, _, frame, named⟩
  rw [enterOnLine_eq, reached]
  simpa [zonesOnLine] using inside

theorem joinWaitEnds_eq {s : State} (joining : s.bus.state = .joining) (phase : s.bus.phase = some .joinWait)
    (runs : s.bus.joinTimer ≠ none) : joinWaitEnds s = buildDue (enterOnLine s) := by
  rw [joinWaitEnds, joining, phase, if_pos (by simpa using Option.isSome_iff_ne_none.mpr runs)]

theorem helloHoldOffEnds_eq {s : State} (joining : s.bus.state = .joining) (phase : s.bus.phase = some .helloHoldOff)
    (runs : s.bus.joinTimer ≠ none) : helloHoldOffEnds s = offerHello s := by
  rw [helloHoldOffEnds, joining, phase, if_pos (by simpa using Option.isSome_iff_ne_none.mpr runs)]

/-- Settles O24, way by way. -/
theorem backOnLine : Obligations.BackOnLine := by
  intro s f source running
  refine ⟨fun offLine runs => ?_, fun muted gap idle at33 empty inRange one top other => ?_,
    fun joining phase runs empty => ?_, fun joining phase runs => ?_⟩
  · have deaf : (setScore 40 s).learns = false := by simp [State.learns, setScore, offLine]
    obtain ⟨channels, groups, kept⟩ := enterSilent_outside (b := .muted) deaf
    have bus := enterSilent_bus .muted (setScore 40 s)
    have command : exec .offLineTimerExpiry s = .next (enterSilent .muted (setScore 40 s)) :=
      congrArg _ (offLineEnds_eq offLine runs)
    refine ⟨_, command, (sameSurroundings_of_kept (s := s) kept).1, sameChannels_of (s := s) channels, groups, ?_⟩
    rw [bus, deaf]
    rfl
  · exact hello_of_33 ⟨running, gap, one, top, other, by rw [muted]; omega⟩ muted at33 empty inRange
  · exact congrArg _ ((helloHoldOffEnds_eq joining phase runs).trans (offerHello_empty joining empty))
  · have command : exec .joinWaitExpiry s = .next (buildDue (enterOnLine s)) := by
      rw [← joinWaitEnds_eq joining phase runs]
      rfl
    have entered := (enterOnLine_traffic s).line
    have due := (Traffic.buildDue (enterOnLine s)).line
    have after := buildDue_after (enterOnLine s)
    have pubs := fun k cfg listed waits => buildDue_sends (s := enterOnLine s) (k := k) (cfg := cfg) listed waits
    have faults := fun c waits => State.faultOnWay.buildDue (s := enterOnLine s) (c := c) (.inl waits)
    have kept : (buildDue (enterOnLine s)).beyondZones = s.beyondZones := by
      rw [← enterOnLine_kept s]
      simp [State.beyondZones]
    have zones : (buildDue (enterOnLine s)).zones = s.zones := by simp
    have channels : (buildDue (enterOnLine s)).channels = s.channels := by simp
    have pending := fun k cfg listed inside => enterOnLine_pending (s := s) (k := k) (cfg := cfg) listed inside
    have sticky := fun c any => enterOnLine_sticky (s := s) (c := c) any
    have trips := fun empty z active => enterOnLine_trip (s := s) empty (z := z) active
    have groups : (enterOnLine s).groups = (each8 groupOnLine s.online).groups := by simp [enterOnLine_eq]
    have loader : (enterOnLine s).loader = s.loader := by simp
    obtain ⟨around, marks, points⟩ := sameSurroundings_of_kept kept
    generalize enterOnLine s = v at *
    generalize buildDue v = t at *
    refine ⟨t, command, by rw [due, entered]; rfl, by rw [due, entered]; rfl, by rw [due, entered]; rfl,
      by rw [due, entered]; rfl, around, sameChannels_of channels, zones, points, marks, fun e x here => ?_,
      fun empty z active => ?_, fun i cfg listed x here => ?_, fun c any => faults c (sticky c any)⟩
    · obtain ⟨u, entry, now, interval, acted⟩ := each8_groupOnLine (e := e) s.online
      have there : u.entry e = some x := entry.trans here
      have entryV : v.entry e = (groupOnLine e u).entry e := (entry_of_groups groups e).trans acted
      refine ⟨fun state => after.leaves e _ (entryV.trans (groupOnLine_unknown there state)),
        fun state yielded queued => ?_⟩
      have set := groupOnLine_releasing there state yielded queued
      rw [now, interval] at set
      exact (after.leaves e _ (entryV.trans set)).entry (by simp [state])
    · obtain ⟨q, inside, m, frame, named⟩ := trips empty z active
      exact ⟨q, after.due.stays q inside (by simp [frame, Frame.code]), m, frame, named⟩
    · refine pubs i cfg ?_ (pending i cfg listed (List.getElem?_eq_some_iff.mp here).1)
      rw [State.config, loader]
      exact listed

end Sys2Proof.Machine
end

section
/-! PROOFS. A HELLO is taken (O25). -/

namespace Sys2Proof.Machine

open Sys2Proof

/-! ## HOLDs in the queue, by their group (R29, R101) -/

section
variable {s : State} {d c : Fin 8} {o : Bool} {q : Queued}

theorem mergeFrames_hold {p m : Frame} {g : Fin 128} (merged : mergeFrames p (.hold g c o) = some m)
    (limit : sameLimit p (.hold g c o) = true) : p.group = some g ∧ m.group = some g := by
  rw [sameLimit_hold] at limit
  have own := eq_of_beq limit
  refine ⟨own, ?_⟩
  cases p with
  | hold g' c' o' =>
    cases merged
    exact own
  | mark | trip | clear | release | claim | faultAck | fault | points | status | hello => simp [mergeFrames] at merged

theorem mem_offerHold (inside : q ∈ (offerHold d c o s).bus.queue) :
    q ∈ s.bus.queue ∨ q.frame.group = some (s.member d).group := by
  rw [offerHold, offerOnly] at inside
  rcases offer_cases (.hold (s.member d).group c o) s with ⟨-, same⟩ |
    ⟨before, p, after, m, queue, limit, merged, eq⟩ | ⟨-, kept, sub, -, eq⟩
  · rw [same] at inside
    exact .inl inside
  · rw [eq] at inside
    have there : q ∈ before ++ { p with frame := m } :: after := inside
    rw [List.mem_append, List.mem_cons] at there
    rw [queue]
    rcases there with old | new | old
    · exact .inl (List.mem_append_left _ old)
    · rw [new]
      exact .inr (mergeFrames_hold merged limit).2
    · exact .inl (List.mem_append_right _ (List.mem_cons_of_mem _ old))
  · rw [eq] at inside
    rcases mem_insertByCode inside with rfl | old
    · exact .inr rfl
    · exact .inl (sub q old)

theorem offerHold_stays (inside : q ∈ s.bus.queue) (low : q.frame.code ≤ 4)
    (other : q.frame.group ≠ some (s.member d).group) : q ∈ (offerHold d c o s).bus.queue := by
  rw [offerHold, offerOnly]
  rcases offer_cases (.hold (s.member d).group c o) s with ⟨-, same⟩ |
    ⟨before, p, after, m, queue, limit, merged, eq⟩ | ⟨-, kept, -, stay, eq⟩
  · rwa [same]
  · rw [eq]
    show q ∈ before ++ { p with frame := m } :: after
    rw [queue, List.mem_append, List.mem_cons] at inside
    rcases inside with old | own | old
    · exact List.mem_append_left _ old
    · rw [own] at other
      exact absurd (mergeFrames_hold merged limit).1 other
    · exact List.mem_append_right _ (List.mem_cons_of_mem _ old)
  · rw [eq]
    exact (insertByCode_perm _ _).mem_iff.mpr (List.mem_cons_of_mem _ (stay q inside low nofun))

end

/-! ## The holdings announced (R49) -/

/-- An entry that holds its group for the own station, and has not yielded it or released it. -/
def Entry.announces (x : Entry) : Prop :=
  x.state = .heldLocal ∨ (x.state = .releasingLocal ∧ x.yielded = false ∧ x.releaseQueued = false)

theorem groupHello_cases (d : Fin 8) (s : State) :
    groupHello d s = s ∨ ∃ x, s.entry d = some x ∧ groupHello d s = offerHold d x.frameChannel false s := by
  unfold groupHello
  split
  · exact .inl rfl
  next x here =>
    split
    · exact .inr ⟨x, here, rfl⟩
    · split
      · exact .inr ⟨x, here, rfl⟩
      · exact .inl rfl
    · exact .inl rfl

theorem groupHello_announces {e : Fin 8} {s : State} {x : Entry} (here : s.entry e = some x) (announces : x.announces) :
    groupHello e s = offerHold e x.frameChannel false s := by
  rw [groupHello, here]
  dsimp only
  rcases announces with state | ⟨state, yielded, queued⟩
  · rw [state]
  · rw [state, yielded, queued]
    rfl

/-- With an empty queue, each holding is announced in a HOLD of its own group. -/
theorem each8_groupHello {s : State} {e : Fin 8} {x : Entry} (onLine : s.bus.state = .onLine)
    (empty : s.bus.queue = []) (here : s.entry e = some x) (announces : x.announces)
    (unique : ∀ d, d ≠ e → s.entry d ≠ none → (s.member d).group ≠ (s.member e).group) :
    ∃ q ∈ (each8 groupHello s).bus.queue, q.frame = .hold (s.member e).group x.frameChannel false := by
  have all := each8_counted (f := groupHello) (s := s) (P := fun n u => ∃ l, u = setQueue l s ∧ l.length ≤ n ∧
    (∀ q ∈ l, q.frame.code = 4) ∧
    if n ≤ e.val then ∀ q ∈ l, q.frame.group ≠ some (s.member e).group
    else ∃ q ∈ l, q.frame = .hold (s.member e).group x.frameChannel false) (fun d u reached => ?_)
    ⟨s.bus.queue, rfl, by simp [empty], by simp [empty], by simp [empty]⟩
  · obtain ⟨l, same, -, -, held⟩ := all
    rw [same]
    rwa [if_neg (by omega)] at held
  · obtain ⟨l, rfl, length, holds, held⟩ := reached
    have room : l.length < 12 := Nat.lt_of_le_of_lt length (by omega)
    have offered (c : Fin 8) : ∃ l', offerHold d c false (setQueue l s) = setQueue l' s ∧ l'.length ≤ d.val + 1 ∧
        ∀ q ∈ l', q.frame.code = 4 := by
      obtain ⟨l', taken, longer, holds'⟩ := offerHold_holds (u := setQueue l s) (d := d) (c := c) (o := false) onLine room holds
      exact ⟨l', taken, Nat.le_trans longer (Nat.succ_le_succ length), holds'⟩
    by_cases own : d = e
    · subst own
      rw [if_pos (Nat.le_refl _)] at held
      rw [groupHello_announces (s := setQueue l s) here announces]
      obtain ⟨l', taken, longer, holds'⟩ := offered x.frameChannel
      refine ⟨l', taken, longer, holds', ?_⟩
      rw [if_neg (by omega)]
      have queued := offerHold_queued (s := setQueue l s) (e := d) (c := x.frameChannel) (o := false) onLine room held
      rw [taken] at queued
      exact queued
    · have differs : d.val ≠ e.val := fun same => own (Fin.ext same)
      rcases groupHello_cases d (setQueue l s) with same | ⟨y, listed, same⟩
      · refine ⟨l, same, Nat.le_succ_of_le length, holds, ?_⟩
        by_cases before : d.val ≤ e.val
        · rw [if_pos before] at held
          rwa [if_pos (by omega)]
        · rw [if_neg before] at held
          rwa [if_neg (by omega)]
      · have apart : (s.member d).group ≠ (s.member e).group :=
          unique d own (by rw [show s.entry d = some y from listed]; nofun)
        obtain ⟨l', taken, longer, holds'⟩ := offered y.frameChannel
        have queue : (offerHold d y.frameChannel false (setQueue l s)).bus.queue = l' := by rw [taken]; rfl
        refine ⟨l', same.trans taken, longer, holds', ?_⟩
        by_cases before : d.val ≤ e.val
        · rw [if_pos before] at held
          rw [if_pos (by omega), ← queue]
          intro q inside
          rcases mem_offerHold inside with old | group
          · exact held q old
          · rw [group]
            exact fun same => apart (Option.some.inj same)
        · rw [if_neg before] at held
          rw [if_neg (by omega), ← queue]
          obtain ⟨q, inside, frame⟩ := held
          refine ⟨q, offerHold_stays (s := setQueue l s) inside (Nat.le_of_eq (holds q inside)) ?_, frame⟩
          rw [frame]
          exact fun same => apart (Option.some.inj same).symm

/-- The queue of the announced holdings holds at most eight HOLDs. -/
theorem each8_groupHello_holds {s : State} (onLine : s.bus.state = .onLine) (empty : s.bus.queue = []) :
    ∃ groups l, each8 groupHello s = s.withTraffic groups l ∧ l.length ≤ 8 ∧ ∀ q ∈ l, q.frame.code = 4 := by
  refine each8_holds onLine empty fun d u line room holds => ?_
  rcases groupHello_cases d u with same | ⟨x, -, same⟩
  · exact ⟨u.groups, u.bus.queue, same, Nat.le_succ _, holds⟩
  · obtain ⟨l, taken, length, still⟩ := offerHold_holds (d := d) (c := x.frameChannel) (o := false) line room holds
    exact ⟨u.groups, l, same.trans taken, length, still⟩

/-! ## The tripped zones announced (R71) -/

/-- A TRIP beside queued HOLDs leaves them. -/
theorem queueTrip_stays {s : State} {mask : Byte} {c : TripCause} (room : s.bus.queue.length < 12)
    (none : ∀ x ∈ s.bus.queue, isTrip x.frame = false) {q : Queued} (inside : q ∈ s.bus.queue) :
    q ∈ (queueTrip mask c s).bus.queue := by
  unfold queueTrip offerOnly
  split
  next sends =>
    have onLine : s.bus.state = .onLine := by simpa [State.onLine] using (Bool.and_eq_true_iff.mp sends).1
    rw [offer_of_room (by rw [onLine]; rfl) (fun x old => (sameLimit_trip_eq ..).trans (none x old)) room]
    exact (insertByCode_perm _ _).mem_iff.mpr (List.mem_cons_of_mem _ inside)
  · exact inside

/-- What an ON-LINE node with an empty queue queues at another station's HELLO. -/
theorem announced_queue {s : State} (onLine : s.bus.state = .onLine) (empty : s.bus.queue = []) :
    (∀ e x, s.entry e = some x → x.announces →
      (∀ d, d ≠ e → s.entry d ≠ none → (s.member d).group ≠ (s.member e).group) →
      ∃ q ∈ (zonesHello (each8 groupHello s)).bus.queue, q.frame = .hold (s.member e).group x.frameChannel false) ∧
    ∀ z, (s.zone z).tripped = true → ∃ q ∈ (zonesHello (each8 groupHello s)).bus.queue,
      ∃ m, q.frame = .trip m .reassert ∧ maskBit m z = true := by
  obtain ⟨groups, l, reached, length, holds⟩ := each8_groupHello_holds onLine empty
  have none : ∀ q ∈ l, isTrip q.frame = false := fun q inside => by
    have code := holds q inside
    cases frame : q.frame <;> simp [frame, Frame.code] at code
    rfl
  refine ⟨fun e x here announces unique => ?_, fun z tripped => ?_⟩
  · obtain ⟨q, inside, frame⟩ := each8_groupHello onLine empty here announces unique
    rw [reached] at inside ⊢
    exact ⟨q, queueTrip_stays (s := s.withTraffic groups l) (Nat.lt_of_le_of_lt length (by decide)) none inside, frame⟩
  · have named : maskBit (zonesWhere Zone.tripped (s.withTraffic groups l)) z = true :=
      (maskBit_maskOf _ z).trans ((Eight.get_of _ z).trans tripped)
    obtain ⟨q, inside, frame, -⟩ := queueTrip_queued (a := s.withTraffic groups l) (c := .reassert)
      (mask := zonesWhere Zone.tripped (s.withTraffic groups l)) onLine (Nat.lt_of_le_of_lt length (by decide)) none
      (fun zero => by
        rw [zero] at named
        exact nomatch (maskBit_zero z).symm.trans named)
    rw [reached]
    exact ⟨q, inside, _, frame, named⟩

/-! ## What the owners leave -/

/-- The announcements of every block at another station's HELLO (R49, R70, R86). -/
def State.announced (s : State) : State :=
  if s.onLine then pendAll (zonesHello (each8 groupHello s)) else s

theorem announced_kept (s : State) : s.announced.beyondZones = s.beyondZones ∧ s.announced.zones = s.zones ∧
    s.announced.channels = s.channels ∧ s.announced.groups = s.groups ∧ s.announced.bus.score = s.bus.score ∧
    s.announced.faults.peers = s.faults.peers := by
  have each {α : Type} (read : State → α) (same : ∀ e t, read (groupHello e t) = read t) :
      read (each8 groupHello s) = read s := each8_keeps read groupHello same s
  unfold State.announced
  split
  · refine ⟨?_, ?_, ?_, ?_, ?_, ?_⟩
    · rw [← each State.beyondZones fun e t => by simp [State.beyondZones]]
      simp [State.beyondZones]
    · rw [← each State.zones fun e t => by simp]
      simp
    · rw [← each State.channels fun e t => by simp]
      simp
    · rw [← each State.groups fun e t => by simp]
      simp
    · rw [← each (fun t => t.bus.score) fun e t => by simp]
      simp
    · rw [← each (fun t => t.faults.peers) fun e t => by simp]
      simp
  · exact ⟨rfl, rfl, rfl, rfl, rfl, rfl⟩

theorem announced_offLine {s : State} (offLine : s.bus.state ≠ .onLine) : s.announced = s := by
  rw [State.announced, if_neg (by simpa [State.onLine] using offLine)]

/-- ON-LINE every publication is pending after another station's HELLO (R86). -/
theorem announced_pending {s : State} {k : Nat} {cfg : PublicationConfig} (onLine : s.bus.state = .onLine)
    (listed : s.config.publications[k]? = some cfg) (inside : k < s.pubs.entries.length) :
    (s.announced.pubs.entries.map Publication.waiting)[k]? = some true := by
  have holds : (each8 groupHello s).pubs.entries.length = s.pubs.entries.length :=
    each8_keeps (fun s => s.pubs.entries.length) groupHello (fun d u => by
      rcases groupHello_cases d u with same | ⟨x, -, same⟩
      · rw [same]
      · rw [same]
        exact (offer_pends _ u).length) s
  have trip (u : State) : (zonesHello u).pubs.entries.length = u.pubs.entries.length := by
    unfold zonesHello queueTrip
    split
    · exact (offer_pends _ u).length
    · rfl
  have loader : (zonesHello (each8 groupHello s)).loader = s.loader := by
    rw [(zonesHello_frame _).2.2.1]
    exact each8_keeps State.loader groupHello (fun e t => by simp) s
  rw [State.announced, if_pos (by simp [State.onLine, onLine])]
  refine pendAll_waiting (cfg := cfg) ?_ ?_
  · rw [State.config, loader]
    exact listed
  · rw [trip, holds]
    exact inside

/-! ## The HELLO taken (R49, R70, R86, R113, R114) -/

section
variable {s : State} {token sig : Half} {source : Station}

/-- The command of a heard HELLO: the announcements, the signature, the presence, the frames due. -/
theorem exec_helloHeard (h : s.hears source) :
    exec (.helloTaken (.heard source (Frame.hello token sig).payload)) s = .next
      ((modPeer source (fun p => { p with signature := some sig }) s.afterHearing.announced).concluded source) := by
  have command := (exec_taken (f := .hello token sig) (a := .heard source (Frame.hello token sig).payload)
    ⟨rfl, rfl, rfl, h⟩).2
  rw [State.delivered, if_neg (show ¬ (isOwn (.heard source _) && _) = true from Bool.false_ne_true)] at command
  exact command

theorem helloHeard (h : s.hears source) : ∃ t, exec (.helloTaken (.heard source (Frame.hello token sig).payload)) s = .next t ∧
    t.zones = s.zones ∧ t.points = s.points ∧ t.marks = s.marks ∧ s.sameSurroundings t ∧ s.sameChannels t ∧
    t.bus.score = s.bus.score - 1 ∧ (∀ e x, s.entry e = some x → t.leaves e x) ∧
    (∀ i : Fin 62, ∀ p, s.faults.peers[i.val]? = some p → t.faults.peers[i.val]? = some
      (if i.val = source.val - 1 then { p with present := true, silent := 0, signature := some sig } else p)) ∧
    (s.bus.state = .onLine → DueAfter s.heardGood.announced t ∧
      ∀ i : Fin 16, ∀ cfg, s.config.publications[i.val]? = some cfg → ∀ x, s.pubs.entries[i.val]? = some x →
        t.willSend i cfg) ∧
    (s.bus.state ≠ .onLine → s.staysMuted → t.groups = s.groups ∧ t.bus.queue = s.bus.queue ∧ t.pubs = s.pubs) := by
  have command := exec_helloHeard (token := token) (sig := sig) h
  have received := afterHearing_received h
  obtain ⟨kept, zones, channels, groups, score, peers⟩ := announced_kept s.afterHearing
  generalize told : modPeer source (fun p => { p with signature := some sig }) s.afterHearing.announced = v at *
  have ended := concludes source v
  have after := concluded_after v source
  obtain ⟨sameZones, points, marks, around, lower⟩ := ended.outcome received
    (by rw [← told, ← kept]; rfl) (by rw [← told, ← zones]; rfl) (by rw [← told, ← score]; rfl)
  refine ⟨_, command, sameZones, points, marks, around, fun c => ?_, lower, fun e x here => ?_, fun i p entry => ?_,
    fun onLine => ⟨?_, fun i cfg listed x here => ?_⟩, fun offLine stays => ?_⟩
  · have alike : Alike c s.afterHearing v :=
      alike_of_channels (by rw [← told]; exact kept) (by rw [← told]; exact channels) c
    exact (((received.alike c).trans alike).trans (ended.alike c)).same
  · refine after.leaves e x ((entry_of_groups ?_ e).trans here)
    rw [← told]
    exact groups.trans received.groups
  · rw [ended.peers, refreshPeer, modPeer_get, ← told, modPeer_get, peers, received.peers, entry]
    split <;> rfl
  · rw [← show s.afterHearing = s.heardGood from afterHearing_unmoved h (fun muted => nomatch onLine.symm.trans muted)]
    have same : DueOnly s.afterHearing.announced v := .of_same (by rw [← told]; rfl)
    refine ⟨fun e x here => after.leaves e x (by rw [← told]; exact here), same.trans after.due, ?_⟩
    refine Nat.le_trans (Nat.le_of_eq ?_) after.length
    rw [← told]
    rfl
  · rw [show s.afterHearing = s.heardGood from afterHearing_unmoved h (fun muted => nomatch onLine.symm.trans muted)] at *
    have listed' : (refreshPeer source v).config.publications[i.val]? = some cfg := by
      simp only [State.beyondZones, Prod.mk.injEq] at kept
      rw [← told]
      show s.heardGood.announced.config.publications[i.val]? = _
      rw [State.config, kept.2.2.1]
      exact listed
    refine buildDue_sends (s := refreshPeer source v) listed' ?_
    rw [← told]
    exact announced_pending (s := s.heardGood) onLine listed (List.getElem?_eq_some_iff.mp here).1
  · rw [show s.afterHearing = s.heardGood from afterHearing_unmoved h stays, announced_offLine (s := s.heardGood) offLine]
      at told
    have quiet : v.concluded source = refreshPeer source v := buildDue_of_not_onLine (s := refreshPeer source v) (by
      rw [← told]
      show (s.bus.state == BusState.onLine) = false
      simpa using offLine)
    rw [quiet, ← told]
    exact ⟨rfl, rfl, rfl⟩

end

/-- The own HELLO has left the queue, and the join wait runs (R113). -/
def State.joinWaits (s : State) : State := roomNotice { s with bus := { s.bus with
  attempt := none, queue := s.bus.queue.drop 1, score := s.bus.score - 1, phase := some .joinWait,
  joinTimer := some (s.now + s.holdInterval) } }

/-- An attempt of the queue's head that is taken, with no residue: the head leaves (R95, R101). -/
theorem completeAttempt_head {s : State} {f : Frame} (head : s.bus.queue.head?.map Queued.onLine = some true)
    (empty : ∀ p, residue p f = none) : completeAttempt f s = buildDue (takenNotice f (dispatch true s.loader.station f
      (judgeScore (lowerScore (roomNotice (setBus { s.bus with attempt := none, queue := s.bus.queue.drop 1 } s)))))) := by
  obtain ⟨q, rest, queue, onLine⟩ : ∃ q rest, s.bus.queue = q :: rest ∧ q.onLine = true := by
    cases queue : s.bus.queue with
    | nil => simp [queue] at head
    | cons q rest => exact ⟨q, rest, rfl, by simpa [queue] using head⟩
  have settled : settleTaken f s.bus.queue = rest := by rw [queue, settleTaken, if_pos onLine, empty]
  have shorter : rest.length < s.bus.queue.length := by simp [queue]
  have queued : s.bus.queue.any Queued.onLine = true := by simp [queue, onLine]
  have dropped : s.bus.queue.drop 1 = rest := by rw [queue, List.drop_one, List.tail_cons]
  rw [completeAttempt]
  dsimp only
  rw [settled, if_pos shorter, if_pos queued, dropped]

/-- The own HELLO taken in JOINING: the join wait starts (R113). -/
theorem exec_helloSent {s : State} {token sig : Half} (joining : s.bus.state = .joining)
    (phase : s.bus.phase = some .helloQueued) (low : s.bus.score ≤ 96)
    (attempt : s.bus.attempt = some (.hello token sig)) (head : s.bus.queue.head?.map Queued.onLine = some true) :
    exec (.helloTaken .own) s = .next (refreshPeer s.loader.station
      (modPeer s.loader.station (fun p => { p with signature := some sig }) s.joinWaits)) := by
  have command : exec (.helloTaken .own) s = .next (completeAttempt (.hello token sig) s) := by
    show Host.Outcome.next (takeFrame 10 .own s) = _
    rw [takeFrame, attempt]
    dsimp only
    rw [if_pos (by rfl)]
  rw [command, completeAttempt_head head fun p => by cases p <;> rfl]
  have offLine : s.joinWaits.onLine = false := show (s.bus.state == BusState.onLine) = false by rw [joining]; rfl
  have noticed (u : State) (waits : u.bus.phase = some .helloQueued) :
      takenNotice (.hello token sig) (dispatch true s.loader.station (.hello token sig) u) =
        refreshPeer s.loader.station (modPeer s.loader.station (fun p => { p with signature := some sig })
          (setBus { u.bus with phase := some .joinWait, joinTimer := some (u.now + u.holdInterval) } u)) := by
    have still : (dispatch true s.loader.station (.hello token sig) u).bus.phase = some .helloQueued := waits
    rw [takenNotice, still]
    rfl
  have judged := judgeScore_active_low
    (s := lowerScore (roomNotice (setBus { s.bus with attempt := none, queue := s.bus.queue.drop 1 } s)))
    (.inl joining) (show s.bus.score - 1 < 96 by omega)
  rw [judged, noticed (lowerScore (roomNotice (setBus { s.bus with attempt := none, queue := s.bus.queue.drop 1 } s)))
    phase]
  exact congrArg Host.Outcome.next (buildDue_of_not_onLine (s := refreshPeer s.loader.station
    (modPeer s.loader.station (fun p => { p with signature := some sig }) s.joinWaits)) offLine)

/-- Settles O25: the announcements are queued before the frames due, which leave them. -/
theorem hellosTaken : Obligations.HellosTaken := by
  rintro s token sig source _ rfl
  refine ⟨fun hears => ?_, fun running joining phase low attempt head => ?_⟩
  · obtain ⟨t, command, zones, points, marks, around, channels, score, entries, peers, onLine, offLine⟩ :=
      helloHeard (token := token) (sig := sig) hears
    refine ⟨t, command, zones, points, marks, around, channels, score, entries, peers, fun line empty => ?_,
      fun line => (onLine line).2, offLine⟩
    have after := (onLine line).1
    have told : s.heardGood.announced.bus = (zonesHello (each8 groupHello s.heardGood)).bus := by
      rw [State.announced, if_pos (show s.heardGood.onLine = true by rw [State.onLine, show s.heardGood.bus.state = _ from line]; rfl)]
      simp
    obtain ⟨holds, trips⟩ := announced_queue (s := s.heardGood) line empty
    rw [← told] at holds trips
    refine ⟨fun e x here announces unique => ?_, fun z tripped => ?_⟩
    · obtain ⟨q, inside, frame⟩ := holds e x here announces unique
      exact ⟨q, after.due.stays q inside (by simp [frame, Frame.code]), frame⟩
    · obtain ⟨q, inside, m, frame, named⟩ := trips z tripped
      exact ⟨q, after.due.stays q inside (by simp [frame, Frame.code]), m, frame, named⟩
  · refine ⟨_, exec_helloSent joining phase low attempt head, joining, rfl, rfl, rfl, rfl, rfl, rfl, rfl, rfl, rfl,
      ⟨rfl, rfl, rfl, rfl, rfl, rfl, rfl, rfl⟩, fun c => ⟨rfl, rfl⟩, fun _ i p entry => ?_⟩
    rw [refreshPeer, modPeer_get, modPeer_get, show s.joinWaits.faults.peers[i.val]? = some p from entry]
    split <;> rfl

end Sys2Proof.Machine
end

section
/-! PROOFS. An own CLAIM that is taken beside a waiting channel of a FREE entry (O19). -/

namespace Sys2Proof.Machine

open Sys2Proof

/-- The own CLAIM of group 0 as its attempt has it in the queue. -/
def claimOnLine : Queued := { frame := .claim 0 0, age := 0, retries := 0, onLine := true }

/-- ON-LINE, an own CLAIM is on the line whose entry is FREE, with the channel still waiting: no run leaves a CLAIM
queued at a FREE entry (R32, R34), but the statement asks no such thing of its state. -/
def strayClaim : State := { State.reset with
  held := false, loader := { State.reset.loader with nodeState := .running },
  groups := [{ Entry.start with state := .free, requests := [0] }],
  bus := { State.reset.bus with state := .onLine, attempt := some (.claim 0 0), queue := [claimOnLine] } }

/-- Where no entry is CLAIMING, no entry has a use for an own CLAIM (log entry 15). -/
theorem onGroup_ownClaim_unused (g : Fin 128) {s : State} (none : ∀ x ∈ s.groups, x.state ≠ .claiming) :
    onGroup g ownClaim s = s := by
  have unused (e : Fin 8) : ownClaim e s = s := by
    unfold ownClaim
    cases here : s.entry e with
    | none => rfl
    | some x => exact if_neg (by simpa using none x (List.mem_of_getElem? here))
  refine each8_relates (R := fun a b => a = s → b = s) (fun _ => id) (fun first next => next ∘ first)
    (fun e u same => ?_) s rfl
  rw [same]
  split
  · exact unused e
  · rfl

/-- The node when the frames due are built: the CLAIM has left the queue, and its entry is FREE as before. -/
def strayClaimTaken : State := refreshPeer 0 (roomNotice (strayClaim.settledQueue (.claim 0 0)))

theorem strayClaim_taken : exec (.claimTaken .own) strayClaim = .next (buildDue strayClaimTaken) := by
  have sends : strayClaim.sends (.claim 0 0) := ⟨rfl, rfl, rfl, by decide⟩
  have command : exec (.claimTaken .own) strayClaim =
      .next ((atOwner true 0 (.claim 0 0) (strayClaim.afterSending (.claim 0 0))).concluded 0) :=
    exec_concluded (f := .claim 0 0) (a := .own) ⟨sends, rfl⟩ fun _ => rfl
  have settled : strayClaim.afterSending (.claim 0 0) = roomNotice (strayClaim.settledQueue (.claim 0 0)) :=
    (afterSending_unmoved sends).trans (if_pos (by decide))
  have owner : atOwner true 0 (.claim 0 0) (roomNotice (strayClaim.settledQueue (.claim 0 0))) =
      onGroup 0 ownClaim (roomNotice (strayClaim.settledQueue (.claim 0 0))) := rfl
  rw [command, settled, owner, onGroup_ownClaim_unused 0 (by decide)]
  rfl

/-- Refutes O19: the channel still waits, so a second CLAIM of the same content is due in the same event (R32). -/
theorem not_frameOffer : ¬ Obligations.FrameOffer := by
  intro holds
  obtain ⟨t, command, -, -, -, -, unedited, -⟩ := holds.2 strayClaim (.claim 0 0) [] [] claimOnLine
    ⟨rfl, rfl, rfl, by decide⟩ rfl rfl (by simp) (by decide)
  obtain ⟨-, q, inside, frame⟩ := buildDue_claims (v := strayClaimTaken)
    (e := 0) (h := 0) rfl rfl rfl rfl rfl (by decide) (by decide) (by decide)
  have same : t = buildDue strayClaimTaken := Host.Outcome.next.inj (command.symm.trans strayClaim_taken)
  rw [← same] at inside
  rcases (unedited rfl).1 q inside frame with old | ⟨code, -⟩
  · exact nomatch old
  · exact absurd code (by decide)

end Sys2Proof.Machine
end

section
/-! PROOFS. RUNNING entry: what each step leaves alone, and the causes that reach the channels (O45). -/

namespace Sys2Proof.Machine

open Sys2Proof

/-! ## What no first value reaches -/

/-- From s to t, RUNNING entry went on: of the node beside the zones, the entries, the fault list and the peers
nothing changed, and publications only became pending. -/
structure Starts (s t : State) : Prop where
  kept : t.beyondZones = s.beyondZones
  groups : t.groups = s.groups
  list : t.faults.list = s.faults.list
  overrun : t.faults.overrun = s.faults.overrun
  peers : t.faults.peers = s.faults.peers
  pends : PendsOnly s t

namespace Starts

variable {s t u : State}

theorem refl (s : State) : Starts s s := ⟨rfl, rfl, rfl, rfl, rfl, .refl s⟩

theorem trans (h : Starts s t) (k : Starts t u) : Starts s u :=
  ⟨k.kept.trans h.kept, k.groups.trans h.groups, k.list.trans h.list, k.overrun.trans h.overrun,
    k.peers.trans h.peers, h.pends.trans k.pends⟩

theorem each8 {f : Fin 8 → State → State} (step : ∀ n s, Starts s (f n s)) (s : State) : Starts s (each8 f s) :=
  each8_relates refl trans step s

theorem forceCause (k : Cause) (c : Fin 8) (s : State) : Starts s (forceCause k c s) :=
  ⟨by simp [State.beyondZones], by simp, by simp, by simp, by simp, .of_moves (.forceCause k .refl)⟩

theorem evaluate (c : Fin 8) (s : State) : Starts s (evaluate c s) :=
  ⟨by simp [State.beyondZones], by simp, by simp, by simp, by simp, .of_moves (.evaluate .refl)⟩

theorem trackErr {f : State → State} (step : Starts s (f s)) : Starts s (trackErr f s) := by
  have pend (v : State) : Starts v (pendSource .nodeError v) := ⟨rfl, rfl, rfl, rfl, rfl, .pendSource _ v⟩
  unfold Machine.trackErr
  dsimp only
  split
  · exact step
  · exact step.trans (pend _)

theorem occurrence (k : FaultKind) (c : Fin 8) (s : State) : Starts s (occurrence k c s) := by
  have counted : Starts s (Machine.trackErr (setRecord c ((s.faultRec c).occur k s.marks.number)) s) :=
    trackErr ⟨rfl, rfl, rfl, rfl, rfl, .of_same rfl⟩
  unfold Machine.occurrence
  dsimp only
  split
  · exact counted.trans (forceCause .fault c _)
  · exact counted

theorem forceTrip (z : Fin 8) (s : State) : Starts s (forceTrip z s) :=
  each8 (fun c u => by
    split
    · exact forceCause .trip c u
    · exact refl u) s

theorem tripZone (z : Fin 8) (n : Station) (k : TripCause) (s : State) : Starts s (tripZone z n k s) := by
  have set (x : Zone) : Starts s (setZone z x s) := ⟨rfl, rfl, rfl, rfl, rfl, .of_same rfl⟩
  have told (x : Zone) : Starts s (setZoneChange (setZone z x s)) := ⟨rfl, rfl, rfl, rfl, rfl, .of_same rfl⟩
  unfold Machine.tripZone
  dsimp only
  split
  · exact set _
  · exact (told _).trans (forceTrip z _)

theorem startOccurrences (s : State) : Starts s (startOccurrences s) := by
  have go (live : Bool) (k : FaultKind) (c : Fin 8) (u : State) :
      Starts u (if live then Machine.occurrence k c u else u) := by
    split
    · exact occurrence k c u
    · exact refl u
  exact each8 (fun c u => ((((go _ _ c u).trans (go _ _ c _)).trans (go _ _ c _)).trans (go _ _ c _)).trans
    (go _ _ c _)) s

/-- The entry to JOINING with an empty queue. -/
theorem enterJoining (empty : s.bus.queue = []) : Starts s (enterJoining s) := by
  have rejoins : Starts s s.rejoining := by
    refine ⟨by simp [State.rejoining, State.beyondZones, setFlagLive_host], by simp [State.rejoining], ?_, ?_, ?_,
      ((PendsOnly.of_same rfl : PendsOnly s (setFaultBlocked false
        (setBus { s.bus with state := .joining, gapSeen := false, offLineTimer := none } s)))).trans
        (setFlagLive_pends .busDegraded false _)⟩ <;> rw [State.rejoining, (setFlagLive_false_faults _ _).1] <;> rfl
  have bus : s.rejoining.bus = { s.bus with state := .joining, gapSeen := false, offLineTimer := none } := by
    simp [State.rejoining]
  rw [show Machine.enterJoining s = offerHello s.rejoining from rfl,
    offerHello_empty (by rw [bus]) (by rw [bus]; exact empty)]
  exact rejoins.trans ⟨rfl, rfl, rfl, rfl, rfl, .of_same rfl⟩

/-- Where every publication is pending as RUNNING entry leaves it, it stays so. -/
theorem publications (h : Starts s t) (start : ∀ x ∈ s.pubs.entries, x = Publication.start) :
    ∀ x ∈ t.pubs.entries, x = Publication.start := by
  intro x inside
  obtain ⟨i, here⟩ := List.getElem?_of_mem inside
  obtain ⟨e, there⟩ : ∃ e, s.pubs.entries[i]? = some e :=
    ⟨_, List.getElem?_eq_getElem (h.pends.length ▸ (List.getElem?_eq_some_iff.mp here).1)⟩
  obtain ⟨e', here', pends⟩ := h.pends.entry i e there
  obtain rfl : e' = x := Option.some.inj (here'.symm.trans here)
  obtain rfl := start e (List.mem_of_getElem? there)
  exact pends.elim id id

end Starts

/-! ## A channel before its first demand (R2, R19) -/

/-- Channel c has these causes, and has done nothing but go to LOCKED for the first of them. -/
structure Primed (c : Fin 8) (causes : CauseSet) (s : State) : Prop where
  caused : (s.chan c).causes = causes
  state : (s.chan c).state = if causes = CauseSet.empty then .off else .locked
  demand : (s.chan c).demand = false
  rearm : (s.chan c).rearm = false
  handBack : (s.chan c).handBack = false
  sent : s.sentBy c = []

namespace Primed

variable {c : Fin 8} {causes : CauseSet} {s t : State}

theorem same (h : Primed c causes s) (k : s.sameChannel t c) : Primed c causes t := by
  obtain ⟨chan, sent⟩ := k
  exact ⟨by rw [chan, h.caused], by rw [chan, h.state], by rw [chan, h.demand], by rw [chan, h.rearm],
    by rw [chan, h.handBack], by rw [sent, h.sent]⟩

theorem forced {k : Cause} (h : Primed c causes s) (f : s.forced t k c) : Primed c (causes.put k true) t := by
  unfold State.forced at f
  dsimp only at f
  rw [h.caused] at f
  split at f
  next has =>
    have already : causes.put k true = causes := by cases k <;> cases causes <;> simp_all [CauseSet.has, CauseSet.put]
    rw [already]
    exact h.same f
  next =>
    obtain ⟨put, demand, rearm, handBack, -, state, -, sent⟩ := f
    have some_cause : causes.put k true ≠ CauseSet.empty := by cases k <;> simp [CauseSet.put, CauseSet.empty]
    refine ⟨put, ?_, by rw [demand, h.demand], by rw [rearm, h.rearm], by rw [handBack, h.handBack], ?_⟩
    · rw [state, h.state, if_neg some_cause]
      by_cases none : causes = CauseSet.empty
      · rw [if_pos none]
      · rw [if_neg none]
    · rw [sent, h.sent, h.state]
      by_cases none : causes = CauseSet.empty
      · rw [if_pos none]
        rfl
      · rw [if_neg none]
        rfl

theorem force (k : Cause) (h : Primed c causes s) : Primed c (causes.put k true) (forceCause k c s) :=
  h.forced (forceCause_forced k c s)

end Primed

/-! ## The first levels (R61, R62, R75) -/

theorem tripZone_records (z : Fin 8) (n : Station) (k : TripCause) (s : State) :
    (tripZone z n k s).faults.records = s.faults.records := by
  have force (u : State) : (forceTrip z u).faults.records = u.faults.records :=
    each8_keeps (fun s => s.faults.records) _ (fun c v => by
      split
      · exact congrArg FaultTable.records (forceCause_faults .trip c v)
      · rfl) u
  unfold tripZone
  dsimp only
  split
  · rfl
  · rw [force]
    rfl

theorem removeFromClear_empty {z : Fin 8} {s : State} (empty : s.bus.queue = []) : removeFromClear z s = s := by
  have edited : editFrames (withoutZoneClear z) s = s := by
    rw [editFrames, empty]
    show { s with bus := { s.bus with queue := [] } } = s
    rw [← empty]
  have none : s.queues emptyClear = false := by
    rw [State.queues, empty]
    rfl
  rw [removeFromClear, edited, withdrawFrames, none]
  rfl

/-- Off the bus a trip input trips its zone and does nothing else. -/
theorem tripInputActive_quiet {z : Fin 8} {s : State} (offLine : s.onLine = false) (empty : s.bus.queue = []) :
    tripInputActive z s =
      tripZone z s.loader.station .input (setZone z { s.zone z with localActive := true } s) := by
  have bus : (tripZone z s.loader.station .input (setZone z { s.zone z with localActive := true } s)).bus = s.bus := by
    rw [(tripZone_frame _ _ _ _).2.2.2.2.2.2.2.1]
    rfl
  have none : (tripZone z s.loader.station .input (setZone z { s.zone z with localActive := true } s)).onLine = false := by
    rw [State.onLine, bus]
    exact offLine
  rw [tripInputActive]
  dsimp only
  rw [queueTrip, none]
  exact removeFromClear_empty (by rw [← empty, ← bus]; rfl)

/-- The cause set of channel c where TRIP alone has reached it: its zone is tripped. -/
def State.tripAlone (s : State) (x : ChannelConfig) : CauseSet :=
  { trip := x.enabled && (match x.zone with | some z => (s.zone z).tripped | none => false),
    shutdown := false, fault := false }

/-- From s, RUNNING entry has handed on the first levels of the inputs below n, in u. -/
structure FirstLevels (img : Image) (s : State) (n : Nat) (u : State) : Prop where
  starts : Starts (takeImage img s) u
  bus : u.bus = Bus.reset s.bus.joinCounter
  records : u.faults.records = s.faults.records
  tripped : ∀ z, (u.zone z).tripped = (u.zone z).localActive
  zones : ∀ z, (u.zone z).tripped = true ↔ ∃ m : Fin 8, m.val < n ∧ (img.inputs.get m).role = .trip z ∧
    (s.inputs.get m).pin = (img.inputs.get m).activeHigh
  channels : ∀ c, Primed c (u.tripAlone (img.channels.get c)) u

namespace FirstLevels

variable {img : Image} {s u : State}

theorem start (img : Image) (s : State) : FirstLevels img s 0 (takeImage img s) := by
  have clear (z : Fin 8) : (takeImage img s).zone z = Zone.start := Eight.get_all _ z
  refine ⟨.refl _, rfl, rfl, fun z => by rw [clear]; rfl, fun z => by rw [clear]; simp [Zone.start], fun c => ?_⟩
  have none : (takeImage img s).tripAlone (img.channels.get c) = CauseSet.empty := by
    rw [State.tripAlone]
    simp only [clear]
    cases (img.channels.get c).zone <;> simp [Zone.start, CauseSet.empty]
  have chan : (takeImage img s).chan c = Channel.start := Eight.get_all _ c
  rw [none]
  exact ⟨by rw [chan]; rfl, by rw [chan]; rfl, by rw [chan]; rfl, by rw [chan]; rfl, by rw [chan]; rfl, rfl⟩

theorem config {n : Nat} (h : FirstLevels img s n u) : u.config = img := by
  have kept := h.starts.kept
  simp only [State.beyondZones, Prod.mk.injEq] at kept
  obtain ⟨-, -, loader, -⟩ := kept
  rw [State.config, loader]
  rfl

theorem offLine {n : Nat} (h : FirstLevels img s n u) : u.onLine = false := by
  rw [State.onLine, h.bus]
  rfl

/-- A first level on a trip input that is active trips its zone. -/
theorem trips {n : Fin 8} {z : Fin 8} (h : FirstLevels img s n.val u) (role : (img.inputs.get n).role = .trip z)
    (active : (s.inputs.get n).pin = (img.inputs.get n).activeHigh) :
    FirstLevels img s (n.val + 1) (tripInputActive z u) := by
  rw [tripInputActive_quiet h.offLine (by rw [h.bus]; rfl)]
  have set : Starts u (setZone z { u.zone z with localActive := true } u) := ⟨rfl, rfl, rfl, rfl, rfl, .of_same rfl⟩
  have was : (setZone z { u.zone z with localActive := true } u).zone z = { u.zone z with localActive := true } :=
    Eight.get_set_same _ z _
  have beside (y : Fin 8) (other : y ≠ z) : (setZone z { u.zone z with localActive := true } u).zone y = u.zone y :=
    Eight.get_set_other _ z y _ other
  have turned := tripZone_turned z u.loader.station .input (setZone z { u.zone z with localActive := true } u)
  have starts := Starts.tripZone z u.loader.station .input (setZone z { u.zone z with localActive := true } u)
  have records := tripZone_records z u.loader.station .input (setZone z { u.zone z with localActive := true } u)
  have bus := (tripZone_frame z u.loader.station .input (setZone z { u.zone z with localActive := true } u)).2.2.2.2.2.2.2.1
  have same (c : Fin 8) : u.sameChannel (setZone z { u.zone z with localActive := true } u) c := ⟨rfl, rfl⟩
  have cfg (c : Fin 8) : (setZone z { u.zone z with localActive := true } u).cfg c = img.channels.get c :=
    congrArg (fun x : Image => x.channels.get c) h.config
  have same_bus : (setZone z { u.zone z with localActive := true } u).bus = u.bus := rfl
  have same_faults : (setZone z { u.zone z with localActive := true } u).faults = u.faults := rfl
  generalize setZone z { u.zone z with localActive := true } u = v at *
  generalize tripZone z u.loader.station .input v = t at *
  have other (y : Fin 8) (apart : y ≠ z) : t.zone y = u.zone y := (turned.beside.zone y apart).trans (beside y apart)
  have rises : (t.zone z).tripped = true := by rw [turned.zone]
  refine ⟨h.starts.trans (set.trans starts), by rw [bus, same_bus, h.bus], by rw [records, same_faults, h.records], fun y => ?_, fun y => ?_, fun c => ?_⟩
  · by_cases own : y = z
    · subst own
      rw [turned.zone, was]
    · rw [other y own]
      exact h.tripped y
  · by_cases own : y = z
    · subst own
      exact ⟨fun _ => ⟨n, Nat.lt_succ_self _, role, active⟩, fun _ => rises⟩
    · rw [other y own, h.zones y]
      refine exists_congr fun m => ⟨fun ⟨before, fact⟩ => ⟨Nat.lt_succ_of_lt before, fact⟩, fun ⟨before, is, fact⟩ => ?_⟩
      refine ⟨Nat.lt_of_le_of_ne (Nat.le_of_lt_succ before) fun same => own ?_, is, fact⟩
      rw [Fin.ext same, role] at is
      exact (InputRole.trip.inj is).symm
  · have primed := (h.channels c).same (same c)
    have forced (zone : (img.channels.get c).zone = some z) : v.turned t (u.zone z).tripped true c := by
      have turn := turned.channel c (by rw [cfg, zone])
      rw [was] at turn
      exact turn
    by_cases zone : (img.channels.get c).zone = some z
    · have turn := forced zone
      rw [State.tripAlone, zone] at primed ⊢
      dsimp only at primed ⊢
      rw [rises]
      unfold State.turned at turn
      rw [cfg] at turn
      cases tripped : (u.zone z).tripped <;> cases enabled : (img.channels.get c).enabled <;>
        simp only [tripped, enabled] at primed turn
      · exact primed.same turn
      · exact primed.forced turn
      · exact primed.same turn
      · exact primed.same turn
    · have stays : t.tripAlone (img.channels.get c) = u.tripAlone (img.channels.get c) := by
        unfold State.tripAlone
        cases here : (img.channels.get c).zone with
        | none => rfl
        | some y =>
          have apart : y ≠ z := fun same => zone (by rw [here, same])
          simp only [other y apart]
      rw [stays]
      refine primed.same (turned.beside.channel c fun y here same => zone ?_)
      rw [← cfg, here, same]

/-- An input that trips no zone leaves all as it is. -/
theorem skips {n : Fin 8} (h : FirstLevels img s n.val u)
    (quiet : ∀ z, (img.inputs.get n).role = .trip z → (s.inputs.get n).pin ≠ (img.inputs.get n).activeHigh) :
    FirstLevels img s (n.val + 1) u := by
  refine { h with zones := fun z => (h.zones z).trans (exists_congr fun m =>
    ⟨fun ⟨before, fact⟩ => ⟨Nat.lt_succ_of_lt before, fact⟩, fun ⟨before, role, active⟩ => ?_⟩) }
  refine ⟨Nat.lt_of_le_of_ne (Nat.le_of_lt_succ before) fun same => ?_, role, active⟩
  obtain rfl := Fin.ext same
  exact quiet z role active

theorem senseOn {k : Nat} (h : FirstLevels img s k u) (n : Fin 8) : u.senseOn n =
    ((if (img.inputs.get n).role = .unused then !(img.inputs.get n).activeHigh else (s.inputs.get n).pin) ==
      (img.inputs.get n).activeHigh) := by
  have kept := h.starts.kept
  simp only [State.beyondZones, Prod.mk.injEq] at kept
  obtain ⟨-, -, -, -, inputs, -⟩ := kept
  rw [State.senseOn, inputs, h.config, takeImage, Eight.get_of, firstLevel]
  simp only [beq_iff_eq]

theorem step {n : Fin 8} (h : FirstLevels img s n.val u) : FirstLevels img s (n.val + 1) (firstInputToZones n u) := by
  have on := h.senseOn n
  rw [firstInputToZones]
  cases role : (img.inputs.get n).role with
  | unused =>
    rw [role, if_pos rfl] at on
    rw [on, if_neg (by simp)]
    exact h.skips fun z trips => nomatch role.symm.trans trips
  | trip z =>
    rw [role, if_neg nofun] at on
    split
    next sensed =>
      rw [on] at sensed
      rw [inputToZones, h.config, role]
      dsimp only
      rw [on, sensed]
      exact h.trips role (eq_of_beq sensed)
    next silent =>
      rw [on] at silent
      exact h.skips fun _ _ active => silent (by simp [active])
  | clear mask =>
    have quiet : inputToZones n u = u := by
      rw [inputToZones, h.config, role]
      dsimp only
      rw [queueClear, h.offLine, Bool.false_and, if_neg Bool.false_ne_true, ite_self]
    rw [quiet, ite_self]
    exact h.skips fun z trips => nomatch role.symm.trans trips
  | publish =>
    have quiet : inputToZones n u = u := by rw [inputToZones, h.config, role]
    rw [quiet, ite_self]
    exact h.skips fun z trips => nomatch role.symm.trans trips

/-- Every first level handed on. -/
theorem all (img : Image) (s : State) : FirstLevels img s 8 (each8 firstInputToZones (takeImage img s)) :=
  each8_counted (fun _ _ h => h.step) (start img s)

end FirstLevels

/-! ## SHUTDOWN (R72) -/

/-- From s, RUNNING entry has handed on the first levels and the SHUTDOWN field, in u. -/
structure FirstCauses (img : Image) (s u : State) : Prop where
  starts : Starts (takeImage img s) u
  bus : u.bus = Bus.reset s.bus.joinCounter
  records : u.faults.records = s.faults.records
  tripped : ∀ z, (u.zone z).tripped = (u.zone z).localActive
  zones : ∀ z, (u.zone z).tripped = true ↔ ∃ m : Fin 8, (img.inputs.get m).role = .trip z ∧
    (s.inputs.get m).pin = (img.inputs.get m).activeHigh
  channels : ∀ c, Primed c { u.tripAlone (img.channels.get c) with shutdown := s.zones.shutdown } u

theorem firstCauses (img : Image) (s : State) : FirstCauses img s (s.firstInputs img) := by
  have levels := FirstLevels.all img s
  have shutdown : (each8 firstInputToZones (takeImage img s)).zones.shutdown = s.zones.shutdown := by
    have kept := levels.starts.kept
    simp only [State.beyondZones, Prod.mk.injEq] at kept
    exact kept.2.2.2.2.2.2.2.2.2.1
  rw [State.firstInputs]
  generalize each8 firstInputToZones (takeImage img s) = u at *
  have zones (z : Fin 8) : (u.zone z).tripped = true ↔ ∃ m : Fin 8, (img.inputs.get m).role = .trip z ∧
      (s.inputs.get m).pin = (img.inputs.get m).activeHigh :=
    (levels.zones z).trans (exists_congr fun m => and_iff_right m.isLt)
  split
  next on =>
    have causes (t : State) (k : t.zones = u.zones) (c : Fin 8) :
        t.tripAlone (img.channels.get c) = u.tripAlone (img.channels.get c) := by
      simp only [State.tripAlone, State.zone, k]
    have same_zones : (forceShutdown u).zones = u.zones := each8_keeps State.zones _ (fun c v => by simp) u
    have same_zone (z : Fin 8) : (forceShutdown u).zone z = u.zone z := by simp only [State.zone, same_zones]
    refine ⟨levels.starts.trans (.each8 (Starts.forceCause .shutdown) u), ?_, ?_, fun z => ?_, fun z => ?_, fun c => ?_⟩
    · exact (each8_keeps State.bus _ (fun c v => by simp) u).trans levels.bus
    · exact (each8_keeps (fun t => t.faults.records) _ (fun c v => congrArg FaultTable.records (forceCause_faults .shutdown c v)) u).trans levels.records
    · rw [same_zone]
      exact levels.tripped z
    · rw [same_zone]
      exact zones z
    · have forced := (levels.channels c).force .shutdown
      have part : Alike c (forceCause .shutdown c u) (forceShutdown u) :=
        each8_alike _ c (fun _ _ h => h.forceCause .shutdown) (fun d h v => by constructor <;> simp [h]) u
      rw [causes _ same_zones, ← shutdown, on]
      exact forced.same ⟨part.chan, part.sent⟩
  next off =>
    have none : s.zones.shutdown = false := by rw [← shutdown]; simpa using off
    exact ⟨levels.starts, levels.bus, levels.records, levels.tripped, zones, fun c => none ▸ levels.channels c⟩

end Sys2Proof.Machine
end

section
/-! PROOFS. RUNNING entry: the occurrences of the kinds that are live, and the first demand (O45). -/

namespace Sys2Proof.Machine

open Sys2Proof

/-! ## The records (R144, R146) -/

section
variable {r r' : FaultRecord} {ks : List PowerKind} {k : PowerKind}

/-- A power kind that is live and becomes sticky. -/
def FaultRecord.newAt (r : FaultRecord) (k : PowerKind) : Bool :=
  (r.kinds.get k.kind).live && !(r.kinds.get k.kind).sticky

/-- From the record r, each of the kinds listed that is live has had one occurrence, with mark 0, in r'. -/
structure Occurred (r : FaultRecord) (ks : List PowerKind) (r' : FaultRecord) : Prop where
  kinds : ∀ k : PowerKind, r'.kinds.get k.kind =
    if k ∈ ks ∧ (r.kinds.get k.kind).live = true then
      { live := true, sticky := true, count := min 255 ((r.kinds.get k.kind).count + 1),
        firstMark := if r.newAt k = true then some 0 else (r.kinds.get k.kind).firstMark }
    else r.kinds.get k.kind
  own : r'.kinds.failOn = r.kinds.failOn ∧ r'.kinds.stuckOn = r.kinds.stuckOn
  newest : r'.newest = if ks.any r.newAt = true then some 0 else r.newest
  waiting : r'.waiting = (r.waiting || ks.any r.newAt)

theorem PowerKind.kind_inj {k j : PowerKind} : j.kind = k.kind ↔ j = k := by
  cases k <;> cases j <;> simp [PowerKind.kind]

theorem Occurred.nil (r : FaultRecord) : Occurred r [] r := ⟨fun _ => by simp, ⟨rfl, rfl⟩, by simp, by simp⟩

theorem FaultRecord.occur_own (r : FaultRecord) (k : PowerKind) (m : Half) :
    (r.occur k.kind m).kinds.failOn = r.kinds.failOn ∧ (r.occur k.kind m).kinds.stuckOn = r.kinds.stuckOn := by
  cases k <;> exact ⟨rfl, rfl⟩

/-- The next kind of the list. -/
theorem Occurred.next (h : Occurred r ks r') (fresh : k ∉ ks) :
    Occurred r (ks ++ [k]) (if (r.kinds.get k.kind).live then r'.occur k.kind 0 else r') := by
  have was : r'.kinds.get k.kind = r.kinds.get k.kind := by rw [h.kinds, if_neg fun inside => fresh inside.1]
  have more : (ks ++ [k]).any r.newAt = (ks.any r.newAt || r.newAt k) := by simp
  have others (j : PowerKind) (other : j ≠ k) : j ∈ ks ↔ j ∈ ks ++ [k] := by simp [other]
  have first : k ∈ ks ++ [k] := by simp
  cases live : (r.kinds.get k.kind).live
  · have old : r.newAt k = false := by simp [FaultRecord.newAt, live]
    rw [if_neg Bool.false_ne_true]
    refine ⟨fun j => ?_, h.own, by rw [more, old, Bool.or_false, h.newest], by rw [more, old, Bool.or_false, h.waiting]⟩
    by_cases same : j = k
    · subst same
      rw [was, live, if_neg fun x => nomatch x.2]
    · exact (h.kinds j).trans (if_congr (and_congr_left' (others j same)) rfl rfl)
  · have new : r.newAt k = !(r.kinds.get k.kind).sticky := by simp [FaultRecord.newAt, live]
    have own := r'.occur_own k 0
    rw [if_pos rfl]
    refine ⟨fun j => ?_, ⟨own.1.trans h.own.1, own.2.trans h.own.2⟩, ?_, ?_⟩
    · by_cases same : j = k
      · subst same
        rw [if_pos ⟨first, live⟩, FaultRecord.occur, was, new]
        simp only [PerKind.get_set_same, live]
        cases (r.kinds.get j.kind).sticky <;> rfl
      · rw [FaultRecord.occur]
        dsimp only
        rw [PerKind.get_set, if_neg fun x => same (PowerKind.kind_inj.mp x)]
        exact (h.kinds j).trans (if_congr (and_congr_left' (others j same)) rfl rfl)
    · rw [more, new, FaultRecord.occur, was]
      dsimp only
      rw [h.newest]
      cases (r.kinds.get k.kind).sticky <;> cases ks.any r.newAt <;> rfl
    · rw [more, new, FaultRecord.occur, was]
      dsimp only
      rw [h.waiting, Bool.or_assoc]

end

/-! ## The causes (R19, R144) -/

section
variable {img : Image} {c : Fin 8} {r : FaultRecord} {causes : CauseSet} {ks : List PowerKind} {u : State}

/-- A power kind that is live on a record and in the latch mask. -/
def FaultRecord.latched (r : FaultRecord) (x : ChannelConfig) (k : PowerKind) : Bool :=
  (r.kinds.get k.kind).live && x.latchMask.get k

/-- Under the image, channel c has had the occurrences of the kinds listed from the record r, with FAULT forced for
those that latch. -/
structure Latched (img : Image) (c : Fin 8) (r : FaultRecord) (causes : CauseSet) (ks : List PowerKind) (u : State) :
    Prop where
  config : u.config = img
  number : u.marks.number = 0
  record : Occurred r ks (u.faultRec c)
  primed : Primed c { causes with fault := ks.any (r.latched (img.channels.get c)) } u

theorem occurrence_record (k : FaultKind) (c : Fin 8) (s : State) :
    (occurrence k c s).faultRec c = (s.faultRec c).occur k s.marks.number := by
  have counted : (trackErr (setRecord c ((s.faultRec c).occur k s.marks.number)) s).faultRec c =
      (s.faultRec c).occur k s.marks.number := by
    unfold trackErr
    dsimp only
    split <;> simp [State.faultRec, setRecord]
  unfold occurrence
  dsimp only
  split
  · rw [State.faultRec, forceCause_faults]
    exact counted
  · exact counted

theorem occurrence_primed {k : FaultKind} (h : Primed c causes u) : Primed c
    { causes with fault := causes.fault || latches (u.cfg c).latchMask k } (occurrence k c u) := by
  have counted : u.sameChannel (trackErr (setRecord c ((u.faultRec c).occur k u.marks.number)) u) c := by
    unfold trackErr
    dsimp only
    split <;> exact ⟨rfl, rfl⟩
  have primed := h.same counted
  unfold occurrence
  dsimp only
  split
  next on =>
    rw [on, Bool.or_true]
    exact primed.force .fault
  next off =>
    rw [Bool.eq_false_iff.mpr off, Bool.or_false]
    exact primed

theorem Latched.next {k : PowerKind} (h : Latched img c r causes ks u) (fresh : k ∉ ks) :
    Latched img c r causes (ks ++ [k]) (if r.live.get k.kind then occurrence k.kind c u else u) := by
  have record := h.record.next fresh
  have more : (ks ++ [k]).any (r.latched (img.channels.get c)) =
      (ks.any (r.latched (img.channels.get c)) || r.latched (img.channels.get c) k) := by simp
  have live : r.live.get k.kind = (r.kinds.get k.kind).live := PerKind.get_of _ _
  rw [live]
  split
  next on =>
    rw [if_pos on] at record
    have cfg : u.cfg c = img.channels.get c := congrArg (fun x : Image => x.channels.get c) h.config
    have primed := occurrence_primed (k := k.kind) h.primed
    rw [cfg, latches_kind] at primed
    refine ⟨?_, by simpa using h.number, ?_, ?_⟩
    · rw [State.config, (occurrence_frame k.kind c u).2.2.1]
      exact h.config
    · rw [occurrence_record, h.number]
      exact record
    · rw [more, FaultRecord.latched, on, Bool.true_and]
      exact primed
  next off =>
    rw [if_neg off] at record
    refine ⟨h.config, h.number, record, ?_⟩
    rw [more, FaultRecord.latched, Bool.eq_false_iff.mpr off, Bool.false_and, Bool.or_false]
    exact h.primed

/-- The kinds of the power die in the order that RUNNING entry takes them. -/
def powerKinds : List PowerKind := [.openOff, .shortSupply, .openOn, .overload, .overtemp]

/-- The occurrence of one kind that is live at RUNNING entry. -/
def startKind (c : Fin 8) (live : KindSet) (s : State) (k : PowerKind) : State :=
  if live.get k.kind then occurrence k.kind c s else s

/-- The occurrences of one channel at RUNNING entry. -/
def startKinds (c : Fin 8) (s : State) : State := powerKinds.foldl (startKind c (s.faultRec c).live) s

theorem startOccurrences_eq (s : State) : startOccurrences s = each8 startKinds s := rfl

/-- What the occurrences of a channel read and write of a channel. -/
def State.occurs (c : Fin 8) (s : State) : Loader × MarkTimer × Channel × List ToGroup × FaultRecord :=
  (s.loader, s.marks, s.chan c, s.sentBy c, s.faultRec c)

theorem startKind_other {c d : Fin 8} (other : c ≠ d) (live : KindSet) (s : State) (k : PowerKind) :
    (startKind d live s k).occurs c = s.occurs c := by
  unfold startKind
  split <;> simp [State.occurs, State.faultRec, other]

theorem Latched.occurs {s t : State} (h : Latched img c r causes ks s) (same : t.occurs c = s.occurs c) :
    Latched img c r causes ks t := by
  simp only [State.occurs, Prod.mk.injEq] at same
  obtain ⟨loader, marks, chan, sent, record⟩ := same
  refine ⟨?_, by rw [marks, h.number], by rw [record]; exact h.record, h.primed.same ⟨chan, sent⟩⟩
  rw [State.config, loader]
  exact h.config

theorem startOccurrences_latched (h : Latched img c r causes [] u) (record : u.faultRec c = r) :
    Latched img c r causes powerKinds (startOccurrences u) := by
  obtain ⟨v, same, acted⟩ := each8_focus (State.occurs c) startKinds c (fun d other s => by
    simp only [startKinds, powerKinds, List.foldl, startKind_other (Ne.symm other)]) u
  have start := h.occurs same
  have live : (v.faultRec c).live = r.live := by
    rw [← record]
    exact congrArg (fun x => FaultRecord.live x.2.2.2.2) same
  refine Latched.occurs (s := startKinds c v) ?_ (by rw [startOccurrences_eq, acted])
  simp only [startKinds, powerKinds, List.foldl, live]
  exact ((((start.next (by simp)).next (by simp)).next (by simp)).next (by simp)).next (by simp)

end

/-! ## JOINING (R112) -/

/-- With an empty queue JOINING leaves the records, the channels and the zones. -/
theorem enterJoining_records {s : State} (empty : s.bus.queue = []) :
    (enterJoining s).faults.records = s.faults.records := by
  have bus : s.rejoining.bus = { s.bus with state := .joining, gapSeen := false, offLineTimer := none } := by
    simp [State.rejoining]
  rw [show enterJoining s = offerHello s.rejoining from rfl,
    offerHello_empty (by rw [bus]) (by rw [bus]; exact empty)]
  exact (setFlagLive_records _ _ _).1

/-! ## The first demand (R5, R9) -/

section
variable {c : Fin 8} {causes : CauseSet} {s t u : State}

/-- Channel c, which was at its start with these causes, has evaluated its demand. -/
structure Started (c : Fin 8) (causes : CauseSet) (t : State) : Prop where
  caused : (t.chan c).causes = causes
  demand : (t.chan c).demand = evalDemand t c
  rearm : (t.chan c).rearm = false
  handBack : (t.chan c).handBack = false
  locked : causes ≠ CauseSet.empty → (t.chan c).state = .locked ∧ t.sentBy c = []
  rests : causes = CauseSet.empty → (evalDemand t c && t.pathReady) = false →
    (t.chan c).state = .off ∧ t.sentBy c = []
  begins : causes = CauseSet.empty → (evalDemand t c && t.pathReady) = true →
    (t.chan c).state = (t.cfg c).startState ∧ t.sentBy c = t.messageOf c .request

theorem startChannel_records (off : (s.chan c).state = .off) :
    (startChannel c s).faults.records = s.faults.records := by
  have leaves (x : ChannelState) (u : State) (state : (u.chan c).state = .off) :
      (enterState x c u).faults = u.faults := enterState_faults (by rw [state]; rfl)
  unfold startChannel
  split
  · rw [leaves .waiting _ (by simpa using off)]
    simp
  · split
    · rw [leaves .armed s off]
    · rw [leaves .energizing s off]

/-- The demand of a channel at its start: nothing to act on, an act withheld, or the channel's start (R5, R9). -/
theorem evaluate_primed (h : Primed c causes s) :
    (evalDemand s c = false ∧ evaluate c s = s) ∨
    (evalDemand s c = true ∧ (causes = CauseSet.empty → s.pathReady = false) ∧
      evaluate c s = modChan c (fun r => { r with demand := true }) s) ∨
    (evalDemand s c = true ∧ causes = CauseSet.empty ∧ s.pathReady = true ∧
      evaluate c s = startChannel c (modChan c (fun r => { r with demand := true }) s)) := by
  cases on : evalDemand s c
  · exact .inl ⟨rfl, by rw [evaluate, on, h.demand]; rfl⟩
  · have change : evaluate c s = demandChange c true s := by rw [evaluate, on, h.demand]; rfl
    rw [change]
    by_cases off : causes = CauseSet.empty
    · have state : (s.chan c).state = .off := by rw [h.state, if_pos off]
      have sees : demandChange c true s = startIfDue c (modChan c (fun r => { r with demand := true }) s) := by
        simp [demandChange, state, seeDemandInOff]
      have enabled := ((evalDemand_iff s c).mp on).1
      have due : (modChan c (fun r => { r with demand := true }) s).starts c = s.pathReady := by
        simp [State.starts, h.rearm, enabled]
      rw [sees]
      cases ready : s.pathReady
      · exact .inr (.inl ⟨rfl, fun _ => rfl, startIfDue_of_not_due _ _ (due.trans ready)⟩)
      · exact .inr (.inr ⟨rfl, off, rfl, startIfDue_of_due _ _ (due.trans ready)⟩)
    · have state : (s.chan c).state = .locked := by rw [h.state, if_neg off]
      exact .inr (.inl ⟨rfl, fun x => absurd x off, by rw [demandChange, state]⟩)

theorem evaluate_started (h : Primed c causes s) :
    Started c causes (evaluate c s) ∧ (evaluate c s).faultRec c = s.faultRec c := by
  have demand := (evaluate_sources c c s).evalDemand
  have path : (evaluate c s).pathReady = s.pathReady := by simp [State.pathReady]
  have settles := (evaluate_settles c s).1.trans demand.symm
  rcases evaluate_primed h with ⟨on, same⟩ | ⟨on, unready, same⟩ | ⟨on, off, ready, same⟩ <;> rw [on] at demand <;>
    rw [same] at demand path settles ⊢
  · exact ⟨⟨h.caused, settles, h.rearm, h.handBack, fun some_cause => ⟨by rw [h.state, if_neg some_cause], h.sent⟩,
      fun off _ => ⟨by rw [h.state, if_pos off], h.sent⟩, fun _ starts => by simp [demand] at starts⟩, rfl⟩
  · refine ⟨⟨by simpa using h.caused, settles, by simpa using h.rearm, by simpa using h.handBack,
      fun some_cause => ⟨by simp [h.state, some_cause], h.sent⟩, fun off _ => ⟨by simp [h.state, off], h.sent⟩,
      fun off starts => ?_⟩, rfl⟩
    rw [path, unready off, Bool.and_false] at starts
    exact nomatch starts
  · have chan := startChannel_chan c (modChan c (fun r => { r with demand := true }) s)
    have sent := startChannel_sentBy c (modChan c (fun r => { r with demand := true }) s)
    have was : (modChan c (fun r => { r with demand := true }) s).chan c = { s.chan c with demand := true } := by simp
    have records := startChannel_records (c := c) (s := modChan c (fun r => { r with demand := true }) s)
      (by simp [h.state, off])
    have cfg : (startChannel c (modChan c (fun r => { r with demand := true }) s)).cfg c = s.cfg c := by
      simp [State.cfg, State.config]
    have message : (startChannel c (modChan c (fun r => { r with demand := true }) s)).messageOf c .request =
        (modChan c (fun r => { r with demand := true }) s).messageOf c .request := by
      simp only [State.messageOf, cfg]
      rfl
    rw [was] at chan
    refine ⟨⟨by rw [chan]; exact h.caused, settles, by rw [chan]; exact h.rearm, by rw [chan]; exact h.handBack,
      fun some_cause => absurd off some_cause, fun _ rests => ?_, fun _ _ => ⟨?_, ?_⟩⟩, ?_⟩
    · rw [demand, path, ready] at rests
      exact nomatch rests
    · rw [chan, cfg]
      rfl
    · rw [sent, message, show (modChan c (fun r => { r with demand := true }) s).sentBy c = [] from h.sent]
      rfl
    · rw [State.faultRec, records]
      rfl

theorem Started.alike (h : Started c causes s) (k : AlikeSources c s t) : Started c causes t := by
  obtain ⟨caused, demand, rearm, handBack, locked, rests, begins⟩ := h
  refine ⟨by rw [k.chan, caused], by rw [k.chan, k.evalDemand, demand], by rw [k.chan, rearm], by rw [k.chan, handBack],
    ?_, ?_, ?_⟩
  · rw [k.chan, k.sent]
    exact locked
  · rw [k.evalDemand, k.pathReady, k.chan, k.sent]
    exact rests
  · rw [k.evalDemand, k.pathReady, k.chan, k.sent, k.cfg, k.messageOf]
    exact begins

/-- The evaluation of every channel is, for each channel, its own. -/
theorem each8_evaluate (h : Primed c causes s) :
    Started c causes (each8 evaluate s) ∧ (each8 evaluate s).faultRec c = s.faultRec c := by
  obtain ⟨u, ⟨before, was⟩, after, is⟩ := each8_around
    (R := fun s t => AlikeSources c s t ∧ t.faultRec c = s.faultRec c) (fun s => ⟨.refl c s, rfl⟩)
    (fun h k => ⟨h.1.trans k.1, k.2.trans h.2⟩) c
    (fun d other v => ⟨evaluate_alike other v, (evaluate_local other.symm v).2.2⟩) s
  obtain ⟨started, record⟩ := evaluate_started (h.same ⟨before.chan, before.sent⟩)
  exact ⟨started.alike after, is.trans (record.trans was)⟩

end

end Sys2Proof.Machine
end

section
/-! PROOFS. RUNNING entry, from its first step to its last (O45). -/

namespace Sys2Proof.Machine

open Sys2Proof

/-! ## What stands before JOINING -/

/-- What RUNNING entry has done when the node enters JOINING. -/
def State.primed (img : Image) (s : State) : State := startOccurrences (s.firstInputs img)

/-- From s, the first levels, SHUTDOWN and the occurrences have been handed on, in u. -/
structure BeforeJoining (img : Image) (s u : State) : Prop where
  starts : Starts (takeImage img s) u
  bus : u.bus = Bus.reset s.bus.joinCounter
  tripped : ∀ z, (u.zone z).tripped = (u.zone z).localActive
  zones : ∀ z, (u.zone z).tripped = true ↔ ∃ m : Fin 8, (img.inputs.get m).role = .trip z ∧
    (s.inputs.get m).pin = (img.inputs.get m).activeHigh
  records : ∀ c, Occurred (s.faultRec c) powerKinds (u.faultRec c)
  channels : ∀ c, Primed c { u.tripAlone (img.channels.get c) with
    shutdown := s.zones.shutdown, fault := powerKinds.any ((s.faultRec c).latched (img.channels.get c)) } u

theorem primed_before (img : Image) (s : State) : BeforeJoining img s (s.primed img) := by
  have first := firstCauses img s
  rw [State.primed]
  generalize s.firstInputs img = u at *
  have kept := first.starts.kept
  simp only [State.beyondZones, Prod.mk.injEq] at kept
  obtain ⟨-, -, loader, marks, -⟩ := kept
  have zones : (startOccurrences u).zones = u.zones := by
    rw [startOccurrences_eq]
    exact each8_keeps State.zones startKinds (fun c v => by
      have one (live : KindSet) (s : State) (k : PowerKind) : (startKind c live s k).zones = s.zones := by
        unfold startKind
        split <;> simp
      simp only [startKinds, powerKinds, List.foldl, one]) u
  have zone (z : Fin 8) : (startOccurrences u).zone z = u.zone z := by simp only [State.zone, zones]
  have trip (c : Fin 8) : (startOccurrences u).tripAlone (img.channels.get c) = u.tripAlone (img.channels.get c) := by
    simp only [State.tripAlone, zone]
  have latched (c : Fin 8) : Latched img c (s.faultRec c)
      { u.tripAlone (img.channels.get c) with shutdown := s.zones.shutdown } powerKinds (startOccurrences u) := by
    have record : u.faultRec c = s.faultRec c := by rw [State.faultRec, first.records, State.faultRec]
    refine startOccurrences_latched ⟨?_, by rw [marks]; rfl, by rw [record]; exact .nil _, first.channels c⟩ record
    rw [State.config, loader]
    rfl
  refine ⟨first.starts.trans (.startOccurrences u), by rw [startOccurrences_bus, first.bus], fun z => ?_, fun z => ?_,
    fun c => (latched c).record, fun c => ?_⟩
  · rw [zone]
    exact first.tripped z
  · rw [zone]
    exact first.zones z
  · rw [trip]
    exact (latched c).primed

/-! ## JOINING and the first demand -/

/-- What RUNNING entry of s with the image leaves in t. -/
structure Entered (img : Image) (s t : State) : Prop where
  starts : Starts (takeImage img s) t
  bus : t.bus.state = .joining ∧ t.bus.phase = some .helloQueued ∧ t.bus.score = 0 ∧ t.bus.queue =
    [{ frame := .hello s.bus.joinCounter img.signature, age := s.now, retries := 0, onLine := false }]
  degraded : t.flagLive .busDegraded = false
  tripped : ∀ z, (t.zone z).tripped = (t.zone z).localActive
  zones : ∀ z, (t.zone z).tripped = true ↔ ∃ m : Fin 8, (img.inputs.get m).role = .trip z ∧
    (s.inputs.get m).pin = (img.inputs.get m).activeHigh
  records : ∀ c, Occurred (s.faultRec c) powerKinds (t.faultRec c)
  channels : ∀ c, Started c { t.tripAlone (img.channels.get c) with
    shutdown := s.zones.shutdown, fault := powerKinds.any ((s.faultRec c).latched (img.channels.get c)) } t

theorem enterRunning_entered (img : Image) (s : State) : Entered img s (enterRunning img s) := by
  have before := primed_before img s
  have result : enterRunning img s = buildDue (each8 evaluate (enterJoining (s.primed img))) := rfl
  rw [result]
  generalize s.primed img = u at *
  have empty : u.bus.queue = [] := by rw [before.bus]; rfl
  have joins := Starts.enterJoining empty
  have evaluated := Starts.each8 Starts.evaluate (enterJoining u)
  obtain ⟨line, live, -⟩ := enterJoining_empty empty
  have records := enterJoining_records empty
  have zones : (each8 evaluate (enterJoining u)).zones = u.zones := by
    rw [each8_keeps State.zones evaluate fun c v => by simp]
    simp
  have bus : (each8 evaluate (enterJoining u)).bus = (enterJoining u).bus := each8_keeps State.bus evaluate (fun c v => by simp) _
  have flags : (each8 evaluate (enterJoining u)).faults.flags = (enterJoining u).faults.flags :=
    each8_keeps (fun s => s.faults.flags) evaluate (fun c v => by simp) _
  have channels : (enterJoining u).channels = u.channels := by simp
  have started (c : Fin 8) := each8_evaluate ((before.channels c).same (sameChannels_of channels c))
  generalize each8 evaluate (enterJoining u) = w at *
  rw [buildDue_of_not_onLine (by rw [State.onLine, bus, line]; rfl)]
  have zone (z : Fin 8) : w.zone z = u.zone z := by simp only [State.zone, zones]
  have trip (c : Fin 8) : w.tripAlone (img.channels.get c) = u.tripAlone (img.channels.get c) := by
    simp only [State.tripAlone, zone]
  have kept := before.starts.kept
  simp only [State.beyondZones, Prod.mk.injEq] at kept
  obtain ⟨now, -, loader, -⟩ := kept
  refine ⟨before.starts.trans (joins.trans evaluated), ?_, ?_, fun z => ?_, fun z => ?_, fun c => ?_, fun c => ?_⟩
  · rw [bus, line, before.bus, State.config, loader, now]
    exact ⟨rfl, rfl, rfl, rfl⟩
  · rw [State.flagLive, flags]
    exact live
  · rw [zone]
    exact before.tripped z
  · rw [zone]
    exact before.zones z
  · have same : (enterJoining u).faultRec c = u.faultRec c := by rw [State.faultRec, records, State.faultRec]
    rw [(started c).2, same]
    exact before.records c
  · rw [trip]
    exact (started c).1

theorem powerKinds_any (p : PowerKind → Bool) : powerKinds.any p =
    (p .openOff || p .shortSupply || p .openOn || p .overload || p .overtemp) := by
  simp [powerKinds, Bool.or_assoc]

theorem mem_powerKinds (k : PowerKind) : k ∈ powerKinds := by cases k <;> decide

theorem causeSet_eq_empty {a b d : Bool} : (⟨a, b, d⟩ : CauseSet) = CauseSet.empty ↔ (a || b || d) = false := by
  simp [CauseSet.empty, and_assoc]

theorem causeSet_ne_empty {a b d : Bool} : (⟨a, b, d⟩ : CauseSet) ≠ CauseSet.empty ↔ (a || b || d) = true := by
  rw [ne_eq, causeSet_eq_empty, Bool.not_eq_false]

/-- Settles O45: the first levels, SHUTDOWN and the occurrences prime the channels, which then evaluate their
demand. -/
theorem runningEntry : Obligations.RunningEntry := by
  refine ⟨fun img s => ?_, fun img s => ?_⟩
  · have entered := enterRunning_entered img s
    dsimp only
    generalize enterRunning img s = t at *
    obtain ⟨starts, ⟨state, phase, score, queue⟩, degraded, -, -, records, -⟩ := entered
    have kept := starts.kept
    simp only [State.beyondZones, Prod.mk.injEq] at kept
    obtain ⟨now, held, loader, marks, inputs, points, link, power, host, shutdown, feedback⟩ := kept
    refine ⟨loader, by rw [starts.groups]; exact List.length_replicate .., fun x inside => ?_, marks,
      by rw [points]; exact List.length_replicate .., fun x inside => ?_,
      starts.pends.length.trans (List.length_replicate ..), starts.pends.blocked,
      starts.publications fun x inside => List.eq_of_mem_replicate inside, starts.list, starts.overrun, starts.peers,
      fun c => ?_, fun n => ?_, state, phase, score, queue, degraded, feedback, host, link, power, shutdown, ?_⟩
    · rw [starts.groups] at inside
      exact List.eq_of_mem_replicate inside
    · rw [points] at inside
      exact List.eq_of_mem_replicate inside
    · obtain ⟨kinds, ⟨failOn, stuckOn⟩, newest, waiting⟩ := records c
      rw [powerKinds_any] at newest waiting
      exact ⟨fun k => (kinds k).trans (if_congr (and_iff_right (mem_powerKinds k)) rfl rfl), failOn, stuckOn, newest,
        waiting⟩
    · rw [inputs, takeImage, Eight.get_of, firstLevel]
      exact ⟨rfl, rfl, by simp only [beq_iff_eq]⟩
    · rw [State.enable, State.running, loader, shutdown]
      rfl
  · have entered := enterRunning_entered img s
    dsimp only
    generalize enterRunning img s = t at *
    obtain ⟨starts, -, -, tripped, zones, -, channels⟩ := entered
    have kept := starts.kept
    simp only [State.beyondZones, Prod.mk.injEq] at kept
    obtain ⟨-, -, loader, -⟩ := kept
    refine ⟨fun z => ⟨tripped z, zones z⟩, fun c => ?_⟩
    have cfg : t.cfg c = img.channels.get c := by
      rw [State.cfg, State.config, loader]
      rfl
    obtain ⟨caused, demand, rearm, handBack, locked, rests, begins⟩ := channels c
    rw [powerKinds_any] at caused locked rests begins
    rw [cfg] at begins
    refine ⟨caused, demand, rearm, handBack, fun some_cause => locked (causeSet_ne_empty.mpr some_cause),
      fun no_cause => rests (causeSet_eq_empty.mpr no_cause), fun no_cause starts => ?_⟩
    obtain ⟨state, sent⟩ := begins (causeSet_eq_empty.mpr no_cause) starts
    rw [state, ChannelConfig.startState]
    refine ⟨fun grouped => ?_, fun alone => ?_, sent⟩
    · cases group : (img.channels.get c).group with
      | none => exact absurd group grouped
      | some e => rfl
    · rw [alone]
      cases (img.channels.get c).timing <;> rfl

end Sys2Proof.Machine
end
